-- ==== Sys2Proof/Word.lean ====
section
/-! DEFINITION. The word types of the model: registers are 32 bits wide (R404), memory is addressed by the byte. -/

namespace Sys2Proof

/-- A register word (R404). -/
abbrev Word := BitVec 32

/-- A byte of stripe memory or DRAM. -/
abbrev Byte := BitVec 8

/-- A map from numbers held as a list of pairs: an unlisted key holds the map's default. The canonical form
(keys strictly rising, no listed default) and the operations are in Machine/Sparse.lean. -/
abbrev Sparse (α : Type) := List (Nat × α)

end Sys2Proof
end

