-- ==== Sys2Proof/Machine/Sparse.lean ====
section
/-! DEFINITION. Sparse maps: lists of (key, value) pairs whose unlisted keys hold a default. They hold the
registers, the memory bytes and every numbered group of objects of the device. -/

namespace Sys2Proof.Machine

/-- The value of key `k`: the first listed pair, or the default. -/
def sget {α : Type} (d : Nat → α) : Sparse α → Nat → α
  | [], k => d k
  | (j, v) :: m, k => if j = k then v else sget d m k

/-- The map without key `k`. -/
def sdrop {α : Type} : Sparse α → Nat → Sparse α
  | [], _ => []
  | (j, v) :: m, k => if j = k then sdrop m k else (j, v) :: sdrop m k

/-- The pair put before the first larger key. -/
def sput {α : Type} : Sparse α → Nat → α → Sparse α
  | [], k, v => [(k, v)]
  | (j, w) :: m, k, v => if j < k then (j, w) :: sput m k v else (k, v) :: (j, w) :: m

/-- Key `k` given the value `v`; a key given its default is not listed. -/
def sset {α : Type} [DecidableEq α] (d : Nat → α) (m : Sparse α) (k : Nat) (v : α) : Sparse α :=
  if v = d k then sdrop m k else sput (sdrop m k) k v

/-- The canonical form: keys strictly rising and no listed default. -/
def swf {α : Type} [DecidableEq α] (d : Nat → α) : Sparse α → Bool
  | [] => true
  | [(k, v)] => decide (v ≠ d k)
  | (k, v) :: (j, w) :: m => decide (v ≠ d k) && decide (k < j) && swf d ((j, w) :: m)

/-- The pairs whose key satisfies `p`. -/
def skeep {α : Type} (p : Nat → Bool) (m : Sparse α) : Sparse α := m.filter fun e => p e.1

end Sys2Proof.Machine
end

