-- ==== Sys2Proof/Machine/Parts.lean ====
section
/-! DEFINITION. The device's state beside its registers, part 1: camera slots, frames in the pipeline, jobs, queues
and DMA channels. Each structure is plain data; State.lean puts them together. -/

namespace Sys2Proof.Machine

/-- A row in a port's line store: the frame it belongs to (the slot's count of opened frames), its exposure and index,
its pixel codes, whether it is the black row of R48 and whether the port marks it defective. -/
structure Row where
  frame : Nat
  exp : Nat
  row : Nat
  px : List Nat
  black : Bool
  marked : Bool
  deriving DecidableEq, Repr

/-- What a slot does with a packet while no frame is open (Table 03-3). -/
inductive IdleRule where
  /-- Discard without a count: not yet started, or closed by overflow, link down, EN or PORT_EN. -/
  | discard
  /-- Closed by a frame-end packet: a long packet counts ORPHAN. -/
  | orphan
  /-- Closed by a generated end or at 1.5 periods: a long packet opens a frame. -/
  | reopen
  deriving DecidableEq, Repr

/-- The open frame of a slot (R50): its start, live geometry, the frame starts and ends received per exposure, line
numbering, the next row index of each exposure, the last two rows placed, and its counts. -/
structure RxFrame where
  tStart : Nat
  width : Nat
  height : Nat
  exps : Nat
  dt : Nat
  lineNum : Bool
  starts : List Nat
  ends : List Nat
  base : Option Nat
  pendLine : Sparse Nat
  next : List Nat
  recent : List Row
  extra : Nat
  widthLines : Nat
  crcs : Nat
  flags : Nat
  deriving DecidableEq, Repr

/-- A stream slot S(4p + n) at its port: the part of the line store (bytes), the rows stored in arrival order, the open
frame, the rule for packets outside frames, the count of frames opened, the last frame start and the absence rule (R53). -/
structure Slot where
  partBytes : Nat
  store : List Row
  rx : Option RxFrame
  idle : IdleRule
  count : Nat
  lastStart : Option Nat
  absent : Bool
  causeFive : Bool
  deriving DecidableEq, Repr

/-- A slot that has received nothing. -/
def Slot.init : Slot := ⟨0, [], none, .discard, 0, none, false, false⟩

/-- Port state beside its registers: whether a CCI transaction runs and the bytes that it reads, and the frame-sync series (R57,
R58, R60): the next edge, its period, whether the next uplink message is sent, a period that waits for the next edge, the last
edge produced. -/
structure CamPort where
  cciBusy : Bool
  cciRead : Nat
  fsyncNext : Nat
  fsyncPeriod : Nat
  fsyncSent : Bool
  fsyncNew : Option Nat
  fsyncLast : Option Nat
  fsyncArmed : Bool
  deriving DecidableEq, Repr

/-- A port before any command. -/
def CamPort.init : CamPort := ⟨false, 0, 0, 0, false, none, none, false⟩

/-- An accepted commit of parameter sets (R77): its number in order of acceptance, its sequence value, acceptance time, and
the named streams that have not yet gone live with it or a later one. -/
structure Commit where
  num : Nat
  seq : Nat
  tc : Nat
  waiting : List Nat
  deriving DecidableEq, Repr

/-- The commits that wait for streams, oldest first, how many were accepted, and the number of the one that PSET_SEQ
reports (R80). -/
structure PsetLog where
  commits : List Commit
  count : Nat
  reported : Nat
  deriving DecidableEq, Repr

/-- Raw statistics of a frame (R72): the histogram bins (plane × 256 + bin), per zone the sums and counts of the planes
(zone × 4 + plane), saturated cells and marked samples per zone, and the cells counted. -/
structure RawStat where
  hist : Sparse Nat
  sum : Sparse Nat
  num : Sparse Nat
  sat : Sparse Nat
  defect : Sparse Nat
  cells : Nat
  deriving DecidableEq, Repr

/-- No statistics gathered. -/
def RawStat.init : RawStat := ⟨[], [], [], [], [], 0⟩

/-- State of a stripe of a band: waiting for the band, placed, complete, or discarded. -/
inductive StripeState where
  | waiting | placed | done | dropped
  deriving DecidableEq, Repr

/-- A band of a frame (R20, R23): ready time and deadline, its stripes, whether a stripe was recomputed, whether it ran
under a reduced variant, whether it was dropped, and whether its descriptors are released. -/
structure Band where
  ready : Option Nat
  deadline : Nat
  stripes : List StripeState
  replayed : Bool
  degraded : Bool
  dropped : Bool
  released : Bool
  deriving DecidableEq, Repr

/-- A box of a box list (Table 08-8). -/
structure Box where
  tag : Nat
  x0 : Nat
  y0 : Nat
  srcW : Nat
  srcH : Nat
  outW : Nat
  outH : Nat
  source : Nat
  mode : Nat
  chFirst : Nat
  chCount : Nat
  deriving DecidableEq, Repr

/-- A box list (Table 08-7) and the time at which the CRS accepted it. -/
structure BoxList where
  frameSeq : Nat
  stream : Nat
  job : Nat
  listSeq : Nat
  boxes : List Box
  accepted : Nat
  deriving DecidableEq, Repr

/-- A crop of a frame: its box, the channels it takes, its buffer (none for a zero-length crop), and the source samples
copied from stripes so far, keyed by channel, row and column. -/
structure Crop where
  box : Box
  chans : Nat
  zero : Bool
  addr : Option Nat
  bytes : Nat
  samples : Sparse Nat
  deriving DecidableEq, Repr

/-- An output of a frame: its queue, the base of its buffer and the buffer's bytes; `skip` when the frame was skipped
for NO_SPACE (R292). -/
structure OutBuf where
  queue : Nat
  base : Nat
  bytes : Nat
  skip : Bool
  deriving DecidableEq, Repr

/-- A frame in the pipeline (R17 to R38): what its opening fixed, its rows, bands, outputs, crops and counts. -/
structure Frame where
  seq : Nat
  rxCount : Nat
  tStart : Nat
  width : Nat
  height : Nat
  exps : Nat
  bandRows : Nat
  stripeW : Nat
  halo : Nat
  interval : Nat
  ts : Nat
  k : Nat
  cause : Nat
  pset : Sparse Word
  slot0 : Nat
  pairs : Nat
  ended : Bool
  rows : Nat
  bands : List Band
  flags : Nat
  extra : Nat
  widthLines : Nat
  crcs : Nat
  lost : Nat
  replayed : Nat
  firstLost : Nat
  zeroLen : Bool
  aborted : Bool
  outs : List (Nat × OutBuf)
  crops : List Crop
  listSeq : Nat
  stat : RawStat
  luma : Sparse Nat
  lumaPix : Nat
  prev : List (List Row)
  excluded : Bool
  deriving DecidableEq, Repr

/-- A binding entry (Table 09-6). -/
structure BindEntry where
  stream : Nat
  imgStream : Nat
  priority : Nat
  persist : Bool
  totalRows : Nat
  ringSlots : Nat
  ringBase : Nat
  histBase : Nat
  statusQ : Nat
  statsQ : Nat
  boxQ : Nat
  dispQ : Nat
  codeQ : Nat
  visQ : Nat
  cropQ : Nat
  outBase : Nat
  outSize : Nat
  reservedZero : Bool
  deriving DecidableEq, Repr

/-- A job binding (Table 09-5). -/
structure Binding where
  imageAddr : Nat
  imageSize : Nat
  job : Nat
  mode : Nat
  groupId : Nat
  outQ : Nat
  eventQ : Nat
  entries : List BindEntry
  reservedZero : Bool
  deriving DecidableEq, Repr

/-- One image stream of the STREAMS section (Table 09-3), the constant of its first group's padding (Table 08-3), with the longest-stripe occupancies of its schedules (R202). -/
structure ImgStream where
  maxW : Nat
  maxF : Nat
  bandRows : Nat
  stripeW : Nat
  halo : Nat
  exps : Nat
  padMode : Nat
  padConst : Word
  margin : Nat
  bytesPerPixel : Nat
  bandsInFlight : Nat
  ts6 : Nat
  ts5 : Nat
  deriving DecidableEq, Repr

/-- A TILING record (Table 09-4). -/
structure Tiling where
  layer : Nat
  path : Nat
  loop : Nat
  extP : Nat
  extM : Nat
  extJ : Nat
  extT : Nat
  drainOvl : Nat
  fftN : Nat
  wsetReuse : Nat
  group : Nat
  deriving DecidableEq, Repr

/-- One operator of GRAPH (Table 09-3): the layers it reads (none: the input of the graph), its shapes (channels, rows, columns), the
weight and activation format codes, the function code, its window (`isConv` a convolution, `isPool` a pooling) with kernel,
stride, dilation and padding, how it grows or shrinks an extent (UNPLEAT, PLEAT, RESIZE), the integer terms of a reduction, filters of a
frequency-domain layer, whether it is global, s_c and b_c per channel, r_o, z_o and SAT (R122), the padding mode, its tap point; and what
R175 and R201 check: the receptive field of its group in full-resolution pixels, its pleat factor and stripe geometry in its own
positions, and how its map reaches layers of other groups (0 stripe memory of the engine, 1 PUT, 2 its tap point, 3 DRAM). -/
structure Layer where
  reads : List Nat
  inShape : List Nat
  outShape : List Nat
  wFmt : Nat
  aFmt : Nat
  fn : Nat
  kernel : Nat
  stride : Nat
  dilation : Nat
  padding : Nat
  up : Nat
  down : Nat
  terms : Nat
  filters : Nat
  isConv : Bool
  isPool : Bool
  isGlobal : Bool
  sc : List Word
  bc : List Int
  ro : Word
  zo : Int
  sat : Bool
  padMode : Nat
  tap : Option Nat
  field : Nat
  pleat : Nat
  rows : Nat
  cols : Nat
  via : Nat
  deriving DecidableEq, Repr

/-- A region of the REGIONS section for one tile: lines, mode (1 BOUND, 2 CIRCULAR) and PERSIST. -/
structure ImgRegion where
  lines : Nat
  mode : Nat
  persist : Bool
  deriving DecidableEq, Repr

/-- A crop tap point (Table 09-3, TAPS): its number, layer, factor and channels. -/
structure TapPoint where
  num : Nat
  layer : Nat
  factor : Nat
  chans : Nat
  deriving DecidableEq, Repr

/-- An output of a tensor graph: the layer whose map it is, and the bytes of one position of it. -/
structure TensorOut where
  layer : Nat
  posBytes : Nat
  deriving DecidableEq, Repr

/-- The sections of an image whose byte layout the spec leaves to the compiler, by their content (Table 09-3): STREAMS, GRAPH,
scoreboard entries per stripe of the FETCH lists, code and data bytes of PROGRAM, REGIONS per tile, the schedules SCHED6
and SCHED5 (occupancies T_j, engines used, the logical engine of each work unit), of SHAPES the bounds of crops, channels, height and width with
what TILING plans, TAPS, the outputs of a tensor graph, TABLES, and of GROUP the members, whether it splits layers, and LOSS_MODE.
`signature` is the hash of the key under which SIGNATURE verifies (none: 0). -/
structure ImageBody where
  streams : List ImgStream
  layers : List Layer
  fetchEntries : List Nat
  programBytes : Nat
  dataBytes : Nat
  regions : List (List ImgRegion)
  tj6 : Nat
  tj5 : Nat
  sched6Engines : Nat
  sched5Engines : Nat
  tensorUnits : List Nat
  tensorUnits5 : List Nat
  shapes : List Nat
  planned : List Nat
  taps : List TapPoint
  outputs : List TensorOut
  tables : List (List Nat)
  members : Nat
  splits : Bool
  lossMode : Nat
  signature : Nat
  deriving DecidableEq, Repr

/-- An Ululas image (R197, R198): the header fields of Table 09-1, the section table (identifier, REQUIRED, offset, size) and the
TILING records as its bytes spell them, whether the fields that Tables 09-1 and 09-2 give as zero are, whether DIGEST is that of the
bytes, and the content of the other sections. -/
structure Image extends ImageBody where
  magicOk : Bool
  format : Nat
  kind : Nat
  ha : Bool
  group : Bool
  persistOk : Bool
  zeros : Bool
  minRev : Nat
  engines : Nat
  secVersion : Nat
  ewemas : Nat
  accNeed : Nat
  sbNeed : Nat
  basting : Nat
  userTables : Nat
  tileLines : Nat
  digest : Nat
  digestOk : Bool
  sections : List (Nat × Bool × Nat × Nat)
  tiling : List Tiling
  deriving DecidableEq, Repr

/-- A resident image: where its DRAM copy lies and its content. -/
structure Resident where
  addr : Nat
  size : Nat
  img : Image
  deriving DecidableEq, Repr

/-- What a job does (R354 to R357): running, or restarting. -/
inductive JobPhase where
  | running | restarting
  deriving DecidableEq, Repr

/-- A tensor step that its source frame made ready (R213, R219): the frame's number and flags, when its last crop was
released, the shape of its crops (count, channels, height, width), the crop queue with the SEQ after them, and the status of
a step that delivers nothing (3 aborted, 4 poisoned input; 0: it runs). -/
structure StepDue where
  seq : Nat
  flags : Nat
  ready : Nat
  shape : List Nat
  queue : Nat
  upTo : Nat
  void : Nat
  deriving DecidableEq, Repr

/-- A resident job: its binding, image digest, phase, whether its reduced variant runs, the next tensor step, the steps
due, the open step with its units, buffers, deadline and schedule, whether it is shed for self-test or heat, and the restart. -/
structure Job where
  bind : Binding
  digest : Nat
  kind : Nat
  phase : JobPhase
  variant : Bool
  step : Nat
  due : List StepDue
  open_ : Option StepDue
  stepUnits : List StripeState
  stepBufs : List (Nat × Nat)
  stepDeadline : Nat
  stepVariant : Bool
  shed : Bool
  committed : Nat
  restartAt : Nat
  restartClass : Nat
  deriving DecidableEq, Repr

/-- A stream as the jobs know it: bound or held in a job slot with its entry, image stream and flags, frame numbering,
history (R26, R31), ring position and slot size (R69, R70), frames in the pipeline, box lists (R183), shedding, and the time of the
last frame that wrote history (R216). -/
structure Strm where
  job : Option Nat
  held : Bool
  entry : Option BindEntry
  img : Option ImgStream
  nextSeq : Nat
  k : Nat
  resetDue : Nat
  restarted : Bool
  histRole : Nat
  unverified : Bool
  lastHist : Option Nat
  ringHead : Nat
  stalled : Bool
  frames : List Frame
  lists : List BoxList
  lastList : Option BoxList
  shedTest : Bool
  shedHeat : Bool
  zones : Option (List Nat)
  slotBytes : Nat
  deriving DecidableEq, Repr

/-- A stream that no job holds. The roles of the three history buffers rotate as a frame opens, so the first frame of a job writes
the second buffer (DESIGN CHOICE, log 111: R26 names no first one). -/
def Strm.init : Strm :=
  ⟨none, false, none, none, 0, 0, 0, false, 0, false, none, 0, false, [], [], none, false, false, none, 0⟩

/-- A queue context (Table 13-1). -/
structure QCtx where
  ringBase : Nat
  log2 : Nat
  mode : Nat
  channel : Nat
  owner : Nat
  session : Nat
  eventQ : Nat
  prod : Nat
  cons : Nat
  avail : Nat
  start : Nat
  areaBase : Nat
  areaSize : Nat
  areaHead : Nat
  areaTail : Nat
  noSpacePend : Nat
  lastStatus : Nat
  halts : Nat
  deriving DecidableEq, Repr

/-- An allocation in an output area (R291): the offset of its buffer, its bytes with the skipped ones, and the SEQ of the
descriptor whose return frees it, once that is written. -/
structure Alloc where
  base : Nat
  bytes : Nat
  last : Option Nat
  deriving DecidableEq, Repr

/-- A descriptor (Table 13-2). -/
structure Desc where
  seq : Nat
  own : Bool
  kind : Nat
  evtHalf : Bool
  evtFull : Bool
  srcInvalid : Bool
  status : Nat
  flags : Nat
  addr : Nat
  stream : Nat
  job : Nat
  length : Nat
  frameSeq : Nat
  aux0 : Nat
  aux1 : Nat
  deriving DecidableEq, Repr

/-- A queue of the queue manager: its context, its area's allocations in order, the NO_SPACE close that waits (R292), the
descriptors held while its channel is stopped (R301) or its ring is full, and the next SEQ that NET sends (PUSH, STREAM). -/
structure Queue where
  ctx : QCtx
  allocs : List Alloc
  pend : Option Desc
  held : List (Desc × Option Nat)
  sent : Nat
  deriving DecidableEq, Repr

/-- A context at reset: zero, with OWNER 0xFF (R284). -/
def QCtx.init : QCtx := ⟨0, 0, 0, 0, 0xFF, 0, 0, 0, 0, 0, 0, 0, 0, 0, 0, 0, 0, 0⟩

/-- A queue at reset. -/
def Queue.init : Queue := ⟨QCtx.init, [], none, [], 0⟩

/-- The state of a DMA channel (Table 13-11). -/
inductive ChanState where
  | idle | active | stopping | stopped | halted | frozen
  deriving DecidableEq, Repr

/-- A DMA channel: its state, the queue and descriptor in progress, bytes acknowledged, staging lines with how many are
borrowed, the retries of the failing access, its failure (0 none, else the cause code of Table 13-10), what the source
answered, whether half was reported, the failed address, and the queue whose EN = 0 stopped it. -/
structure Channel where
  state : ChanState
  queue : Nat
  desc : Option Desc
  done : Nat
  lines : Nat
  tries : Nat
  failed : Nat
  poison : Bool
  srcInvalid : Bool
  half : Bool
  addr : Nat
  stopQ : Option Nat
  deriving DecidableEq, Repr

/-- A channel at reset. -/
def Channel.init : Channel := ⟨.idle, 0, none, 0, 0, 0, 0, false, false, false, 0, none⟩

end Sys2Proof.Machine
end

