-- ==== Sys2Proof/Machine/PartsEng.lean ====
section
/-! DEFINITION. The device's state beside its registers, part 2: engines, their unit commands, and stripe-memory tiles. -/

namespace Sys2Proof.Machine

/-- The element formats an engine unit reads or writes (Tables 06-1, 06-2). -/
inductive Fmt where
  | int4 | int8 | fp8e4 | fp8e5 | fp16 | bf16 | fp32 | mxfp8e4 | mxfp8e5 | mxfp6e2 | mxfp6e3 | mxfp4 | mxint8
  deriving DecidableEq, Repr

/-- A place in the local tile: a region and a byte offset in it (R140). -/
structure Place where
  region : Fin 32
  off : Nat
  deriving DecidableEq, Repr

/-- Output conversion of a vector command (R122 to R125): target format, r_o and z_o for integer formats, SAT, the bytes from one
channel block of the target to the next (R159), and the scale plane of an MX target with its pitch. -/
structure Conv where
  fmt : Fmt
  ro : Word
  zo : Int
  sat : Bool
  block : Nat
  scales : Place
  scalePitch : Nat
  deriving DecidableEq, Repr

/-- An array operand in the local tile: its place, format, byte pitch from one position to the next, the bytes from one channel block
to the next (R159), and the scale plane of an MX format with its pitch (R116). -/
structure Arr where
  at_ : Place
  fmt : Fmt
  pitch : Nat
  block : Nat
  scales : Place
  scalePitch : Nat
  deriving DecidableEq, Repr

/-- What goes wrong in the hardware while a command runs: nothing; the dot product of an activation row comes out of a column as
another word (column 256 is the gusset column), which the check unit may find (R102, R103); a residue check of the vector unit
fails (class 0x0A); the parity of an accumulator word fails (R86). -/
inductive Upset where
  | clean
  | dot (row col : Nat) (got : Word)
  | residue
  | accParity (row col : Nat)
  deriving DecidableEq, Repr

/-- WSET (R83, R163): where the weight set lies and its operand pair. -/
structure WsetCmd where
  src : Place
  wFmt : Fmt
  aFmt : Fmt
  deriving DecidableEq, Repr

/-- MM (R84, R161): rows, their place and pitch, the accumulator tile and first row, mode, SWAP, and the scale plane of
MX activations. -/
structure MmCmd where
  rows : Nat
  src : Arr
  tile : Fin 8
  row0 : Nat
  accumulate : Bool
  swap : Bool
  selvedgeZero : Bool
  upset : Upset
  deriving DecidableEq, Repr

/-- An activation or table function with its parameters (Table 06-6): code, α or the lower bound, the upper bound. -/
structure FnCmd where
  code : Nat
  a : Word
  b : Word
  deriving DecidableEq, Repr

/-- DRAIN (R87, R122): accumulator rows, the per-channel scale and bias in the local tile, the function, the conversion,
the destination, and which of the positions belong to the stripe's core (R22; none: no restriction). -/
structure DrainCmd where
  tile : Fin 8
  row0 : Nat
  rows : Nat
  chans : Nat
  intAcc : Bool
  scale : Option Place
  bias : Option Place
  fn : FnCmd
  conv : Conv
  dst : Place
  pitch : Nat
  core : Option (Nat × Nat)
  upset : Upset
  deriving DecidableEq, Repr

/-- The elementwise operations of Table 05-3. -/
inductive VOpKind where
  | add | mul | fma | min | max | compare | select | convert
  deriving DecidableEq, Repr

/-- The clamp of the temporal weight (R29, R31) that a VOP's results take: the history frame n − m, the place of the
gather's valid bits, and the block of each position. -/
structure WeightRule where
  hist : Nat
  bits : Place
  blocks : List Nat
  deriving DecidableEq, Repr

/-- RESIZE (R180): 0 nearest, 1 bilinear, 2 the mean of each cell; the factor, 2 or 4; rows and columns of the input. -/
structure Resize where
  kind : Nat
  factor : Nat
  rows : Nat
  cols : Nat
  deriving DecidableEq, Repr

/-- Pooling windows (R178): rows and columns of the real array, window, stride and padding on each axis, padding mode and constant
(R167), and COUNT_PAD. -/
structure Pool where
  rows : Nat
  cols : Nat
  kh : Nat
  kw : Nat
  sh : Nat
  sw : Nat
  ph : Nat
  pw : Nat
  mode : Nat
  const : Word
  countPad : Bool
  deriving DecidableEq, Repr

/-- VOP (R126): operation, up to three operands, positions and elements per position, rounding (0 nearest, 1 toward
zero, 2 toward −∞), the temporal-weight clamp, a resize of its first operand (R180), conversion, destination, core positions. -/
structure VopCmd where
  op : VOpKind
  srcs : List Arr
  positions : Nat
  elems : Nat
  round : Nat
  weight : Option WeightRule
  resize : Option Resize
  conv : Conv
  dst : Place
  pitch : Nat
  core : Option (Nat × Nat)
  upset : Upset
  deriving DecidableEq, Repr

/-- VLUT (R128): a function over an array. -/
structure VlutCmd where
  fn : FnCmd
  src : Arr
  positions : Nat
  elems : Nat
  conv : Conv
  dst : Place
  pitch : Nat
  deriving DecidableEq, Repr

/-- The reductions of VRED. -/
inductive VRedKind where
  | sum | max | mean
  deriving DecidableEq, Repr

/-- VRED (Table 05-3): reduces along the elements of each position (lanes), along the positions of each element, or over the windows of
a pooling (R178). -/
structure VredCmd where
  op : VRedKind
  alongLanes : Bool
  pool : Option Pool
  src : Arr
  positions : Nat
  elems : Nat
  conv : Conv
  dst : Place
  pitch : Nat
  deriving DecidableEq, Repr

/-- FFT (R88): points, direction, the complex FP32 array in the local tile and the number of transforms. -/
structure FftCmd where
  points : Nat
  inverse : Bool
  src : Place
  stride : Nat
  count : Nat
  pitch : Nat
  deriving DecidableEq, Repr

/-- What a MOVE does (Table 05-3, R160, R164, R167, R176, R177). -/
inductive MoveKind where
  /-- Copy `elems` elements of each of `rows` rows. -/
  | copy
  /-- Tap packing (R164): for each of `rows` × `elems` output positions the channels of `count` taps from tap `first` on, in row-major
  order of a kernel `kw` taps wide with strides and dilations, one after another; the rest of the row is zero. -/
  | pack (first count kw sy sx dy dx chans : Nat)
  /-- Transpose `rows` × `elems` elements: planar to channel-blocked layout and back (R160). -/
  | transpose
  /-- PLEAT: each 2 × 2 cell of C channels becomes one position of 4C channels (R177). -/
  | pleat (chans : Nat)
  /-- UNPLEAT, its inverse: `rows` and `elems` count half-resolution positions. -/
  | unpleat (chans : Nat)
  /-- Split sample words of R68 into value and mark (R176): plane i, whose samples lie `planes[i]` bytes from the source, gives channel
  8(i / 4) + i % 4 and the mark 4 channels on. -/
  | split (planes : List Nat) (conv : Conv)
  /-- Fill the selvedge of a padded array of `rows` × `elems` positions by a padding mode (R167, R168). -/
  | fill (mode top bottom left right chans : Nat) (const : Word) (conv : Conv)
  deriving DecidableEq, Repr

/-- MOVE: source and destination with the pitch of a row and of a position, rows, positions of a row, bits per element,
core positions. -/
structure MoveCmd where
  kind : MoveKind
  src : Place
  srcRow : Nat
  srcPos : Nat
  dst : Place
  dstRow : Nat
  dstPos : Nat
  rows : Nat
  elems : Nat
  bits : Nat
  core : Option (Nat × Nat)
  deriving DecidableEq, Repr

/-- PUT (R144): local lines to an inbound region of another tile. -/
structure PutCmd where
  src : Place
  lines : Nat
  tile : Fin 6
  region : Fin 32
  line : Nat
  deriving DecidableEq, Repr

/-- A command of a unit's queue. -/
inductive UnitCmd where
  | wset (c : WsetCmd)
  | mm (c : MmCmd)
  | drain (c : DrainCmd)
  | vop (c : VopCmd)
  | vlut (c : VlutCmd)
  | vred (c : VredCmd)
  | fft (c : FftCmd)
  | move (c : MoveCmd)
  | put (c : PutCmd)
  deriving DecidableEq, Repr

/-- The units with a command queue; the matrix unit executes WSET and MM in order. -/
inductive EngUnit where
  | matrix | vector | mover
  deriving DecidableEq, Repr

/-- A queued command: its issue number, whether the unit has started it, and the lines of a PUT not yet sent (R144). -/
structure Issued where
  num : Nat
  cmd : UnitCmd
  started : Bool
  waitCredits : Nat
  deriving DecidableEq, Repr

/-- A unit of work of the scheduler (Table 05-4, R218): job slot, stream, frame, band and stripe of a rendering stripe, or
the work unit of a tensor step; deadline, replay bit and recorded occupancy. -/
structure Work where
  tensor : Bool
  job : Nat
  stream : Nat
  seq : Nat
  band : Nat
  stripe : Nat
  deadline : Nat
  replay : Bool
  ts : Nat
  deriving DecidableEq, Repr

/-- A GATHER entry of a fetch list (R28, R295): the history frame n − m, where the motion offsets lie (two signed 16-bit
numbers per block), the blocks (first column and row, columns and rows), where the index table is built, and the patch
(bytes per row, rows). -/
structure GatherPlan where
  hist : Nat
  offs : Place
  bx : Nat
  by_ : Nat
  nx : Nat
  ny : Nat
  table : Place
  width : Nat
  rows : Nat
  deriving DecidableEq, Repr

/-- One entry of a fetch list: a GATHER; a FETCH of the stripe's own window (R22) in one plane of the band ring (exposure × 4 +
plane), whose extent follows from the stripe; or a FETCH of a rectangular window (base address, row pitch, rows, bytes per row). -/
structure FetchEntry where
  gather : Option GatherPlan
  plane : Option Nat
  base : Nat
  pitch : Nat
  rows : Nat
  bytes : Nat
  deriving DecidableEq, Repr

/-- A scoreboard entry (R96): kind 0 free, 1 FILL, 2 HOLD, 3 INBOUND; base line, length, its stripe, the outstanding
writes or credits; void, sender and region for INBOUND (R146); of a FILL its fetch entry, the writes that landed, the
gathered patches found invalid, and where the gathered patches start, before the clamp of R28 (R27). -/
structure SbEntry where
  kind : Nat
  base : Nat
  len : Nat
  owner : Option Work
  out : Nat
  isVoid : Bool
  sender : Nat
  region : Nat
  plan : Option FetchEntry
  landed : List Nat
  bad : List Nat
  pos : List (Int × Int)
  deriving DecidableEq, Repr

/-- A free entry. -/
def SbEntry.free : SbEntry := ⟨0, 0, 0, none, 0, false, 0, 0, none, [], [], []⟩

/-- A stripe of the ready queue: its work entry, the staging region's head and records before its first allocation
(R142), set when that allocation is made, the fetch entries whose allocation waits, the allocations made, a cancel that reached it: 0 none, 1 it returns to the
work queue, 2 it is dropped (R95), and whether a fetch of it was poisoned, so that it is abandoned (R258). -/
structure ReadyEntry where
  work : Work
  headPtr : Nat
  headWrap : Bool
  records : Nat
  waiting : List FetchEntry
  allocs : Nat
  gone : Nat
  poisoned : Bool
  deriving DecidableEq, Repr

/-- A waiting TACK (R99): the mask of named units (bit 0 matrix, 1 vector, 2 mover), the STRIPE bit, its issue number. -/
structure Tack where
  mask : Nat
  stripe : Bool
  num : Nat
  deriving DecidableEq, Repr

/-- The stripe that executes: since when, whether it is stopped for a replay (waiting for its commands in flight), the
last command was a STRIPE tack, SIGNAL issued, PUT lines not yet acknowledged, the number of its run on the engine, the slip of
the band before it started, the lines of the OFM and CRS write buffer that its output holds (R234), where the slip of a replay is measured from
(Table 10-2), the zone means of the previous frame that the tone and colour network takes (R74; none: the zone-absent indication),
and with SIGNAL where stage 7, the history rows and the tap points lie, and the parts of a step's outputs that
the unit made (output, offset in it, place, bytes). -/
structure Exec where
  work : Work
  start : Nat
  abandoned : Bool
  failWords : List Nat
  stripeTack : Bool
  signalled : Bool
  unacked : Nat
  run : Nat
  slip0 : Nat
  bufLines : Nat
  slipFrom : Option Nat
  zones : Option (List Nat)
  outPlace : Option Place
  hist : Option Place
  taps : List (Nat × Arr)
  parts : List (Nat × Nat × Place × Nat)
  deriving DecidableEq, Repr

/-- A weight buffer: the lines of the set and its operand pair; zero weights when nothing was loaded. -/
structure WeightBuf where
  bytes : List Byte
  wFmt : Fmt
  aFmt : Fmt
  deriving DecidableEq, Repr

/-- An unloaded weight buffer. -/
def WeightBuf.init : WeightBuf := ⟨[], .int8, .int8⟩

/-- The check unit (R101 to R105): window 0 to 256, state, spared column, the times of transients per column, an
injected mismatch that waits for the next compare, the column whose known-answer tests run and whether they are to pass
because the mismatch was injected. -/
structure Check where
  window : Nat
  state : Nat
  spared : Nat
  transients : List (Nat × Nat)
  inject : Bool
  kat : Option Nat
  forced : Bool
  deriving DecidableEq, Repr

/-- The check unit at reset: window 0, CHECKING. -/
def Check.init : Check := ⟨0, 0, 0, [], false, none, false⟩

/-- The context that the execute or the fetch engine holds of a job (R93): its slot, the bases and bounds of its regions in the
tile (descriptor, base, lines), the quantisation parameters of its layers (s_c, b_c, r_o and z_o) and the program entry. -/
structure JobContext where
  job : Nat
  regions : List (Nat × Nat × Nat)
  quant : List (List Word × List Int × Word × Int)
  entry : Nat
  deriving DecidableEq, Repr

/-- An engine (R82); `returning`: it comes back into rotation at the next band boundary (R107, R349); `draining`: it takes no
further unit before a self-test; `runs` counts the runs of stripes; `granted` the lines of inbound regions under credit or not
yet released by their consumer (R144); `tables` the user tables by image digest (R129). -/
structure Engine where
  inRotation : Bool
  returning : Bool
  draining : Bool
  fenced : Bool
  resetting : Bool
  frozen : Bool
  giveUp : Bool
  relPending : Bool
  selftest : Nat
  selfForce : Bool
  hang : Nat
  work : List Work
  ready : List ReadyEntry
  exec : Option Exec
  lastJob : Option Nat
  execCtx : Option JobContext
  fetchCtx : Option JobContext
  runs : Nat
  issue : Nat
  matrixQ : List Issued
  vectorQ : List Issued
  moverQ : List Issued
  tack : Option Tack
  buf0 : WeightBuf
  buf1 : WeightBuf
  activeBuf : Bool
  wsetBusy : Bool
  acc : Sparse (List Word)
  sb : List SbEntry
  credits : Sparse Nat
  granted : List (Nat × Nat × Option Work)
  tables : List (Nat × List (List Nat))
  check : Check
  slip : Nat
  slipBand : Option (Nat × Nat × Nat)
  scalarErrs : List Nat
  replayCause : Nat
  imem : Sparse Word
  dmem : Sparse Word
  deriving DecidableEq, Repr

/-- An engine at reset: out of rotation and empty, with zero weights and accumulators (log 6). -/
def Engine.init : Engine :=
  { inRotation := false, returning := false, draining := false, fenced := false, resetting := false, frozen := false, giveUp := false,
    relPending := false, selftest := 0, selfForce := false, hang := 0, work := [], ready := [], exec := none, lastJob := none,
    execCtx := none, fetchCtx := none, runs := 0, issue := 0, matrixQ := [], vectorQ := [], moverQ := [], tack := none,
    buf0 := WeightBuf.init, buf1 := WeightBuf.init, activeBuf := false, wsetBusy := false, acc := [],
    sb := List.replicate 16 SbEntry.free, credits := [], granted := [], tables := [], check := Check.init, slip := 0,
    slipBand := none, scalarErrs := [], replayCause := 0, imem := [], dmem := [] }

/-- A region descriptor (R139, R141): base line, lines, mode (0 unused, 1 BOUND, 2 CIRCULAR), job, PERSIST, head and tail
with their wrap bits, and the lines of each outstanding allocation with whether it waits to be released. -/
structure Region where
  base : Nat
  size : Nat
  mode : Nat
  job : Nat
  persist : Bool
  head : Nat
  headWrap : Bool
  tail : Nat
  tailWrap : Bool
  recs : List (Nat × Bool)
  deriving DecidableEq, Repr

/-- An unused descriptor. -/
def Region.unused : Region := ⟨0, 0, 0, 0, false, 0, false, 0, false, []⟩

/-- Power state of a bank group (Table 07-6): code 0 ON, 1 RETAIN, 2 OFF; the target of a transition. -/
structure Group where
  state : Nat
  target : Option Nat
  deriving DecidableEq, Repr

/-- A group that is ON. -/
def Group.on : Group := ⟨0, none⟩

/-- A line on the ring: sender engine and the run it belongs to, receiving region with its base when the line was sent, line in
the region, and the data. -/
structure RingLine where
  sender : Nat
  run : Nat
  region : Nat
  base : Nat
  line : Nat
  data : List Byte
  deriving DecidableEq, Repr

/-- A stripe-memory tile; `acks`: acknowledgements to send, by sender, run of the sender and lines; `waiting`: allocations that
wait for room (R142), by region and lines. -/
structure Tile where
  regions : Sparse Region
  groups : Sparse Group
  faulted : Bool
  patrolPos : Nat
  storedErrs : List Nat
  bankTimes : List (Nat × Nat)
  wearRaised : List Nat
  incoming : List RingLine
  acks : List (Nat × Nat × Nat)
  waiting : List (Nat × Nat)
  deriving DecidableEq, Repr

/-- A tile at reset. -/
def Tile.init : Tile := ⟨[], [], false, 0, [], [], [], [], [], []⟩

/-- The scheduler beside its registers: units that wait for a work-queue entry (R221), staging and write-buffer lines in
use by each user of a pool (pool × 128 + user, a tensor job as 64 + slot; R234), the streams shed for a forced
self-test in order (R228), and what the last progress check found open (class 0x18): rows of port line stores (0, slot, frame,
exposure × 16,384 + row) and complete bands not yet released (1, stream, frame, band). -/
structure Sched where
  waiting : List Work
  poolUse : Sparse Nat
  shedTest : List Nat
  progress : List (Nat × Nat × Nat × Nat)
  deriving DecidableEq, Repr

end Sys2Proof.Machine
end

