-- ==== Sys2Proof/Machine/PartsMem.lean ====
section
/-! DEFINITION. The device's state beside its registers, part 4: the stacked DRAM and calibration. -/

namespace Sys2Proof.Machine

/-- A merge-buffer entry (R251): its page, the written bytes by offset in the page, and the time it was made. -/
structure Merge where
  page : Nat
  bytes : Sparse Byte
  since : Nat
  deriving DecidableEq, Repr

/-- An access that waits for a page lock (R254): a read or a masked write of a sector by a requester, since when, an invalidation of
the sectors in a mask, or the drain of the page's merge entry. -/
inductive WaitOp where
  | read (req addr since : Nat)
  | write (req addr : Nat) (bytes : List (Option Byte)) (since : Nat)
  | inval (mask : Nat)
  | drain
  deriving DecidableEq, Repr

/-- A page lock held over more than one step (R254): a reconstruction (R256) or a spare copy (R261), who caused it
(the requester code of Table 11-9), since when, and the accesses that wait, in order. -/
structure PageLock where
  page : Nat
  copy : Bool
  req : Nat
  since : Nat
  waits : List WaitOp
  deriving DecidableEq, Repr

/-- What a read of a sector answers (R241, R247): the requester, the address, 64 bytes, the valid indication, the poison
indication (R257) and the error indication (R266). -/
structure ReadResp where
  req : Nat
  addr : Nat
  data : List Byte
  valid : Bool
  poison : Bool
  error : Bool
  deriving DecidableEq, Repr

/-- A bank's leaky bucket (R259): its level and whether CE_RATE was raised and has not been re-armed. -/
structure Bucket where
  level : Nat
  raised : Bool
  deriving DecidableEq, Repr

/-- The stacked DRAM beside its data words: the valid table (page state, R246); the stored check words and the two copies of the
metadata, words 128 to 145 of a row keyed by page × 146 + word (R239); flipped bits of
stored words by the same key (R243, R426), merge entries in order of acceptance (R251), pages of the
page-check cache with their 16 check words (R253), locks (R254), buckets and row-error tables (R259), soft repairs and retired pages in order
(R261 to R265), sparing copies (page, requester) in order of request, an import and a burn in progress with its start
(R267, R264), where the scrubber's pass goes on and the pages it
skipped (R260), self-refresh and the drain of a reset (R255), hot refresh (R242), and the
responses of the last operation. -/
structure Dram where
  state : Sparse Nat
  stored : Sparse Nat
  flips : Sparse Nat
  merge : List Merge
  cache : Sparse (List (Nat × List Nat))
  locks : List PageLock
  buckets : Sparse Bucket
  rowErr : Sparse (List (Nat × Nat))
  soft : List Nat
  retired : List Nat
  copies : List (Nat × Nat)
  importing : Bool
  burning : Option Nat
  scrubPage : Nat
  scrubSkip : List Nat
  selfRefresh : Bool
  draining : Bool
  hot : Bool
  resp : List ReadResp
  deriving DecidableEq, Repr

/-- One direction of a lane (R270): fine delay, threshold, coarse phase. -/
structure LaneDir where
  fine : Nat
  thr : Nat
  coarse : Nat
  deriving DecidableEq, Repr

/-- A DRAM lane (R270, R273, R276): its read and write settings, FAILED, VALID, consecutive disagreeing visits, and the
time of its last agreed measurement. -/
structure Lane where
  rd : LaneDir
  wr : LaneDir
  failed : Bool
  valid : Bool
  disagree : Nat
  aged : Nat
  deriving DecidableEq, Repr

/-- A gusset lane (R276): the retired lane it carries, and whether it failed. -/
structure Gusset where
  carries : Option Nat
  failed : Bool
  deriving DecidableEq, Repr

/-- What a pass collects of one direction of a lane, its swatch (R271): at each fine delay, the transitions sampled before the edge and
those observed, and at each threshold, the bits sampled and their mismatches against the reference lane. -/
structure Swatch where
  delays : Vector (Nat × Nat) 64
  checks : Vector (Nat × Nat) 64
  deriving DecidableEq, Repr

/-- What a measurement pass finds (R271, R276): delay, threshold, the spread of transitions and the longest run of
thresholds without a mismatch. -/
structure Pass where
  fine : Nat
  thr : Nat
  spread : Nat
  run : Nat
  deriving DecidableEq, Repr

/-- A visit in progress (R272): the lane, whether the gusset lane is measured (step 2) or the lane (step 4), the
direction, the passes of that direction, and the lane's values from before the visit. -/
structure Visit where
  lane : Nat
  step4 : Bool
  write : Bool
  passes : List (Nat × Nat)
  oldLane : Lane
  deriving DecidableEq, Repr

/-- A camera lane (R278, R279): its values in the main sampler, whether they are valid, a new value that waits for the
LP state, the passes of the measurement in progress, consecutive disagreements, the PHY_CFG of a restored value (none: retained), the
time of the last agreed measurement, and whether a measurement is due before the first frame opens. -/
structure CamLane where
  fine : Nat
  thr : Nat
  valid : Bool
  pending : Option (Nat × Nat)
  passes : List (Nat × Nat)
  disagree : Nat
  phyCfg : Option Nat
  aged : Nat
  due : Bool
  deriving DecidableEq, Repr

/-- Calibration: DRAM lanes keyed by channel × 74 + lane, gusset lanes and visits keyed by channel × 2 + G, the next lane
of each, rotations completed in the current round, camera lanes keyed by port × 4 + lane, a save in progress (address
and record, R280), the restore window's bytes and whether a record lies in it whole before
bring-up comes to it (R281). -/
structure Cal where
  lanes : Sparse Lane
  gusset : Sparse Gusset
  visits : Sparse (Option Visit)
  next : Sparse Nat
  turned : List Nat
  cam : Sparse CamLane
  save : Option (Nat × List Byte)
  window : Sparse Byte
  windowDone : Bool
  deriving DecidableEq, Repr

end Sys2Proof.Machine
end

