-- ==== Sys2Proof/Machine/PartsNet.lean ====
section
/-! DEFINITION. The device's state beside its registers, part 5: the network, sessions, groups and the security engine. -/

namespace Sys2Proof.Machine

/-- A Kweal frame (Table 14-2): type, session, flags, sequence number, acknowledgement, tag, window and payload. -/
structure KFrame where
  type : Nat
  session : Nat
  flags : Nat
  seq : Nat
  ack : Nat
  tag : Nat
  window : Nat
  payload : List Byte
  deriving DecidableEq, Repr

/-- A frame as it arrives: the port, the sender's address and UDP port as one number, whether it verified under a secure
association (R308) and its association number, MAGIC, VERSION and LENGTH as found in it (R312), its length on the wire,
whether it came over IPv6, the UDP port it was sent to, and its fields. -/
structure Arrival where
  port : Fin 4
  src : Nat
  verified : Bool
  an : Fin 4
  magic : Nat
  version : Nat
  length : Nat
  wire : Nat
  v6 : Bool
  udp : Nat
  frame : KFrame
  deriving DecidableEq, Repr

/-- A SAK in force: its association number and its identity (the key itself stays in SEC, R329). -/
structure Sak where
  an : Nat
  key : Nat
  deriving DecidableEq, Repr

/-- Keys of an Ethernet port (R338, R339): the device transmit SAK, the host SAK, the SAKs that wait for a switch with
the sessions that have not answered, the other association still accepted, and the transmit packet number. -/
structure PortKeys where
  tx : Sak
  host : Sak
  txNext : Option (Sak × List Nat)
  hostOld : Option Sak
  pn : Nat
  deriving DecidableEq, Repr

/-- An Ethernet port (R306, R338): link, active speed, PHY master, gPTP slave, keys, and RX secure channels with the
session that named them. -/
structure EthPort where
  link : Bool
  speed : Nat
  master : Bool
  gptpSlave : Bool
  keys : Option PortKeys
  scis : List (Nat × Nat)
  deriving DecidableEq, Repr

/-- A port with its link down. -/
def EthPort.init : EthPort := ⟨false, 0, false, false, none, []⟩

/-- A bulk transfer in progress (R317): tag, space, queue, total bytes, address, and the bytes accepted so far (kept for
the spaces that take effect with the last fragment). -/
structure BulkIn where
  tag : Nat
  space : Nat
  queue : Nat
  total : Nat
  addr : Nat
  off : Nat
  data : List Byte
  deriving DecidableEq, Repr

/-- An unacknowledged frame of the device (R316): its sequence number, the frame, how often it was resent, and the PUSH
descriptor it ends (queue and SEQ), if it does. -/
structure Unacked where
  seq : Nat
  frame : KFrame
  resends : Nat
  push : Option (Nat × Nat)
  deriving DecidableEq, Repr

/-- A session (R314 to R318): state 0 closed, 1 opening, 2 open, 3 LOST; port, peer with its group and member, whether it
is an UNOWNED session (R336), the receive side with held frames, the send side with unacknowledged frames, the other
side's window, the acknowledgement owed (R316), bulk transfers in progress, frames that wait for room in that window, the
TAG of the last ATTEST frame accepted, and the wrap key (R337). -/
structure Session where
  state : Nat
  port : Nat
  peer : Bool
  group : Nat
  member : Nat
  unowned : Bool
  rxNext : Nat
  heldRx : List KFrame
  txNext : Nat
  unacked : List Unacked
  window : Nat
  ackOwed : Bool
  bulk : List BulkIn
  queued : List Unacked
  tag : Nat
  wrap : Nat
  deriving DecidableEq, Repr

/-- A closed session. -/
def Session.init : Session := ⟨0, 0, false, 0, 0, false, 0, [], 0, [], 0, false, [], [], 0, 0⟩

/-- A session whose sequence spaces start, on a port; until the other side names its window the device takes it to be 64. -/
def Session.start (port : Nat) : Session := { Session.init with state := 2, port := port, rxNext := 1, txNext := 1, window := 64 }

/-- An ATTEST exchange before a session is assigned (R308, R336): the other side's address, whether this device
initiated it, whether it is between peers (with group and member), its session number, nonces, SCIs with their ports,
transcript bodies, this device's QUOTE body, the OWNER_HASH of the received quote, the stage (0 ended, 1 HELLO sent, 2 QUOTE sent
in answer, 3 KEM_AUTH sent), the identity of the exchange key, and the exchange's own sequence spaces. -/
structure Exchange where
  src : Nat
  initiator : Bool
  peer : Bool
  group : Nat
  member : Nat
  session : Nat
  reopen : Bool
  nonceH : Nat
  nonceD : Nat
  scis : List (Nat × Nat)
  transcript : List Byte
  quote : List Byte
  peerOwner : Option Nat
  stage : Nat
  kem : Nat
  link : Session
  deriving DecidableEq, Repr

/-- An event record (Table 14-7) and where it goes: a session, or the queue that takes an EVENT descriptor. -/
structure EventRec where
  code : Nat
  page : Nat
  arg0 : Nat
  arg1 : Nat
  time : Nat
  session : Nat
  deriving DecidableEq, Repr

/-- A member of a group (Table 14-10). -/
structure Member where
  ip : Nat
  udp : Nat
  port : Nat
  deriving DecidableEq, Repr

/-- A group (R324 to R326, R366, R367): its members, this device's index, the barriers received (member, step), the
barriers sent, the members lost, and whether the rejoin barrier was sent. -/
structure PeerGroup where
  members : List Member
  self : Nat
  got : List (Nat × Nat)
  sent : List Nat
  lost : List Nat
  rejoin : Bool
  deriving DecidableEq, Repr

/-- A frame of an output with DELIVERY STREAM (R311): its queue, FRAME_SEQ and T_START, output 0 display or 1 coding, its width
and height, and the bytes of a display pixel or a coding sample. -/
structure Video where
  queue : Nat
  seq : Nat
  tStart : Nat
  out : Nat
  width : Nat
  height : Nat
  unit : Nat
  deriving DecidableEq, Repr

/-- What the device puts on its wires. -/
inductive Wire where
  /-- A Kweal frame on a port, to a session (below 32) or an exchange (65,536 above its address), with its TIME. -/
  | kweal (port dst time : Nat) (frame : KFrame)
  /-- The RVF packets of a band: stream-table entry, first sequence_num, packets, avtp_timestamp, end of frame, bytes. -/
  | rvf (entry seqNum packets time : Nat) (last : Bool) (data : List Byte)
  /-- An answer to ARP, NDP or ICMP echo on a port. -/
  | admin (port kind : Nat)
  /-- A frame-sync pulse on the FSYNC pin of a camera port: its start, its width in ns, and whether the pin is high in it. -/
  | fsync (port time width : Nat) (high : Bool)
  /-- A frame-sync message on the uplink of an A-PHY port: when it is sent, for an edge time. -/
  | uplink (port sent edge : Nat)
  /-- A CCI transaction on a camera port: command, target and the write bytes. -/
  | cci (port : Nat) (cmd target : Nat) (data : List Byte)
  deriving DecidableEq, Repr

/-- The network unit: ports, sessions 0 to 31, exchanges, AVTP sequence numbers and reservations (bits in 250 µs, while in
force) per stream-table entry, streamed frames not yet sent whole, event records held and lost (R322), gPTP lock and
grandmaster role (R309), and groups. -/
structure Net where
  ports : Sparse EthPort
  sessions : Sparse Session
  exchanges : List Exchange
  avtp : Sparse Nat
  reserved : Sparse Nat
  video : List Video
  events : List EventRec
  lostEvents : Nat
  locked : Bool
  grandmaster : Bool
  groups : Sparse (Option PeerGroup)
  deriving DecidableEq, Repr

/-- What a fuse burn under way does (R333, R334). -/
inductive Burn where
  /-- A rollback counter (0 FW, 1 IMG) to a target, since when. -/
  | rollback (which target since : Nat)
  /-- A new owner slot; `transfer` also revokes the old one. -/
  | owner (keyHash : Nat) (imageKeys : List Nat) (transfer : Bool)
  /-- Revocation of the current slot. -/
  | release
  deriving DecidableEq, Repr

/-- The security engine: boot measurements and source (R330, R331), boot data received, owner image keys accepted
(R332), frozen masters, those still giving up what they hold, releases that wait (R342, R343), the burn under way, the
nonce of the last quote (R334) and the fresh values drawn. -/
structure Sec where
  sblDigest : Nat
  fwDigest : Nat
  fwVersion : Nat
  netBoot : Bool
  bootCopy : Bool
  bootData : Sparse Byte
  bootTotal : Nat
  imageKeys : List Nat
  frozen : List Nat
  givingUp : List Nat
  relPending : List Nat
  burn : Option Burn
  nonceD : Nat
  deriving DecidableEq, Repr

end Sys2Proof.Machine
end

