-- ==== Sys2Proof/Config.lean ====
section
/-! DEFINITION. What an implementation or a standard outside the manual fixes, and the free values: opaque constants whose
values nothing can prove. -/

namespace Sys2Proof

/-- The silicon revision is B1 (R1); B0 otherwise. -/
opaque Config.revB1 : Bool

/-- Port MAC addresses from the fuses (Table 14-13), by port. -/
opaque Config.fuseMac : Nat → BitVec 48

/-- Hash of the Veltil release key, which the supervisor firmware holds (Table 15-1). -/
opaque Config.releaseKey : Nat

/-- DEVICE_ID, the DIK's key hash (Table 15-8). -/
opaque Config.deviceId : BitVec 256

/-- Firmware version and its words of Table 19-5. -/
opaque Config.fwVersionWord : Word

/-- Field k (0 INDEX, 1 NEED, 2 HAVE) of a load result with a code whose check has no such quantity (log 36). -/
opaque Config.resultField (code k : Nat) : Nat

/-- Free word number n (log 2): a value the spec leaves open, drawn with the counter `State.free`. -/
opaque Config.freeWord : Nat → Word

/-- Free number n: a fresh nonce, key or identity that SEC or the boot draws (log 2). -/
opaque Config.freeNat : Nat → Nat

/-- Free choice n among `k` allowed values, taken modulo `k` (log 2). -/
opaque Config.freeChoice : Nat → Nat

/-- What the (72,64) word code finds for three or more flipped bits (R243 fixes one and two; the code's matrix is not given):
0 nothing, 1 a single-bit error, 2 an error it cannot correct, modulo 3. -/
opaque Config.wordCheck : Nat → Nat

/-- The error mask left in a word after the word code has acted on three or more flipped bits. -/
opaque Config.wordLeft : Nat → Nat

/-- The first `n` bytes of SHAKE256 over a byte string (R329): a standard outside the manual. -/
opaque Config.shake : List Byte → Nat → List Byte

/-- The first `n` bytes of SHAKE256 over a device-unique key that SEC holds, followed by a byte string (Table 12-2). -/
opaque Config.keyedShake : List Byte → Nat → List Byte

/-- AES-256-GCM of a key (a number) over bytes: ciphertext with its 16-byte tag (R337): a standard outside the manual. -/
opaque Config.gcm : Nat → List Byte → List Byte

/-- ML-DSA-65 signature (3,309 bytes) of the AK over a byte string (R329, R336). -/
opaque Config.akSign : List Byte → List Byte

/-- ML-KEM-768: encapsulation key of exchange n, and the shared secret of an exchange and a ciphertext (R337). -/
opaque Config.kemKey : Nat → List Byte

/-- The shared secret that the decapsulation of a ciphertext gives (R337). -/
opaque Config.kemSecret : Nat → List Byte → List Byte

/-- The ciphertext (1,088 bytes) that encapsulation n to a key gives, and its shared secret (R337). -/
opaque Config.kemCipher : Nat → List Byte

/-- The shared secret of encapsulation n. -/
opaque Config.kemShared : Nat → List Byte

/-- The AK and DIK certificates of a boot (R329, R331), by the boot measurements. -/
opaque Config.certificates : Nat → Nat → List Byte

/-- How an output code of the OFM or CRS differs from the exact one: 0 not, 1 one above, 2 one below, modulo 3 (R131, R193); by
the draw and the place of the code. -/
opaque Config.codeSlip : Nat → Nat → Nat

/-- What a NaN of stage 7 gives in an output that R189 clamps to [0, 1]: a number modulo 65,536, over 65,535 (the spec gives
none). -/
opaque Config.nanLevel : Nat → Nat → Nat

/-- Error of a crop sample within R131: a number modulo 2,049, less 1,024, over 1,024 of the bound. -/
opaque Config.cropErr : Nat → Nat → Nat

/-- Whether the OFM and the CRS saturate when they convert to FP8 or FP16 (R124 needs a SAT, R192 and R186 give none). -/
opaque Config.outSat : Bool

/-- Which two partial sums an adder tree adds next (R120 leaves the association open): by draw and place, a number whose
remainders name them. -/
opaque Config.treeChoice : Nat → Nat → Nat

/-- The FP32 code that a function table or a transform gives, by draw and place, within the error the spec allows (Table
06-6, R129, R131). -/
opaque Config.fnWord : Nat → Nat → Nat

/-- What VOP compare gives for two FP32 codes: the spec names neither the relation nor the result codes (Table 05-3). -/
opaque Config.compareWord : Nat → Nat → Word

/-- Whether VOP select takes its second operand for a first operand's FP32 code (Table 05-3 states no rule). -/
opaque Config.selects : Nat → Bool

/-- Whether VOP or VRED minimum and maximum give NaN when one operand is NaN, by FP32 code of the other (none stated). -/
opaque Config.nanWins : Nat → Bool

end Sys2Proof
end

