-- ==== Sys2Proof/Machine/PartsPwr.lean ====
section
/-! DEFINITION. The device's state beside its registers, part 3: clocks and pins, power, the supervisor, fuses, the
fault manager and its retention log. -/

namespace Sys2Proof.Machine

/-- The clocks the model keeps: 802.1AS time (R309) and time since power-on (R373), both in nanoseconds, the time READY
last rose (R410), whether CK_AON runs from the internal oscillator (R373, R418), and the last PPS pulse (R419). -/
structure Clock where
  ptp : Nat
  up : Nat
  readyAt : Nat
  aonInternal : Bool
  pps : Option Nat
  deriving DecidableEq, Repr

/-- What the IEEE 1149.1 port offers (R332, R422): the mandatory boundary-scan instructions and IDCODE. -/
inductive TapInstr where
  | bypass | sample | preload | extest | idcode
  deriving DecidableEq, Repr

/-- The test access port (R422): held in reset by TRST_N, which a pull-down keeps low while nothing drives the port, and its
instruction (PRESUMED, log 100). -/
structure Tap where
  trstLow : Bool
  instr : TapInstr
  deriving DecidableEq, Repr

/-- The kinds of balls that the boundary-scan chain covers or leaves out (R422). -/
inductive Pad where
  | lvcmos | i3c | xspi | mipi | aphy | baseT1 | refclk
  deriving DecidableEq, Repr

/-- Whether the chain covers a ball of a kind. -/
def Pad.scanned : Pad → Bool
  | .lvcmos | .i3c | .xspi => true
  | .mipi | .aphy | .baseT1 | .refclk => false

/-- What IDCODE reads (R422): version, part number 0x6416, manufacturer code 0x2E7 and 1. -/
def idcode : Word := if Config.revB1 then 0x164165CF#32 else 0x064165CF#32

/-- How the flash is read (R421): 1S-1S-1S at 25 MHz, or 8D-8D-8D at up to 200 MHz. -/
inductive FlashMode where
  | single | octal
  deriving DecidableEq, Repr

/-- The bytes of flash that the device addresses: 256 MiB (R421). -/
def flashBytes : Nat := 0x10000000

/-- The input pins PORST_N, WARM_N and TEST_EN (R419), as whether each is in its acting state, and the test access port. -/
structure Pins where
  porstLow : Bool
  warmLow : Bool
  testEn : Bool
  tap : Tap
  deriving DecidableEq, Repr

/-- The power states of Table 17-3. -/
inductive PState where
  | active | idle | standby | off
  deriving DecidableEq, Repr

/-- The state of a power domain (R370, R371). -/
inductive DomState where
  | on | off | retained | isolated
  deriving DecidableEq, Repr

/-- A power-state transition in progress (R375): its target, whether it goes on to STANDBY from ACTIVE through IDLE,
whether a trip asked for it, and the switch commands still to give (domain, on). -/
structure Trans where
  target : PState
  byTrip : Bool
  byHost : Bool
  plan : List (Nat × Bool)
  deriving DecidableEq, Repr

/-- A victim shed for heat: a stream or a tensor job (R380). -/
inductive Victim where
  | stream (s : Nat)
  | job (j : Nat)
  deriving DecidableEq, Repr

/-- The power management unit: bring-up (R382 to R385), the power state and its transition (R374, R375), the domains and
the switch whose acknowledge is awaited (R370), saved registers of PD4 to PD6 (R378), the sensor readings (R379), trip
and warning, what is shed for heat in order (R380), and the device self-test with its SCOPE_DRAM (R386). `waiting`: bring-up
waits at step 6 for a restore record (R383); `source`: the boot source in use, 0 copy A, 1 copy B, 2 network; `flash`: how the flash
is read (R421). -/
structure Pwr where
  step : Nat
  booting : Bool
  held : Bool
  restored : Bool
  failed : Bool
  warm : Bool
  bootStart : Nat
  bootMs : Nat
  state : PState
  trans : Option Trans
  wakeDue : Bool
  dom : List DomState
  switching : Option (Nat × Bool)
  saved : Sparse Word
  temps : List Nat
  warned : Bool
  tripped : Bool
  heatShed : List Victim
  bist : Option Bool
  waiting : Bool
  source : Nat
  flash : FlashMode
  deriving DecidableEq, Repr

/-- The supervisor: whether its firmware runs (READY, R361), a restart in progress (R359), the time of the last lockstep
mismatch, pending COMMAND blocks with their tags (R323), the loader commands to be answered BUSY when the restart in progress
completes (CMD, JOB and TAG, R217), and the result of the last command that completed (20 bytes, R323). -/
structure Sup where
  running : Bool
  restarting : Bool
  lastMismatch : Option Nat
  cmds : List (Nat × List Byte)
  busy : List (Nat × Nat × Nat)
  result : List Byte
  deriving DecidableEq, Repr

/-- An owner slot (R334): the hash of its owner key, the hashes of its four image keys, and whether it is revoked. -/
structure OwnerSlot where
  keyHash : Nat
  imageKeys : List Nat
  revoked : Bool
  deriving DecidableEq, Repr

/-- The fuses: hard repairs and the field repairs left (R262, R264), rollback counters (R333), owner slots (R334),
revoked boot keys (R329) and burned take-overs, engine and column (R104). -/
structure Fuse where
  hard : List Nat
  fieldLeft : Nat
  fw : Nat
  img : Nat
  slots : List OwnerSlot
  bootRevoked : List Nat
  takeovers : List (Nat × Nat)
  deriving DecidableEq, Repr

/-- A record of the retention log (R363, Table 16-6). -/
structure LogRec where
  kind : Nat
  cls : Nat
  seq : Nat
  time : Nat
  body : List Byte
  deriving DecidableEq, Repr

/-- Work for the fault manager (R346, R359): what a block reports and the fault manager acts on at the end of the step, or
at the end of a supervisor restart. -/
inductive Due where
  /-- Restart a job, with the fault class (R354). -/
  | restart (job cls : Nat)
  /-- Restart every rendering job (false) or every job (true) (R354). -/
  | restartAll (tensorToo : Bool) (cls : Nat)
  /-- Stop a job with JOB_STOPPED cause 3 (R343, R358). -/
  | stop (job : Nat)
  /-- A frozen engine: stop the job, soft-reset and release the engine (R343). -/
  | frozenEngine (e job : Nat)
  /-- Fence an engine, or with its tile (R349, R351). -/
  | fence (e : Nat) (tile : Bool) (cls : Nat)
  /-- A page was retired (R358, R265). -/
  | retired (page : Nat)
  /-- The DRC reported an uncorrectable error in a page (R356, R216). -/
  | ue (page : Nat)
  /-- A poisoned read of an image's DRAM copy (R358). -/
  | damaged (addr : Nat)
  /-- An engine hangs (R110, R349). -/
  | hang (e : Nat)
  deriving DecidableEq, Repr

/-- The fault and log unit: DEVICE_FAULT (R361), the standing records, the journal's bytes by log offset with the offset
and number of the next record (R362), whether REPLACE_N was asserted (R353), the reset history, and work that waits for
the fault manager. -/
structure Flt where
  deviceFault : Bool
  standing : List LogRec
  journal : Sparse Byte
  head : Nat
  seq : Nat
  replaced : Bool
  lastReset : Nat
  warmCount : Nat
  due : List Due
  deriving DecidableEq, Repr

end Sys2Proof.Machine
end

