-- ==== Sys2Proof/Machine/PartsCmd.lean ====
section
/-! DEFINITION. Operands of the commands that carry more than a number: what arrives with the event. -/

namespace Sys2Proof.Machine

/-- The payload of a long packet, and the retransmissions it took on an A-PHY link (R43, Table 03-7). -/
structure LongPayload where
  bytes : List Byte
  retx : Fin 65536
  deriving DecidableEq, Repr

/-- What a drain meets: errors that come to light in the words it reads (word, mask), and whether the page's entry in the page-check
cache fails its own parity (R252, R253). -/
structure DrainFinds where
  upsets : List (Nat × Nat)
  parity : Bool
  deriving DecidableEq, Repr

/-- A boot manifest as the verifier finds it (R330): MAGIC, STAGE, whether its public key's hash is the expected one, its
KEY_INDEX, whether its signature and payload digest verify, SEC_VERSION, the payload's digest, and its offset and size in the
source. -/
structure Manifest where
  magicOk : Bool
  stage : Nat
  keyIndex : Nat
  keyOk : Bool
  sigOk : Bool
  secVersion : Nat
  digestOk : Bool
  digest : Nat
  offset : Nat
  size : Nat
  deriving DecidableEq, Repr

/-- What a built-in or device self-test finds (R384, R386): failed engines and tiles, DRAM rows that fail the march
(page indexes), and a failed unit that stops bring-up. -/
structure BistResult where
  engines : List (Fin 6)
  tiles : List (Fin 6)
  rows : List Nat
  fatal : Option Nat
  deriving DecidableEq, Repr

/-- What a bring-up step that took time found (Table 17-6): whether the flash's SFDP table offers 8D-8D-8D (R421), the boot sources in the order of
Table 15-2, the port configurations, the hashes of the owner image keys in the owner partition (R332), restore record and
RESTORE_WAIT_MS of the flash, each lane's verification pass of the read and the write direction or its training result, the lanes that no setting serves (R277), and the self-test's result. -/
structure StepResult where
  octal : Bool
  boot : List Manifest
  portCfg : Option (List Word)
  imageKeys : List Nat
  record : Option (List Byte)
  waitMs : Nat
  passes : List (Nat × Swatch × Swatch)
  trained : List (Nat × LaneDir × LaneDir)
  failing : List Nat
  test : BistResult
  deriving DecidableEq, Repr

/-- What lands in staging (R96): the scoreboard entry, the index of the line or patch row in it, and whether a gathered
row's read failed after its retries (R295). -/
structure FetchLand where
  entry : Fin 16
  line : Nat
  failed : Bool
  deriving DecidableEq, Repr

/-- A START command that the supervisor passes to the loader (R211, R323), by its tag: the content of the image's sections whose layout
the spec leaves to the compiler, and the digests of the images that the group's other members run (log 103). Binding, header, section
table and TILING are read from the bytes of the command block and of the image. -/
structure StartCmd where
  tag : Word
  body : ImageBody
  peers : List Nat
  deriving DecidableEq, Repr

/-- A group definition (Table 14-10). -/
structure GroupDef where
  count : Nat
  self : Nat
  members : List Member
  deriving DecidableEq, Repr

/-- A fragment of a bulk transfer (Table 14-4): tag, MORE, the header and the data. -/
structure BulkFrag where
  tag : Word
  more : Bool
  space : Nat
  queue : Nat
  total : Nat
  addr : Nat
  off : Nat
  bytes : Nat
  data : List Byte
  deriving DecidableEq, Repr

/-- The frames that NET answers itself (R306, R308), and those of options that Table 14-1 does not support: PAUSE, stacked tags,
fragments, IP options and extension headers. -/
inductive AdminKind where
  | arp | ndp | icmpEcho | icmpv6Echo | unsupported
  deriving DecidableEq, Repr

/-- What a gPTP message brings (R309): the grandmaster's time less the device's, whether the device is synchronised after
it, and whether the best-master algorithm now makes the device grandmaster, or this port the slave port. -/
structure GptpMsg where
  offset : Int
  synced : Bool
  grandmaster : Bool
  slave : Bool
  deriving DecidableEq, Repr

/-- HELLO (Table 15-3): nonce, requested session, role, SCIs with their ports, and its body's bytes. -/
structure HelloMsg where
  verified : Bool
  nonce : BitVec 256
  sessionReq : Fin 65536
  role : Fin 256
  scis : List (BitVec 64 × Fin 256)
  body : List Byte
  deriving DecidableEq, Repr

/-- QUOTE of an initiating or answering peer (Tables 15-3, 15-4): whether its nonce and AK signature verify, its
OWNER_HASH, and its body's bytes. -/
structure QuoteMsg where
  genuine : Bool
  ownerHash : BitVec 256
  body : List Byte
  deriving DecidableEq, Repr

/-- KEM_AUTH (Table 15-3): whether its signature over the transcript hash verifies under the owner key (host) or the
peer's AK, whether the field is zero, and its body's bytes. -/
structure KemAuthMsg where
  genuine : Bool
  zero : Bool
  body : List Byte
  deriving DecidableEq, Repr

/-- FINISH of a peer (Table 15-3): session number, whether CONFIRM and the wrapped SAKs verify, and per port the
association number and the two SAKs. -/
structure FinishMsg where
  session : Fin 65536
  genuine : Bool
  saks : List (Fin 256 × Fin 256 × Nat × Nat)
  deriving DecidableEq, Repr

/-- REKEY (Table 15-3): port, AN, DIR, whether the wrapped SAK verifies, and the SAK. -/
structure RekeyMsg where
  port : Fin 256
  an : Fin 256
  dir : Fin 256
  genuine : Bool
  sak : Nat
  deriving DecidableEq, Repr

/-- ENROLL (R334): the slot contents and whether the owner's signature over them verifies. -/
structure EnrollMsg where
  keyHash : BitVec 256
  imageKeys : List (BitVec 256)
  genuine : Bool
  deriving DecidableEq, Repr

/-- The loader's command between its checks and its commit (R211, R212): its tag, the binding, whose image range is withdrawn from every
window but the supervisor's (R332), the image, and per tile the base lines at which the checks found room for its regions. -/
structure Load where
  tag : Nat
  bind : Binding
  img : Image
  places : List (List Nat)
  deriving DecidableEq, Repr

end Sys2Proof.Machine
end

