-- ==== Sys2Proof/Syntax.lean ====
section
/-! DEFINITION. The commands of the block: one constructor per row of spec/opcode_table.json, in the table's order. The
table gives no operands and no bits; each constructor carries what the row's rule says its event brings. -/

namespace Sys2Proof

open Sys2Proof.Machine

/-- The commands (opcode_table.json). -/
inductive Instr where
  /-- POWER_ON_RESET (R382). -/
  | powerOnReset
  /-- BRINGUP_STEP_DONE (R382). -/
  | bringupStepDone (r : StepResult)
  /-- RESTORE_WAIT_EXPIRE (R383). -/
  | restoreWaitExpire
  /-- WARM_N_ASSERT (R360). -/
  | warmNAssert
  /-- FLT_WARM_WRITE (R360). -/
  | fltWarmWrite (w : Word)
  /-- HEARTBEAT_LOSS (R361). -/
  | heartbeatLoss
  /-- CLOCK_OUT_OF_RANGE (R373). -/
  | clockOutOfRange (c : Fin 6)
  /-- CRYSTAL_STOP (R373). -/
  | crystalStop
  /-- LOCKSTEP_MISMATCH (R359). -/
  | lockstepMismatch
  /-- SUP_RESTART_DONE (R359). -/
  | supRestartDone (ok : Bool)
  /-- PSTATE_REQ_ACTIVE (R375). -/
  | pstateReqActive
  /-- PSTATE_REQ_IDLE (R375). -/
  | pstateReqIdle
  /-- PSTATE_REQ_STANDBY (R375). -/
  | pstateReqStandby
  /-- PSTATE_TRANSITION_DONE (R375). -/
  | pstateTransitionDone
  /-- DOMAIN_SWITCH_ACK (R370). -/
  | domainSwitchAck (d : Fin 20)
  /-- SWITCH_TIMEOUT (R371). -/
  | switchTimeout (d : Fin 20)
  /-- THERMAL_SAMPLE (R379). -/
  | thermalSample (temps : List Byte)
  /-- HEAT_SHED_STEP (R380). -/
  | heatShedStep
  /-- HEAT_UNSHED_STEP (R380). -/
  | heatUnshedStep
  /-- THERM_CFG_WRITE (R381). -/
  | thermCfgWrite (w : Word)
  /-- DEVICE_SELFTEST (R386). -/
  | deviceSelftest (w : Word)
  /-- BIST_DONE (R386). -/
  | bistDone (r : BistResult)
  /-- PPS_PULSE (R419). -/
  | ppsPulse
  /-- PORT_ENABLE (R41). -/
  | portEnable (p : Fin 16)
  /-- PORT_DISABLE (R50). -/
  | portDisable (p : Fin 16)
  /-- STREAM_ENABLE (R42). -/
  | streamEnable (p : Fin 16) (n : Fin 4) (w : Word)
  /-- STREAM_DISABLE (R56). -/
  | streamDisable (p : Fin 16) (n : Fin 4) (w : Word)
  /-- LINK_UP (R55). -/
  | linkUp (p : Fin 16) (gear : Fin 8)
  /-- LINK_DOWN (R55). -/
  | linkDown (p : Fin 16)
  /-- GEAR_CHANGE (R41). -/
  | gearChange (p : Fin 16) (gear : Fin 8)
  /-- FRAME_START_PACKET (R50). -/
  | frameStartPacket (p : Fin 16) (vc : Fin 32) (corrected : Bool)
  /-- FRAME_END_PACKET (R50). -/
  | frameEndPacket (p : Fin 16) (vc : Fin 32) (corrected : Bool)
  /-- LINE_START_PACKET (R47). -/
  | lineStartPacket (p : Fin 16) (vc : Fin 32) (line : Fin 65536) (corrected : Bool)
  /-- LINE_END_PACKET (R44). -/
  | lineEndPacket (p : Fin 16) (vc : Fin 32) (line : Fin 65536) (corrected : Bool)
  /-- LONG_PACKET (R47). -/
  | longPacket (p : Fin 16) (vc : Fin 32) (dt : Fin 64) (data : LongPayload) (crcOk : Bool) (corrected : Bool)
  /-- DISCARDED_SHORT_PACKET (R44). -/
  | discardedShortPacket (p : Fin 16) (vc : Fin 32) (dt : Fin 64) (corrected : Bool)
  /-- UNCORRECTABLE_HEADER (R46). -/
  | uncorrectableHeader (p : Fin 16)
  /-- FE_MISSING (R50). -/
  | feMissing (p : Fin 16) (n : Fin 4)
  /-- FRAME_TIMEOUT (R50). -/
  | frameTimeout (p : Fin 16) (n : Fin 4)
  /-- STREAM_ABSENT (R53). -/
  | streamAbsent (p : Fin 16) (n : Fin 4)
  /-- CCI_GO (R57). -/
  | cciGo (p : Fin 16) (w : Word)
  /-- CCI_DONE (R57). -/
  | cciDone (p : Fin 16) (nack : Bool) (data : List Byte)
  /-- CCI_TIMEOUT (R57). -/
  | cciTimeout (p : Fin 16)
  /-- FSYNC_MODE_WRITE (R58). -/
  | fsyncModeWrite (p : Fin 16) (w : Word)
  /-- FSYNC_PERIOD_WRITE (R60). -/
  | fsyncPeriodWrite (p : Fin 16) (w : Word)
  /-- FSYNC_EDGE (R58). -/
  | fsyncEdge (p : Fin 16)
  /-- FSYNC_UPLINK_MESSAGE (R58). -/
  | fsyncUplinkMessage (p : Fin 8)
  /-- ROW_PAIR_COMMIT (R71). -/
  | rowPairCommit (i : Fin 64)
  /-- RING_SLOT_RESUME (R70). -/
  | ringSlotResume (i : Fin 64)
  /-- PSET_COMMIT (R77). -/
  | psetCommit (w : Word)
  /-- STAGE_WRITE (R78). -/
  | stageWrite (a : Nat) (w : Word)
  /-- CURVE_TABLE_WRITE (R67). -/
  | curveTableWrite (c : Fin 4) (i : Fin 257) (w : Word)
  /-- FETCH_START (R91). -/
  | fetchStart (e : Fin 6) (plan : List FetchEntry)
  /-- FETCH_LINE_LAND (R96). -/
  | fetchLineLand (e : Fin 6) (l : FetchLand)
  /-- STRIPE_EXECUTE_START (R92). -/
  | stripeExecuteStart (e : Fin 6)
  /-- WSET (R83). -/
  | wset (e : Fin 6) (c : WsetCmd)
  /-- MM (R84). -/
  | mm (e : Fin 6) (c : MmCmd)
  /-- DRAIN (R87). -/
  | drain (e : Fin 6) (c : DrainCmd)
  /-- VOP (R126). -/
  | vop (e : Fin 6) (c : VopCmd)
  /-- VLUT (R128). -/
  | vlut (e : Fin 6) (c : VlutCmd)
  /-- VRED (R90). -/
  | vred (e : Fin 6) (c : VredCmd)
  /-- FFT (R88). -/
  | fft (e : Fin 6) (c : FftCmd)
  /-- MOVE (R90). -/
  | move (e : Fin 6) (c : MoveCmd)
  /-- PUT (R144). -/
  | put (e : Fin 6) (c : PutCmd)
  /-- TACK (R99). -/
  | tack (e : Fin 6) (mask : Fin 8) (stripe : Bool)
  /-- TACK_RELEASE (R99). -/
  | tackRelease (e : Fin 6)
  /-- SIGNAL (R94). -/
  | signal (e : Fin 6) (out : Option Place) (hist : Option Place) (taps : List (Nat × Arr)) (parts : List (Nat × Nat × Place × Nat))
  /-- SIGNAL_COMPLETE (R94). -/
  | signalComplete (e : Fin 6)
  /-- COMMAND_COMPLETE (R89). -/
  | commandComplete (e : Fin 6) (u : EngUnit)
  /-- KAT_COMPLETE (R103). -/
  | katComplete (e : Fin 6) (colPass : Bool) (gussetPass : Bool)
  /-- GUSSET_WINDOW_ADVANCE (R101). -/
  | gussetWindowAdvance (e : Fin 6) (kat : Bool) (mismatch : Bool)
  /-- CHECK_INJECT (R105). -/
  | checkInject (e : Fin 6)
  /-- STRIPE_REPLAY_START (R149). -/
  | stripeReplayStart (e : Fin 6)
  /-- CANCEL_COMPLETE (R95). -/
  | cancelComplete (e : Fin 6)
  /-- ENGINE_SELFTEST_REQUEST (R107). -/
  | engineSelftestRequest (e : Fin 6) (w : Word)
  /-- ENGINE_SELFTEST_DONE (R107). -/
  | engineSelftestDone (e : Fin 6) (failUnit : Fin 256) (pass : Bool)
  /-- ENGINE_RUN (R111). -/
  | engineRun (e : Fin 6) (run : Bool)
  /-- SOFT_RESET (R349). -/
  | softReset (e : Fin 6)
  /-- RESET_DONE (R349). -/
  | resetDone (e : Fin 6)
  /-- ENGINE_HANG (R110). -/
  | engineHang (e : Fin 6)
  /-- SOFT_RESET_TIMEOUT (R349). -/
  | softResetTimeout (e : Fin 6)
  /-- POWER_CYCLE_TIMEOUT (R349). -/
  | powerCycleTimeout (e : Fin 6)
  /-- PARITY_REREAD (R148). -/
  | parityReread (t : Fin 6) (port : Fin 8) (behalf : Bool) (line : Fin 262144) (stored : List (Fin 32)) (passed : Fin 33)
  /-- REGION_ALLOCATE (R141). -/
  | regionAllocate (t : Fin 6) (r : Fin 32) (lines : Nat) (release : Bool)
  /-- CREDIT_GRANT (R144). -/
  | creditGrant (e : Fin 6) (sender : Fin 6) (r : Fin 32) (lines : Nat)
  /-- RING_LINE_ARRIVE (R144). -/
  | ringLineArrive (t : Fin 6)
  /-- CREDIT_ACK (R144). -/
  | creditAck (t : Fin 6) (sender : Fin 6) (lines : Fin 9)
  /-- CREDIT_RELEASE (R146). -/
  | creditRelease (e : Fin 6) (receiver : Fin 6) (r : Fin 32)
  /-- PATROL_READ (R151). -/
  | patrolRead (t : Fin 6) (stored : List (Fin 32))
  /-- BANK_GROUP_POWER_REQUEST (R153). -/
  | bankGroupPowerRequest (t : Fin 6) (w : Word)
  /-- BANK_GROUP_POWER_DONE (R153). -/
  | bankGroupPowerDone (t : Fin 6) (g : Fin 8) (timeout : Bool)
  /-- BOX_LIST_ARRIVE (R183). -/
  | boxListArrive (q : Fin 16384)
  /-- BAND_RELEASE (R25). -/
  | bandRelease (i : Fin 64)
  /-- JOB_START (R211). -/
  | jobStart (c : StartCmd)
  /-- JOB_REARM (R216). -/
  | jobRearm (c : StartCmd)
  /-- JOB_STOP (R215). -/
  | jobStop (j : Fin 256) (tag : Word)
  /-- JOB_HOLD (R215). -/
  | jobHold (j : Fin 256) (tag : Word)
  /-- STREAM_RELEASE (R215). -/
  | streamRelease (j : Fin 256) (mask : BitVec 64) (tag : Word)
  /-- LOADER_COMMIT (R212). -/
  | loaderCommit
  /-- GROUP_DEFINE (R324). -/
  | groupDefine (g : Fin 256) (d : GroupDef) (tag : Word)
  /-- GROUP_CLEAR (R324). -/
  | groupClear (g : Fin 256) (tag : Word)
  /-- TENSOR_STEP_START (R213). -/
  | tensorStepStart (j : Fin 8)
  /-- GUARD_EVALUATE (R225). -/
  | guardEvaluate
  /-- BAND_DEADLINE (R225). -/
  | bandDeadline (v : Victim) (seq : Nat) (band : Nat)
  /-- POOL_WATCHDOG (R235). -/
  | poolWatchdog (users : List (Fin 72))
  /-- ARB_SELECT (R233). -/
  | arbSelect (w : Word)
  /-- DRAM_READ (R241). -/
  | dramRead (req : Fin 11) (leaf : Fin 128) (addr : Nat) (upsets : List (Nat × Nat))
  /-- DRAM_WRITE (R248). -/
  | dramWrite (req : Fin 11) (leaf : Fin 128) (addr : Nat) (bytes : List (Option Byte))
  /-- DRAM_INVALIDATE (R249). -/
  | dramInvalidate (req : Fin 11) (addr : Nat) (len : Nat)
  /-- MERGE_DRAIN (R251). -/
  | mergeDrain (page : Nat) (found : DrainFinds)
  /-- RECONSTRUCT_DONE (R256). -/
  | reconstructDone (page : Nat)
  /-- BUCKET_LEAK (R259). -/
  | bucketLeak
  /-- SPARE_COPY_DONE (R261). -/
  | spareCopyDone (page : Nat)
  /-- SCRUB_VISIT (R260). -/
  | scrubVisit (upsets : List (Nat × Nat))
  /-- REPAIR_ADD (R262). -/
  | repairAdd (w : Word)
  /-- REPAIR_BURN (R264). -/
  | repairBurn (session : Fin 32) (w : Word)
  /-- BURN_DONE (R264). -/
  | burnDone
  /-- IMPORT_GO (R267). -/
  | importGo (w : Word)
  /-- IMPORT_DONE (R267). -/
  | importDone
  /-- LANE_VISIT_START (R275). -/
  | laneVisitStart (c : Fin 128) (g : Fin 2)
  /-- CAL_PASS_DONE (R273). -/
  | calPassDone (c : Fin 128) (g : Fin 2) (m : Swatch)
  /-- CAM_LANE_MEASURE (R278). -/
  | camLaneMeasure (p : Fin 16) (l : Fin 4) (fine thr : Vector (Nat × Nat) 64)
  /-- CAM_LANE_APPLY (R278). -/
  | camLaneApply (p : Fin 16) (l : Fin 4)
  /-- CAL_SAVE (R280). -/
  | calSave (w : Word)
  /-- SAVE_DONE (R280). -/
  | saveDone
  /-- QUEUE_ENABLE (R285). -/
  | queueEnable (q : Fin 16384) (w : Word)
  /-- QUEUE_DISABLE (R300). -/
  | queueDisable (q : Fin 16384) (w : Word)
  /-- QUEUE_CONTEXT_WRITE (R285). -/
  | queueContextWrite (q : Fin 16384) (i : Fin 16) (w : Word)
  /-- DOORBELL (R290). -/
  | doorbell (q : Fin 16384) (v : Word)
  /-- DMA_DESCRIPTOR_START (R293). -/
  | dmaDescriptorStart (d : Fin 128) (ecc : Bool)
  /-- DESCRIPTOR_COMPLETE (R296). -/
  | descriptorComplete (d : Fin 128)
  /-- DESC_HALF (R297). -/
  | descHalf (d : Fin 128)
  /-- DMA_ACCESS_TIMEOUT (R298). -/
  | dmaAccessTimeout (d : Fin 128) (addr : Nat)
  /-- DMA_RETRY (R298). -/
  | dmaRetry (d : Fin 128) (ok : Bool)
  /-- DMA_STOP (R300). -/
  | dmaStop (d : Fin 128)
  /-- DMA_RESUME (R299). -/
  | dmaResume (d : Fin 128)
  /-- KWEAL_FRAME_RECEIVE (R314). -/
  | kwealFrameReceive (a : Arrival)
  /-- REG_RD (R405). -/
  | regRd (session : Fin 32) (seq : Word) (tag : Word) (addr : Nat) (count : Nat)
  /-- REG_WR (R407). -/
  | regWr (session : Fin 32) (seq : Word) (tag : Word) (addr : Nat) (words : List Word)
  /-- REGISTER_WRITE (R5). -/
  | registerWrite (writer : Fin 33) (addr : Nat) (w : Word)
  /-- DOORBELL_FRAME (R313). -/
  | doorbellFrame (session : Fin 32) (seq : Word) (tag : Word) (entries : List (Fin 65536 × Word))
  /-- BULK_PUT (R317). -/
  | bulkPut (session : Fin 32) (seq : Word) (f : BulkFrag)
  /-- BULK_GET (R317). -/
  | bulkGet (session : Fin 32) (seq : Word) (f : BulkFrag)
  /-- KWEAL_ACK (R316). -/
  | kwealAck (link : Nat) (ack : Word) (window : Fin 65536)
  /-- KWEAL_NAK (R313). -/
  | kwealNak (link : Nat) (seq : Word) (reason : Fin 65536)
  /-- RESYNC (R320). -/
  | resync (session : Fin 32) (seq : Word) (tag : Word) (mode : Byte)
  /-- DELAYED_ACK (R316). -/
  | delayedAck (link : Nat)
  /-- KWEAL_RETRANSMIT (R316). -/
  | kwealRetransmit (link : Nat)
  /-- SESSION_KEEPALIVE_EXPIRE (R318). -/
  | sessionKeepaliveExpire (session : Fin 32)
  /-- EVENT_SEND (R322). -/
  | eventSend
  /-- STREAM_RESERVE (R310). -/
  | streamReserve (n : Fin 128) (w : Word)
  /-- RVF_SEND (R311). -/
  | rvfSend (q : Fin 16384)
  /-- PUSH_SEND (R319). -/
  | pushSend (q : Fin 16384)
  /-- PEER_PUT (R326). -/
  | peerPut (session : Fin 32) (seq : Word) (f : BulkFrag)
  /-- BARRIER (R326). -/
  | barrier (session : Fin 32) (step : Word)
  /-- PEER_KEEPALIVE (R325). -/
  | peerKeepalive (session : Fin 32)
  /-- PEER_LOST (R325). -/
  | peerLost (session : Fin 32)
  /-- GROUP_REJOIN (R367). -/
  | groupRejoin (g : Fin 16)
  /-- ETH_LINK_CHANGE (R306). -/
  | ethLinkChange (n : Fin 4) (up : Bool) (speed : Fin 8) (master : Bool)
  /-- NETWORK_ADMIN_FRAME (R306). -/
  | networkAdminFrame (n : Fin 4) (kind : AdminKind) (verified : Bool)
  /-- GPTP_MESSAGE (R309). -/
  | gptpMessage (n : Fin 4) (m : GptpMsg) (verified : Bool)
  /-- HELLO (R336). -/
  | hello (n : Fin 4) (src : Nat) (m : HelloMsg)
  /-- QUOTE (R336). -/
  | quote (src : Nat) (m : QuoteMsg)
  /-- CERTS (R336). -/
  | certs (link : Nat)
  /-- KEM_AUTH (R337). -/
  | kemAuth (src : Nat) (m : KemAuthMsg)
  /-- QUOTE_REQ (R336). -/
  | quoteReq (session : Fin 32) (tag : Word) (nonce : BitVec 256)
  /-- REKEY (R339). -/
  | rekey (session : Fin 32) (m : RekeyMsg)
  /-- REKEY_ACK (R339). -/
  | rekeyAck (session : Fin 32) (port : Fin 256) (an : Fin 256)
  /-- PN_THRESHOLD (R339). -/
  | pnThreshold (n : Fin 4)
  /-- SCI_ADD (R338). -/
  | sciAdd (session : Fin 32) (sci : BitVec 64) (port : Fin 256)
  /-- ENROLL (R334). -/
  | enroll (session : Fin 32) (m : EnrollMsg)
  /-- RELEASE_OWNER (R334). -/
  | releaseOwner (session : Fin 32) (genuine : Bool)
  /-- OWNER_BURN_DONE (R334). -/
  | ownerBurnDone
  /-- KEYS (R332). -/
  | keys (session : Fin 32) (hashes : List Nat)
  /-- BOOT_DATA (R331). -/
  | bootData (off : Word) (total : Word) (data : List Byte)
  /-- ROLLBACK_ADVANCE (R333). -/
  | rollbackAdvance (w : Word)
  /-- ROLLBACK_DONE (R333). -/
  | rollbackDone
  /-- FREEZE_RELEASE (R343). -/
  | freezeRelease (w : Word)
  /-- HOST_JOB_RESTART (R354). -/
  | hostJobRestart (w : Word)
  /-- JOB_RESTART_READY (R355). -/
  | jobRestartReady (j : Fin 8)
  /-- PROGRESS_CHECK (R346). -/
  | progressCheck
  /-- EVENT_CLEAR (R400). -/
  | eventClear (page : Fin 4096) (w : Word)
  /-- EVENT_MASK_WRITE (R401). -/
  | eventMaskWrite (page : Fin 4096) (w : Word)
  /-- EVENT_SET (R401). -/
  | eventSet (page : Fin 4096) (w : Word)
  /-- PORST_N_ASSERT (R419). -/
  | porstNAssert
  /-- WARM_N_RELEASE (R420). -/
  | warmNRelease
  /-- CRYSTAL_START (R418). -/
  | crystalStart
  /-- LINK_TRANSFER_ERROR (R298). -/
  | linkTransferError (d : Fin 128) (addr : Nat)
  /-- SCALAR_CORE_MISMATCH (R346). -/
  | scalarCoreMismatch (e : Fin 6)
  /-- FINISH (R336). -/
  | finish (src : Nat) (m : FinishMsg)
  /-- GIVE_UP_COMPLETE (R343). -/
  | giveUpComplete (master : Fin 256)
  /-- ETH_PORT_CFG_WRITE (R327). -/
  | ethPortCfgWrite (n : Fin 4) (w : Word)
  deriving DecidableEq, Repr

end Sys2Proof
end

