-- ==== Sys2Proof/Machine/Bits.lean ====
section
/-! DEFINITION. Bit fields of words, little-endian byte order and saturating counts. -/

namespace Sys2Proof.Machine

/-- The field of `w` bits at `lo`, as a number. -/
def fld (x : Word) (lo w : Nat) : Nat := x.toNat / 2 ^ lo % 2 ^ w

/-- One bit of a word. -/
def bitAt (x : Word) (n : Nat) : Bool := x.toNat.testBit n

/-- The word with `w` bits at `lo` replaced by the low bits of `v`. -/
def putFld (x : Word) (lo w v : Nat) : Word :=
  BitVec.ofNat 32 (x.toNat - fld x lo w * 2 ^ lo + v % 2 ^ w * 2 ^ lo)

/-- A Bool as a bit. -/
def b2n (b : Bool) : Nat := if b then 1 else 0

/-- A count of `w` bits that saturates at its largest value (R5, R61 and every chapter's counters). -/
def satAdd (w a b : Nat) : Nat := min (a + b) (2 ^ w - 1)

/-- `n` bytes of `v`, the least significant first. -/
def leBytes : Nat → Nat → List Byte
  | 0, _ => []
  | n + 1, v => BitVec.ofNat 8 v :: leBytes n (v / 256)

/-- The number that little-endian bytes spell. -/
def leNat : List Byte → Nat
  | [] => 0
  | b :: bs => b.toNat + 256 * leNat bs

/-- The little-endian number of `n` bytes at offset `o` of a byte string; missing bytes count as zero. -/
def leAt (bs : List Byte) (o n : Nat) : Nat := leNat ((bs.drop o).take n)

/-- `n` in two's complement of `w` bits, as an integer. -/
def sext (w n : Nat) : Int := if n % 2 ^ w < 2 ^ (w - 1) then (n % 2 ^ w : Nat) else (n % 2 ^ w : Nat) - (2 ^ w : Nat)

/-- Ceiling of a quotient; 0 when the divisor is 0. -/
def cdiv (a b : Nat) : Nat := (a + b - 1) / b

/-- `a` rounded up to a multiple of `b`. -/
def alignUp (a b : Nat) : Nat := cdiv a b * b

/-- Distance from `c` to `v` modulo 2^32 (R289). -/
def seqDist (v c : Nat) : Nat := (v + 2 ^ 32 - c % 2 ^ 32) % 2 ^ 32

/-- `v` is ahead of `c` (R289). -/
def seqAhead (v c : Nat) : Bool := decide (1 ≤ seqDist v c) && decide (seqDist v c < 2 ^ 31)

/-- The first `n` numbers whose bit of `m` is 1. -/
def bitsOf (n m : Nat) : List Nat := (List.range n).filter fun i => m.testBit i

/-- The output extent of R165, 0 when it is below 1. -/
def outExtent (n k s d p : Nat) : Nat := ((((n : Int) + 2 * p - d * ((k : Int) - 1) - 1).fdiv (max s 1 : Nat)) + 1).toNat

end Sys2Proof.Machine
end

