-- ==== Sys2Proof/Machine/RegTable.lean ====
section
/-! DEFINITION. The register pages (R399, Table 19-2) and the words of every register table of the spec: per word its
reset value and which bits software sets (RW), clears by 1 (W1C), clears by reading (RC) or triggers with (WO, W1S). -/

namespace Sys2Proof.Machine

/-- The kinds of register page of Table 19-2. -/
inductive PageKind where
  | sup0 | sup4 | pmu | sec | flt | logWindow | cam | rfe | rfeStream | rfeCurve | stat
  | eng0 | eng1 | eng2 | dmem | imem | smem0 | smem1 | acc | drc | drcCh | cal | qm | dbWindow
  | dma | dmaCh | net | netStream | netSession | ofm | ofmStream | crs | crsStream | reserved | unmapped
  deriving DecidableEq, Repr

/-- One register word, or `count` of them `stride` bytes apart: offset, reset value, and the masks of its RW, RC,
W1C and trigger (WO, W1S) bits (R5). -/
structure RegRow where
  off : Nat
  stride : Nat
  count : Nat
  rst : Nat
  rw : Nat
  rc : Nat
  w1c : Nat
  act : Nat
  deriving DecidableEq, Repr

/-- Page index of a device address of the register pages. -/
def pageIndex (a : Nat) : Nat := a / 4096

/-- The kind of the page at an index, and its number among the pages of the kind (R399, Table 19-2). -/
def pageOf (i : Nat) : PageKind × Nat :=
  if i = 0 then (.sup0, 0) else if i = 4 then (.sup4, 0) else if i ≤ 0x00F then (.reserved, 0)
  else if i = 0x010 then (.pmu, 0) else if i ≤ 0x01F then (.reserved, 0)
  else if i = 0x020 then (.sec, 0) else if i ≤ 0x02F then (.reserved, 0)
  else if i = 0x030 then (.flt, 0) else if i ≤ 0x03F then (.reserved, 0)
  else if i ≤ 0x07F then (.logWindow, i - 0x040)
  else if i < 0x100 then (.unmapped, 0)
  else if i ≤ 0x10F then (.cam, i - 0x100)
  else if i < 0x140 then (.unmapped, 0)
  else if i = 0x140 then (.rfe, 0) else if i ≤ 0x142 then (.rfeStream, i - 0x141)
  else if i ≤ 0x144 then (.rfeCurve, i - 0x143) else if i ≤ 0x14F then (.reserved, 0)
  else if i = 0x150 then (.stat, 0)
  else if i < 0x200 then (.unmapped, 0)
  else if i < 0x2C0 then
    let e := (i - 0x200) / 0x20
    let q := (i - 0x200) % 0x20
    if q = 0 then (.eng0, e) else if q = 1 then (.eng1, e) else if q = 2 then (.eng2, e)
    else if q < 8 then (.reserved, e) else if q < 16 then (.dmem, 8 * e + (q - 8)) else (.imem, 16 * e + (q - 16))
  else if i < 0x300 then (.unmapped, 0)
  else if i < 0x360 then
    let t := (i - 0x300) / 0x10
    let q := (i - 0x300) % 0x10
    if q = 0 then (.smem0, t) else if q = 1 then (.smem1, t) else (.reserved, t)
  else if i < 0x380 then (.unmapped, 0)
  else if i < 0x386 then (.acc, i - 0x380)
  else if i < 0x400 then (.unmapped, 0)
  else if i = 0x400 then (.drc, 0) else if i ≤ 0x420 then (.drcCh, i - 0x401) else if i < 0x440 then (.reserved, 0)
  else if i = 0x480 then (.cal, 0)
  else if i = 0x500 then (.qm, 0) else if 0x500 < i ∧ i < 0x510 then (.reserved, 0)
  else if 0x510 ≤ i ∧ i < 0x520 then (.dbWindow, i - 0x510)
  else if i = 0x600 then (.dma, 0) else if i = 0x601 ∨ i = 0x602 then (.dmaCh, i - 0x601)
  else if i = 0x700 then (.net, 0) else if i = 0x701 then (.netStream, 0) else if i = 0x702 then (.netSession, 0)
  else if i = 0x800 then (.ofm, 0) else if i = 0x801 then (.ofmStream, 0)
  else if i = 0x880 then (.crs, 0) else if i = 0x881 then (.crsStream, 0)
  else (.unmapped, 0)

/-- The ID type of a header page (Table 19-2); none for a page without the common header. -/
def idType : PageKind → Option Nat
  | .sup0 | .sup4 => some 0x0001
  | .pmu => some 0x0002
  | .sec => some 0x0003
  | .flt => some 0x0004
  | .cam => some 0x0010
  | .rfe => some 0x0011
  | .stat => some 0x0012
  | .eng0 | .eng1 | .eng2 => some 0x0020
  | .smem0 | .smem1 => some 0x0021
  | .acc => some 0x0022
  | .drc | .drcCh => some 0x0030
  | .cal => some 0x0031
  | .qm => some 0x0040
  | .dma => some 0x0041
  | .net => some 0x0050
  | .ofm => some 0x0060
  | .crs => some 0x0061
  | _ => none

/-- The event bits that a page's event table defines (R400). -/
def eventCount : PageKind → Nat
  | .cam => 10 | .rfe => 3 | .eng0 => 10 | .acc => 1 | .smem0 => 10 | .crs => 4 | .sup4 => 4 | .drc => 8 | .cal => 6
  | .qm => 6 | .dma => 5 | .net => 7 | .sec => 6 | .flt => 8 | .pmu => 9 | _ => 0

/-- SUP page 0 (Tables 01-5 to 01-8, 19-5). -/
def rowsSup0 : List RegRow := [
  ⟨0x100, 0, 1, 0x44881066, 0, 0, 0, 0⟩,
  ⟨0x104, 0, 1, 0x80804000, 0, 0, 0, 0⟩,
  ⟨0x108, 0, 1, 0x442008, 0, 0, 0, 0⟩,
  ⟨0x10C, 0, 1, 0xFFFFFFF, 0, 0, 0, 0⟩,
  ⟨0x110, 0, 1, 0, 0, 0, 0, 0⟩,
  ⟨0x114, 0, 1, 0, 0, 0, 0, 0⟩,
  ⟨0x118, 0, 1, 0, 0, 0, 0, 0⟩,
  ⟨0x11C, 0, 1, 0, 0, 0, 0, 0⟩]

/-- CAMp (Tables 03-5 to 03-14). -/
def rowsCam : List RegRow := [
  ⟨8, 0, 1, 0, 1, 0, 0, 0⟩,
  ⟨0xC, 0, 1, 0, 0, 0, 0, 0⟩,
  ⟨0x100, 0, 1, 0x60000, 0x37FF0F, 0, 0, 0⟩,
  ⟨0x104, 0, 1, 0, 0, 0xFFFFFFFF, 0, 0⟩,
  ⟨0x108, 0, 1, 0, 0, 0xFFFFFFFF, 0, 0⟩,
  ⟨0x10C, 0, 1, 0, 0, 0xFFFFFFFF, 0, 0⟩,
  ⟨0x120, 0x20, 4, 0x2C00, 0x7FFF, 0, 0, 0⟩,
  ⟨0x124, 0x20, 4, 0, 0x3FFF3FFF, 0, 0, 0⟩,
  ⟨0x128, 0x20, 4, 0xFE502B, 0xFFFFFFFF, 0, 0, 0⟩,
  ⟨0x12C, 0x20, 4, 0, 0, 0xFFFFFFFF, 0, 0⟩,
  ⟨0x130, 0x20, 4, 0, 0, 0xFFFFFFFF, 0, 0⟩,
  ⟨0x1C0, 0, 1, 0, 7, 0, 0, 0⟩,
  ⟨0x1C4, 0, 1, 0xFE502B, 0xFFFFFFFF, 0, 0, 0⟩,
  ⟨0x1C8, 0, 1, 0x3E8, 0xFFFF, 0, 0, 0⟩,
  ⟨0x1CC, 0, 1, 0, 0xFFFFF, 0, 0, 0⟩,
  ⟨0x1D0, 0, 1, 0, 0xFFFFFFFF, 0, 0, 0⟩,
  ⟨0x1D4, 0, 1, 0, 0xFFFFFFFF, 0, 0, 0⟩,
  ⟨0x200, 0, 1, 0, 0x601F1FFF, 0, 0, 0x80000000⟩,
  ⟨0x204, 0, 1, 0, 0x7F, 0, 0, 0⟩,
  ⟨0x208, 0, 1, 0, 0, 0, 0x3E, 0⟩,
  ⟨0x210, 4, 4, 0, 0xFFFFFFFF, 0, 0, 0⟩]

/-- RFE stream blocks (Table 04-5). -/
def rowsRfeStream : List RegRow := [
  ⟨0, 0x80, 32, 0, 0x1FFF7, 0, 0, 0⟩,
  ⟨4, 0x80, 32, 0xFFFFFF, 0xFFFFFF, 0, 0, 0⟩,
  ⟨8, 0x80, 32, 0, 0xFFFFFFFF, 0, 0, 0⟩,
  ⟨0xC, 0x80, 32, 0, 0xFFFFFFFF, 0, 0, 0⟩,
  ⟨0x10, 0x80, 32, 0, 0xFFFFFFFF, 0, 0, 0⟩,
  ⟨0x14, 0x80, 32, 0x39800000, 0xFFFFFFFF, 0, 0, 0⟩,
  ⟨0x18, 0x80, 32, 0, 0xFFFFFFFF, 0, 0, 0⟩,
  ⟨0x1C, 0x80, 32, 0x39800000, 0xFFFFFFFF, 0, 0, 0⟩,
  ⟨0x20, 0x80, 32, 0, 0xFFFFFFFF, 0, 0, 0⟩,
  ⟨0x24, 0x80, 32, 0x39800000, 0xFFFFFFFF, 0, 0, 0⟩,
  ⟨0x28, 0x80, 32, 0, 0xFFFFFFFF, 0, 0, 0⟩,
  ⟨0x40, 0x80, 32, 0, 0x1FFFFFFF, 0, 0, 0⟩,
  ⟨0x44, 0x80, 32, 0, 0x1FFFFFFF, 0, 0, 0⟩,
  ⟨0x48, 0x80, 32, 0, 0x1FFFFFFF, 0, 0, 0⟩,
  ⟨0x4C, 0x80, 32, 0, 0x1FFFFFFF, 0, 0, 0⟩,
  ⟨0x50, 0x80, 32, 0, 0x1FFFFFFF, 0, 0, 0⟩,
  ⟨0x54, 0x80, 32, 0, 0x1FFFFFFF, 0, 0, 0⟩,
  ⟨0x58, 0x80, 32, 0, 0x1FFFFFFF, 0, 0, 0⟩,
  ⟨0x5C, 0x80, 32, 0, 0x1FFFFFFF, 0, 0, 0⟩,
  ⟨0x60, 0x80, 32, 0, 0x1FFFFFFF, 0, 0, 0⟩,
  ⟨0x64, 0x80, 32, 0, 0x1FFFFFFF, 0, 0, 0⟩,
  ⟨0x68, 0x80, 32, 0, 0x1FFFFFFF, 0, 0, 0⟩,
  ⟨0x6C, 0x80, 32, 0, 0x1FFFFFFF, 0, 0, 0⟩,
  ⟨0x70, 0x80, 32, 0, 0x1FFFFFFF, 0, 0, 0⟩,
  ⟨0x74, 0x80, 32, 0, 0x1FFFFFFF, 0, 0, 0⟩,
  ⟨0x78, 0x80, 32, 0, 0x1FFFFFFF, 0, 0, 0⟩,
  ⟨0x7C, 0x80, 32, 0, 0x1FFFFFFF, 0, 0, 0⟩]

/-- RFE (Table 04-6). -/
def rowsRfe : List RegRow := [
  ⟨0x30, 0, 1, 0, 0, 0, 0, 0⟩,
  ⟨0x34, 0, 1, 0, 0, 0, 0, 0xFFFF⟩,
  ⟨0x100, 0, 1, 0, 0xFFFFFFFF, 0, 0, 0⟩,
  ⟨0x104, 0, 1, 0, 0xFFFFFFFF, 0, 0, 0⟩,
  ⟨0x108, 0, 1, 0, 0, 0, 0, 0⟩,
  ⟨0x10C, 0, 1, 0, 0, 0, 0, 0⟩,
  ⟨0x200, 4, 32, 0, 0, 0, 0, 0⟩]

/-- ENGe page 0 (Tables 05-9 to 05-15). -/
def rowsEng0 : List RegRow := [
  ⟨4, 0, 1, 0x70100848, 0, 0, 0, 0⟩,
  ⟨8, 0, 1, 0x40, 0xF1, 0, 0, 2⟩,
  ⟨0xC, 0, 1, 0, 0, 0, 0, 0⟩,
  ⟨0x24, 0, 1, 0, 0, 0, 0, 0⟩,
  ⟨0x100, 0, 1, 0, 0, 0, 0, 0⟩,
  ⟨0x104, 0, 1, 0, 0, 0xFFFF0000, 0, 0⟩,
  ⟨0x108, 0, 1, 0, 0, 0, 0, 0⟩,
  ⟨0x110, 0, 1, 0, 0, 0, 0, 0⟩,
  ⟨0x114, 0, 1, 0, 0, 0xFFFFFFFF, 0, 0⟩,
  ⟨0x118, 0, 1, 0, 0, 0xFFFF, 0, 0⟩,
  ⟨0x11C, 0, 1, 0, 0, 0, 0, 1⟩,
  ⟨0x120, 0, 1, 0, 2, 0, 0, 1⟩]

/-- ACCe (Table 05-16). -/
def rowsAcc : List RegRow := [
  ⟨4, 0, 1, 8, 0, 0, 0, 0⟩,
  ⟨0xC, 0, 1, 0, 0, 0, 0, 0⟩,
  ⟨0x20, 0, 1, 0, 0, 0xFFFF, 0, 0⟩,
  ⟨0x28, 0, 1, 0, 0, 0, 0, 0⟩]

/-- SMEMt page 0 (Tables 07-8 to 07-13). -/
def rowsSmem0 : List RegRow := [
  ⟨4, 0, 1, 0x30044020, 0, 0, 0, 0⟩,
  ⟨8, 0, 1, 0x1001, 0xFF01, 0, 0, 0⟩,
  ⟨0xC, 0, 1, 0xFF, 0, 0, 0, 0⟩,
  ⟨0x20, 0, 1, 0, 0, 0xFFFFFFFF, 0, 0⟩,
  ⟨0x24, 0, 1, 0, 0, 0, 0, 0⟩,
  ⟨0x28, 0, 1, 0, 0, 0, 0, 0⟩,
  ⟨0x2C, 0, 1, 0, 0, 0, 0, 0⟩,
  ⟨0x100, 0, 1, 0, 0xFFFF, 0, 0, 0⟩,
  ⟨0x104, 0, 1, 0, 0, 0, 0, 0⟩,
  ⟨0x108, 0, 1, 0, 0, 0, 0, 0⟩,
  ⟨0x10C, 0, 1, 0, 0, 0xFF000000, 0, 0⟩,
  ⟨0x110, 0, 1, 0, 0, 0xFFFFFFFF, 0, 0⟩,
  ⟨0x114, 0, 1, 0, 0, 0xFFFFFFFF, 0, 0⟩,
  ⟨0x140, 4, 32, 0, 0, 0xFFFFFFFF, 0, 0⟩]

/-- SMEMt page 1 (Table 07-14). -/
def rowsSmem1 : List RegRow := [
  ⟨0x100, 0x10, 32, 0, 0, 0, 0, 0⟩,
  ⟨0x104, 0x10, 32, 0, 0, 0, 0, 0⟩,
  ⟨0x108, 0x10, 32, 0, 0, 0, 0, 0⟩,
  ⟨0x10C, 0x10, 32, 0, 0, 0, 0, 0⟩]

/-- OFM stream blocks (Table 08-11). -/
def rowsOfmStream : List RegRow := [
  ⟨0, 0x40, 64, 0x100, 0x1F7F7, 0, 0, 0⟩,
  ⟨4, 0x40, 64, 0, 0xFF, 0, 0, 0⟩,
  ⟨8, 0x40, 64, 0x42FE0000, 0xFFFFFFFF, 0, 0, 0⟩,
  ⟨0xC, 0x40, 64, 0, 0xFFFFFFFF, 0, 0, 0⟩,
  ⟨0x10, 0x40, 64, 0, 0xFFFFFFFF, 0, 0, 0⟩,
  ⟨0x14, 0x40, 64, 0, 0xFFFFFFFF, 0, 0, 0⟩,
  ⟨0x18, 0x40, 64, 0x3F800000, 0xFFFFFFFF, 0, 0, 0⟩,
  ⟨0x1C, 0x40, 64, 0x3F800000, 0xFFFFFFFF, 0, 0, 0⟩,
  ⟨0x20, 0x40, 64, 0x3F800000, 0xFFFFFFFF, 0, 0, 0⟩]

/-- CRS stream blocks (Table 08-12). -/
def rowsCrsStream : List RegRow := [
  ⟨0, 0x10, 64, 0, 3, 0, 0, 0⟩,
  ⟨4, 0x10, 64, 0x42FE0000, 0xFFFFFFFF, 0, 0, 0⟩,
  ⟨8, 0x10, 64, 0, 0xFF, 0, 0, 0⟩]

/-- CRS (Table 08-12). -/
def rowsCrs : List RegRow := [
  ⟨0x24, 0, 1, 0, 0, 0, 0, 0⟩,
  ⟨0x100, 0, 1, 0, 0, 0xFFFFFFFF, 0, 0⟩,
  ⟨0x104, 0, 1, 0, 0, 0xFFFFFFFF, 0, 0⟩,
  ⟨0x108, 0, 1, 0, 0, 0, 0, 0⟩]

/-- SUP page 4 (Tables 10-7 to 10-10). -/
def rowsSup4 : List RegRow := [
  ⟨0xC, 0, 1, 0, 0, 0, 0, 0⟩,
  ⟨0x24, 0, 1, 0, 0, 0, 0, 0⟩,
  ⟨0x100, 0, 1, 0, 0, 0, 0, 0⟩,
  ⟨0x104, 0, 1, 0, 0, 0xFF, 0, 0⟩,
  ⟨0x120, 0, 1, 0, 0xFFFFF, 0, 0, 0⟩,
  ⟨0x124, 0, 1, 0, 0, 0xFFFFFFFF, 0, 0⟩,
  ⟨0x128, 0, 1, 0, 0, 0xFFFFFFFF, 0, 0⟩,
  ⟨0x140, 0, 1, 0x1000, 0, 0, 0, 0⟩,
  ⟨0x144, 0, 1, 0x1800, 0, 0, 0, 0⟩,
  ⟨0x148, 0, 1, 0, 0, 0, 0, 0⟩,
  ⟨0x14C, 0, 1, 0, 0, 0, 0, 0⟩,
  ⟨0x200, 4, 64, 0, 0, 0xFFFFFFFF, 0, 0⟩,
  ⟨0x300, 4, 8, 0, 0, 0xFFFF, 0, 0⟩]

/-- DRC (Tables 11-8 to 11-11). -/
def rowsDrc : List RegRow := [
  ⟨4, 0, 1, 0x441080, 0, 0, 0, 0⟩,
  ⟨8, 0, 1, 3, 3, 0, 0, 0⟩,
  ⟨0xC, 0, 1, 0, 0, 0, 0, 0⟩,
  ⟨0x20, 0, 1, 0, 0, 0xFFFFFFFF, 0, 0⟩,
  ⟨0x24, 0, 1, 0, 0, 0, 0, 0⟩,
  ⟨0x28, 0, 1, 0, 0, 0, 0, 0⟩,
  ⟨0x2C, 0, 1, 0, 0, 0, 0, 0⟩,
  ⟨0x100, 0, 1, 0x3C, 0x7FF, 0, 0, 0⟩,
  ⟨0x104, 0, 1, 0, 0, 0xFF000000, 0, 0⟩,
  ⟨0x108, 0, 1, 0x42003E8, 0xFFFFFFF, 0, 0, 0⟩,
  ⟨0x10C, 0, 1, 0, 0, 0xFFFFFFFF, 0, 0⟩,
  ⟨0x110, 0, 1, 0, 0xF, 0, 0, 0⟩,
  ⟨0x120, 0, 1, 0, 0, 0, 0, 0x7FFFFF⟩,
  ⟨0x124, 0, 1, 0x4000000, 0, 0, 0, 1⟩,
  ⟨0x128, 0, 1, 0, 0x3FFFF, 0, 0, 0⟩,
  ⟨0x12C, 0, 1, 0, 0, 0, 0, 0⟩,
  ⟨0x130, 0, 1, 0, 0, 0, 0, 0⟩,
  ⟨0x134, 0, 1, 0, 0, 0, 0, 0⟩,
  ⟨0x138, 0, 1, 0, 0xFFFFFFFF, 0, 0, 0⟩,
  ⟨0x13C, 0, 1, 0, 0xFFFF, 0, 0, 0⟩,
  ⟨0x140, 0, 1, 0, 0, 0, 0, 1⟩,
  ⟨0x200, 0x10, 16, 0, 0, 0, 0, 0⟩,
  ⟨0x204, 0x10, 16, 0, 0, 0, 0, 0⟩,
  ⟨0x208, 0x10, 16, 0, 0, 0, 0, 0⟩,
  ⟨0x20C, 0x10, 16, 0, 0, 0, 0, 0⟩]

/-- DRC channel blocks (Table 11-12). -/
def rowsDrcCh : List RegRow := [
  ⟨0x100, 0x100, 4, 0, 0, 0xFFFFFFFF, 0, 0⟩,
  ⟨0x104, 0x100, 4, 0, 0, 0xFFFFFF, 0, 0⟩,
  ⟨0x110, 0x100, 4, 0, 0, 0, 0, 0⟩,
  ⟨0x114, 0x100, 4, 0, 0, 0, 0, 0⟩,
  ⟨0x118, 0x100, 4, 0, 0, 0, 0, 0⟩,
  ⟨0x11C, 0x100, 4, 0, 0, 0, 0, 0⟩,
  ⟨0x120, 0x100, 4, 0, 0, 0, 0, 0⟩,
  ⟨0x124, 0x100, 4, 0, 0, 0, 0, 0⟩,
  ⟨0x128, 0x100, 4, 0, 0, 0, 0, 0⟩,
  ⟨0x12C, 0x100, 4, 0, 0, 0, 0, 0⟩,
  ⟨0x130, 0x100, 4, 0, 0, 0, 0, 0⟩,
  ⟨0x134, 0x100, 4, 0, 0, 0, 0, 0⟩,
  ⟨0x138, 0x100, 4, 0, 0, 0, 0, 0⟩,
  ⟨0x13C, 0x100, 4, 0, 0, 0, 0, 0⟩,
  ⟨0x140, 0x100, 4, 0, 0, 0, 0, 0⟩,
  ⟨0x144, 0x100, 4, 0, 0, 0, 0, 0⟩,
  ⟨0x148, 0x100, 4, 0, 0, 0, 0, 0⟩,
  ⟨0x14C, 0x100, 4, 0, 0, 0, 0, 0⟩]

/-- CAL (Tables 12-5, 12-6). -/
def rowsCal : List RegRow := [
  ⟨4, 0, 1, 0x248, 0, 0, 0, 0⟩,
  ⟨8, 0, 1, 0x81, 0xF1, 0, 0, 0⟩,
  ⟨0xC, 0, 1, 0, 0, 0, 0, 0⟩,
  ⟨0x20, 0, 1, 0, 0, 0xFFFFFFFF, 0, 0⟩,
  ⟨0x24, 0, 1, 0, 0, 0, 0, 0⟩,
  ⟨0x100, 0, 1, 0, 0xFFFFFFFF, 0, 0, 0⟩,
  ⟨0x104, 0, 1, 0, 0xFFFF, 0, 0, 0⟩,
  ⟨0x108, 0, 1, 0, 0, 0, 0, 1⟩,
  ⟨0x10C, 0, 1, 0, 0, 0, 0, 0⟩,
  ⟨0x110, 0, 1, 0, 0x7FFF, 0, 0, 0⟩,
  ⟨0x114, 0, 1, 0, 0, 0, 0, 0⟩,
  ⟨0x118, 0, 1, 0, 0, 0, 0, 0⟩,
  ⟨0x11C, 0, 1, 0, 0, 0xFFFFFFFF, 0, 0⟩]

/-- QM (Tables 13-8, 13-9). -/
def rowsQm : List RegRow := [
  ⟨4, 0, 1, 0x104000, 0, 0, 0, 0⟩,
  ⟨8, 0, 1, 1, 1, 0, 0, 0⟩,
  ⟨0xC, 0, 1, 0, 0, 0, 0, 0⟩,
  ⟨0x20, 0, 1, 0, 0, 0xFFFFFFFF, 0, 0⟩,
  ⟨0x24, 0, 1, 0, 0, 0, 0, 0⟩,
  ⟨0x100, 0, 1, 0, 0, 0xFFFFFFFF, 0, 0⟩,
  ⟨0x104, 0, 1, 0, 0, 0xFFFF, 0, 0⟩,
  ⟨0x108, 0, 1, 0, 0, 0xFFFF, 0, 0⟩]

/-- DMA (Table 13-10). -/
def rowsDma : List RegRow := [
  ⟨4, 0, 1, 0x1A0080, 0, 0, 0, 0⟩,
  ⟨0xC, 0, 1, 0, 0, 0, 0, 0⟩,
  ⟨0x20, 0, 1, 0, 0, 0xFFFFFFFF, 0, 0⟩,
  ⟨0x24, 0, 1, 0, 0, 0, 0, 0⟩,
  ⟨0x28, 0, 1, 0, 0, 0, 0, 0⟩,
  ⟨0x2C, 0, 1, 0, 0, 0, 0, 0⟩,
  ⟨0x100, 4, 6, 0, 0, 0xFFFFFFFF, 0, 0⟩,
  ⟨0x120, 4, 6, 0, 0, 0xFFFFFFFF, 0, 0⟩]

/-- DMA channel blocks (Table 13-11). -/
def rowsDmaCh : List RegRow := [
  ⟨0, 0x40, 64, 0, 0, 0, 0, 3⟩,
  ⟨4, 0x40, 64, 0, 0, 0, 0, 0⟩,
  ⟨8, 0x40, 64, 0, 0, 0, 0, 0⟩,
  ⟨0xC, 0x40, 64, 0, 0, 0, 0, 0⟩,
  ⟨0x10, 0x40, 64, 0, 0, 0, 0, 0⟩,
  ⟨0x14, 0x40, 64, 0, 0, 0xFFFFFFFF, 0, 0⟩]

/-- NET (Tables 14-12, 14-13). -/
def rowsNet : List RegRow := [
  ⟨4, 0, 1, 0x20104, 0, 0, 0, 0⟩,
  ⟨8, 0, 1, 0xB8060003, 0xFFFF0003, 0, 0, 0⟩,
  ⟨0xC, 0, 1, 0, 0, 0, 0, 0⟩,
  ⟨0x24, 0, 1, 0, 0, 0, 0, 0⟩,
  ⟨0x100, 0, 1, 0, 0x8000001F, 0, 0, 0⟩,
  ⟨0x104, 0, 1, 0x800C8, 0xFFFFF, 0, 0, 0⟩,
  ⟨0x108, 0, 1, 0x3E8, 0xFFFF, 0, 0, 0⟩,
  ⟨0x10C, 0, 1, 0xDF8F8, 0xFFFFF, 0, 0, 0⟩,
  ⟨0x200, 0x40, 4, 0x88, 0xFF, 0, 0, 0⟩,
  ⟨0x204, 0x40, 4, 0, 0, 0, 0, 0⟩,
  ⟨0x208, 0x40, 4, 0, 0xFFFFFFFF, 0, 0, 0⟩,
  ⟨0x20C, 0x40, 4, 0, 0xFFFF, 0, 0, 0⟩,
  ⟨0x210, 0x40, 4, 0, 0xFFFFFFFF, 0, 0, 0⟩,
  ⟨0x214, 0x40, 4, 0, 0xFFFFFFFF, 0, 0, 0⟩,
  ⟨0x218, 0x40, 4, 0, 0xFFFFFFFF, 0, 0, 0⟩,
  ⟨0x21C, 0x40, 4, 0, 0xFFFFFFFF, 0, 0, 0⟩,
  ⟨0x220, 0x40, 4, 0, 0xFFFFFFFF, 0, 0, 0⟩,
  ⟨0x224, 0x40, 4, 0, 0, 0, 0, 0⟩,
  ⟨0x228, 0x40, 4, 0, 0, 0xFFFFFFFF, 0, 0⟩,
  ⟨0x22C, 0x40, 4, 0, 0, 0xFFFFFFFF, 0, 0⟩,
  ⟨0x230, 0x40, 4, 0, 0, 0xFFFFFFFF, 0, 0⟩]

/-- the stream table (Table 14-14). -/
def rowsNetStream : List RegRow := [
  ⟨0, 0x20, 128, 0x30020, 0x7FFFF, 0, 0, 0⟩,
  ⟨4, 0x20, 128, 0, 0xFFFFFFFF, 0, 0, 0⟩,
  ⟨8, 0x20, 128, 0, 0xFFFFFFFF, 0, 0, 0⟩,
  ⟨0xC, 0x20, 128, 0, 0xFFFFFFFF, 0, 0, 0⟩,
  ⟨0x10, 0x20, 128, 0, 0xFFFF, 0, 0, 0⟩,
  ⟨0x14, 0x20, 128, 0, 0xFF3FFF, 0, 0, 0⟩,
  ⟨0x18, 0x20, 128, 0, 0xFFFFFF, 0, 0, 0⟩,
  ⟨0x1C, 0x20, 128, 0, 0, 0, 0, 0⟩]

/-- the session table (Table 14-15). -/
def rowsNetSession : List RegRow := [
  ⟨0, 0x20, 32, 0, 0, 0, 0, 0⟩,
  ⟨4, 0x20, 32, 0, 0, 0, 0, 0⟩,
  ⟨8, 0x20, 32, 0, 0, 0, 0, 0⟩,
  ⟨0xC, 0x20, 32, 0, 0, 0, 0, 0⟩,
  ⟨0x10, 0x20, 32, 0, 0, 0xFFFF, 0, 0⟩,
  ⟨0x14, 0x20, 32, 0, 0, 0xFFFF, 0, 0⟩]

/-- SEC (Table 15-8 and its registers). -/
def rowsSec : List RegRow := [
  ⟨4, 0, 1, 0x8048, 0, 0, 0, 0⟩,
  ⟨0xC, 0, 1, 0, 0, 0, 0, 0⟩,
  ⟨0x20, 0, 1, 0, 0, 0xFFFFFFFF, 0, 0⟩,
  ⟨0x24, 0, 1, 0, 0, 0, 0, 0⟩,
  ⟨0x28, 0, 1, 0, 0, 0, 0, 0⟩,
  ⟨0x2C, 0, 1, 0, 0, 0, 0, 0⟩,
  ⟨0x100, 0, 1, 0, 0x1FF, 0, 0, 0x80000000⟩,
  ⟨0x104, 0, 1, 0, 0xFF, 0, 0, 0x80000000⟩,
  ⟨0x110, 4, 8, 0, 0, 0, 0, 0⟩,
  ⟨0x140, 4, 8, 0, 0, 0, 0, 0⟩,
  ⟨0x160, 4, 8, 0, 0, 0, 0, 0⟩]

/-- FLT (Table 16-8). -/
def rowsFlt : List RegRow := [
  ⟨4, 0, 1, 0x100, 0, 0, 0, 0⟩,
  ⟨8, 0, 1, 1, 1, 0, 0, 0⟩,
  ⟨0xC, 0, 1, 0, 0, 0, 0, 0⟩,
  ⟨0x20, 0, 1, 0, 0, 0xFFFFFFFF, 0, 0⟩,
  ⟨0x24, 0, 1, 0, 0, 0, 0, 0⟩,
  ⟨0x100, 0, 1, 0x3F3F, 0, 0, 0, 0⟩,
  ⟨0x104, 0, 1, 0, 0, 0, 0, 0⟩,
  ⟨0x108, 0, 1, 0, 7, 0, 0, 0x80000000⟩,
  ⟨0x10C, 0, 1, 0, 0, 0, 0, 0xFFFFFFFF⟩,
  ⟨0x110, 0, 1, 0x8000, 0, 0, 0, 0⟩,
  ⟨0x114, 0, 1, 0, 0, 0, 0, 0⟩,
  ⟨0x118, 0, 1, 0, 0, 0, 0, 0⟩,
  ⟨0x11C, 0, 1, 0, 0, 0, 0, 0⟩,
  ⟨0x200, 0x10, 64, 0, 0, 0, 0, 0⟩,
  ⟨0x204, 0x10, 64, 0, 0, 0, 0, 0⟩,
  ⟨0x208, 0x10, 64, 0, 0, 0, 0, 0⟩]

/-- PMU (Table 17-8). -/
def rowsPmu : List RegRow := [
  ⟨4, 0, 1, 0x254, 0, 0, 0, 0⟩,
  ⟨0xC, 0, 1, 0, 0, 0, 0, 0⟩,
  ⟨0x24, 0, 1, 0, 0, 0, 0, 0⟩,
  ⟨0x100, 0, 1, 0, 3, 0, 0, 0x80000000⟩,
  ⟨0x104, 0, 1, 0xFFFFF, 0, 0, 0, 0⟩,
  ⟨0x108, 0, 1, 0, 0, 0, 0, 0⟩,
  ⟨0x110, 0, 1, 0x56E665F, 0xFFFFFFF, 0, 0, 0⟩,
  ⟨0x114, 0, 1, 0x3E80064, 0xFFFFFFFF, 0, 0, 0⟩,
  ⟨0x118, 0, 1, 0, 0, 0xFF0000, 0, 0⟩,
  ⟨0x120, 4, 9, 0x800080, 0, 0, 0, 0⟩,
  ⟨0x144, 0, 1, 0, 0, 0xFFFF0000, 0, 0⟩,
  ⟨0x150, 0, 1, 0, 2, 0xFF000000, 0, 1⟩,
  ⟨0x160, 0, 1, 0, 0, 0, 0, 0⟩]

/-- STAT (Table 19-5). -/
def rowsStat : List RegRow := [
  ⟨4, 0, 1, 0x40, 0, 0, 0, 0⟩,
  ⟨0x100, 0, 1, 0, 0, 0xFFFFFFFF, 0, 0⟩,
  ⟨0x104, 0, 1, 0, 0, 0xFFFFFFFF, 0, 0⟩,
  ⟨0x108, 0, 1, 0, 0, 0xFFFFFFFF, 0, 0⟩]

/-- The register words of a page kind. -/
def regRows : PageKind → List RegRow
  | .sup0 => rowsSup0
  | .cam => rowsCam
  | .rfeStream => rowsRfeStream
  | .rfe => rowsRfe
  | .eng0 => rowsEng0
  | .acc => rowsAcc
  | .smem0 => rowsSmem0
  | .smem1 => rowsSmem1
  | .ofmStream => rowsOfmStream
  | .crsStream => rowsCrsStream
  | .crs => rowsCrs
  | .sup4 => rowsSup4
  | .drc => rowsDrc
  | .drcCh => rowsDrcCh
  | .cal => rowsCal
  | .qm => rowsQm
  | .dma => rowsDma
  | .dmaCh => rowsDmaCh
  | .net => rowsNet
  | .netStream => rowsNetStream
  | .netSession => rowsNetSession
  | .sec => rowsSec
  | .flt => rowsFlt
  | .pmu => rowsPmu
  | .stat => rowsStat
  | _ => []

/-- The row that covers an offset. -/
def findRow (o : Nat) : List RegRow → Option RegRow
  | [] => none
  | r :: rs =>
    if r.off ≤ o ∧ (if r.stride = 0 then o = r.off else (o - r.off) % r.stride = 0 ∧ (o - r.off) / r.stride < r.count)
    then some r else findRow o rs

/-- The row of the common page header (Table 19-3) at an offset of a header page, for what the block's own rows leave. -/
def headerRow (k : PageKind) (o : Nat) : RegRow :=
  if o = 0x010 then ⟨0x010, 0, 1, 0, 0, 0, 2 ^ eventCount k - 1, 0⟩
  else if o = 0x014 then ⟨0x014, 0, 1, 0, 2 ^ eventCount k - 1, 0, 0, 0⟩
  else if o = 0x01C then ⟨0x01C, 0, 1, 0, 0, 0, 0, 2 ^ eventCount k - 1⟩
  else ⟨o, 0, 1, 0, 0, 0, 0, 0⟩

/-- The access masks of the word at a device address; reserved words have none (R4). -/
def rowAt (a : Nat) : RegRow :=
  let k := (pageOf (pageIndex a)).1
  if k = .rfeCurve then ⟨a % 4096, 0, 1, 0, if a % 2048 < 1024 then 0x7FFF7FFF else if a % 2048 = 1024 then 0x7FFF else 0, 0, 0, 0⟩
  else match findRow (a % 4096) (regRows k) with
    | some r => r
    | none => headerRow k (a % 4096)

/-- The ID word of a header page (Table 19-3, R1). -/
def idWord (k : PageKind) (n : Nat) : Nat :=
  let inst := if k = .drcCh then n + 1 else n
  let ver := if k = .sup0 ∨ k = .sup4 then (if Config.revB1 then 0xB1 else 0xB0) else 0x01
  (idType k).getD 0 * 65536 + inst % 256 * 256 + ver

/-- Reset words that depend on the port, the slot or the fuses: PHY_CFG (Table 03-6), STREAMn_CFG.VC (Table 03-8), MAC
(Table 14-13), DEVICE_ID (Table 15-8), FW_VERSION (Table 19-5). -/
def specialReset (k : PageKind) (n o : Nat) : Nat :=
  if k = .cam then
    (if o = 0x100 then (if n < 8 then 0x0500 else 0x2801)
     else if 0x120 ≤ o ∧ o < 0x1A0 ∧ o % 0x20 = 0 then 2 * ((o - 0x120) / 0x20) else 0)
  else if k = .net ∧ 0x200 ≤ o ∧ o < 0x300 then
    (if o % 0x40 = 8 then (Config.fuseMac ((o - 0x200) / 0x40)).toNat % 2 ^ 32
     else if o % 0x40 = 12 then (Config.fuseMac ((o - 0x200) / 0x40)).toNat / 2 ^ 32 else 0)
  else if k = .sec ∧ 0x140 ≤ o ∧ o < 0x160 then Config.deviceId.toNat / 2 ^ (8 * (o - 0x140)) % 2 ^ 32
  else if k = .sup0 ∧ o = 0x110 then Config.fwVersionWord.toNat
  else 0

/-- The reset value of the word at a device address: the value of its table and what depends on port, slot or fuses. -/
def resetWord (a : Nat) : Word :=
  let p := pageOf (pageIndex a)
  let o := a % 4096
  if o = 0 ∧ (idType p.1).isSome then BitVec.ofNat 32 (idWord p.1 p.2)
  else BitVec.ofNat 32 ((rowAt a).rst + specialReset p.1 p.2 o)

end Sys2Proof.Machine
end

