-- ==== Sys2Proof/Machine/State.lean ====
section
/-! DEFINITION. The device's state, its reset value, and the two reasons a command can be turned away. -/

namespace Sys2Proof.Machine

open Sys2Proof

/-- The state of the device. Registers that mirror other state are computed from it when read (Regs.lean); every other
register field of the spec's tables lies in `regs`, keyed by device address. A map lists only what differs from its
default: slots, ports, engines and the like start as their `init`. -/
structure State where
  /-- Commands that wait, first in, first out. -/
  pending : List Instr
  /-- The model's own: how many free values have been drawn (log 2). -/
  free : Nat
  /-- What the device put on its wires, in order. -/
  out : List Wire
  clk : Clock
  pins : Pins
  /-- Register words by device address (R404); an unlisted word holds its reset value. -/
  regs : Sparse Word
  /-- LO words held until their HI word is written: session, address, value (R406). -/
  holds : List (Nat × Nat × Word)
  pwr : Pwr
  sup : Sup
  fuse : Fuse
  /-- Camera ports P0 to P15. -/
  cam : Sparse CamPort
  /-- Stream slots S0 to S63 at their ports. -/
  slots : Sparse Slot
  /-- Accepted commits of parameter sets (R77, R80). -/
  pset : PsetLog
  /-- Live parameter words by device address of their staging register (R76, R77). -/
  live : Sparse Word
  /-- Streams as the jobs know them. -/
  strms : Sparse Strm
  engines : Sparse Engine
  tiles : Sparse Tile
  sched : Sched
  /-- Boxes that the CRS admitted: time since power-on and count (R184). -/
  admits : List (Nat × Nat)
  /-- Job slots 0 to 7. -/
  jobs : Sparse (Option Job)
  /-- Resident images, at most 4. -/
  images : List Resident
  load : Option Load
  /-- Bytes of stripe memory and DRAM by device address; an unlisted byte is zero (R155, R246). -/
  mem : List Host.Cell
  dram : Dram
  cal : Cal
  queues : Sparse Queue
  channels : Sparse Channel
  net : Net
  sec : Sec
  flt : Flt
  deriving DecidableEq, Repr

/-- Reasons to stop with a fault: none. Everything the spec calls a fault is an effect on the state (R346). -/
inductive Fault where
  deriving DecidableEq, Repr

/-- Reasons to turn a command away. -/
inductive Refusal where
  /-- Raised by an arm of Dispatch that has no meaning yet; safe (nothing is claimed of it). -/
  | notModelled (mnemonic : String)
  /-- Raised by a meaning whose operands WellFormed excludes: no event of the spec has that form; safe. -/
  | illFormed (mnemonic : String)
  deriving DecidableEq, Repr

/-- The power management unit when PORST_N has risen: bring-up at step 0 (R382), PSTATE and DOMAINS as Table 17-8 gives
them at reset, sensors not yet sampled. -/
def Pwr.reset : Pwr :=
  { step := 0, booting := true, held := false, restored := false, failed := false, warm := false, bootStart := 0,
    bootMs := 0, state := .active, trans := none, wakeDue := false, dom := List.replicate 20 .on, switching := none,
    saved := [], temps := List.replicate 18 0x80, warned := false, tripped := false, heatShed := [], bist := none,
    waiting := false, source := 0, flash := .single }

/-- The supervisor before its firmware runs (R361: READY low). -/
def Sup.reset : Sup :=
  { running := false, restarting := false, lastMismatch := none, cmds := [], busy := [],
    result := List.replicate 20 0 }

/-- Fuses as the factory leaves them: no field repair burned, counters 0, no owner (log 5). -/
def Fuse.factory : Fuse :=
  { hard := [], fieldLeft := 1024, fw := 0, img := 0, slots := [], bootRevoked := [], takeovers := [] }

/-- The DRAM at power-on: every page INVALID (R246), nothing buffered, no error (log 5). -/
def Dram.reset : Dram :=
  { state := [], stored := [], flips := [], merge := [], cache := [], locks := [], buckets := [], rowErr := [],
    soft := [], retired := [], copies := [], importing := false, burning := none, scrubPage := 0, scrubSkip := [],
    selfRefresh := false, draining := false, hot := false, resp := [] }

/-- Calibration at power-on: lanes untrained (log 7), both gusset lanes in service, nothing under way. -/
def Cal.reset : Cal :=
  { lanes := [], gusset := [], visits := [], next := [], turned := [], cam := [], save := none, window := [],
    windowDone := false }

/-- The network unit at reset: links down, no session, no key, clock not locked. -/
def Net.reset : Net :=
  { ports := [], sessions := [], exchanges := [], avtp := [], reserved := [], video := [], events := [], lostEvents := 0, locked := false,
    grandmaster := false, groups := [] }

/-- The security engine at reset: no measurement, nothing frozen, no burn. -/
def Sec.reset : Sec :=
  { sblDigest := 0, fwDigest := 0, fwVersion := 0, netBoot := false, bootCopy := false, bootData := [], bootTotal := 0,
    imageKeys := [], frozen := [], givingUp := [], relPending := [], burn := none, nonceD := 0 }

/-- The fault and log unit at power-on: an empty retention log (Table 16-5), LAST_RESET 0. -/
def Flt.reset : Flt :=
  { deviceFault := false, standing := [], journal := [], head := 0x8000, seq := 0, replaced := false, lastReset := 0,
    warmCount := 0, due := [] }

/-- The device when PORST_N has risen, before the first bring-up step (R382): registers at the reset values of their
tables, pages INVALID, nothing resident. -/
def State.reset : State :=
  { pending := [], free := 0, out := [], clk := ⟨0, 0, 0, true, none⟩, pins := ⟨false, false, false, ⟨true, .idcode⟩⟩, regs := [],
    holds := [], pwr := Pwr.reset, sup := Sup.reset, fuse := Fuse.factory, cam := [], slots := [], pset := ⟨[], 0, 0⟩,
    live := [], strms := [], engines := [], tiles := [], sched := ⟨[], [], [], []⟩, admits := [], jobs := [], images := [], load := none,
    mem := [], dram := Dram.reset, cal := Cal.reset, queues := [], channels := [], net := Net.reset, sec := Sec.reset,
    flt := Flt.reset }

end Sys2Proof.Machine
end

