-- ==== Sys2Proof/Machine/Ops.lean ====
section
/-! DEFINITION. The named operations over the state: numbered objects, registers, counters, free values, memory bytes,
event bits with their records, causes, and the retention log. -/

namespace Sys2Proof.Machine

open Sys2Proof

/-! Numbered objects. -/

/-- Slot s at its port. -/
def State.slot (s : State) (i : Nat) : Slot := sget (fun _ => Slot.init) s.slots i

/-- Slot i replaced. -/
def State.setSlot (s : State) (i : Nat) (v : Slot) : State := { s with slots := sset (fun _ => Slot.init) s.slots i v }

/-- Camera port p. -/
def State.port (s : State) (p : Nat) : CamPort := sget (fun _ => CamPort.init) s.cam p

/-- Camera port p replaced. -/
def State.setPort (s : State) (p : Nat) (v : CamPort) : State := { s with cam := sset (fun _ => CamPort.init) s.cam p v }

/-- Stream i as the jobs know it. -/
def State.strm (s : State) (i : Nat) : Strm := sget (fun _ => Strm.init) s.strms i

/-- Stream i replaced. -/
def State.setStrm (s : State) (i : Nat) (v : Strm) : State := { s with strms := sset (fun _ => Strm.init) s.strms i v }

/-- Engine e. -/
def State.eng (s : State) (e : Nat) : Engine := sget (fun _ => Engine.init) s.engines e

/-- Engine e replaced. -/
def State.setEng (s : State) (e : Nat) (v : Engine) : State := { s with engines := sset (fun _ => Engine.init) s.engines e v }

/-- Tile t. -/
def State.tile (s : State) (t : Nat) : Tile := sget (fun _ => Tile.init) s.tiles t

/-- Tile t replaced. -/
def State.setTile (s : State) (t : Nat) (v : Tile) : State := { s with tiles := sset (fun _ => Tile.init) s.tiles t v }

/-- Job slot j. -/
def State.job (s : State) (j : Nat) : Option Job := sget (fun _ => none) s.jobs j

/-- Job slot j replaced. -/
def State.setJob (s : State) (j : Nat) (v : Option Job) : State := { s with jobs := sset (fun _ => none) s.jobs j v }

/-- Queue q. -/
def State.queue (s : State) (q : Nat) : Queue := sget (fun _ => Queue.init) s.queues q

/-- Queue q replaced. -/
def State.setQueue (s : State) (q : Nat) (v : Queue) : State := { s with queues := sset (fun _ => Queue.init) s.queues q v }

/-- DMA channel d. -/
def State.chan (s : State) (d : Nat) : Channel := sget (fun _ => Channel.init) s.channels d

/-- DMA channel d replaced. -/
def State.setChan (s : State) (d : Nat) (v : Channel) : State := { s with channels := sset (fun _ => Channel.init) s.channels d v }

/-- Kweal session n. -/
def State.sess (s : State) (n : Nat) : Session := sget (fun _ => Session.init) s.net.sessions n

/-- Kweal session n replaced. -/
def State.setSess (s : State) (n : Nat) (v : Session) : State :=
  { s with net := { s.net with sessions := sset (fun _ => Session.init) s.net.sessions n v } }

/-- Ethernet port n. -/
def State.eth (s : State) (n : Nat) : EthPort := sget (fun _ => EthPort.init) s.net.ports n

/-- Ethernet port n replaced. -/
def State.setEth (s : State) (n : Nat) (v : EthPort) : State :=
  { s with net := { s.net with ports := sset (fun _ => EthPort.init) s.net.ports n v } }

/-- Group g. -/
def State.group (s : State) (g : Nat) : Option PeerGroup := sget (fun _ => none) s.net.groups g

/-- Group g replaced. -/
def State.setGroup (s : State) (g : Nat) (v : Option PeerGroup) : State :=
  { s with net := { s.net with groups := sset (fun _ => none) s.net.groups g v } }

/-- A fold of a state change over a list. -/
def forEach {α : Type} (l : List α) (f : α → State → State) (s : State) : State := l.foldl (fun s x => f x s) s

/-- A state change made only under a condition. -/
def State.when (s : State) (c : Bool) (f : State → State) : State := if c then f s else s

/-! Time and free values. -/

/-- One nanosecond passes on both clocks (DESIGN CHOICE, log 4). -/
def tick (s : State) : State := { s with clk := { s.clk with ptp := s.clk.ptp + 1, up := s.clk.up + 1 } }

/-- Low 32 bits of the 802.1AS time (Table 14-7). -/
def State.time32 (s : State) : Nat := s.clk.ptp % 2 ^ 32

/-- The next free word (log 2). -/
def State.freeWord (s : State) : Word := Config.freeWord s.free

/-- The next free number (log 2). -/
def State.freeNat (s : State) : Nat := Config.freeNat s.free

/-- The next free choice among `k` (log 2). -/
def State.choice (s : State) (k : Nat) : Nat := Config.freeChoice s.free % k

/-- A free value has been drawn. -/
def State.drawn (s : State) : State := { s with free := s.free + 1 }

/-- Something put on the wires. -/
def State.emit (s : State) (w : Wire) : State := { s with out := s.out ++ [w] }

/-! Register pages (Table 19-2) and words. -/

def pgSup : Nat := 0x000
def pgSched : Nat := 0x004
def pgPmu : Nat := 0x010
def pgSec : Nat := 0x020
def pgFlt : Nat := 0x030
def pgCam (p : Nat) : Nat := 0x100 + p
def pgRfe : Nat := 0x140
def pgStat : Nat := 0x150
def pgEng (e : Nat) : Nat := 0x200 + 0x20 * e
def pgSmem (t : Nat) : Nat := 0x300 + 0x10 * t
def pgAcc (e : Nat) : Nat := 0x380 + e
def pgDrc : Nat := 0x400
def pgCal : Nat := 0x480
def pgQm : Nat := 0x500
def pgDma : Nat := 0x600
def pgNet : Nat := 0x700
def pgOfm : Nat := 0x800
def pgCrs : Nat := 0x880

/-- The device address of a page's word. -/
def radr (page off : Nat) : Nat := page * 4096 + off

/-- A stored register word. -/
def State.reg (s : State) (page off : Nat) : Word := sget resetWord s.regs (radr page off)

/-- A register word stored. -/
def State.setReg (s : State) (page off : Nat) (w : Word) : State :=
  { s with regs := sset resetWord s.regs (radr page off) w }

/-- A field of a stored register word. -/
def State.rfld (s : State) (page off lo w : Nat) : Nat := fld (s.reg page off) lo w

/-- A field of a stored register word set. -/
def State.setRfld (s : State) (page off lo w v : Nat) : State := s.setReg page off (putFld (s.reg page off) lo w v)

/-- A saturating counter field (R5) counted up by `n`. -/
def State.bump (s : State) (page off lo w n : Nat) : State :=
  s.setRfld page off lo w (satAdd w (s.rfld page off lo w) n)

/-- A wrapping 32-bit counter counted up by one. -/
def State.bumpWrap (s : State) (page off : Nat) : State := s.setReg page off (s.reg page off + 1)

/-- A word that holds the largest value seen in a field. -/
def State.maxRfld (s : State) (page off lo w v : Nat) : State :=
  s.setRfld page off lo w (max (s.rfld page off lo w) (min v (2 ^ w - 1)))

/-! Events, causes and records (R321, R400 to R402). -/

/-- An event record put to NET's store, or counted as lost when 1,024 are held (R322). -/
def State.record (s : State) (r : EventRec) : State :=
  if s.net.events.length < 1024 then { s with net := { s.net with events := s.net.events ++ [r] } }
  else { s with net := { s.net with lostEvents := s.net.lostEvents + 1 } }

/-- The record of a block event (Table 14-7), for the session in NET.EVT_SESSION; none while its VALID is 0. -/
def State.blockRecord (s : State) (page bit : Nat) : State :=
  if bitAt (s.reg pgNet 0x100) 31 then
    s.record ⟨bit, page, (s.reg page 0x24).toNat, 0, s.time32, s.rfld pgNet 0x100 0 5⟩
  else s

/-- EVT_PEND of a page: EVT_RAW and not EVT_MASK (Table 19-3). -/
def State.pend (s : State) (page : Nat) : Word := s.reg page 0x10 &&& ~~~ (s.reg page 0x14)

/-- An event of a page: its EVT_RAW bit is set, and a rise of EVT_PEND makes a record (R321, R400). -/
def State.event (s : State) (page bit : Nat) : State :=
  let s1 := s.setReg page 0x10 (s.reg page 0x10 ||| BitVec.ofNat 32 (2 ^ bit))
  if bitAt (s1.pend page) bit && !bitAt (s.pend page) bit then s1.blockRecord page bit else s1

/-- ERR_CAUSE, ERR_ADDR_LO and ERR_ADDR_HI of a page written together (R402); a cause without an address writes zero. -/
def State.cause (s : State) (page c addr : Nat) : State :=
  ((s.setReg page 0x24 (BitVec.ofNat 32 c)).setReg page 0x28 (BitVec.ofNat 32 addr)).setReg page 0x2C
    (BitVec.ofNat 32 (addr / 2 ^ 32 % 2 ^ 16))

/-- A cause and its event. -/
def State.fail (s : State) (page bit c addr : Nat) : State := (s.cause page c addr).event page bit

/-- Delay added to an engine's SLIP for its band (R227), with SLIP_MAX. -/
def State.addSlip (s : State) (e n : Nat) : State :=
  let g := s.eng e
  let v := satAdd 16 g.slip n
  (s.setEng e { g with slip := v }).maxRfld (pgEng e) 0x104 16 16 v

/-! Memory bytes. -/

/-- The byte at a device address of stripe memory or DRAM. -/
def State.byte (s : State) (a : Nat) : Byte := sget (fun _ => 0) s.mem a

/-- A byte stored. -/
def State.setByte (s : State) (a : Nat) (b : Byte) : State := { s with mem := sset (fun _ => 0) s.mem a b }

/-- `n` bytes from an address. -/
def State.bytes (s : State) (a n : Nat) : List Byte := (List.range n).map fun i => s.byte (a + i)

/-- Bytes stored from an address up. -/
def State.setBytes (s : State) (a : Nat) : List Byte → State
  | [] => s
  | b :: bs => (s.setByte a b).setBytes (a + 1) bs

/-- A write to tile t: the stored errors of the words it covers are gone (R147). -/
def State.tileWrite (s : State) (t a : Nat) (bytes : List Byte) : State :=
  let s1 := s.setBytes a bytes
  let x := s1.tile t
  s1.setTile t { x with storedErrs := x.storedErrs.filter fun w => decide (w + 4 ≤ a ∨ a + bytes.length ≤ w) }

/-- The canonical form of the memory: addresses strictly rising and no zero listed. -/
def memoryWf (m : List Host.Cell) : Bool := swf (fun _ => (0 : Byte)) m

/-! Address ranges (Table 19-1). -/

def dramBase : Nat := 0x1000000000
def dramEnd : Nat := 0x1200000000
def tileBase (t : Nat) : Nat := 0x40000000 + t * 0x2000000
def supArea : Nat := 0x11FC000000

/-- A range wholly inside DRAM. -/
def inDram (a n : Nat) : Bool := decide (dramBase ≤ a) && decide (a + n ≤ dramEnd)

/-- The tile that wholly holds a range. -/
def tileOf (a n : Nat) : Option Nat :=
  if 0x40000000 ≤ a ∧ a < 0x4C000000 ∧ (a % 0x2000000) + n ≤ 0x2000000 then some ((a - 0x40000000) / 0x2000000) else none

/-! The retention log (R362, R363). -/

/-- The TIME of a record: 802.1AS time, or the CK_AON count with bit 63 set when time is not locked or the internal
oscillator runs (R373, Table 16-6; log 12). -/
def State.logTime (s : State) : Nat :=
  if s.net.locked && !s.clk.aonInternal then s.clk.ptp else 2 ^ 63 + s.clk.up * 32768 / 1000000000

/-- The kinds that go to the standing part (R362). -/
def standingKind (k : Nat) : Bool := decide (2 ≤ k) && decide (k ≤ 6)

/-- The bytes of a record: the 16-byte header of Table 16-6 and the body. -/
def recBytes (r : LogRec) : List Byte :=
  leBytes 1 r.kind ++ leBytes 1 r.cls ++ leBytes 2 (16 + r.body.length) ++ leBytes 4 r.seq ++ leBytes 8 r.time ++ r.body

/-- Bytes that the standing records use. -/
def standingBytes (l : List LogRec) : Nat := (l.map fun r => 16 + r.body.length).sum

/-- Bytes written to the journal from an offset, wrapping from 0x40000 to 0x8000 (R362). -/
def journalPut (m : Sparse Byte) (at_ : Nat) : List Byte → Sparse Byte × Nat
  | [] => (m, at_)
  | b :: bs => journalPut (sset (fun _ => 0) m at_ b) (if at_ + 1 = 0x40000 then 0x8000 else at_ + 1) bs

/-- A record written to the retention log; LOG_FULL when the standing part has no room (R362). -/
def State.log (s : State) (kind cls : Nat) (body : List Byte) : State :=
  let r : LogRec := ⟨kind, cls, (s.flt.seq + 1) % 2 ^ 32, s.logTime, body⟩
  if standingKind kind then
    if standingBytes s.flt.standing + 16 + body.length ≤ 0x8000 then
      { s with flt := { s.flt with standing := s.flt.standing ++ [r], seq := r.seq } }
    else s.event pgFlt 5
  else
    let j := journalPut s.flt.journal s.flt.head (recBytes r)
    { s with flt := { s.flt with journal := j.1, head := j.2, seq := r.seq } }

/-- The body of a record: unit, address and cause words (Table 16-6; the order within it is log 13). -/
def logBody (unit addr cause : Nat) : List Byte := leBytes 4 unit ++ leBytes 8 addr ++ leBytes 4 cause

/-- A detected fault (R346): FLT's cause, count, record and event. -/
def State.fault (s : State) (cls unit job : Nat) : State :=
  (((s.cause pgFlt (cls + unit % 256 * 256 + job % 8 * 65536) 0).bump pgFlt 0x20 0 16 1).log 1 cls (logBody unit 0 0)).event
    pgFlt 0

/-- A device event (Table 14-8) for a session. -/
def State.deviceEvent (s : State) (code arg0 arg1 session : Nat) : State :=
  s.record ⟨code, 0xFFFF, arg0, arg1, s.time32, session⟩

end Sys2Proof.Machine
end

