-- ==== Sys2Proof/Machine/ImageOps.lean ====
section
/-! DEFINITION. The bytes of command blocks, job bindings and images (Tables 09-1, 09-2, 09-4 to 09-6), and what an image says of its layers: extents,
fused groups, accumulator need (R165, R197 to R201, R209, R214). -/

namespace Sys2Proof.Machine

open Sys2Proof

/-! Bindings (R209). -/

/-- `n` bytes at an offset are zero. -/
def zeroAt (b : List Byte) (o n : Nat) : Bool := leAt b o n == 0

/-- A binding entry (Table 09-6). -/
def bindEntryOf (b : List Byte) : BindEntry :=
  { stream := leAt b 0 1, imgStream := leAt b 1 1, priority := leAt b 2 1, persist := (leAt b 3 1).testBit 0,
    totalRows := leAt b 4 2, ringSlots := leAt b 6 2, ringBase := leAt b 8 8, histBase := leAt b 0x10 8, statusQ := leAt b 0x18 2,
    statsQ := leAt b 0x1A 2, boxQ := leAt b 0x1C 2, dispQ := leAt b 0x1E 2, codeQ := leAt b 0x20 2, visQ := leAt b 0x22 2,
    cropQ := leAt b 0x24 2, outBase := leAt b 0x28 8, outSize := leAt b 0x30 4,
    reservedZero := leAt b 3 1 / 2 == 0 && zeroAt b 0x26 2 && zeroAt b 0x34 12 }

/-- A job binding (Tables 09-5 and 09-6); one that its bytes do not hold whole counts as one with a reserved field set. -/
def bindingOf (b : List Byte) : Binding :=
  let n := leAt b 0x0E 1
  { imageAddr := leAt b 0 8, imageSize := leAt b 8 4, job := leAt b 0x0C 1, mode := leAt b 0x0D 1, groupId := leAt b 0x0F 1,
    outQ := leAt b 0x10 2, eventQ := leAt b 0x12 2,
    entries := (List.range n).map fun k => bindEntryOf (b.drop (64 + 64 * k)),
    reservedZero := zeroAt b 0x14 44 && decide (64 + 64 * n ≤ b.length) }

/-! Command blocks (R211, R217, R323, Table 14-9). -/

/-- The block of the command with a tag, when it is the first of the commands that wait and are not to be answered BUSY: commands are
performed in order of acceptance. -/
def State.nextBlock (s : State) (tag : Nat) : Option (List Byte) :=
  match s.sup.cmds.find? fun c => !s.sup.busy.any fun x => x.2.2 == c.1 with
  | some c => if c.1 == tag then some c.2 else none
  | none => none

/-- The binding of the START command with a tag. -/
def State.startBlock (s : State) (tag : Nat) : Option Binding :=
  match s.nextBlock tag with
  | some c => if leAt c 0 1 == 1 then some (bindingOf (c.drop 16)) else none
  | none => none

/-- The command with a tag is a STOP of a job slot with a HOW. -/
def State.stopBlock (s : State) (tag j how : Nat) : Bool :=
  (s.nextBlock tag).any fun c => leAt c 0 1 == 2 && leAt c 1 1 == j && leAt c 2 1 == how

/-- The MASK of the command with a tag. -/
def State.releaseMask (s : State) (tag : Nat) : Nat := ((s.nextBlock tag).map fun c => leAt c 8 8).getD 0

/-- A group definition (Table 14-10). -/
def groupDefOf (b : List Byte) : GroupDef :=
  { count := leAt b 0 1, self := leAt b 1 1, members := (List.range (leAt b 0 1)).map fun m =>
      { ip := leAt b (0x10 + 32 * m) 16, udp := leAt b (0x20 + 32 * m) 2, port := leAt b (0x22 + 32 * m) 1 } }

/-- The command with a tag is a GROUP_DEFINE of a group. -/
def State.defineBlock (s : State) (tag g : Nat) (d : GroupDef) : Bool :=
  (s.nextBlock tag).any fun c => leAt c 0 1 == 3 && leAt c 3 1 == g && groupDefOf (c.drop 16) == d

/-- The command with a tag is a GROUP_CLEAR of a group. -/
def State.clearBlock (s : State) (tag g : Nat) : Bool := (s.nextBlock tag).any fun c => leAt c 0 1 == 4 && leAt c 3 1 == g

/-! Images (R197, R198). -/

/-- An entry of the section table (Table 09-2): identifier, REQUIRED, offset, size. -/
def sectionOf (b : List Byte) : Nat × Bool × Nat × Nat := (leAt b 0 2, (leAt b 2 2).testBit 0, leAt b 4 4, leAt b 8 4)

/-- The fields of an entry that are zero. -/
def sectionZeros (b : List Byte) : Bool := leAt b 2 2 / 2 == 0 && zeroAt b 0x0C 20

/-- A TILING record (Table 09-4). -/
def tilingOf (b : List Byte) : Tiling :=
  { layer := leAt b 0 2, path := leAt b 2 1, loop := leAt b 3 1, extP := leAt b 4 2, extM := leAt b 6 1, extJ := leAt b 7 1,
    extT := leAt b 8 2, drainOvl := leAt b 0x0A 1, fftN := leAt b 0x0B 1, wsetReuse := leAt b 0x0C 2, group := leAt b 0x0E 2 }

/-- A section by its identifier: offset and size. -/
def Image.section_ (m : Image) (id : Nat) : Option (Nat × Nat) :=
  (m.sections.find? fun y => y.1 == id).map fun y => (y.2.2.1, y.2.2.2)

/-- The image whose bytes lie at an address, with the content of its other sections. DIGEST is over byte 0x80 to the end of the last
section other than SIGNATURE. -/
def State.readImage (s : State) (a : Nat) (c : ImageBody) : Image :=
  let h := s.bytes a 0x80
  let n := leAt h 0x0C 2
  let table := (List.range n).map fun k => s.bytes (a + 0x80 + 32 * k) 32
  let secs := table.map sectionOf
  let last := ((secs.filter fun y => y.1 != 0x7F).map fun y => y.2.2.1 + y.2.2.2).foldl max (0x80 + 32 * n)
  let flags := leAt h 8 4
  { c with
    magicOk := leAt h 0 4 == 0x31584C55, format := leAt h 4 2, kind := leAt h 6 2, ha := flags.testBit 0, group := flags.testBit 1,
    persistOk := flags.testBit 2, zeros := flags / 8 == 0 && zeroAt h 0x60 32 && table.all sectionZeros, minRev := leAt h 0x0E 1,
    engines := leAt h 0x0F 1, secVersion := leAt h 0x10 4, ewemas := leAt h 0x14 4, accNeed := leAt h 0x18 1, sbNeed := leAt h 0x19 1,
    basting := leAt h 0x1A 1, userTables := leAt h 0x1B 1, tileLines := leAt h 0x1C 4, digest := leAt h 0x20 64,
    digestOk := leAt h 0x20 64 == leNat (Config.shake (s.bytes (a + 0x80) (last - 0x80)) 64), sections := secs
    tiling := match secs.find? fun y => y.1 == 3 with
      | some y => (List.range (y.2.2.2 / 16)).map fun k => tilingOf (s.bytes (a + y.2.2.1 + 16 * k) 16)
      | none => [] }

/-- The loops of LOOP from the outermost, by code: 0 P, 1 M, 2 J, 3 T. -/
def Tiling.loops (t : Tiling) : List Nat := [t.loop / 64 % 4, t.loop / 16 % 4, t.loop / 4 % 4, t.loop % 4]

/-- A layer's accumulator need (R199): the extents of P and M inside the outermost reduction loop, plus DRAIN_OVL. -/
def Tiling.accNeed (t : Tiling) : Nat :=
  let inner := t.loops.dropWhile fun k => decide (k < 2)
  (if inner.contains 0 then t.extP else 1) * (if inner.contains 1 then t.extM else 1) + t.drainOvl

/-- The largest of a list. -/
def largest (l : List Nat) : Nat := l.foldl max 0

/-- Points of the transforms that FFT_N codes (Table 09-4). -/
def fftPoints (c : Nat) : Nat := if c = 0x80 then 128 else if c = 1 then 256 else if c = 2 then 512 else 0

/-- The regions that a job of an image places in a tile; those that outlive a stripe are placed once for the image (R212, log 104). -/
def Image.placed (m : Image) (resident : Bool) (t : Nat) : List ImgRegion :=
  (m.regions.getD t []).filter fun x => !(resident && x.persist)

/-- Lines of a tile that a list of regions takes. -/
def regionLines (l : List ImgRegion) : Nat := (l.map (·.lines)).sum

/-- Lines of an image's weights and spectra (R174): WEIGHTS, and per filter of a frequency-domain layer N (N / 2 + 1) values of 8 bytes,
or SPECTRA where that is larger. -/
def Image.weightLines (m : Image) : Nat :=
  let size := fun (id : Nat) => ((m.section_ id).map (·.2)).getD 0
  let spectra := ((m.layers.zip m.tiling).map fun x => if x.2.path = 2 then
    x.1.filters * (fftPoints x.2.fftN * (fftPoints x.2.fftN / 2 + 1) * 8) else 0).sum
  cdiv (size 6) 128 + cdiv (max (size 7) spectra) 128

/-! Extents (R165, R214). -/

/-- The rows and columns of a layer's map, from those of what it reads; a layer with a zero-sized input has a zero-sized output. -/
def Layer.extent (l : Layer) (x : Nat × Nat) : Nat × Nat :=
  let axis := fun (n : Nat) =>
    if l.isConv || l.isPool then outExtent n l.kernel l.stride l.dilation l.padding else n * max l.up 1 / max l.down 1
  if x.1 = 0 ∨ x.2 = 0 then (0, 0) else (axis x.1, axis x.2)

/-- The extents of a graph's layers for the extents of its input. -/
def Image.extents (m : Image) (x : Nat × Nat) : List (Nat × Nat) :=
  m.layers.foldl (fun acc l => acc ++ [l.extent ((l.reads.head?.bind fun k => acc[k]?).getD x)]) []

/-- The bytes of each output of a step for a shape (crops, channels, rows, columns): the planned tiling with trimmed extents (R214). -/
def Image.outBytes (m : Image) (shape : List Nat) : List Nat :=
  let e := m.extents (shape.getD 2 0, shape.getD 3 0)
  m.outputs.map fun o => let x := e.getD o.layer (0, 0); shape.getD 0 0 * x.1 * x.2 * o.posBytes

/-- A step of a shape produces nothing: a dimension is zero, or every output comes out zero-sized. -/
def Image.nothing (m : Image) (shape : List Nat) : Bool :=
  shape.any (· == 0) || (!m.outputs.isEmpty && (m.outBytes shape).all (· == 0))

/-! Fused groups (R201). -/

/-- The group of a layer. -/
def Image.groupOf (m : Image) (i : Nat) : Option Nat := (m.tiling[i]?).map (·.group)

/-- How a layer's map may leave its group: stripe memory of the engine, PUT in a tensor job, or a tap point that TAPS declares. -/
def Image.boundaryOk (m : Image) (i : Nat) : Bool :=
  match m.layers[i]? with
  | some l => l.via == 0 || (l.via == 1 && m.kind == 1) || (l.via == 2 && m.taps.any fun t => l.tap == some t.num)
  | none => false

/-- A layer has its group's stripe geometry, scaled by its pleat factor: that of a stream's band and stripe, and of the group's first
layer. -/
def Image.geometryOk (m : Image) (i : Nat) : Bool :=
  match m.layers[i]? with
  | some l =>
    let full := fun (x : Layer) => (x.rows * x.pleat, x.cols * x.pleat)
    let first := (m.layers.zip m.tiling).find? fun x => some x.2.group == m.groupOf i
    (l.pleat == 1 || l.pleat == 2) && (m.streams.any fun g => full l == (g.bandRows, g.stripeW)) &&
      (match first with | some f => full f.1 == full l | none => false)
  | none => false

/-- A layer or its boundary is one that R201 excludes: a boundary by other means than its three, a group that is not one run of layers, or
in a rendering job a geometry foreign to the group. -/
def Image.fusionBad (m : Image) (i : Nat) : Bool :=
  let g := m.groupOf i
  let away := ((m.layers[i]?).map (·.reads)).getD [] |>.filter fun k => m.groupOf k != g
  !away.all m.boundaryOk || (decide (0 < i) && m.groupOf (i - 1) != g && (List.range i).any fun k => m.groupOf k == g) ||
    (m.kind == 0 && !m.geometryOk i)

end Sys2Proof.Machine
end

