-- ==== Sys2Proof/Machine/Float.lean ====
section
/-! DEFINITION. The element formats of Table 06-1 and their arithmetic: values are exact dyadic numbers, an operation
is computed exactly and rounded once to nearest with ties to even (R122, R123, R126). -/

namespace Sys2Proof.Machine

/-- A floating-point value: NaN, an infinity, or (−1)^neg × man × 2^exp. -/
inductive Fl where
  | nan
  | inf (neg : Bool)
  | fin (neg : Bool) (man : Nat) (exp : Int)
  deriving DecidableEq, Repr

/-- How a format uses its largest exponent (Table 06-1): infinities and NaN, the single NaN of E4M3, or only numbers. -/
inductive FSpecial where
  | ieee | e4m3 | none
  deriving DecidableEq, Repr

/-- A floating-point format: widths of exponent and mantissa, bias, and its special values. -/
structure FFmt where
  eb : Nat
  mb : Nat
  bias : Nat
  special : FSpecial
  deriving DecidableEq, Repr

/-- FP32. -/
def fp32 : FFmt := ⟨8, 23, 127, .ieee⟩
/-- FP16. -/
def fp16 : FFmt := ⟨5, 10, 15, .ieee⟩
/-- BF16. -/
def bf16 : FFmt := ⟨8, 7, 127, .ieee⟩
/-- FP8 E4M3. -/
def e4m3 : FFmt := ⟨4, 3, 7, .e4m3⟩
/-- FP8 E5M2. -/
def e5m2 : FFmt := ⟨5, 2, 15, .ieee⟩
/-- FP6 E3M2, an MX element. -/
def e3m2 : FFmt := ⟨3, 2, 3, .none⟩
/-- FP6 E2M3, an MX element. -/
def e2m3 : FFmt := ⟨2, 3, 1, .none⟩
/-- FP4 E2M1, an MX element. -/
def e2m1 : FFmt := ⟨2, 1, 1, .none⟩

/-- The value of a code (R113). -/
def decodeF (f : FFmt) (c : Nat) : Fl :=
  let s := c.testBit (f.eb + f.mb)
  let e := c / 2 ^ f.mb % 2 ^ f.eb
  let m := c % 2 ^ f.mb
  if f.special = .ieee ∧ e = 2 ^ f.eb - 1 then (if m = 0 then .inf s else .nan)
  else if f.special = .e4m3 ∧ e = 2 ^ f.eb - 1 ∧ m = 2 ^ f.mb - 1 then .nan
  else if e = 0 then .fin s m (1 - (f.bias : Int) - f.mb)
  else .fin s (2 ^ f.mb + m) ((e : Int) - f.bias - f.mb)

/-- `m × 2^e` rounded to an integer, to nearest with ties to even. -/
def rneShift (m : Nat) (e : Int) : Nat :=
  if 0 ≤ e then m * 2 ^ e.toNat
  else
    let d := 2 ^ (-e).toNat
    let q := m / d
    let r := m % d
    if 2 * r > d ∨ (2 * r = d ∧ q % 2 = 1) then q + 1 else q

/-- The largest finite code without its sign. -/
def maxCode (f : FFmt) : Nat :=
  match f.special with
  | .ieee => (2 ^ f.eb - 1) * 2 ^ f.mb - 1
  | .e4m3 => 2 ^ (f.eb + f.mb) - 2
  | .none => 2 ^ (f.eb + f.mb) - 1

/-- The canonical NaN (R115); an MX element has none, and is written as zero. -/
def nanCode (f : FFmt) : Nat :=
  match f.special with
  | .ieee => (2 ^ f.eb - 1) * 2 ^ f.mb + 2 ^ (f.mb - 1)
  | .e4m3 => 2 ^ (f.eb + f.mb) - 1
  | .none => 0

/-- What an overflow or an infinity becomes, without its sign (Table 06-4); FP32 is not in that table and keeps its
infinity (DEDUCED, log 10). -/
def overCode (f : FFmt) (sat isInf : Bool) : Nat :=
  match f.special with
  | .ieee => if sat ∧ f ≠ fp32 then maxCode f else (2 ^ f.eb - 1) * 2 ^ f.mb
  | .e4m3 => if sat ∨ ¬ isInf then maxCode f else nanCode f
  | .none => maxCode f

/-- The code of a value in a format: rounded to nearest with ties to even, subnormals kept, overflow by SAT (R123, R124). -/
def encodeF (f : FFmt) (sat : Bool) (x : Fl) : Nat :=
  let sgn := fun (neg : Bool) (c : Nat) => if neg then c + 2 ^ (f.eb + f.mb) else c
  match x with
  | .nan => nanCode f
  | .inf s => let c := overCode f sat true; if f.special = .e4m3 ∧ c = nanCode f then c else sgn s c
  | .fin s m e =>
    if m = 0 then sgn s 0 else
      let emin : Int := 1 - (f.bias : Int) - f.mb
      let q := max emin (e + Nat.log2 m - f.mb)
      let r := rneShift m (e - q)
      let c := r + (q - emin).toNat * 2 ^ f.mb
      if c ≤ maxCode f then sgn s c else sgn s (overCode f sat false)

/-- A value rounded to FP32. -/
def roundF32 (x : Fl) : Fl := decodeF fp32 (encodeF fp32 false x)

/-- Negation. -/
def flNeg : Fl → Fl
  | .nan => .nan
  | .inf s => .inf (!s)
  | .fin s m e => .fin (!s) m e

/-- The signed integer of a mantissa at an exponent no larger than its own. -/
def flAlign (s : Bool) (m : Nat) (e q : Int) : Int :=
  let v : Int := (m * 2 ^ (e - q).toNat : Nat)
  if s then -v else v

/-- The exact value of a signed integer times 2^q; a zero is positive. -/
def flOfInt (v q : Int) : Fl := .fin (decide (v < 0)) v.natAbs q

/-- The exact sum; a zero sum of unlike signs is + (R115). -/
def flAdd : Fl → Fl → Fl
  | .nan, _ => .nan
  | _, .nan => .nan
  | .inf s, .inf t => if s = t then .inf s else .nan
  | .inf s, _ => .inf s
  | _, .inf t => .inf t
  | .fin s m e, .fin t n g =>
    let q := min e g
    let v := flAlign s m e q + flAlign t n g q
    if v = 0 then .fin (s && t) 0 q else flOfInt v q

/-- The exact product; infinity times zero is NaN. -/
def flMul : Fl → Fl → Fl
  | .nan, _ => .nan
  | _, .nan => .nan
  | .inf s, .inf t => .inf (s != t)
  | .inf s, .fin t n _ => if n = 0 then .nan else .inf (s != t)
  | .fin s m _, .inf t => if m = 0 then .nan else .inf (s != t)
  | .fin s m e, .fin t n g => .fin (s != t) (m * n) (e + g)

/-- `x < y` for values that are not NaN. -/
def flLt : Fl → Fl → Bool
  | .nan, _ => false
  | _, .nan => false
  | .inf s, .inf t => s && !t
  | .inf s, _ => s
  | _, .inf t => !t
  | .fin s m e, .fin t n g =>
    let q := min e g
    decide (flAlign s m e q < flAlign t n g q)

/-- The value is a zero. -/
def flIsZero : Fl → Bool
  | .fin _ 0 _ => true
  | _ => false

/-- The magnitude. -/
def flAbs : Fl → Fl
  | .nan => .nan
  | .inf _ => .inf false
  | .fin _ m e => .fin false m e

/-- The larger of two values, the first when they are equal; NaN when either is NaN. -/
def flMax (x y : Fl) : Fl := if x = .nan ∨ y = .nan then .nan else if flLt x y then y else x

/-- The smaller of two values, the first when they are equal; NaN when either is NaN. -/
def flMin (x y : Fl) : Fl := if x = .nan ∨ y = .nan then .nan else if flLt y x then y else x

/-- A quotient of naturals as a dyadic number that rounds as the quotient does to at most 60 bits: the last bit is sticky. -/
def flOfQuot (neg : Bool) (n d : Nat) : Fl :=
  if d = 0 then .nan else
    let t := 64 + Nat.log2 d - min (Nat.log2 n) (Nat.log2 d)
    let a := n * 2 ^ t
    .fin neg (2 * (a / d) + b2n (decide (a % d ≠ 0))) (-(t : Int) - 1)

/-- The quotient, to be rounded at once. -/
def flDiv : Fl → Fl → Fl
  | .nan, _ => .nan
  | _, .nan => .nan
  | .inf _, .inf _ => .nan
  | .inf s, .fin t _ _ => .inf (s != t)
  | .fin s _ _, .inf t => .fin (s != t) 0 0
  | .fin s m e, .fin t n g =>
    if n = 0 then (if m = 0 then .nan else .inf (s != t))
    else match flOfQuot (s != t) m n with
      | .fin u k h => .fin u k (h + e - g)
      | z => z

/-- The integer square root, bit by bit from `b` bits down. -/
def isqrtAux (n : Nat) : Nat → Nat → Nat
  | 0, r => r
  | b + 1, r => isqrtAux n b (if (r + 2 ^ b) * (r + 2 ^ b) ≤ n then r + 2 ^ b else r)

/-- The largest natural number whose square is at most `n`. -/
def isqrt (n : Nat) : Nat := isqrtAux n (Nat.log2 n / 2 + 1) 0

/-- The square root, to be rounded at once; NaN below −0. -/
def flSqrt : Fl → Fl
  | .nan => .nan
  | .inf s => if s then .nan else .inf false
  | .fin s m e =>
    if m = 0 then .fin s 0 e else if s then .nan else
      let m' := if e % 2 = 0 then m else 2 * m
      let e' := if e % 2 = 0 then e else e - 1
      let a := m' * 4 ^ 64
      let r := isqrt a
      .fin false (2 * r + b2n (decide (r * r ≠ a))) (e' / 2 - 65)

/-- The integer part toward −∞ of a finite value; 0 for the others. -/
def flFloor : Fl → Int
  | .fin s m e =>
    let v : Int := if s then -(m : Int) else m
    if 0 ≤ e then v * (2 ^ e.toNat : Nat) else v.fdiv (2 ^ (-e).toNat : Nat)
  | _ => 0

/-- A finite value rounded to an integer, to nearest with ties to even. -/
def flRne : Fl → Int
  | .fin s m e => let r : Int := rneShift m e; if s then -r else r
  | _ => 0

/-- A finite value truncated toward zero to an integer. -/
def flTrunc : Fl → Int
  | .fin s m e => let r : Int := (if 0 ≤ e then m * 2 ^ e.toNat else m / 2 ^ (-e).toNat : Nat); if s then -r else r
  | _ => 0

/-- The rounding modes of R123. -/
inductive Rounding where
  | nearest | zero | down
  deriving DecidableEq, Repr

/-- A value as an integer under a rounding mode. -/
def flToInt (r : Rounding) (x : Fl) : Int :=
  match r with
  | .nearest => flRne x
  | .zero => flTrunc x
  | .down => flFloor x

/-- Clamp to [lo, hi]. -/
def clampI (lo hi v : Int) : Int := max lo (min hi v)

/-- Conversion to an integer of `w` bits: round(v × r_o) + z_o, clamped (R123); NaN gives z_o, an infinity the end of
the range (Table 06-4). -/
def quantInt (w : Nat) (r : Rounding) (ro : Fl) (zo : Int) (v : Fl) : Int :=
  let hi : Int := 2 ^ (w - 1) - 1
  let lo : Int := -2 ^ (w - 1)
  match flMul v ro with
  | .nan => clampI lo hi zo
  | .inf s => if s then lo else hi
  | .fin s m e => clampI lo hi (flToInt r (.fin s m e) + zo)

/-- The FP32 value of a word. -/
def f32Of (w : Word) : Fl := decodeF fp32 w.toNat

end Sys2Proof.Machine
end

