-- ==== Sys2Proof/Machine/OutFmt.lean ====
section
/-! DEFINITION. Output formats and crops: the bytes that stage 7 values become (R186, R189 to R193) and where they lie in a
frame buffer. Values are exact; the deviation that R131 and R193 allow is a free value (log 18). -/

namespace Sys2Proof.Machine

open Sys2Proof

/-- An RGB value of stage 7. -/
structure Rgb where
  r : Fl
  g : Fl
  b : Fl
  deriving DecidableEq, Repr

/-- FP16 black. -/
def Rgb.black : Rgb := ⟨.fin false 0 0, .fin false 0 0, .fin false 0 0⟩

/-- The rational of a finite value; 0 for the others. -/
def ratOf : Fl → Rat
  | .fin s m e =>
    let v : Rat := if 0 ≤ e then (m * 2 ^ e.toNat : Nat) else (m : Rat) / (2 ^ (-e).toNat : Nat)
    if s then -v else v
  | _ => 0

/-- A rational as a value that rounds as it does (to at most 60 bits). -/
def flOfRat (x : Rat) : Fl := flOfQuot (decide (x < 0)) x.num.natAbs x.den

/-- A value clamped to [0, 1]; a NaN gives a free value by draw `d` and place `k`. -/
def unitOf (d k : Nat) : Fl → Rat
  | .nan => ((Config.nanLevel d k % 65536 : Nat) : Rat) / 65535
  | .inf s => if s then 0 else 1
  | .fin s m e => max 0 (min 1 (ratOf (.fin s m e)))

/-- A rational rounded to the nearest integer, a half away from zero. -/
def roundR (x : Rat) : Int := if x < 0 then -((-x + 1 / 2).floor) else (x + 1 / 2).floor

/-- A code within one of the exact one (R193); the black of a dropped band is exact (R190). -/
def slip (exact : Bool) (d k : Nat) (lo hi c : Int) : Int :=
  if exact then c else
    match Config.codeSlip d k % 3 with
    | 0 => c
    | 1 => min hi (c + 1)
    | _ => max lo (c - 1)

/-- A floating-point code within one unit in the last place. -/
def slipF (f : FFmt) (exact : Bool) (d k c : Nat) : Nat :=
  let h := 2 ^ (f.eb + f.mb)
  if c % h ≤ maxCode f then (slip exact d k 0 (maxCode f) (c % h : Nat)).toNat + c / h * h else c

/-- An n-bit RGB code (R189). -/
def rgbCode (n : Nat) (v : Rat) : Int := roundR (v * ((2 ^ n - 1 : Nat) : Rat))

/-- K_r and K_b of a matrix code (R190). -/
def matrixK : Nat → Rat × Rat
  | 0 => (299 / 1000, 114 / 1000)
  | 1 => (2126 / 10000, 722 / 10000)
  | _ => (2627 / 10000, 593 / 10000)

/-- Y, Cb and Cr of an RGB triple in [0, 1] (R190). -/
def yuvOf (m : Nat) (r g b : Rat) : Rat × Rat × Rat :=
  let k := matrixK m
  let y := k.1 * r + (1 - k.1 - k.2) * g + k.2 * b
  (y, (b - y) / (2 * (1 - k.2)), (r - y) / (2 * (1 - k.1)))

/-- The n-bit code of Y (R190). -/
def lumaCode (full : Bool) (n : Nat) (y : Rat) : Int :=
  clampI 0 (2 ^ n - 1) (if full then roundR (y * ((2 ^ n - 1 : Nat) : Rat)) else roundR ((219 * y + 16) * ((2 ^ (n - 8) : Nat) : Rat)))

/-- The n-bit code of a chroma value (R190). -/
def chromaCode (full : Bool) (n : Nat) (c : Rat) : Int :=
  clampI 0 (2 ^ n - 1) (if full then roundR (c * ((2 ^ n - 1 : Nat) : Rat) + ((2 ^ (n - 1) : Nat) : Rat))
    else roundR ((224 * c + 128) * ((2 ^ (n - 8) : Nat) : Rat)))

/-- The settings of a stream's outputs that its OFM block holds (Table 08-11), with the frame's size. -/
structure OutSet where
  width : Nat
  height : Nat
  dispFmt : Nat
  codeFmt : Nat
  mat : Nat
  full : Bool
  visFmt : Nat
  visDiv : Nat
  visBgr : Bool
  visZero : Int
  visRscale : Word
  visMean : List Word
  visGain : List Word
  deriving DecidableEq, Repr

/-! Layout. Output 0 is display, 1 coding, 2 vision. -/

/-- Bytes of a display row (R189). -/
def OutSet.pitch (o : OutSet) : Nat := alignUp (o.width * (if o.dispFmt = 0 then 3 else 4)) 128

/-- Tiles per tile row of a coding output (R191). -/
def OutSet.tilesW (o : OutSet) : Nat := cdiv o.width 64

/-- Bytes of a coding sample. -/
def OutSet.codeBytes (o : OutSet) : Nat := if o.codeFmt = 0 then 1 else 2

/-- Bytes of a coding luma plane (R191). -/
def OutSet.lumaPlane (o : OutSet) : Nat := o.tilesW * cdiv o.height 32 * 2048 * o.codeBytes

/-- Bytes of a vision sample. -/
def OutSet.visBytes (o : OutSet) : Nat := if o.visFmt = 2 then 2 else 1

/-- VIS_DIV's divisor. -/
def OutSet.div (o : OutSet) : Nat := 2 ^ o.visDiv

/-- Bytes of a vision plane without its padding (R192). -/
def OutSet.visPlane (o : OutSet) : Nat := cdiv o.width o.div * cdiv o.height o.div * o.visBytes

/-- Bytes of the frame buffer of an output. -/
def OutSet.bytes (o : OutSet) : Nat → Nat
  | 0 => o.pitch * o.height
  | 1 => o.lumaPlane + o.tilesW * cdiv (o.height / 2) 32 * 2048 * o.codeBytes
  | _ => 3 * alignUp o.visPlane 128

/-- The divisor of an output's rows against frame rows. -/
def OutSet.rowDiv (o : OutSet) (k : Nat) : Nat := if k = 2 then o.div else 1

/-- Offset of sample x of row y in a plane of 64 × 32 tiles (R191). -/
def OutSet.tileAt (o : OutSet) (x y : Nat) : Nat :=
  ((y / 32 * o.tilesW + x / 64) * 2048 + y % 32 * 64 + x % 64) * o.codeBytes

/-- Bytes of a code of 8 bits, or of 10 bits in the upper bits of a 16-bit word (R189). -/
def wide (n : Nat) (c : Int) : List Byte := if n = 8 then leBytes 1 c.toNat else leBytes 2 (c.toNat * 64)

/-- The x or y positions that sample position p covers in a plane whose real extent is n and whose tiled extent is m: the last
real one covers the rest (R191). -/
def spread (p n m : Nat) : List Nat := if p + 1 = n then (List.range (m - p)).map (· + p) else [p]

/-! Bytes of a rectangle [x0, x1) × [y0, y1) of the frame, whose pixels are `px x y`: offsets with bytes. -/

/-- Display rows. -/
def dispBytes (o : OutSet) (exact : Bool) (d x0 x1 y0 y1 : Nat) (px : Nat → Nat → Rgb) : List (Nat × List Byte) :=
  ((List.range (y1 - y0)).map fun dy =>
    let y := y0 + dy
    if o.dispFmt = 2 then
      (List.range ((x1 - x0) / 2)).map fun dx =>
        let x := x0 + 2 * dx
        let at_ := y * o.pitch + 4 * x
        let u := fun (q : Rgb) (i : Nat) => yuvOf o.mat (unitOf d (at_ + i) q.r) (unitOf d (at_ + i) q.g) (unitOf d (at_ + i) q.b)
        let p := u (px x y) 0
        let q := u (px (x + 1) y) 1
        let c := fun (k : Nat) (v : Int) => wide 10 (slip exact d (at_ + k) 0 1023 v)
        (at_, c 0 (lumaCode o.full 10 p.1) ++ c 1 (chromaCode o.full 10 ((p.2.1 + q.2.1) / 2))
          ++ c 2 (lumaCode o.full 10 q.1) ++ c 3 (chromaCode o.full 10 ((p.2.2 + q.2.2) / 2)))
    else
      (List.range (x1 - x0)).map fun dx =>
        let x := x0 + dx
        let p := px x y
        if o.dispFmt = 0 then
          let at_ := y * o.pitch + 3 * x
          let c := fun (k : Nat) (v : Fl) => leBytes 1 (slip exact d (at_ + k) 0 255 (rgbCode 8 (unitOf d (at_ + k) v))).toNat
          (at_, c 0 p.r ++ c 1 p.g ++ c 2 p.b)
        else
          let at_ := y * o.pitch + 4 * x
          let c := fun (k : Nat) (v : Fl) => (slip exact d (at_ + k) 0 1023 (rgbCode 10 (unitOf d (at_ + k) v))).toNat
          (at_, leBytes 4 (c 0 p.r + 2 ^ 10 * c 1 p.g + 2 ^ 20 * c 2 p.b + 2 ^ 30 * 3))).flatten

/-- Coding planes: luma samples, then chroma cells of 2 × 2 pixels, spread over partial tiles. -/
def codeBytesOf (o : OutSet) (exact : Bool) (d x0 x1 y0 y1 : Nat) (px : Nat → Nat → Rgb) : List (Nat × List Byte) :=
  let n := if o.codeFmt = 0 then 8 else 10
  let u := fun (x y : Nat) =>
    let k := 4 * (y * o.width + x)
    let p := px x y
    yuvOf o.mat (unitOf d k p.r) (unitOf d (k + 1) p.g) (unitOf d (k + 2) p.b)
  let top := (2 ^ n - 1 : Int)
  let luma := ((List.range (y1 - y0)).map fun dy => ((List.range (x1 - x0)).map fun dx =>
    let x := x0 + dx
    let y := y0 + dy
    let c := wide n (slip exact d (o.tileAt x y) 0 top (lumaCode o.full n (u x y).1))
    ((spread y o.height (32 * cdiv o.height 32)).map fun yy =>
      (spread x o.width (64 * o.tilesW)).map fun xx => (o.tileAt xx yy, c)).flatten).flatten).flatten
  let chroma := ((List.range ((y1 - y0) / 2)).map fun dy => ((List.range ((x1 - x0) / 2)).map fun dx =>
    let x := x0 / 2 + dx
    let y := y0 / 2 + dy
    let q := [u (2 * x) (2 * y), u (2 * x + 1) (2 * y), u (2 * x) (2 * y + 1), u (2 * x + 1) (2 * y + 1)]
    let at_ := o.lumaPlane + o.tileAt (2 * x) y
    let c := wide n (slip exact d at_ 0 top (chromaCode o.full n ((q.map (·.2.1)).sum / 4)))
      ++ wide n (slip exact d (at_ + 1) 0 top (chromaCode o.full n ((q.map (·.2.2)).sum / 4)))
    ((spread y (o.height / 2) (32 * cdiv (o.height / 2) 32)).map fun yy =>
      (spread x (o.width / 2) (32 * o.tilesW)).map fun xx => (o.lumaPlane + o.tileAt (2 * xx) yy, c)).flatten).flatten).flatten
  luma ++ chroma

/-- A vision code (R192): the mean of the cell, less MEAN, times GAIN, converted. -/
def visCode (o : OutSet) (exact : Bool) (d at_ ch : Nat) (cell : List Fl) : List Byte :=
  let f := fun (w : List Word) => f32Of (w.getD ch 0)
  let n := Fl.fin false cell.length 0
  let sum := cell.foldl flAdd (.fin false 0 0)
  let v := flDiv (flMul (flAdd sum (flNeg (flMul n (f o.visMean)))) (f o.visGain)) n
  if o.visFmt = 0 then leBytes 1 ((slip exact d at_ (-128) 127 (quantInt 8 .nearest (f32Of o.visRscale) o.visZero v)) % 256).toNat
  else if o.visFmt = 1 then leBytes 1 (slipF e4m3 exact d at_ (encodeF e4m3 Config.outSat v))
  else leBytes 2 (slipF fp16 exact d at_ (encodeF fp16 Config.outSat v))

/-- The value of stage 7 clamped to [0, 1] as the OFM takes it (R189). -/
def unitFl (d k : Nat) : Fl → Fl
  | .nan => flOfRat (unitOf d k .nan)
  | .inf s => if s then .fin false 0 0 else .fin false 1 0
  | .fin s m e => flMax (.fin false 0 0) (flMin (.fin false 1 0) (.fin s m e))

/-- Vision planes. -/
def visBytesOf (o : OutSet) (exact : Bool) (d x0 x1 y0 y1 : Nat) (px : Nat → Nat → Rgb) : List (Nat × List Byte) :=
  let f := o.div
  let ow := cdiv o.width f
  ((List.range (cdiv y1 f - y0 / f)).map fun dy => ((List.range (cdiv x1 f - x0 / f)).map fun dx =>
    let x := x0 / f + dx
    let y := y0 / f + dy
    let cells := ((List.range f).map fun i => ((List.range f).map fun j => (f * x + j, f * y + i))).flatten.filter
      fun q => decide (q.1 < o.width) && decide (q.2 < o.height)
    (List.range 3).map fun ch =>
      let at_ := ch * alignUp o.visPlane 128 + (y * ow + x) * o.visBytes
      let pick := fun (p : Rgb) => if ch = 1 then p.g else if (ch = 0) != o.visBgr then p.r else p.b
      (at_, visCode o exact d at_ ch (cells.map fun q => unitFl d at_ (pick (px q.1 q.2))))).flatten).flatten

/-- The bytes that an output holds of a rectangle. -/
def outBytes (o : OutSet) (k : Nat) (exact : Bool) (d x0 x1 y0 y1 : Nat) (px : Nat → Nat → Rgb) : List (Nat × List Byte) :=
  match k with
  | 0 => dispBytes o exact d x0 x1 y0 y1 px
  | 1 => codeBytesOf o exact d x0 x1 y0 y1 px
  | _ => visBytesOf o exact d x0 x1 y0 y1 px

/-- Offset of the last byte that an output holds of the frame rows before y1 (R296). -/
def OutSet.lastByte (o : OutSet) (k y1 : Nat) : Nat :=
  match k with
  | 0 => (y1 - 1) * o.pitch + o.width * (if o.dispFmt = 0 then 3 else 4) - 1
  | 1 => o.lumaPlane + o.tileAt (o.width - 1) (y1 / 2 - 1) + o.codeBytes - 1
  | _ => 2 * alignUp o.visPlane 128 + cdiv y1 o.div * cdiv o.width o.div * o.visBytes - 1

/-! Crops (R186). -/

/-- The Keys kernel with a = −0.5 (R186). -/
def keys (t : Rat) : Rat :=
  let x := if t < 0 then -t else t
  if x ≤ 1 then 3 / 2 * x * x * x - 5 / 2 * x * x + 1
  else if x < 2 then -1 / 2 * x * x * x + 5 / 2 * x * x - 4 * x + 2 else 0

/-- Source positions on an axis with their weights, by MODE[1:0]. -/
def taps (cubic : Bool) (x : Rat) : List (Int × Rat) :=
  let i := x.floor
  if cubic then [i - 1, i, i + 1, i + 2].map fun j => (j, keys (x - j))
  else [(i, 1 - (x - i)), (i + 1, x - i)]

/-- Sum of weighted values: NaN for a NaN, a zero weight of an infinity, or infinities of both signs; the finite sum and the
sum of magnitudes as rationals else. -/
def weigh (l : List (Rat × Fl)) : Fl × Rat :=
  let bad := l.any fun p => p.2 == .nan || (p.1 == 0 && (p.2 == .inf true || p.2 == .inf false))
  let pos := l.any fun p => p.2 == .inf false && decide (0 < p.1) || p.2 == .inf true && decide (p.1 < 0)
  let neg := l.any fun p => p.2 == .inf true && decide (0 < p.1) || p.2 == .inf false && decide (p.1 < 0)
  if bad || (pos && neg) then (.nan, 0)
  else if pos then (.inf false, 0) else if neg then (.inf true, 0)
  else (flOfRat (l.map fun p => p.1 * ratOf p.2).sum, (l.map fun p => |p.1 * ratOf p.2|).sum)

/-- A crop code (R186) within R131: the exact sum moved by a free part of 2^−10 R, converted, within one code. -/
def cropCode (fmt : Nat) (rs : Word) (zero : Int) (d k : Nat) (v : Fl × Rat) : List Byte :=
  let e : Rat := (((Config.cropErr d k % 2049 : Nat) : Rat) - 1024) / 1048576
  let x := match v.1 with
    | .fin s m q => flAdd (.fin s m q) (flOfRat (e * v.2))
    | z => z
  if fmt = 0 then leBytes 1 ((slip false d k (-128) 127 (quantInt 8 .nearest (f32Of rs) zero x)) % 256).toNat
  else if fmt = 1 then leBytes 1 (slipF e4m3 false d k (encodeF e4m3 Config.outSat x))
  else leBytes 2 (slipF fp16 false d k (encodeF fp16 Config.outSat x))

end Sys2Proof.Machine
end

