-- ==== Sys2Proof/Machine/DramOps.lean ====
section
/-! DEFINITION. The DRAM controller: page states, the word and page codes, merge buffer, errors and their outcomes, row
sparing, and the reads and writes that every requester makes (R238 to R268, R426). -/

namespace Sys2Proof.Machine

open Sys2Proof

/-- Page index O[32:10] of a device address in DRAM (R240). -/
def pageNum (a : Nat) : Nat := (a - dramBase) / 1024

/-- Device address of a page. -/
def pageAddr (p : Nat) : Nat := dramBase + 1024 * p

/-- Channel of a page: O[16:10] XOR O[27:21] (R240). -/
def chanOf (p : Nat) : Nat := (p % 128) ^^^ (p / 2048 % 128)

/-- Bank of a page: O[20:17] (R240). -/
def bankOf (p : Nat) : Nat := p / 128 % 16

/-- Channel and bank of a page as one number. -/
def bankKey (p : Nat) : Nat := chanOf p * 16 + bankOf p

/-- Register page and block offset of a channel's counters (R269). -/
def chReg (c : Nat) : Nat × Nat := (0x401 + c / 4, 0x100 + 0x100 * (c % 4))

/-- The DRAM part of the state changed. -/
def State.withDram (s : State) (f : Dram → Dram) : State := { s with dram := f s.dram }

/-- Page state (Table 11-3): 0 INVALID, 1 VALID, 2 PARTIAL, 3 RETIRED. -/
def State.pageState (s : State) (p : Nat) : Nat := sget (fun _ => 0) s.dram.state p

/-- A stored check word or metadata copy (R239). -/
def State.storedWord (s : State) (p w : Nat) : Nat := sget (fun _ => 0) s.dram.stored (146 * p + w)

/-- Gusset lanes of a channel that are neither failed nor carry a retired lane (R277). -/
def State.gussetsFree (s : State) (c : Nat) : List Nat :=
  (List.range 2).filter fun g =>
    let x := sget (fun _ => (⟨none, false⟩ : Gusset)) s.cal.gusset (2 * c + g)
    x.carries.isNone && !x.failed

/-- A DRAM lane's settings (log 7 for the initial ones: zero, as LANE_VAL resets in Table 12-6). -/
def State.lane (s : State) (c i : Nat) : Lane :=
  sget (fun _ => ⟨⟨0, 0, 0⟩, ⟨0, 0, 0⟩, false, false, 0, 0⟩) s.cal.lanes (74 * c + i)

/-- The bit of every word that a lane carries: its own, that of the retired lane for a gusset lane, and none for a retired one. -/
def State.laneBit (s : State) (c i : Nat) : Option Nat :=
  let carried := fun (g : Nat) => (sget (fun _ => (⟨none, false⟩ : Gusset)) s.cal.gusset (2 * c + g)).carries
  if 72 ≤ i then carried (i - 72) else if carried 0 = some i ∨ carried 1 = some i then none else some i

/-- The bits of every word that FAILED lanes of an exhausted channel spoil (R277). -/
def State.failedLanes (s : State) (c : Nat) : Nat :=
  if (s.gussetsFree c).isEmpty then
    ((List.range 74).map fun i => if (s.lane c i).failed then (match s.laneBit c i with | some b => 2 ^ b | none => 0) else 0).sum
  else 0

/-- Error mask of a stored word (R426). -/
def State.flip (s : State) (p w : Nat) : Nat := sget (fun _ => 0) s.dram.flips (146 * p + w)

/-- Error mask of a word as the DRC receives it, with failed lanes. -/
def State.seen (s : State) (p w : Nat) : Nat := s.flip p w ||| s.failedLanes (chanOf p)

/-- How many of 72 bits are set. -/
def weight (m : Nat) : Nat := (bitsOf 72 m).length

/-- What the word code finds (R243): 0 nothing, 1 a corrected bit, 2 flagged; three or more flipped bits are open. -/
def wordClass (m : Nat) : Nat :=
  match weight m with
  | 0 => 0
  | 1 => 1
  | 2 => 2
  | _ => Config.wordCheck m % 3

/-- The error mask left in the delivered word. -/
def wordLeft (m : Nat) : Nat := if weight m ≤ 2 then 0 else Config.wordLeft m

/-- SECTOR_VALID of a page: the first metadata copy, or the second when the first is flagged (Table 11-4). -/
def State.sectorValid (s : State) (p : Nat) : Nat :=
  s.storedWord p (if wordClass (s.seen p 144) = 2 then 145 else 144) % 65536

/-- The valid sectors of a page as a mask (R246). -/
def State.validMask (s : State) (p : Nat) : Nat :=
  match s.pageState p with
  | 1 => 0xFFFF
  | 2 => s.sectorValid p
  | _ => 0

/-- The delivered bytes of a data word. -/
def State.wordBytes (s : State) (p w : Nat) : List Byte :=
  let r := wordLeft (s.seen p w)
  (List.range 8).map fun i => s.byte (pageAddr p + 8 * w + i) ^^^ BitVec.ofNat 8 (r / 2 ^ (8 * i))

/-- Errors added to stored words: physical upsets (R426). -/
def State.upset (s : State) (l : List (Nat × Nat)) : State :=
  forEach l (fun u s => s.withDram fun d =>
    { d with flips := sset (fun _ => 0) d.flips u.1 (sget (fun _ => 0) d.flips u.1 ^^^ (u.2 % 2 ^ 72)) }) s

/-- The errors of a page's words in a list cleared: the words were written. -/
def State.clearFlips (s : State) (p : Nat) (ws : List Nat) : State :=
  s.withDram fun d => { d with flips := d.flips.filter fun e => !(e.1 / 146 == p && ws.contains (e.1 % 146)) }

/-- The valid sectors set: both metadata copies, and the table: INVALID when none is left, VALID when all 16 are (R248, R249). -/
def State.setValid (s : State) (p m : Nat) : State :=
  let st := if m = 0 then 0 else if m = 0xFFFF then 1 else 2
  (s.withDram fun d => { d with
    state := sset (fun _ => 0) d.state p st
    stored := sset (fun _ => 0) (sset (fun _ => 0) d.stored (146 * p + 144) m) (146 * p + 145) m }).clearFlips p [144, 145]

/-! The page code (R244): GF(2^8) with x^8 + x^4 + x^3 + x^2 + 1, roots α^0 to α^15 with α = 2. Data word 0 is the symbol of the
highest degree and check word 143 that of degree 0 (log 105). -/

/-- A symbol times α. -/
def gfDouble (a : Nat) : Nat := if a < 128 then 2 * a else (2 * a) ^^^ 0x11D

/-- The product of two symbols. -/
def gfMul (a b : Nat) : Nat :=
  ((List.range 8).foldl (fun (x : Nat × Nat) i => (if b.testBit i then x.1 ^^^ x.2 else x.1, gfDouble x.2)) (0, a)).1

/-- The generator's coefficients below degree 16, from degree 0. -/
def rsGenerator : List Nat :=
  ((List.range 16).foldl (fun (x : List Nat × Nat) _ =>
    (List.zipWith (· ^^^ ·) (0 :: x.1) ((x.1.map (gfMul x.2)) ++ [0]), gfDouble x.2)) ([1], 1)).1.take 16

/-- The remainder of a codeword's data by the generator with one more symbol, the highest degree first (DEDUCED, log 105). -/
def rsStep (r : List Nat) (d : Nat) : List Nat :=
  let f := d ^^^ r.getD 15 0
  List.zipWith (· ^^^ ·) (0 :: r.dropLast) (rsGenerator.map (gfMul f))

/-- The 16 check symbols of 128 data symbols, in the order of words 128 to 143. -/
def rsChecks (data : List Nat) : List Nat := (data.foldl rsStep (List.replicate 16 0)).reverse

/-- The fixed coefficients by which data word `i` enters the check symbols. -/
def rsWeight (i : Nat) : List Nat := rsChecks (List.replicate i 0 ++ 1 :: List.replicate (127 - i) 0)

/-- Byte lane `b` of a word. -/
def laneByte (b w : Nat) : Nat := w / 2 ^ (8 * b) % 256

/-- Words made of the symbols of the eight byte lanes. -/
def joinLanes (l : Nat → List Nat) : List Nat :=
  (List.range 16).map fun k => ((List.range 8).map fun b => (l b).getD k 0 * 2 ^ (8 * b)).sum

/-- The 16 check words of a page's data words. -/
def pageChecks (word : Nat → Nat) : List Nat := joinLanes fun b => rsChecks ((List.range 128).map fun i => laneByte b (word i))

/-- The change of the check words when data word `i` changes by a difference (R252). -/
def checkDelta (i diff : Nat) : List Nat := joinLanes fun b => (rsWeight i).map (gfMul (laneByte b diff))

/-- A data word of a page as it is stored without its errors. -/
def State.dataWord (s : State) (p i : Nat) : Nat := leNat (s.bytes (pageAddr p + 8 * i) 8)

/-- The check words stored in a page's row. -/
def State.rowChecks (s : State) (p : Nat) : List Nat := (List.range 16).map fun k => s.storedWord p (128 + k)

/-- The check words of a page in the page-check cache of its channel (R253). -/
def State.cachedChecks (s : State) (p : Nat) : Option (List Nat) :=
  ((sget (fun _ => []) s.dram.cache (chanOf p)).find? fun e => e.1 == p).map (·.2)

/-- Check words written to a page's row, and in the same step to its cache entry when one exists (R253). -/
def State.putChecks (s : State) (p : Nat) (c : List Nat) : State :=
  (s.withDram fun d => { d with
    stored := (c.take 16).zipIdx.foldl (fun m x => sset (fun _ => 0) m (146 * p + 128 + x.2) x.1) d.stored
    cache := sset (fun _ => []) d.cache (chanOf p)
      ((sget (fun _ => []) d.cache (chanOf p)).map fun e => if e.1 == p then (p, c) else e) }).clearFlips p
    ((List.range 16).map (· + 128))

/-- A page's check words used by a drain: its entry becomes the most recently used of 64, and is made when the row's were read (R253,
log 108). -/
def State.cachePage (s : State) (p : Nat) (c : List Nat) : State :=
  s.withDram fun d => { d with
    cache := sset (fun _ => []) d.cache (chanOf p) (((p, c) :: (sget (fun _ => []) d.cache (chanOf p)).filter fun e => e.1 != p).take 64) }

/-- A cache entry that fails its own parity is discarded (R253). -/
def State.dropCached (s : State) (p : Nat) : State :=
  s.withDram fun d => { d with
    cache := sset (fun _ => []) d.cache (chanOf p) ((sget (fun _ => []) d.cache (chanOf p)).filter fun e => e.1 != p) }

/-- ERR_CAUSE of DRC for a page (Table 11-9). -/
def drcCause (c req p : Nat) : Nat := c + 256 * req + 4096 * chanOf p + 524288 * bankOf p

/-! Row sparing and retirement. -/

/-- The repair map of a bank (R261, R262): the pages repaired, hard and soft, and those on their way, each with its spare row. -/
def State.repairMap (s : State) (key : Nat) : List (Nat × Nat) :=
  ((s.fuse.hard ++ s.dram.soft ++ s.dram.copies.map (·.1)).filter fun p => bankKey p == key).zipIdx

/-- Spare rows in use in a bank. -/
def State.sparesUsed (s : State) (key : Nat) : Nat := (s.repairMap key).length

/-- A page is retired (R265): its writes are dropped with its data, SPARE_EXHAUSTED is raised, the fault manager hears. -/
def State.retire (s : State) (p req : Nat) : State :=
  let s1 := s.withDram fun d =>
    { d with state := sset (fun _ => 0) d.state p 3
             retired := if d.retired.contains p then d.retired else d.retired ++ [p],
             merge := d.merge.filter fun m => m.page != p }
  let s2 := s1.fail pgDrc 3 (drcCause 3 req p) (pageAddr p)
  { s2 with flt := { s2.flt with due := s2.flt.due ++ [.retired p] } }

/-- The row of a page chosen for sparing (R261): a copy is requested, or the page is retired when the bank has no spare. -/
def State.spareRow (s : State) (p req : Nat) : State :=
  if (s.dram.copies.map (·.1)).contains p || s.pageState p == 3 then s
  else if s.sparesUsed (bankKey p) < 32 then
    s.withDram fun d => { d with copies := d.copies ++ [(p, req)], locks := d.locks ++ [⟨p, true, req, s.clk.up, []⟩] }
  else s.retire p req

/-- Whether the page's copy is the one that runs in its bank (Table 11-7). -/
def copyRuns (d : Dram) (p : Nat) : Bool :=
  match d.copies.find? fun c => bankKey c.1 == bankKey p with
  | some c => c.1 == p
  | none => false

/-- The lock that holds a page now (R254). -/
def lockOf (d : Dram) (p : Nat) : Option PageLock :=
  d.locks.find? fun l => l.page == p && (!l.copy || copyRuns d p)

/-! Buckets and row-error tables (R259). -/

/-- CE_RATE level: THRESH, 0 acting as 2. -/
def State.thresh (s : State) : Nat := if s.rfld pgDrc 0x108 16 8 = 0 then 2 else s.rfld pgDrc 0x108 16 8

/-- Errors added to a bank's bucket; CE_RATE when it first reaches THRESH. -/
def State.bucketAdd (s : State) (p n : Nat) : State :=
  let b := sget (fun _ => (⟨0, false⟩ : Bucket)) s.dram.buckets (bankKey p)
  let l := satAdd 8 b.level n
  let up := decide (s.thresh ≤ l) && !b.raised
  let s1 := s.withDram fun d =>
    { d with buckets := sset (fun _ => (⟨0, false⟩ : Bucket)) d.buckets (bankKey p) ⟨l, b.raised || up⟩ }
  if up then s1.event pgDrc 0 else s1

/-- The row-error table of a channel with `n` corrected words more for a row: most recent first, eight entries. -/
def rowTable (t : List (Nat × Nat)) (p n : Nat) : List (Nat × Nat) :=
  let c := ((t.find? fun e => e.1 == p).map (·.2)).getD 0 + n
  ((p, c) :: t.filter fun e => e.1 != p).take 8

/-- ROW_LIMIT, 0 acting as 1. -/
def State.rowLimit (s : State) : Nat := max 1 (s.rfld pgDrc 0x108 24 4)

/-- Corrected words entered in the row-error table; the row is spared at ROW_LIMIT or when `must` (R259) while AUTO_SPARE
is 1. -/
def State.rowError (s : State) (p req n : Nat) (must : Bool) : State :=
  let t := rowTable (sget (fun _ => []) s.dram.rowErr (chanOf p)) p n
  let s1 := s.withDram fun d => { d with rowErr := sset (fun _ => []) d.rowErr (chanOf p) t }
  let c := ((t.find? fun e => e.1 == p).map (·.2)).getD 0
  if (must || decide (s.rowLimit ≤ c)) && bitAt (s.reg pgDrc 8) 1 then s1.spareRow p req else s1

/-- `n` corrected words counted in CE_WORD (Table 11-4). -/
def State.countWords (s : State) (p n : Nat) : State :=
  let r := chReg (chanOf p)
  (s.bump pgDrc 0x10C 0 32 n).bump r.1 r.2 0 16 n

/-- Both metadata copies are flagged. -/
def State.metaLost (s : State) (p : Nat) : Bool :=
  wordClass (s.seen p 144) == 2 && wordClass (s.seen p 145) == 2

/-- The words of a list that a read corrects (Table 11-4): those with a single-bit error, and a flagged metadata copy while the other
is not (DEDUCED, log 107). -/
def State.corrected (s : State) (p : Nat) (ws : List Nat) : List Nat :=
  ws.filter fun w => wordClass (s.seen p w) == 1 || (decide (144 ≤ w) && wordClass (s.seen p w) == 2 && !s.metaLost p)

/-- The corrected words that count in bucket and row-error table: not those of a failed lane of an exhausted channel (R277). -/
def State.ownErrors (s : State) (p : Nat) (ws : List Nat) : Nat :=
  ((s.corrected p ws).filter fun w => s.failedLanes (chanOf p) == 0 || s.seen p w != s.failedLanes (chanOf p)).length

/-- Words of a page read, with their corrections counted, and 2 ns of slip for each (Table 11-4, log 107). -/
def State.correct (s : State) (p req : Nat) (ws : List Nat) : State :=
  let n := (s.corrected p ws).length
  let own := s.ownErrors p ws
  let s1 := (s.countWords p n).when (decide (req < 6)) fun s => s.addSlip req (2 * n)
  if own = 0 then s1 else (s1.bucketAdd p own).rowError p req own false

/-! Reconstruction (R244, R256, R257). -/

/-- Whether the page code recovers the page: in every byte lane 2e + f ≤ 16. -/
def State.recovers (s : State) (p : Nat) : Bool :=
  let ws := List.range 144
  let f := (ws.filter fun w => wordClass (s.seen p w) == 2).length
  (List.range 8).all fun b =>
    let e := (ws.filter fun w => wordClass (s.seen p w) != 2 &&
      wordLeft (s.seen p w) / 2 ^ (8 * b) % 256 != 0).length
    decide (2 * e + f ≤ 16)

/-- The sectors that hold a flagged or wrong word. -/
def State.badSectors (s : State) (p : Nat) : Nat :=
  ((List.range 16).map fun q =>
    if (List.range 8).any fun i => wordClass (s.seen p (8 * q + i)) == 2 || wordLeft (s.seen p (8 * q + i)) != 0
    then 2 ^ q else 0).sum

/-- An unrecoverable page (R257): its lost sectors become invalid, checks and metadata are written afresh over the stored
words, the UE log takes an entry, UE is raised, and the row is chosen for sparing. -/
def State.uncorrectable (s : State) (p req lost : Nat) : State :=
  let i := s.rfld pgDrc 0x110 0 4
  let r := chReg (chanOf p)
  let keep := s.validMask p - (s.validMask p &&& lost)
  let s1 := forEach (List.range 128) (fun w s =>
    forEach (List.range 8) (fun k s =>
      s.setByte (pageAddr p + 8 * w + k)
        (s.byte (pageAddr p + 8 * w + k) ^^^ BitVec.ofNat 8 (s.flip p w / 2 ^ (8 * k)))) s) s
  let s2 := (((s1.clearFlips p (List.range 146)).putChecks p (pageChecks (s1.dataWord p))).setValid p keep)
  let s3 := (((s2.setReg pgDrc (0x200 + 16 * i) (BitVec.ofNat 32 (pageAddr p))).setReg pgDrc (0x204 + 16 * i)
    (BitVec.ofNat 32 (pageAddr p / 2 ^ 32))).setReg pgDrc (0x208 + 16 * i) (BitVec.ofNat 32 (lost + 65536 * req))).setReg
    pgDrc (0x20C + 16 * i) (BitVec.ofNat 32 s.time32)
  let s4 := ((s3.setRfld pgDrc 0x110 0 4 ((i + 1) % 16)).bump pgDrc 0x20 0 16 1).bump r.1 (r.2 + 4) 0 8 1
  let s5 := (s4.fail pgDrc 1 (drcCause 1 req p) (pageAddr p)).fault 0x10 (chanOf p) 0
  let s6 : State := { s5 with flt := { s5.flt with due := s5.flt.due ++ [.ue p] } }
  s6.rowError p req 0 true

/-- A reconstruction of the page (R256): all 146 words are read, their single-bit errors counted, and corrected words written back, or
the page is lost as R257 says. The answer is the mask of lost sectors. -/
def State.reconstruct (s : State) (p req : Nat) : State × Nat :=
  let all := List.range 146
  let f := ((List.range 144).filter fun w => wordClass (s.seen p w) == 2).length
  let own := s.ownErrors p all
  let r := chReg (chanOf p)
  let s1 := (((s.bump pgDrc 0x20 16 16 1).bump r.1 r.2 16 16 1).countWords p (s.corrected p all).length).bucketAdd p (8 + own)
  if s.metaLost p then (s1.uncorrectable p req 0xFFFF, 0xFFFF)
  else if s.recovers p then
    ((s1.clearFlips p all).rowError p req (f + own) (decide (3 ≤ f)), 0)
  else (s1.uncorrectable p req (s.badSectors p), s.badSectors p)

/-! Merge buffer (R248, R251, R252). -/

/-- The merge entry of a page. -/
def State.mergeOf (s : State) (p : Nat) : Option Merge := s.dram.merge.find? fun m => m.page == p

/-- The byte of an entry at an offset, if it was written. -/
def mergeByte (m : Merge) (o : Nat) : Option Byte := (m.bytes.find? fun e => e.1 == o).map (·.2)

/-- The sectors an entry writes. -/
def mergeSectors (m : Merge) : Nat :=
  ((List.range 16).map fun q => if m.bytes.any fun e => e.1 / 64 == q then 2 ^ q else 0).sum

/-- The old words a drain reads (R252): none for a full mask; the touched words, the check words unless cached, and the
metadata of a PARTIAL page. -/
def State.drainReads (s : State) (m : Merge) : List Nat :=
  if m.bytes.length = 1024 || s.pageState m.page == 0 then []
  else (List.range 128).filter (fun w => m.bytes.any fun e => e.1 / 8 == w)
    ++ (if (s.cachedChecks m.page).isSome then [] else (List.range 16).map (· + 128))
    ++ (if s.pageState m.page == 2 then [144, 145] else [])

/-- The bytes of an entry merged into the page by its valid state (R248). The check words are computed afresh for a whole page, else
from the cache or the row by the differences of the changed words (R252); the metadata is written when a sector's validity changes, or a
copy was found flagged (Table 11-4). The words written hold no error after it. -/
def State.applyMerge (s : State) (m : Merge) : State :=
  let p := m.page
  let old := s.validMask p
  let new := mergeSectors m
  let fresh := s.pageState p == 0 || m.bytes.length == 1024
  let s1 := forEach (List.range 1024) (fun o s =>
    match mergeByte m o with
    | some b => s.setByte (pageAddr p + o) b
    | none =>
      if s.pageState p == 0 || (new.testBit (o / 64) && !old.testBit (o / 64)) then s.setByte (pageAddr p + o) 0
      else s) s
  let changed := (List.range 128).filter fun w => fresh || m.bytes.any (fun e => e.1 / 8 == w) ||
    (new.testBit (w / 8) && !old.testBit (w / 8))
  let c0 := (s.cachedChecks p).getD (s.rowChecks p)
  let c := if fresh then pageChecks (s1.dataWord p)
    else changed.foldl (fun c w => List.zipWith (· ^^^ ·) c (checkDelta w (s.dataWord p w ^^^ s1.dataWord p w))) c0
  let s2 := (s1.clearFlips p changed).putChecks p c
  let s3 := if fresh then s2 else s2.cachePage p c
  let bad := s.pageState p == 2 && (wordClass (s.seen p 144) == 2 || wordClass (s.seen p 145) == 2)
  if fresh || (old ||| new) != old || bad then s3.setValid p (old ||| new) else s3

/-- A page's entry drained (R252): a flagged old word leads to reconstruction first; a retired page's is discarded. -/
def State.drainPage (s : State) (p req : Nat) : State :=
  match s.mergeOf p with
  | none => s
  | some m =>
    let s1 := s.withDram fun d => { d with merge := d.merge.filter fun x => x.page != p }
    if s.pageState p == 3 then s1
    else
      let ws := s.drainReads m
      let s2 := if ws.any (fun w => wordClass (s.seen p w) == 2 && (decide (w < 144) || s.metaLost p)) then (s1.reconstruct p req).1
        else s1.correct p req ws
      if s2.pageState p == 3 then s2 else s2.applyMerge m

/-- Entries of a channel. -/
def State.mergeCount (s : State) (c : Nat) : Nat := (s.dram.merge.filter fun m => chanOf m.page == c).length

/-- Bytes of a masked write put into an entry's map, later over earlier. -/
def mergeBytes (m : Sparse Byte) (o : Nat) : List (Option Byte) → Sparse Byte
  | [] => m
  | none :: l => mergeBytes m (o + 1) l
  | some b :: l => mergeBytes (sput (sdrop m o) o b) (o + 1) l

/-- An access put to wait at a page's lock; a drain waits there once. -/
def State.waitAt (s : State) (p : Nat) (w : WaitOp) : State :=
  s.withDram fun d =>
    { d with locks := d.locks.map fun l =>
        if l.page == p && (!l.copy || copyRuns d p) && !(w == .drain && l.waits.contains .drain) then { l with waits := l.waits ++ [w] }
        else l }

/-- A masked write to one sector accepted into the merge buffer (R248, R251); a retired page discards it (R266). The
answer says whether it was taken. -/
def State.writeSector (s : State) (req a : Nat) (bytes : List (Option Byte)) : State × Bool :=
  let p := pageNum a
  if s.pageState p == 3 then (s.fail pgDrc 4 (drcCause 2 req p) (pageAddr p), false)
  else
    let o := (a - dramBase) % 1024
    let e := (s.mergeOf p).getD ⟨p, [], s.clk.up⟩
    let e1 := { e with bytes := mergeBytes e.bytes o bytes }
    let s1 := s.withDram fun d =>
      { d with merge := if (s.mergeOf p).isSome then d.merge.map fun m => if m.page == p then e1 else m
                        else d.merge ++ [e1] }
    let c := chanOf p
    let r := chReg c
    let s2 := s1.maxRfld r.1 (r.2 + 4) 16 8 (s1.mergeCount c)
    let s3 := if e1.bytes.length = 1024 then s2.drainPage p req else s2
    if 24 ≤ s3.mergeCount c then
      match s3.dram.merge.find? fun m => chanOf m.page == c with
      | some m => (if (lockOf s3.dram m.page).isSome then s3.waitAt m.page .drain else s3.drainPage m.page req, true)
      | none => (s3, true)
    else (s3, true)

/-! Reads (R241, R247, R254). -/

/-- The words that a read of sector q reads: its data words when it is valid, the metadata of a PARTIAL page. -/
def State.readWords (s : State) (p q : Nat) : List Nat :=
  (if (s.validMask p).testBit q then (List.range 8).map (· + 8 * q) else [])
    ++ (if s.pageState p == 2 then [144, 145] else [])

/-- Whether the read finds a word that only a reconstruction can recover. -/
def State.needsRecon (s : State) (p q : Nat) : Bool :=
  (s.readWords p q).any fun w => decide (w < 144) && wordClass (s.seen p w) == 2 || (decide (144 ≤ w) && s.metaLost p)

/-- The sector as it reads with the page's merge entry laid over it (R254). -/
def State.sectorData (s : State) (p q : Nat) : List Byte × Bool :=
  let v := (s.validMask p).testBit q
  let base := if v then ((List.range 8).map fun i => s.wordBytes p (8 * q + i)).flatten else List.replicate 64 0
  match s.mergeOf p with
  | none => (base, v)
  | some m =>
    ((base.zip (List.range 64)).map fun x => (mergeByte m (64 * q + x.2)).getD x.1, v || (mergeSectors m).testBit q)

/-- The response of a read once the page needs no reconstruction; `poison` names sectors just lost (R257). -/
def State.respond (s : State) (req a poison : Nat) : State × ReadResp :=
  let p := pageNum a
  let q := (a - dramBase) % 1024 / 64
  let at_ := pageAddr p + 64 * q
  if s.pageState p == 3 then
    (s.fail pgDrc 4 (drcCause 2 req p) (pageAddr p), ⟨req, at_, List.replicate 64 0, false, poison.testBit q, true⟩)
  else
    let d := s.sectorData p q
    (s.correct p req (s.readWords p q), ⟨req, at_, d.1, d.2, poison.testBit q, false⟩)

/-- A sector read to its end within the step: a reconstruction it needs runs at once, and its measured time,
added to an engine's slip (Table 10-2), is a free value (log 14). -/
def State.readNow (s : State) (req a : Nat) : State × ReadResp :=
  let p := pageNum a
  let q := (a - dramBase) % 1024 / 64
  if s.needsRecon p q then
    let r := (s.when (decide (req < 6)) fun s => (s.addSlip req (s.freeWord.toNat % 2 ^ 16)).drawn).reconstruct p req
    r.1.respond req a r.2
  else s.respond req a 0

/-- Sectors of a page cleared; the page's entry drains first (R254). -/
def State.invalSectors (s : State) (p mask : Nat) : State :=
  let s1 := s.drainPage p 10
  if s1.pageState p == 3 || s1.pageState p == 0 then s1
  else s1.setValid p (s1.validMask p - (s1.validMask p &&& mask))

/-! Page locks (R254, R256, R261). -/

/-- A response delivered. -/
def State.answer (r : State × ReadResp) : State := r.1.withDram fun d => { d with resp := d.resp ++ [r.2] }

/-- The wait of an engine's access at a lock, in its slip (Table 10-2, R261). -/
def State.waited (s : State) (req since : Nat) : State :=
  s.when (decide (req < 6)) fun s => s.addSlip req (s.clk.up - since)

/-- An access performed when its page's lock is released, or put to wait at the next lock of the page; `poison` goes to the read that
found the error (R257). -/
def State.perform (s : State) (p : Nat) (w : WaitOp) (poison : Nat) : State :=
  if (lockOf s.dram p).isSome then s.waitAt p w
  else match w with
    | .read req a since =>
      let s1 := s.waited req since
      State.answer (if poison = 0 then s1.readNow req a else s1.respond req a poison)
    | .write req a b since => ((s.waited req since).writeSector req a b).1
    | .inval m => s.invalSectors p m
    | .drain => s.drainPage p 10

/-- A lock released: the accesses that wait are performed in order (R254). An error that the scrubber found poisons no read. -/
def State.release (s : State) (l : PageLock) (poison : Nat) : State :=
  let s1 := s.withDram fun d => { d with locks := d.locks.filter fun x => x != l }
  match l.waits with
  | [] => s1
  | w :: ws => forEach ws (fun w s => s.perform l.page w 0) (s1.perform l.page w (if l.req = 11 then 0 else poison))

/-- A reconstruction that holds a page's lock ends (R256, R257). -/
def State.reconDone (s : State) (l : PageLock) : State :=
  let r := s.reconstruct l.page l.req
  r.1.release l r.2

/-- A sparing copy ends (R261, R262): a pending merge entry of the row drained first (Table 11-7); the repair is logged and the lock
released. -/
def State.copyDone (s : State) (p : Nat) : State :=
  let s0 := s.drainPage p 12
  let bad := (List.range 144).any fun w => wordClass (s0.seen p w) == 2
  let s2 := if s0.pageState p == 0 then s0
    else if bad || s0.metaLost p then (s0.reconstruct p 12).1
    else (s0.correct p 12 (List.range 146)).clearFlips p (List.range 146)
  let r := chReg (chanOf p)
  let s3 := s2.withDram fun d =>
    { d with copies := d.copies.filter fun c => c.1 != p, soft := d.soft ++ [p],
             rowErr := sset (fun _ => []) d.rowErr (chanOf p)
               ((sget (fun _ => []) d.rowErr (chanOf p)).filter fun e => e.1 != p) }
  let s4 := ((s3.bump r.1 (r.2 + 4) 8 8 1).log 6 0x12 (logBody p (pageAddr p) 0)).event pgDrc 2
  match s4.dram.locks.find? fun l => l.page == p && l.copy with
  | some l => s4.release l 0
  | none => s4

/-- The locks that hold a page brought to their ends (log 109): a unit of the device needs the page within this step, and waits for
them; an engine's wait, in its slip, is a free value (log 14). -/
def State.unlocked (s : State) (p req : Nat) : State :=
  forEach (s.dram.locks.filter fun l => l.page == p) (fun _ s =>
    match lockOf s.dram p with
    | some l =>
      let s1 := s.when (decide (req < 6)) fun s => (s.addSlip req (s.freeWord.toNat % 2 ^ 16)).drawn
      if l.copy then s1.copyDone p else s1.reconDone l
    | none => s) s

/-- A sector read for a unit of the device. -/
def State.readSector (s : State) (req a : Nat) : State × ReadResp := (s.unlocked (pageNum a) req).readNow req a

/-- Every page lock brought to its end: a copy under way completes, and what waits at a lock is served (Table 11-7, R254). -/
def State.unlockAll (s : State) : State := forEach (s.dram.locks.map (·.page)) (fun p s => s.unlocked p 10) s

/-- Every lock that is held brought to its end, and every merge entry drained (R255, Table 11-7). -/
def State.drainAll (s : State) : State :=
  let s1 := s.unlockAll
  forEach (s1.dram.merge.map (·.page)) (fun p s => s.drainPage p 10) s1

/-- The drain of a reset ends with its last entry: the DRC takes requests again, and the DRAM enters self-refresh (R255, R360). -/
def State.drained (s : State) : State :=
  s.when (s.dram.draining && s.dram.merge.isEmpty) fun s => s.withDram fun d => { d with draining := false, selfRefresh := true }

/-- A grant at an arbitration point counted for the selection of SCHED_ARB_SEL (R233); requests come one by one, so each grant
is a rotation of its own (R231, log 15). -/
def State.grant (s : State) (point inst input leaf : Nat) : State :=
  let sel := s.reg pgSched 0x120
  if fld sel 0 2 = point ∧ fld sel 2 7 = inst then
    let s1 := s.bump pgSched 0x128 0 32 1
    if fld sel 9 4 = input ∧ fld sel 13 7 = leaf then s1.bump pgSched 0x124 0 32 1 else s1
  else s

/-- A requester with the leaf behind it (Table 10-4) as one number. -/
def who (req leaf : Nat) : Nat := req + 16 * leaf

/-- The grant of a DRAM access of a requester with its leaf (R230, R233). -/
def State.granted (s : State) (w a : Nat) : State := s.grant 0 (chanOf (pageNum a)) (w % 16) (w / 16)

/-- What a read of a range found: bytes, whether every sector was valid, poison, and the error indication. -/
structure RangeRead where
  data : List Byte
  valid : Bool
  poison : Bool
  error : Bool
  deriving DecidableEq, Repr

/-- The sectors that cover a range of DRAM. -/
def sectorsOf (a n : Nat) : List Nat :=
  if n = 0 then [] else (List.range ((a + n - 1) / 64 - a / 64 + 1)).map fun i => 64 * (a / 64 + i)

/-- A range of DRAM read for a requester with its leaf, sector by sector. -/
def State.dramRead (s : State) (w a n : Nat) : State × RangeRead :=
  let r := (sectorsOf a n).foldl (fun (x : State × RangeRead) b =>
    let y := (x.1.granted w b).readSector (w % 16) b
    (y.1, ⟨x.2.data ++ y.2.data, x.2.valid && y.2.valid, x.2.poison || y.2.poison, x.2.error || y.2.error⟩))
    (s, ⟨[], true, false, false⟩)
  (r.1, { r.2 with data := (r.2.data.drop (a % 64)).take n })

/-- Bytes written to DRAM in writes within one sector each (R248); the answer says whether a write was rejected. -/
def State.dramWrite (s : State) (w a : Nat) (bytes : List Byte) : State × Bool :=
  (sectorsOf a bytes.length).foldl (fun (x : State × Bool) b =>
    let lo := max a b
    let part := ((bytes.drop (lo - a)).take (b + 64 - lo)).map some
    let y := (((x.1.granted w b).unlocked (pageNum b) (w % 16)).writeSector (w % 16) lo part)
    (y.1, x.2 || !y.2)) (s, false)

/-! Invalidation (R249, R250). -/

/-- Sectors of a page that a range covers, as a mask. -/
def coverMask (p a n : Nat) : Nat :=
  ((List.range 16).map fun q =>
    if a ≤ pageAddr p + 64 * q ∧ pageAddr p + 64 * q + 64 ≤ a + n then 2 ^ q else 0).sum

/-- A range invalidated for a requester: whole pages in the table alone, pages at its ends by sectors, but not those of a list; refused
with ALIGN when it is not aligned to 64 bytes. -/
def State.invalRange (s : State) (req a n : Nat) (held : List Nat) : State :=
  if a % 64 ≠ 0 ∨ n % 64 ≠ 0 then s.cause pgDrc (drcCause 4 req (pageNum a)) (pageAddr (pageNum a))
  else if n = 0 then s
  else
    let p0 := cdiv (a - dramBase) 1024
    let p1 := (a + n - dramBase) / 1024
    let inside := fun (p : Nat) => decide (p0 ≤ p) && decide (p < p1) && !held.contains p
    let s1 := forEach ((s.dram.merge.map (·.page)).filter inside) (fun p s => s.drainPage p 10) s
    let s2 := s1.withDram fun d => { d with state := d.state.filter fun e => !(inside e.1 && e.2 != 3) }
    let ends := if p1 < p0 then [pageNum a]
      else (if (a - dramBase) % 1024 = 0 then [] else [pageNum a]) ++ (if (a + n - dramBase) % 1024 = 0 then [] else [p1])
    forEach (ends.filter fun p => !held.contains p) (fun p s => s.invalSectors p (coverMask p a n)) s2

/-- A range invalidated for a unit of the device: pages whose lock is held wait for it first. -/
def State.invalidate (s : State) (a n : Nat) : State :=
  (forEach ((s.dram.locks.map (·.page)).filter fun p => decide (coverMask p a n ≠ 0)) (fun p s => s.unlocked p 10) s).invalRange 10 a n []

end Sys2Proof.Machine
end

