-- ==== Sys2Proof/Machine/QueueOps.lean ====
section
/-! DEFINITION. The windows of the blocks, and the queue manager: contexts, descriptors, sequence numbers, output areas, and the descriptors that the
device writes (R284 to R297). -/

namespace Sys2Proof.Machine

open Sys2Proof

/-! Windows and freezes of the blocks (R332, R341 to R343). -/

/-- The ranges of resident images, and the supervisor area: protected (R332, R341). -/
def State.inProtected (s : State) (a n : Nat) : Bool :=
  let hit := fun (b m : Nat) => decide (a < b + m) && decide (b < a + n)
  hit supArea (dramEnd - supArea) || (s.images.any fun r => hit r.addr r.size) ||
    (match s.load with | some l => hit l.bind.imageAddr l.bind.imageSize | none => false)

/-- A range lies in DRAM, or in the tiles. -/
def mapped (a n : Nat) : Bool := inDram a n || (decide (0x40000000 ≤ a) && decide (a + n ≤ 0x4C000000))

/-- Work handed to the fault manager (R346). -/
def State.owe (s : State) (d : Due) : State := { s with flt := { s.flt with due := s.flt.due ++ [d] } }

/-- A master frozen (R342): the log record, SEC's registers and event, and the detected fault (class 0x0D). -/
def State.freezeMaster (s : State) (id addr job : Nat) : State :=
  if s.sec.frozen.contains id then s
  else
    let s1 : State := { s with sec := { s.sec with frozen := s.sec.frozen ++ [id], givingUp := s.sec.givingUp ++ [id] } }
    ((((s1.cause pgSec (0x10 + 256 * id) addr).bump pgSec 0x20 16 16 1).log 7 0x0D (logBody id addr 0x10)).event pgSec 1).fault
      0x0D id job

/-- The RFE, OFM, CRS or QM frozen (Table 15-6): every rendering job restarts, or every job for the QM (R354). -/
def State.freezeBlock (s : State) (id addr : Nat) : State :=
  if s.sec.frozen.contains id then s else (s.freezeMaster id addr 0).owe (.restartAll (id == 0x93) 0x0D)

/-- Whether a block may reach a range, and is not frozen. -/
def State.blockOk (s : State) (id a n : Nat) : Bool := !s.sec.frozen.contains id && mapped a n && !s.inProtected a n

/-! Memory through either path. -/

/-- A bank group of a tile. -/
def State.bgroup (s : State) (t g : Nat) : Group := sget (fun _ => Group.on) (s.tile t).groups g

/-- A bank group replaced. -/
def State.setBgroup (s : State) (t g : Nat) (v : Group) : State :=
  let x := s.tile t
  s.setTile t { x with groups := sset (fun _ => Group.on) x.groups g v }

/-- SMEM's cause registers (Table 07-11). -/
def State.smemCause (s : State) (t c port region source addr : Nat) : State :=
  s.cause (pgSmem t) (c + 256 * port + 2048 * region + 65536 * source) addr

/-- The first address of a range of tile t in a bank group that is not ON. -/
def State.offAt (s : State) (t a n : Nat) : Option Nat :=
  let off := a - tileBase t
  if n = 0 then none
  else ((List.range 8).find? fun g => decide (off / 0x400000 ≤ g) && decide (g ≤ (off + n - 1) / 0x400000) && (s.bgroup t g).state != 0).map
    fun g => max a (tileBase t + 0x400000 * g)

/-- Why the fabric port of a tile refuses a range: 2 it is not made of aligned words (R135), else it reaches a group that is not
ON, 4 a read, 5 a write (R154); with the address. A requester splits a range at the lines, so that none of its accesses crosses
one. -/
def State.fabFault (s : State) (t a n : Nat) (wr : Bool) : Option (Nat × Nat) :=
  if a % 4 ≠ 0 ∨ n % 4 ≠ 0 then some (2, a) else (s.offAt t a n).map fun x => (if wr then 5 else 4, x)

/-- A refused access of the fabric port counted and reported (Tables 07-10, 07-11). -/
def State.fabRefuse (s : State) (t : Nat) (f : Nat × Nat) : State :=
  let s1 := (s.smemCause t f.1 7 0 0xF f.2).event (pgSmem t) (if f.1 = 2 then 7 else if f.1 = 4 then 6 else 5)
  if f.1 = 5 then s1.log 7 0x0D (logBody t f.2 5) else s1

/-- A range of DRAM or of one tile read for a requester with its leaf (`who`); a stored parity error or a refusal of the tile gives an error (Table 07-4,
R135, R154). -/
def State.memRead (s : State) (w a n : Nat) : State × RangeRead :=
  if inDram a n then s.dramRead w a n
  else match tileOf a n with
    | some t => match s.fabFault t a n false with
      | some f => (s.fabRefuse t f, ⟨List.replicate n 0, true, false, true⟩)
      | none => (s, ⟨s.bytes a n, true, false, (s.tile t).storedErrs.any fun w => decide (a < w + 4 ∧ w < a + n)⟩)
    | none => (s, ⟨List.replicate n 0, true, false, true⟩)

/-- Bytes written to DRAM or to a tile; the answer says whether a DRAM write was rejected. -/
def State.memWrite (s : State) (w a : Nat) (bytes : List Byte) : State × Bool :=
  if inDram a bytes.length then s.dramWrite w a bytes
  else match tileOf a bytes.length with
    | some t => match s.fabFault t a bytes.length true with
      | some f => (s.fabRefuse t f, true)
      | none => (s.tileWrite t a bytes, false)
    | none => (s, true)

/-- The range reaches a bank group of a tile that is not ON: the master of the access freezes (R154). -/
def State.reachesOff (s : State) (a n : Nat) : Bool :=
  match tileOf a n with
  | some t => a % 4 == 0 && n % 4 == 0 && (s.offAt t a n).isSome
  | none => false

/-- Bytes that a block writes: 0x90 RFE, 0x91 OFM, 0x92 CRS, 0x93 QM; outside its windows nothing is written and it freezes. -/
def State.blockWrite (s : State) (id w a : Nat) (bytes : List Byte) : State :=
  if bytes.isEmpty then s
  else if s.blockOk id a bytes.length then
    let s1 := (s.memWrite w a bytes).1
    if s.reachesOff a bytes.length then s1.freezeBlock id a else s1
  else s.freezeBlock id a

/-- Bytes that a block reads, zero where it may not. -/
def State.blockRead (s : State) (id w a n : Nat) : State × RangeRead :=
  if s.blockOk id a n then
    let r := s.memRead w a n
    (if s.reachesOff a n then r.1.freezeBlock id a else r.1, r.2)
  else (s.freezeBlock id a, ⟨List.replicate n 0, true, false, true⟩)

/-! Contexts (Table 13-1). -/

def QCtx.en (c : QCtx) : Bool := c.mode.testBit 0
def QCtx.dir (c : QCtx) : Nat := c.mode / 2 % 4
def QCtx.delivery (c : QCtx) : Nat := c.mode / 8 % 4
def QCtx.area (c : QCtx) : Bool := c.mode.testBit 5
def QCtx.doneEvt (c : QCtx) : Bool := c.mode.testBit 6
def QCtx.startLoad (c : QCtx) : Bool := c.mode.testBit 7

/-- Slots of the ring. -/
def QCtx.slots (c : QCtx) : Nat := 2 ^ c.log2

/-- Word i of a context as it reads. -/
def ctxWord (c : QCtx) : Nat → Nat
  | 0 => c.ringBase
  | 1 => c.ringBase / 2 ^ 32
  | 2 => c.log2 + 2 ^ 8 * c.mode + 2 ^ 16 * c.channel + 2 ^ 24 * c.owner
  | 3 => c.session + 2 ^ 16 * c.eventQ
  | 4 => c.prod
  | 5 => c.cons
  | 6 => c.avail
  | 7 => c.start
  | 8 => c.areaBase
  | 9 => c.areaBase / 2 ^ 32
  | 10 => c.areaSize
  | 11 => c.areaHead
  | 12 => c.areaTail
  | 13 => c.noSpacePend + 2 ^ 16 * c.lastStatus + 2 ^ 24 * c.halts
  | _ => 0

/-- The context with word i written as software may write it (R285): fields that only the device writes keep their value. -/
def ctxPut (c : QCtx) (i : Nat) (w : Word) : QCtx :=
  let x := w.toNat
  match i with
  | 0 => { c with ringBase := c.ringBase / 2 ^ 32 * 2 ^ 32 + x }
  | 1 => { c with ringBase := c.ringBase % 2 ^ 32 + x % 2 ^ 16 * 2 ^ 32 }
  | 2 => { c with log2 := fld w 0 8, mode := fld w 8 8, channel := fld w 16 8 }
  | 3 => { c with session := fld w 0 16, eventQ := fld w 16 16 }
  | 7 => { c with start := x }
  | 8 => { c with areaBase := c.areaBase / 2 ^ 32 * 2 ^ 32 + x }
  | 9 => { c with areaBase := c.areaBase % 2 ^ 32 + x % 2 ^ 16 * 2 ^ 32 }
  | 10 => { c with areaSize := x }
  | _ => c

/-- The four checks of R285. -/
def ctxOk (c : QCtx) : Bool :=
  decide (4 ≤ c.log2) && decide (c.log2 ≤ 16)
    && (inDram c.ringBase (32 * c.slots) || (tileOf c.ringBase (32 * c.slots)).isSome)
    && (!c.area || (decide (c.areaBase % 128 = 0) && decide (c.areaSize % 128 = 0) && inDram c.areaBase c.areaSize))
    && decide (c.channel < 128)

/-- The context when EN goes to 1 (R286). -/
def enableCtx (c : QCtx) : QCtx :=
  if c.startLoad then
    { c with prod := c.start, cons := c.start, avail := c.start, areaHead := 0, areaTail := 0, noSpacePend := 0 }
  else c

/-- The queue when EN goes to 1: with START_LOAD = 1 what waited is discarded (R286). -/
def enableQueue (x : Queue) (c : QCtx) : Queue :=
  if c.startLoad then { ctx := enableCtx c, allocs := [], pend := none, held := [], sent := c.start }
  else { x with ctx := c }

/-- A QM cause with its event (Table 13-9). -/
def State.qmFail (s : State) (bit c q : Nat) : State := s.fail pgQm bit (c + 256 * q) 0

/-- A host write of word i of context q (R285, R286). -/
def State.ctxWrite (s : State) (q i : Nat) (w : Word) : State :=
  let x := s.queue q
  let c := x.ctx
  let n := ctxPut c i w
  if i = 2 then
    let n1 := if c.owner = 0xFF then n else { n with mode := n.mode / 2 * 2 + c.mode % 2 }
    if c.en then
      if { n1 with mode := n1.mode / 2 * 2 + c.mode % 2 } = c then s.setQueue q { x with ctx := n1 }
      else s.qmFail 2 3 q
    else if n1.en then
      if ctxOk n1 then s.setQueue q (enableQueue x n1)
      else (s.setQueue q { x with ctx := { n1 with mode := n1.mode - 1 } }).qmFail 1 2 q
    else s.setQueue q { x with ctx := n1 }
  else if c.en then
    if n = c then s else s.qmFail 2 3 q
  else s.setQueue q { x with ctx := n }

/-! Descriptors (Table 13-2). -/

/-- The CTRL field. -/
def descCtrl (d : Desc) : Nat :=
  b2n d.own + 2 * d.kind + 32 * b2n d.evtHalf + 64 * b2n d.evtFull + 128 * b2n d.srcInvalid + 256 * d.status

/-- A descriptor's 32 bytes. -/
def descBytes (d : Desc) : List Byte :=
  leBytes 4 d.seq ++ leBytes 2 (descCtrl d) ++ leBytes 2 d.flags ++ leBytes 6 d.addr ++ leBytes 1 d.stream
    ++ leBytes 1 d.job ++ leBytes 4 d.length ++ leBytes 4 d.frameSeq ++ leBytes 4 d.aux0 ++ leBytes 4 d.aux1

/-- The descriptor that 32 bytes spell. -/
def descOf (b : List Byte) : Desc :=
  let c := leAt b 4 2
  ⟨leAt b 0 4, c.testBit 0, c / 2 % 16, c.testBit 5, c.testBit 6, c.testBit 7, c / 256, leAt b 6 2, leAt b 8 6,
   leAt b 14 1, leAt b 15 1, leAt b 16 4, leAt b 20 4, leAt b 24 4, leAt b 28 4⟩

/-- The device address of slot SEQ (R287). -/
def slotAddr (c : QCtx) (n : Nat) : Nat := c.ringBase + 32 * (n % c.slots)

/-- A descriptor of a ring read. -/
def State.readDesc (s : State) (q n : Nat) : State × Desc :=
  let c := (s.queue q).ctx
  let r := s.blockRead 0x93 (who 6 c.channel) (slotAddr c n) 32
  (r.1, descOf r.2.data)

/-- A posted D2H queue: every descriptor arrives with its buffer named. -/
def QCtx.posted (c : QCtx) : Bool := decide (c.dir = 0) && !c.area

/-- Slots that the device may write: free ones, or those that host software has posted (R289). -/
def freeSlots (c : QCtx) : Nat :=
  if c.posted then (if seqAhead c.avail c.prod then seqDist c.avail c.prod else 0) else c.slots - seqDist c.prod c.cons

/-- Whether the ring has a slot for PROD_SEQ (R289). -/
def slotFree (c : QCtx) : Bool := decide (0 < freeSlots c)

/-- Whether the channel of a queue is at rest or coming to rest (R300, R301), or the QM is frozen (R342). -/
def State.chanStopped (s : State) (q : Nat) : Bool :=
  match (s.chan (s.queue q).ctx.channel).state with
  | .stopping | .stopped | .halted | .frozen => true
  | _ => s.sec.frozen.contains 0x93

/-- The allocation of a buffer told which descriptor frees it (R291). -/
def allocEnd : List Alloc → Nat → Nat → List Alloc
  | [], _, _ => []
  | a :: l, b, n => if a.base = b ∧ a.last = none then { a with last := some n } :: l else a :: allocEnd l b n

/-- A descriptor written at PROD_SEQ (R288): OWN is 0 for D2H and 1 for INTERNAL queues. -/
def State.writeDesc (s : State) (q : Nat) (d : Desc) : State :=
  let x := s.queue q
  let c := x.ctx
  let d1 := { d with seq := c.prod, own := decide (c.dir = 2) }
  let s1 := s.blockWrite 0x93 (who 7 c.channel) (slotAddr c c.prod) (descBytes d1)
  let ends := d.kind ≠ 0 ∧ d.addr ≠ 0 ∧ c.area
  s1.setQueue q { s1.queue q with
    ctx := { (s1.queue q).ctx with prod := (c.prod + 1) % 2 ^ 32, lastStatus := d.status,
                                   cons := if c.posted then (c.prod + 1) % 2 ^ 32 else c.cons }
    allocs := if ends then allocEnd x.allocs (d.addr - c.areaBase) c.prod else x.allocs }

/-- DESC_HALF or DESC_DONE sent to the queue's EVENT_Q, or as an event of its SESSION (R297, R321); an EVENT descriptor
raises no event of its own (log 16). -/
def State.announce (s : State) (q code arg0 arg1 : Nat) : State :=
  let c := (s.queue q).ctx
  if c.eventQ = 0xFFFF then s.deviceEvent code arg0 arg1 (c.session % 32)
  else
    let t := c.eventQ
    let d : Desc := ⟨0, false, 5, false, false, false, 0, 0, 0, 0xFF, 0xFF, 0, arg1, code + 0xFFFF0000, arg0⟩
    if (s.queue t).ctx.en && slotFree (s.queue t).ctx && !s.chanStopped t then s.writeDesc t d
    else s.setQueue t { s.queue t with held := (s.queue t).held ++ [(d, none)] }

/-- DESC_DONE of a descriptor (Table 14-8). -/
def State.descDone (s : State) (q n status : Nat) : State :=
  s.announce q 0x101 (q % 2 ^ 14 + 2 ^ 16 * (status % 256)) n

/-- The read-back of the last 64-byte sector or 128-byte line that was written (R296). -/
def State.readBack (s : State) (w a : Nat) : State × RangeRead :=
  if a < dramBase then s.memRead w (a / 128 * 128) 128 else s.memRead w (a / 64 * 64) 64

/-- A device-produced descriptor completed (R296): the read-back of the last byte decides POISON, then the descriptor is
written. A posted one keeps the event bits that host software gave it; DESC_DONE is raised when DONE_EVT or EVT_FULL is 1 or the
descriptor failed, with a STATUS other than OK (R297; DEDUCED, log 110). -/
def State.completeDesc (s : State) (q : Nat) (d : Desc) (back : Option Nat) : State :=
  let c := (s.queue q).ctx
  let r := match back with
    | some a => if mapped a 1 ∧ d.length ≠ 0 then s.readBack (who 9 d.stream) a else (s, ⟨[], true, false, false⟩)
    | none => (s, ⟨[], true, false, false⟩)
  let bad := !r.2.valid || r.2.poison || r.2.error
  let p := if c.posted then r.1.readDesc q c.prod else (r.1, d)
  let d1 := { d with status := if bad then 4 else d.status, evtHalf := p.2.evtHalf, evtFull := p.2.evtFull }
  let s1 := (p.1.when (d1.evtHalf && decide (1 ≤ d1.length)) fun s => s.announce q 0x100 q c.prod).writeDesc q d1
  if c.doneEvt || d1.evtFull || d1.status != 0 then s1.descDone q c.prod d1.status else s1

/-- A descriptor produced by the device: written now, or held while the queue is stopped or full (R300, R301). -/
def State.produce (s : State) (q : Nat) (d : Desc) (back : Option Nat) : State :=
  let x := s.queue q
  if x.ctx.en && x.held.isEmpty && slotFree x.ctx && !s.chanStopped q then s.completeDesc q d back
  else s.setQueue q { x with held := x.held ++ [(d, back)] }

/-- Held descriptors written while there is room, in order, each after its read-back (R296); `n` bounds the number written. -/
def State.flushHeld : Nat → State → Nat → State
  | 0, s, _ => s
  | n + 1, s, q =>
    let x := s.queue q
    match x.held with
    | [] => s
    | d :: l =>
      if x.ctx.en && slotFree x.ctx && !s.chanStopped q then
        State.flushHeld n ((s.setQueue q { x with held := l }).completeDesc q d.1 d.2) q
      else s

/-- The waiting NO_SPACE close written as soon as a slot is free (R292), before any held descriptor of a later frame. -/
def State.flushQueue (s : State) (q : Nat) : State :=
  let x := s.queue q
  match x.pend with
  | some d =>
    if x.ctx.en && slotFree x.ctx && !s.chanStopped q then
      let s1 := (s.setQueue q { x with pend := none, ctx := { x.ctx with noSpacePend := 0 } }).completeDesc q d none
      State.flushHeld x.held.length s1 q
    else s
  | none => State.flushHeld x.held.length s q

/-! Output areas (R291). -/

/-- Bytes of an area in use. -/
def areaUsed (x : Queue) : Nat := (x.allocs.map (·.bytes)).sum

/-- The offset and the bytes that an allocation takes, if the area has room: 128-byte aligned, never split across the end. -/
def areaFit (x : Queue) (n : Nat) : Option (Nat × Nat) :=
  let c := x.ctx
  let need := alignUp n 128
  let wrap := decide (c.areaSize < c.areaHead + need)
  let take := if wrap then c.areaSize - c.areaHead + need else need
  if areaUsed x + take ≤ c.areaSize ∧ need ≤ c.areaSize then some (if wrap then 0 else c.areaHead, take) else none

/-- A buffer allocated in a queue's area; its device address, if the area has room. -/
def State.allocate (s : State) (q n : Nat) : State × Option Nat :=
  let x := s.queue q
  match areaFit x n with
  | none => (s, none)
  | some (o, take) =>
    let h := o + alignUp n 128
    (s.setQueue q { x with ctx := { x.ctx with areaHead := if h = x.ctx.areaSize then 0 else h },
                           allocs := x.allocs ++ [⟨o, take, none⟩] }, some (x.ctx.areaBase + o))

/-- A buffer for `n` bytes of a queue: allocated in its area, or the next posted one with its capacity (R284, R291). -/
def State.takeBuffer (s : State) (q n : Nat) : State × Option (Nat × Nat) :=
  let c := (s.queue q).ctx
  if c.area then
    let r := s.allocate q n
    (r.1, r.2.map fun a => (a, n))
  else if c.posted && slotFree c && (s.queue q).held.isEmpty then
    let r := s.readDesc q c.prod
    (r.1, some (r.2.addr, r.2.length))
  else (s, none)

/-- The status and length of data written to a buffer: a posted buffer that is too small is TRUNCATED (Table 13-4). -/
def fitted (n cap : Nat) : Nat × Nat := if n ≤ cap then (0, n) else (9, cap)

/-- Allocations whose descriptor lies before CONS_SEQ, freed in order. -/
def freeAllocs (cons : Nat) : List Alloc → List Alloc
  | [] => []
  | a :: l =>
    match a.last with
    | some n => if seqAhead cons n then freeAllocs cons l else a :: l
    | none => a :: l

/-- The oldest unreturned buffer's offset. -/
def areaTailOf (c : QCtx) : List Alloc → Nat
  | [] => c.areaHead
  | a :: _ => a.base

/-- Descriptors returned up to CONS_SEQ = v: slots and buffers are free again, and what waited for them is written. -/
def State.returnTo (s : State) (q v : Nat) : State :=
  let x := s.queue q
  let l := freeAllocs v x.allocs
  let c := { x.ctx with cons := v }
  (s.setQueue q { x with ctx := { c with areaTail := areaTailOf c l }, allocs := l }).flushQueue q

/-- A frame, crop, record or step skipped on a queue (R292): the close is written now when a slot is free, else it waits,
and a close that waits takes the frame into its count. -/
def State.noSpace (s : State) (q : Nat) (d : Desc) : State :=
  let s0 := (s.qmFail 3 4 q).bump pgQm 0x108 0 16 1
  let x := s0.queue q
  let d1 := { d with status := 7, length := 0, addr := 0 }
  match x.pend with
  | some p => s0.setQueue q { x with pend := some { p with aux1 := p.aux1 + 1 },
                                     ctx := { x.ctx with noSpacePend := (x.ctx.noSpacePend + 1) % 2 ^ 16 } }
  | none =>
    if x.ctx.en && x.held.isEmpty && slotFree x.ctx && !s0.chanStopped q then s0.completeDesc q d1 none
    else s0.setQueue q { x with pend := some d1, ctx := { x.ctx with noSpacePend := (x.ctx.noSpacePend + 1) % 2 ^ 16 } }

/-! Doorbells (R290). -/

/-- A doorbell to a queue; what waited for posted buffers or returned ones is written (R292). -/
def State.doorbell (s : State) (q : Nat) (v : Word) : State :=
  let x := s.queue q
  let c := x.ctx
  let n := v.toNat
  if !bitAt (s.reg pgQm 8) 0 then s
  else if c.dir = 0 ∧ (c.delivery = 1 ∨ c.delivery = 2) then s.bump pgQm 0x104 0 16 1
  else if c.dir = 1 ∨ (c.dir = 0 ∧ !c.area) then
    if !seqAhead n c.avail then s.bump pgQm 0x100 0 32 1
    else if c.slots < seqDist n c.cons then (s.bump pgQm 0x20 0 16 1).qmFail 0 1 q
    else
      let s1 := (s.bump pgQm 0x100 0 32 1).setQueue q { x with ctx := { c with avail := n } }
      if c.dir = 0 then s1.flushQueue q else s1
  else if c.dir = 0 then
    if !seqAhead n c.cons then s.bump pgQm 0x100 0 32 1
    else if c.slots < seqDist n c.cons ∨ seqAhead n c.prod then (s.bump pgQm 0x20 0 16 1).qmFail 0 1 q
    else (s.bump pgQm 0x100 0 32 1).returnTo q n
  else s

end Sys2Proof.Machine
end

