-- ==== Sys2Proof/Machine/Pset.lean ====
section
/-! DEFINITION. Parameter sets of the streams: staged and live words, the checks of a commit, and going live (R42, R76 to
R80). -/

namespace Sys2Proof.Machine

open Sys2Proof

/-! Addresses of a stream's staging registers. -/

def camA (i : Nat) : Nat := (0x100 + i / 4) * 4096 + 0x120 + 0x20 * (i % 4)
def rfeA (i : Nat) : Nat := 0x141000 + 0x80 * i
def ofmA (i : Nat) : Nat := 0x801000 + 0x40 * i
def crsA (i : Nat) : Nat := 0x881000 + 0x10 * i

/-- Every staging register of stream i (R76). -/
def psetAddrs (i : Nat) : List Nat :=
  (List.range 3).map (fun k => camA i + 4 * k) ++ (List.range 32).map (fun k => rfeA i + 4 * k)
    ++ (List.range 9).map (fun k => ofmA i + 4 * k) ++ (List.range 3).map fun k => crsA i + 4 * k

/-- A word of a parameter set held as a map. -/
def psWord (m : Sparse Word) (a : Nat) : Word := sget resetWord m a

/-- A field of a parameter set. -/
def psFld (m : Sparse Word) (a lo w : Nat) : Nat := fld (psWord m a) lo w

def psVc (m : Sparse Word) (i : Nat) : Nat := psFld m (camA i) 1 5
def psExps (m : Sparse Word) (i : Nat) : Nat := psFld m (camA i) 6 2 + 1
def psDt (m : Sparse Word) (i : Nat) : Nat := psFld m (camA i) 8 6
def psLineNum (m : Sparse Word) (i : Nat) : Bool := bitAt (psWord m (camA i)) 14
def psWidth (m : Sparse Word) (i : Nat) : Nat := psFld m (camA i + 4) 0 14
def psHeight (m : Sparse Word) (i : Nat) : Nat := psFld m (camA i + 4) 16 14
def psPeriod (m : Sparse Word) (i : Nat) : Nat := (psWord m (camA i + 8)).toNat
def psCfa (m : Sparse Word) (i : Nat) : Nat := psFld m (rfeA i) 0 3
def psCurve (m : Sparse Word) (i : Nat) : Nat := psFld m (rfeA i) 4 3

/-- Bits per pixel of a data type (Table 03-2); 0 for a type the slot cannot take. -/
def dtBits (dt : Nat) : Nat :=
  if dt = 0x2B then 10 else if dt = 0x2C then 12 else if dt = 0x2D then 14 else if dt = 0x2E then 16
  else if dt = 0x2F then 20 else if dt = 0x27 then 24 else 0

/-- The slot's EN bit, which is no part of the set (R76). -/
def State.slotEn (s : State) (i : Nat) : Bool := bitAt (sget resetWord s.regs (camA i)) 0

/-- The commits that wait for stream i. -/
def State.pendingOf (s : State) (i : Nat) : List Commit := s.pset.commits.filter fun c => c.waiting.contains i

/-- Whether the stream has a pending commit (PSET_PENDING). -/
def State.pendingSet (s : State) (i : Nat) : Bool := !(s.pendingOf i).isEmpty

/-- The acceptance time that decides when the pending set goes live: that of the first commit (R78). -/
def State.pendingSince (s : State) (i : Nat) : Nat := ((s.pendingOf i).head?.map (·.tc)).getD 0

/-- The reset cause of a set that goes live (R32): 3 for HIST_RESET, 4 for a new size, Bayer order, bit depth or exposure
count, the lower when both. -/
def liveCause (old new : Sparse Word) (i : Nat) : Nat :=
  if bitAt (psWord new (rfeA i)) 9 then 3
  else if psWidth old i ≠ psWidth new i ∨ psHeight old i ≠ psHeight new i ∨ psCfa old i ≠ psCfa new i ∨
    dtBits (psDt old i) ≠ dtBits (psDt new i) ∨ psExps old i ≠ psExps new i then 4
  else 0

/-- The lower of two reset causes, 0 standing for none (R32). -/
def lowerCause (a b : Nat) : Nat := if a = 0 then b else if b = 0 then a else min a b

/-- Commits reported when their streams are all live (R80). -/
def State.reportCommits (s : State) : State :=
  let d := s.pset.commits.filter fun c => c.waiting.isEmpty
  let s1 := { s with pset := { s.pset with commits := s.pset.commits.filter fun c => !c.waiting.isEmpty } }
  match d.getLast? with
  | none => s1
  | some c =>
    if s.pset.reported < c.num then
      let s2 : State := { s1 with pset := { s1.pset with reported := c.num } }
      (s2.setRfld pgRfe 0x30 0 16 c.seq).event pgRfe 0
    else s1

/-- The staged set of stream i goes live (R77, R78): every staging value is copied, PSET_LIVE reports the commit, HIST_RESET
is cleared in staging, and a history reset may fall due. -/
def State.goLive (s : State) (i : Nat) : State :=
  match (s.pendingOf i).getLast? with
  | none => s
  | some c =>
    let old := s.live
    let s1 := { s with live := (psetAddrs i).foldl (fun m a => sset resetWord m a (sget resetWord s.regs a)) s.live }
    let t := s1.strm i
    let s2 := s1.setStrm i { t with resetDue := lowerCause t.resetDue (liveCause old s1.live i) }
    let s3 := { s2 with regs := sset resetWord s2.regs (rfeA i) (putFld (sget resetWord s2.regs (rfeA i)) 9 1 0) }
    let s4 := s3.setRfld pgRfe (0x200 + 4 * (i / 2)) (16 * (i % 2)) 16 c.seq
    let s5 : State := { s4 with pset := { s4.pset with commits := s4.pset.commits.map fun x =>
      { x with waiting := x.waiting.filter (· != i) } } }
    s5.reportCommits

/-! The checks of a commit (R79). -/

/-- R19's frame sizes. -/
def sizeOk (w h : Nat) : Bool :=
  decide (64 ≤ w) && decide (w ≤ 8192) && decide (w % 2 = 0) && decide (16 ≤ h) && decide (h ≤ 8192) && decide (h % 2 = 0)

/-- The highest virtual channel of a port: 15 on A-PHY and D-PHY, 31 on C-PHY (Table 03-1). -/
def State.vcMax (s : State) (p : Nat) : Nat := if s.rfld (pgCam p) 0x100 0 2 = 2 then 31 else 15

/-- No reserved code in any field of the set. -/
def codesOk (m : Sparse Word) (i : Nat) : Bool :=
  decide (psExps m i ≤ 3) && decide (dtBits (psDt m i) ≠ 0) && decide (psCfa m i ≤ 4)
    && decide (psCurve m i ≠ 2) && decide (psCurve m i ≠ 3) && decide (psFld m (rfeA i) 10 2 ≠ 3)
    && decide (psFld m (ofmA i) 4 2 ≠ 3) && decide (psFld m (ofmA i) 6 2 < 2) && decide (psFld m (ofmA i) 8 2 ≠ 3)
    && decide (psFld m (ofmA i) 12 2 ≠ 3)

/-- The knees of R79: starts that rise strictly from 0 and stay within the data type's codes, slopes at most 24. -/
def kneesOk (m : Sparse Word) (i : Nat) : Bool :=
  if bitAt (psWord m (rfeA i)) 12 then
    let k := psFld m (rfeA i) 13 4
    let x := fun j => if j = 0 then 0 else psFld m (rfeA i + 0x40 + 4 * j) 0 24
    (List.range k).all (fun j => decide (x j < x (j + 1)) && decide (x (j + 1) < 2 ^ dtBits (psDt m i)))
      && (List.range (k + 1)).all fun j => decide (psFld m (rfeA i + 0x40 + 4 * j) 24 5 ≤ 24)
  else true

/-- Virtual channels of a slot in a set overlap those of another. -/
def vcOverlap (m : Sparse Word) (i : Nat) (n : Sparse Word) (j : Nat) : Bool :=
  decide (psVc m i < psVc n j + psExps n j) && decide (psVc n j < psVc m i + psExps m i)

/-- Bytes of a ring slot for a set: 4EP (R69). -/
def slotBytesOf (m : Sparse Word) (i : Nat) : Nat := 4 * psExps m i * (cdiv (psWidth m i) 128 * 128)

/-- Case 2 of R79 for a named stream: its staging holds a value that is not allowed. -/
def State.stageInvalid (s : State) (named : List Nat) (i : Nat) : Bool :=
  let m := s.regs
  let en := s.slotEn i
  let w := psWidth m i
  let h := psHeight m i
  let bound := (s.strm i).job.isSome
  !codesOk m i || !(sizeOk w h || (!en && decide (w = 0) && decide (h = 0)))
    || (bound && decide (psPeriod m i = 0))
    || decide (s.vcMax (i / 4) < psVc m i + psExps m i - 1)
    || (en && ((List.range 4).map (· + i / 4 * 4)).any fun j =>
        j != i && s.slotEn j && vcOverlap m i (if named.contains j then m else s.live) j)
    || !kneesOk m i

/-- A set whose frame exceeds the largest one of the stream's image: not allowed for a bound stream (Table 09-9). -/
def State.aboveImage (s : State) (i : Nat) : Bool :=
  match (s.strm i).job, (s.strm i).img with
  | some _, some g => decide (g.maxW < psWidth s.regs i) || decide (g.maxF < psHeight s.regs i)
  | _, _ => false

/-- The first case of R79 that a named stream fails, 0 when none; Table 09-9 puts a slot that outgrows the ring before a frame
above the image's largest one. -/
def State.stageCase (s : State) (named : List Nat) (i : Nat) : Nat :=
  let m := s.regs
  if s.stageInvalid named i then 2
  else if (s.strm i).job.isSome && decide ((s.strm i).slotBytes < slotBytesOf m i) then 3
  else if s.aboveImage i then 2
  else if s.slotEn i && (s.strm i).job.isNone &&
    (decide (psWidth m i ≠ psWidth s.live i) || decide (psExps m i ≠ psExps s.live i)) then 2
  else 0

/-- The streams that PSET_MASK names. -/
def State.named (s : State) : List Nat :=
  bitsOf 64 ((s.reg pgRfe 0x100).toNat + 2 ^ 32 * (s.reg pgRfe 0x104).toNat)

/-- A write to PSET_COMMIT (R77 to R79). -/
def State.commit (s : State) (seq : Nat) : State :=
  let l := s.named
  if l.isEmpty then s.fail pgRfe 1 (1 + 256 * 0xFF) 0
  else match l.find? fun i => s.stageCase l i != 0 with
    | some i => s.fail pgRfe 1 (s.stageCase l i + 256 * i) 0
    | none =>
      let n := s.pset.count + 1
      let s1 := { s with pset := { s.pset with count := n, commits := s.pset.commits ++ [⟨n, seq, s.clk.ptp, l⟩] } }
      forEach (l.filter fun i => !s.slotEn i) (fun i s => s.goLive i) s1

/-- A write to a staging register: ignored with STAGE_BUSY while its stream has a pending commit (R78). -/
def State.stage (s : State) (i a : Nat) (w : Word) : State :=
  if s.pendingSet i then s.fail pgRfe 1 (4 + 256 * i) 0
  else
    let mask := BitVec.ofNat 32 (rowAt a).rw
    { s with regs := sset resetWord s.regs a ((sget resetWord s.regs a &&& ~~~ mask) ||| (w &&& mask)) }

/-- The stream whose set a staging address belongs to; the CFG word of a slot has its own rules (R42). -/
def stageStream (a : Nat) : Option Nat :=
  (List.range 64).find? fun i => (psetAddrs i).contains a

end Sys2Proof.Machine
end

