-- ==== Sys2Proof/Machine/Frames.lean ====
section
/-! DEFINITION. Frames in the pipeline: geometry, history buffers, the OFM's outputs, crops, band descriptors, the closing of
a frame with its records, and the opening of a frame (R19 to R38, R72 to R75, R181 to R193, R291, R292, R357, R365, R395). -/

namespace Sys2Proof.Machine

open Sys2Proof

/-! Geometry (R20, R21, R23). -/

/-- Bands of a frame. -/
def Frame.bandCount (f : Frame) : Nat := cdiv f.height f.bandRows

/-- First row of band b. -/
def Frame.top (f : Frame) (b : Nat) : Nat := b * f.bandRows

/-- The row after the last of band b. -/
def Frame.bottom (f : Frame) (b : Nat) : Nat := min ((b + 1) * f.bandRows) f.height

/-- The row whose commit makes band b ready. -/
def Frame.trigger (f : Frame) (b : Nat) : Nat := min ((b + 1) * f.bandRows + f.halo) f.height - 1

/-- Stripes of a band. -/
def Frame.stripeCount (f : Frame) : Nat := if f.width ≤ f.stripeW then 1 else cdiv f.width f.stripeW

/-- Columns of stripe j. -/
def Frame.columns (f : Frame) (j : Nat) : Nat × Nat :=
  (j * f.stripeW, if j + 1 = f.stripeCount then f.width else (j + 1) * f.stripeW)

/-- Whether every stripe of a band has completed, or the band was dropped (R24, R226). -/
def Band.complete (b : Band) : Bool := b.dropped || (b.ready.isSome && b.stripes.all (· == .done))

/-- Bands whose descriptors are released. -/
def Frame.released (f : Frame) : Nat := (f.bands.filter (·.released)).length

/-- A frame of a stream replaced, found by its number. -/
def State.setFrame (s : State) (i : Nat) (f : Frame) : State :=
  let t := s.strm i
  s.setStrm i { t with frames := t.frames.map fun g => if g.seq = f.seq then f else g }

/-- The frame of a stream with a number. -/
def State.frameOf (s : State) (i seq : Nat) : Option Frame := (s.strm i).frames.find? fun f => f.seq == seq

/-- Band b of a frame changed. -/
def Frame.setBand (f : Frame) (b : Nat) (g : Band → Band) : Frame :=
  { f with bands := f.bands.zipIdx.map fun x => if x.2 = b then g x.1 else x.1 }

/-- The frame with what its open reception has counted so far (R35). -/
def State.portView (s : State) (i : Nat) (f : Frame) : Frame :=
  match (s.slot i).rx with
  | some r =>
    if (s.slot i).count = f.rxCount ∧ !f.ended then
      { f with flags := f.flags ||| r.flags, extra := r.extra, widthLines := r.widthLines, crcs := r.crcs,
               rows := min f.height (r.next.foldl max 0) }
    else f
  | none => f

/-! Jobs and images, as frames need them. -/

/-- The resident image of a job. -/
def State.jobImage (s : State) (j : Nat) : Option Image :=
  match s.job j with
  | some x => (s.images.find? fun r => r.img.digest == x.digest).map (·.img)
  | none => none

/-- The OFM settings of a frame. -/
def Frame.outSet (f : Frame) (i : Nat) : OutSet :=
  let a := ofmA i
  let g := fun (lo w : Nat) => psFld f.pset a lo w
  { width := f.width, height := f.height, dispFmt := g 4 2, codeFmt := g 6 2, mat := g 8 2, full := g 10 1 == 1,
    visFmt := g 12 2, visDiv := g 14 2, visBgr := g 16 1 == 1, visZero := sext 8 (psFld f.pset (a + 4) 0 8),
    visRscale := psWord f.pset (a + 8), visMean := (List.range 3).map fun c => psWord f.pset (a + 12 + 4 * c),
    visGain := (List.range 3).map fun c => psWord f.pset (a + 24 + 4 * c) }

/-- The queue of output k. -/
def BindEntry.outQ (e : BindEntry) : Nat → Nat
  | 0 => e.dispQ
  | 1 => e.codeQ
  | _ => e.visQ

/-- The outputs of a stream under a parameter set: enabled, with a queue (R193, Table 09-6). -/
def outputsOf (m : Sparse Word) (i : Nat) (e : BindEntry) : List Nat :=
  (List.range 3).filter fun k => (psWord m (ofmA i)).toNat.testBit k && decide (e.outQ k ≠ 0xFFFF)

/-- The stream cuts crops and has a crop queue. -/
def cropsOn (m : Sparse Word) (i : Nat) (e : BindEntry) : Bool :=
  bitAt (psWord m (crsA i)) 0 && decide (e.cropQ ≠ 0xFFFF)

/-! History (R26, R30, R31, R250). -/

/-- Bytes from one history buffer to the next: the largest frame of the image, rounded up to 4 KiB (Table 09-6). -/
def histStride (g : ImgStream) : Nat := alignUp (4 * g.maxW * g.maxF) 4096

/-- The buffer role of a frame: roles rotate at each frame start, with FRAME_SEQ. -/
def Strm.roleOf (t : Strm) (seq : Nat) : Nat := (t.histRole + 3 - seqDist (t.nextSeq + 2 ^ 32 - 1) seq % 3) % 3

/-- The base of the history buffer with a role. -/
def Strm.histBase (t : Strm) (role : Nat) : Nat :=
  match t.entry, t.img with
  | some e, some g => e.histBase + role * histStride g
  | _, _ => 0

/-- The rows of a band invalidated in the history buffer that its frame writes; the end of the frame is rounded up (R250). -/
def State.invalBand (s : State) (i : Nat) (f : Frame) (b : Nat) : State :=
  let t := s.strm i
  let a := t.histBase (t.roleOf f.seq) + 4 * f.width * f.top b
  s.invalidate a (alignUp (4 * f.width * (f.bottom b - f.top b)) 64)

/-- A whole history buffer invalidated. -/
def State.invalBuffer (s : State) (i role : Nat) : State :=
  let t := s.strm i
  match t.img with
  | some g => s.invalidate (t.histBase role) (histStride g)
  | none => s

/-! Output writes. -/

/-- A rectangle of an output written to its frame buffer, within the buffer's capacity. -/
def State.writeOutput (s : State) (i : Nat) (f : Frame) (k : Nat) (exact : Bool) (x0 x1 y0 y1 : Nat)
    (px : Nat → Nat → Rgb) : State :=
  match f.outs.find? fun o => o.1 == k with
  | some o =>
    if o.2.skip then s else
      forEach (outBytes (f.outSet i) k exact s.free x0 x1 y0 y1 px) (fun w s =>
        if w.1 + w.2.length ≤ o.2.bytes then s.blockWrite 0x91 (who 9 i) (o.2.base + w.1) w.2 else s) s
  | none => s

/-- A dropped band's rows written black in every output (R226). -/
def State.blackBand (s : State) (i : Nat) (f : Frame) (b : Nat) : State :=
  forEach [0, 1, 2] (fun k s => s.writeOutput i f k true 0 f.width (f.top b) (f.bottom b) fun _ _ => Rgb.black) s

/-! Crops (R181 to R188). -/

/-- Channels and resolution factor of a source of a job's image; none when it is not declared. -/
def sourceOf (g : Option Image) (exps src : Nat) : Option (Nat × Nat) :=
  if src = 0 then some (1, 3) else if src = 1 then some (2, 8 * exps)
  else match g with
    | some m => (m.taps.find? fun t => t.num == src).map fun t => (t.factor, t.chans)
    | none => none

/-- What a box of a list is: 0 valid with its channel count, 1 of zero size, 2 invalid (R185). -/
def boxKind (g : Option Image) (exps : Nat) (b : Box) : Nat × Nat :=
  let src := if b.source ≤ 15 then sourceOf g exps b.source else none
  let chans := if b.chCount = 0 then (match src with | some x => x.2 - b.chFirst | none => 0) else b.chCount
  if b.srcW = 0 ∨ b.srcH = 0 ∨ b.outW = 0 ∨ b.outH = 0 ∨ (src.isSome ∧ chans = 0) then (1, 0)
  else match src with
    | none => (2, 0)
    | some x =>
      if 512 < b.outW ∨ 512 < b.outH ∨ b.mode % 4 > 1 ∨ b.mode / 4 % 4 = 3 ∨ 32 ≤ b.mode ∨ 64 < b.chCount ∨
        x.2 < b.chFirst + chans then (2, 0)
      else (0, chans)

/-- Boxes admitted in the preceding 16.667 ms (R184). -/
def State.admitted (s : State) : Nat :=
  ((s.admits.filter fun a => decide (s.clk.up < a.1 + 16667000)).map (·.2)).sum

/-- A box reads a tap point whose layer comes out zero-sized in a frame of the given rows and columns (R165, R194). -/
def emptySource (g : Option Image) (h w src : Nat) : Bool :=
  match g.bind fun m => (m.taps.find? fun t => t.num == src).map fun t => (m.extents (cdiv h 2, cdiv w 2)).getD t.layer (h, w) with
  | some x => decide (2 ≤ src) && (x.1 == 0 || x.2 == 0)
  | none => false

/-- One box of a list taken: a crop of the frame, with the counts of R184 and R185; `empty` when its source is (R194). -/
def State.admitBox (s : State) (i : Nat) (g : Option Image) (exps : Nat) (empty : Bool) (b : Box) : State × Crop :=
  match if empty then (1, 0) else boxKind g exps b with
  | (0, n) =>
    if s.admitted < 8192 then
      ({ s with admits := (s.admits.filter fun a => decide (s.clk.up < a.1 + 16667000)) ++ [(s.clk.up, 1)] },
       ⟨b, n, false, none, 0, []⟩)
    else ((s.bump pgCrs 0x100 0 16 1).fail pgCrs 2 (3 + 256 * i) 0, ⟨b, 0, true, none, 0, []⟩)
  | (1, _) => (s, ⟨b, 0, true, none, 0, []⟩)
  | _ => ((s.bump pgCrs 0x100 16 16 1).fail pgCrs 3 (4 + 256 * i) 0, ⟨b, 0, true, none, 0, []⟩)

/-- Bytes of an element of a crop, by MODE[3:2]. -/
def Box.elemBytes (b : Box) : Nat := if b.mode / 4 % 4 = 2 then 2 else 1

/-- Bytes of a crop: planes on 128-byte boundaries, rows packed. -/
def Crop.size (c : Crop) : Nat := if c.zero then 0 else c.chans * alignUp (c.box.outW * c.box.outH * c.box.elemBytes) 128

/-- Row of a source sample's key. -/
def keyRow (k : Nat) : Nat := k / 16384 % 16384

/-- A crop without the samples of a band's rows, from `top` to below `bottom` in the frame: they read as black or zero (R187). -/
def Crop.without (c : Crop) (factor top bottom : Nat) : Crop :=
  { c with samples := c.samples.filter fun x => decide (keyRow x.1 < top / factor) || decide (cdiv bottom factor ≤ keyRow x.1) }

/-- Key of a source sample. -/
def sampleKey (ch y x : Nat) : Nat := (ch * 16384 + y) * 16384 + x

/-- The value of a sample of a source: an FP16 or other code of the source's format, as the CRS reads it. A position outside
takes MODE[4]'s rule. -/
def Crop.sample (c : Crop) (w h : Nat) (dec : Nat → Fl) (ch : Nat) (y x : Int) : Fl :=
  if c.box.mode.testBit 4 ∧ ¬ (0 ≤ y ∧ y < h ∧ 0 ≤ x ∧ x < w) then .fin false 0 0
  else
    let yy := (clampI 0 (h - 1) y).toNat
    let xx := (clampI 0 (w - 1) x).toNat
    dec (sget (fun _ => 0) c.samples (sampleKey ch yy xx))

/-- The bytes of a crop (R186): the samples are kept as FP32 codes. -/
def cropBytes (f : Frame) (i : Nat) (c : Crop) (factor d : Nat) : List Byte :=
  let b := c.box
  let w := cdiv f.width factor
  let h := cdiv f.height factor
  let at_ := fun (p o n j : Nat) =>
    (((p : Rat) / 4 + ((j : Rat) + 1 / 2) * ((o : Rat) / 4) / n - 1 / 2) + 1 / 2) / factor - 1 / 2
  let rs := psWord f.pset (crsA i + 4)
  let zo := sext 8 (psFld f.pset (crsA i + 8) 0 8)
  ((List.range c.chans).map fun ch =>
    let body := ((List.range b.outH).map fun r => ((List.range b.outW).map fun q =>
      let ys := taps (b.mode % 4 == 1) (at_ b.y0 b.srcH b.outH r)
      let xs := taps (b.mode % 4 == 1) (at_ b.x0 b.srcW b.outW q)
      let terms := (ys.map fun y => xs.map fun x =>
        (y.2 * x.2, c.sample w h (decodeF fp32) (b.chFirst + ch) y.1 x.1)).flatten
      cropCode (b.mode / 4 % 4) rs zo d ((ch * 512 + r) * 512 + q) (weigh terms)).flatten).flatten
    body ++ List.replicate (alignUp body.length 128 - body.length) 0).flatten

/-- A plain descriptor of a stream's frame. -/
def frameDesc (i j : Nat) (f : Frame) (kind status addr len aux0 aux1 : Nat) : Desc :=
  ⟨0, false, kind, false, false, false, status, f.flags % 1024, addr, i, j, len, f.seq, aux0, aux1⟩

/-- The buffers of a frame's crops taken in order; none when the queue has no room for all (R292). -/
def State.cropBuffers (s : State) (q : Nat) : List Crop → Option (State × List Crop)
  | [] => some (s, [])
  | c :: l =>
    if c.size = 0 then (s.cropBuffers q l).map fun r => (r.1, c :: r.2)
    else match s.takeBuffer q c.size with
      | (s1, some b) => (s1.cropBuffers q l).map fun r => (r.1, { c with addr := some b.1, bytes := b.2 } :: r.2)
      | (_, none) => none

/-- A crop released: its bytes written and its descriptor produced (R188). -/
def State.releaseCrop (s : State) (i j q listSeq : Nat) (f : Frame) (c : Crop) : State :=
  match c.addr with
  | none => s.produce q (frameDesc i j f 2 0 0 0 c.box.tag listSeq) none
  | some a =>
    let factor := ((sourceOf (s.jobImage j) f.exps c.box.source).map (·.1)).getD 1
    let bytes := cropBytes f i c factor s.free
    let r := fitted bytes.length c.bytes
    let s1 := (s.blockWrite 0x92 (who 9 i) a (bytes.take r.2)).drawn
    s1.produce q (frameDesc i j f 2 r.1 a r.2 c.box.tag listSeq) (some (a + r.2 - 1))

/-- The tensor jobs whose source is crop queue q of the rendering job in slot `src` (R391). -/
def State.cropReaders (s : State) (src q : Nat) : List (Nat × Job) :=
  (List.range 8).filterMap fun j => match s.job j with
    | some x => if x.kind = 1 && x.bind.entries.any fun e => e.cropQ == q && e.imgStream == src then some (j, x) else none
    | none => none

/-- The shape of a frame's crops: how many are not zero-length, and the largest channels, height and width among them. -/
def cropShape (l : List Crop) : List Nat :=
  let v := l.filter fun c => !c.zero
  [v.length, (v.map (·.chans)).foldl max 0, (v.map (·.box.outH)).foldl max 0, (v.map (·.box.outW)).foldl max 0]

/-- The crops of a frame released in list order; the release of the last one readies the steps of its readers (R219). -/
def State.releaseCrops (s : State) (i j : Nat) (f : Frame) (e : BindEntry) : State × Bool :=
  let q := e.cropQ
  if f.crops.length + 1 ≤ freeSlots (s.queue q).ctx then
    match s.cropBuffers q f.crops with
    | some (s1, l) =>
      let s2 := forEach l (fun c s => s.releaseCrop i j q f.listSeq f c) s1
      let n := (s2.queue q).ctx.prod
      let bad := (List.range l.length).any fun k => (s2.readDesc q ((n + 2 ^ 32 - 1 - k) % 2 ^ 32)).2.status == 4
      let d : StepDue := ⟨f.seq, f.flags % 1024, s2.clk.up, cropShape l, q, n, if bad then 4 else 0⟩
      (forEach (s2.cropReaders j q) (fun x s => s.setJob x.1 (some { x.2 with due := x.2.due ++ [d] })) s2, true)
    | none => (s.noSpace q (frameDesc i j f 1 7 0 0 0 1), false)
  else (s.noSpace q (frameDesc i j f 1 7 0 0 0 1), false)

/-- The descriptor of output k of a step (Table 13-3). -/
def stepDesc (j : Nat) (x : Job) (status flags seq addr len k : Nat) : Desc :=
  ⟨0, false, 4, false, false, false, status, flags, addr, 0xFF, j, len, seq, x.step, k⟩

/-! Steps of a group (R326, R366, R367). -/

/-- The group of a job whose image is split among members; 0 for any other. -/
def State.groupOf (s : State) (j : Nat) : Nat :=
  match s.job j, s.jobImage j with
  | some x, some m => if m.group then x.bind.groupId else 0
  | _, _ => 0

/-- The open peer sessions of a group. -/
def State.groupSessions (s : State) (g : Nat) : List Nat :=
  ((List.range 16).map (· + 16)).filter fun n => let l := s.sess n
    l.state == 2 && l.peer && l.group == g

/-- BARRIER k sent on every open peer session of a group; what was received for earlier steps is forgotten. -/
def State.sendBarrier (s : State) (g k : Nat) : State :=
  match s.group g with
  | some p =>
    let s1 := s.setGroup g (some { p with sent := [k], got := p.got.filter fun x => decide (k ≤ x.2) })
    forEach (s.groupSessions g) (fun n s => s.deviceEvent 0x105 (p.self + 16 * g) k n) s1
  | none => s

/-- The barrier of the last step ended is passed: it was received from every member that is not lost. -/
def PeerGroup.passed (p : PeerGroup) : Bool :=
  p.sent.all fun k => (List.range p.members.length).all fun m => m == p.self || p.lost.contains m || p.got.contains (m, k)

/-- The barrier that ends a step of job j. -/
def State.stepBarrier (s : State) (j k : Nat) : State := if s.groupOf j = 0 then s else s.sendBarrier (s.groupOf j) k

/-- A frame of a rendering job's lowest stream ends its step, when the job is split among members. -/
def State.frameStep (s : State) (i j : Nat) : State :=
  match s.job j with
  | some x =>
    if s.groupOf j ≠ 0 ∧ x.kind = 0 ∧ i = (x.bind.entries.map (·.stream)).foldl min 63 then
      (s.setJob j (some { x with step := x.step + 1 })).stepBarrier j x.step
    else s
  | none => s

/-- The open step of job j ends: its crops go back to their queue, and the step number advances (R213, R391). -/
def State.endStep (s : State) (j : Nat) (x : Job) : State :=
  let s1 := (s.setJob j (some { x with step := x.step + 1, open_ := none, stepUnits := [], stepBufs := [] })).stepBarrier j x.step
  match x.open_ with
  | some d => if (s1.queue d.queue).ctx.dir = 2 then s1.returnTo d.queue d.upTo else s1
  | none => s1

/-- The output descriptors of a step of job j that delivers nothing, with count zero. -/
def State.voidStep (s : State) (j : Nat) (x : Job) (status flags seq : Nat) : State :=
  let n := ((s.jobImage j).map (·.outputs.length)).getD 0
  (forEach (List.range n) (fun k s => s.produce x.bind.outQ (stepDesc j x status flags seq 0 0 k) none) s).endStep j x

/-- The open step of job j voided, with its source frame's flags and number. -/
def State.voidOpen (s : State) (j : Nat) (x : Job) (status : Nat) : State :=
  match x.open_ with
  | some d => s.voidStep j x status (d.flags + (if x.variant && !d.flags.testBit 9 then 0x200 else 0)) d.seq
  | none => s

/-- The step of a source frame that closed with ABORTED during a restart (R391): in its turn, count zero and ABORTED. -/
def State.abortedStep (s : State) (j : Nat) (x : Job) (f : Frame) : State :=
  if x.open_.isNone && x.due.isEmpty then s.voidStep j x 3 (f.flags % 1024) f.seq
  else s.setJob j (some { x with due := x.due ++ [⟨f.seq, f.flags % 1024, s.clk.up, [], 0, 0, 3⟩] })

/-! Records (R38, R75). -/

/-- The frame status record (Table 02-10). -/
def statusRecord (i j : Nat) (f : Frame) (warm : Nat) : List Byte :=
  let c := fun n => leBytes 2 (min n 0xFFFF)
  leBytes 4 f.seq ++ leBytes 1 i ++ leBytes 1 j ++ leBytes 2 (f.flags % 1024) ++ leBytes 8 f.tStart ++ c f.rows
    ++ c f.extra ++ c f.widthLines ++ c f.crcs ++ c f.lost ++ c f.replayed ++ leBytes 2 f.firstLost
    ++ leBytes 1 (min warm 4) ++ leBytes 1 (if f.flags.testBit 8 then f.cause else 0)

/-- WHITE_LEVEL less B_c, the denominator of u (R65); 65,536 where they leave none (log 19). -/
def planeDen (m : Sparse Word) (i c : Nat) : Nat :=
  let w := psFld m (rfeA i + 4) 0 24
  let b := psFld m (rfeA i + 8 + 4 * (c / 2)) (16 * (c % 2)) 16
  if b < w then w - b else 65536

/-- Zone mean of a plane: round(65,535 × mean) (Table 04-2). -/
def zoneMean (m : Sparse Word) (i : Nat) (r : RawStat) (z c : Nat) : Nat :=
  let n := sget (fun _ => 0) r.num (4 * z + c)
  if n = 0 then 0
  else
    let d := n * planeDen m i c
    (2 * 65535 * sget (fun _ => 0) r.sum (4 * z + c) + d) / (2 * d)

/-- The means of every zone (R74). -/
def zoneMeans (i : Nat) (f : Frame) : List Nat := (List.range 3072).map fun k => zoneMean f.pset i f.stat (k / 4) (k % 4)

/-- The statistics record (Table 04-3). -/
def statsRecord (i j : Nat) (f : Frame) (rawOk lumaOk : Bool) : List Byte :=
  let z := fun (m : Sparse Nat) (k : Nat) => sget (fun _ => 0) m k
  let c := fun n => leBytes 2 (min n 0xFFFF)
  let v := b2n rawOk + 2 * b2n lumaOk + 4 * psFld f.pset (rfeA i) 7 1
  leBytes 4 f.seq ++ leBytes 1 i ++ leBytes 1 j ++ leBytes 2 v ++ leBytes 8 f.tStart ++ leBytes 4 f.stat.cells
    ++ leBytes 4 f.lumaPix ++ leBytes 4 (f.stat.defect.map (·.2)).sum ++ leBytes 4 (f.stat.sat.map (·.2)).sum
    ++ List.replicate 32 0 ++ ((List.range 1024).map fun k => leBytes 4 (min (z f.stat.hist k) (2 ^ 32 - 1))).flatten
    ++ ((List.range 1024).map fun k => leBytes 4 (z f.luma k)).flatten
    ++ ((List.range 768).map fun k => ((List.range 4).map fun p => c (zoneMean f.pset i f.stat k p)).flatten
      ++ c (z f.stat.sat k) ++ c (z f.stat.defect k)).flatten

/-- A record written to its queue (R38, R74, R291, R292). -/
def State.writeRecord (s : State) (i j q which : Nat) (f : Frame) (bytes : List Byte) : State :=
  match s.takeBuffer q bytes.length with
  | (s1, none) => s1.noSpace q (frameDesc i j f 3 7 0 0 which 1)
  | (s1, some b) =>
    let r := fitted bytes.length b.2
    let s2 := s1.blockWrite (if which = 1 then 0x90 else 0x91) (who (if which = 1 then 8 else 9) i) b.1 (bytes.take r.2)
    s2.produce q (frameDesc i j f 3 r.1 b.1 r.2 which 1) (some (b.1 + r.2 - 1))

/-- The statistics record of a frame, with STAT's counters (Table 19-5): records written, those with VALID[0] or VALID[1] at 0,
and those that waited for a slot of their queue. -/
def State.writeStats (s : State) (i j q : Nat) (f : Frame) (rawOk lumaOk : Bool) : State :=
  let b := statsRecord i j f rawOk lumaOk
  let s1 := s.writeRecord i j q 1 f b
  let waits := decide ((s.queue q).held.length < (s1.queue q).held.length)
  if (s.takeBuffer q b.length).2.isNone then s1
  else ((s1.bump pgStat 0x100 0 32 1).when (!(rawOk && lumaOk)) fun s => s.bump pgStat 0x104 0 32 1).when waits fun s =>
    s.bump pgStat 0x108 0 32 1

/-! Closing a frame (R35 to R38, R188, R365, R395). -/

/-- The closing descriptor of output k (R36). -/
def State.frameEnd (s : State) (i j : Nat) (f : Frame) (o : Nat × OutBuf) : State :=
  if o.2.skip then s else
    let r := fitted ((f.outSet i).bytes o.1) o.2.bytes
    let len := if f.released = 0 then 0 else r.2
    let st := if f.aborted then 3 else if len = 0 then 0 else r.1
    s.produce o.2.queue (frameDesc i j f 1 st o.2.base len f.released 1) none

/-- Expected, missed and excluded frames counted (R364, R365); these counters wrap. -/
def State.countFrame (s : State) (i : Nat) (f : Frame) : State :=
  if f.excluded then s.bumpWrap pgFlt (0x208 + 16 * i)
  else
    let s1 := s.bumpWrap pgFlt (0x200 + 16 * i)
    if f.aborted || f.flags.testBit 5 then s1.bumpWrap pgFlt (0x204 + 16 * i) else s1

/-- A frame closed: crops, closing descriptors on every output, the statistics record, the status record. An aborted frame
keeps the flags it has, but one that renders nothing carries neither WARMUP nor HISTORY_RESET (R37), gives its history
reset and its place in the warm-up to the next frame (R395), and its unfinished history rows are invalid (R356). -/
def State.closeFrame (s : State) (i : Nat) (f0 : Frame) (aborted excluded : Bool) : State :=
  let t := s.strm i
  match t.job, t.entry with
  | some j, some e =>
    let f1 := s.portView i f0
    let zero := aborted && decide (f1.released = 0)
    let fl := if aborted then f1.flags ||| 0x80 else f1.flags
    let f : Frame := { f1 with aborted := aborted, zeroLen := zero, excluded := f1.excluded || excluded,
                               flags := if zero then fl - (fl &&& 0x101) else fl }
    let t1 : Strm := { t with
      frames := t.frames.filter fun g => g.seq != f.seq
      resetDue := if zero then lowerCause t.resetDue f.cause else t.resetDue
      k := if zero then (if f.cause = 0 then min t.k f.k else 0) else t.k
      zones := if f.bands.isEmpty then t.zones else some (zoneMeans i f) }
    let s1 := s.setStrm i t1
    let s2 := if aborted then
        if f.bands.any fun b => b.complete && !b.dropped then
          forEach (f.bands.zipIdx.filter fun b => !b.1.complete) (fun b s => s.invalBand i f b.2) s1
        else s1.invalBuffer i (t.roleOf f.seq)
      else s1
    let crops := cropsOn f.pset i e
    let c := if crops && !aborted then s2.releaseCrops i j f e else (s2, crops)
    let s3 := forEach f.outs (fun o s => s.frameEnd i j f o) c.1
    let s4 := if c.2 && (s3.queue e.cropQ).ctx.dir == 0 then
        s3.produce e.cropQ (frameDesc i j f 1 (if aborted then 3 else 0) 0 0 f.released 1) none
      else s3
    let raw := f.ended && decide (f.rows ≤ 2 * f.pairs) && !f.bands.isEmpty
    let lumaOk := !f.bands.isEmpty && f.bands.all fun b => b.released && !b.dropped
    let s5 := if e.statsQ = 0xFFFF then s4 else s4.writeStats i j e.statsQ f raw lumaOk
    let warm := if zero then (if t1.resetDue ≠ 0 then 0 else t1.k) else f.k
    let s6 := if e.statusQ = 0xFFFF then s5 else s5.writeRecord i j e.statusQ 0 f (statusRecord i j f warm)
    let s7 := (s6.countFrame i f).when (f.flags.testBit 5) fun s => s.bump pgSched (0x200 + 4 * i) 16 16 1
    let s8 := s7.when aborted fun s => s.setSlot i { s.slot i with store := (s.slot i).store.filter fun r => r.frame != f.rxCount }
    if aborted && crops && ((s8.job j).map (·.phase)) == some .restarting then
      forEach (s8.cropReaders j e.cropQ) (fun x s => s.abortedStep x.1 x.2 f) s8
    else if aborted then s8 else s8.frameStep i j
  | _, _ => s

/-! Releasing bands (R25, R35, R37). -/

/-- The next band of a frame whose descriptors are due: the first not released, when it is complete. -/
def Frame.nextBand (f : Frame) : Option Nat :=
  match f.bands.zipIdx.find? fun b => !b.1.released with
  | some b => if b.1.complete then some b.2 else none
  | none => none

/-- The BAND descriptor of an output (Table 13-3). -/
def State.bandDesc (s : State) (i j : Nat) (f : Frame) (b : Nat) (o : Nat × OutBuf) : State :=
  if o.2.skip then s else
    let v := f.outSet i
    let d := v.rowDiv o.1
    let y0 := f.top b / d
    let y1 := cdiv (f.bottom b) d
    let r := fitted (v.bytes o.1) o.2.bytes
    s.produce o.2.queue (frameDesc i j f 0 r.1 o.2.base r.2 b (y0 + 65536 * (y1 - y0)))
      (some (o.2.base + min (v.lastByte o.1 (f.bottom b)) (r.2 - 1)))

/-- The luma counts of a rendered band, kept under 1,024 × (band + 1) + bin until its release, join the frame's (R73). -/
def lumaRelease (m : Sparse Nat) (b : Nat) : Sparse Nat :=
  (List.range 1024).foldl (fun m k =>
    let n := sget (fun _ => 0) m (1024 * (b + 1) + k)
    if n = 0 then m else sset (fun _ => 0) (sdrop m (1024 * (b + 1) + k)) k (sget (fun _ => 0) m k + n)) m

/-- A band's descriptors released on every output; the frame closes after its last band. -/
def State.releaseBand (s : State) (i : Nat) : State :=
  match (s.strm i).frames with
  | [] => s
  | f0 :: _ =>
    match f0.nextBand, (s.strm i).job with
    | some b, some j =>
      let g := (f0.bands.getD b ⟨none, 0, [], false, false, true, false⟩)
      let f1 := s.portView i f0
      let f : Frame := { f1 with
        bands := (f1.setBand b fun x => { x with released := true }).bands
        flags := f1.flags ||| (if g.replayed && !g.dropped then 0x40 else 0)
        replayed := if g.replayed && !g.dropped then f1.replayed + 1 else f1.replayed
        luma := if g.dropped then f1.luma else lumaRelease f1.luma b
        lumaPix := if g.dropped then f1.lumaPix else f1.lumaPix + f1.width * (f1.bottom b - f1.top b) }
      let s1 := (s.setFrame i { f with extra := f0.extra, widthLines := f0.widthLines, crcs := f0.crcs, rows := f0.rows })
      let s2 := forEach f.outs (fun o s => s.bandDesc i j f b o) s1
      if f.released = f.bandCount then
        match s2.frameOf i f.seq with
        | some x => s2.closeFrame i x false false
        | none => s2
      else s2
    | _, _ => s

/-! Opening a frame (R31, R32, R183, R184, R291, R292, R357). -/

/-- The box list that applies to a frame with number `seq` that starts at `ts` (R183): of those that name it, and of those
without a number accepted 1 µs before, the latest. -/
def boxListFor (t : Strm) (seq ts : Nat) : Option BoxList :=
  (t.lists.filter fun l => l.frameSeq == seq ||
    (l.frameSeq == 0xFFFFFFFF && decide (l.accepted + 1000 ≤ ts))).getLast?

/-- The lists kept after a frame has opened: those for later frames, and those not yet due. -/
def listsAfter (t : Strm) (seq ts : Nat) : List BoxList :=
  t.lists.filter fun l => if l.frameSeq = 0xFFFFFFFF then decide (ts < l.accepted + 1000) else seqAhead l.frameSeq seq

/-- Descriptors that the open frames of a stream still need on the queue of output k. -/
def stillNeeded (t : Strm) (k : Nat) : Nat :=
  (t.frames.map fun f => if f.outs.any fun o => o.1 == k && !o.2.skip then f.bandCount + 1 - f.released else 0).sum

/-- A frame that NET will stream (R311). -/
def State.addVideo (s : State) (i q : Nat) (f : Frame) (k : Nat) : State :=
  let o := f.outSet i
  { s with net := { s.net with video := s.net.video ++
      [⟨q, f.seq, f.tStart, k, o.width, o.height, if k = 0 then (if o.dispFmt = 0 then 3 else 4) else o.codeBytes⟩] } }

/-- The buffer of output k for a new frame, or its skip with a NO_SPACE close (R291, R292). -/
def State.openOutput (s : State) (i j : Nat) (e : BindEntry) (f : Frame) (k : Nat) : State × (Nat × OutBuf) :=
  let q := e.outQ k
  let n := (f.outSet i).bytes k
  let c := (s.queue q).ctx
  let skip := (s.noSpace q (frameDesc i j f 1 7 0 0 0 1), (k, (⟨q, 0, 0, true⟩ : OutBuf)))
  if c.en && decide (f.bandCount + 1 + stillNeeded (s.strm i) k ≤ freeSlots c) && (s.queue q).pend.isNone then
    match s.takeBuffer q n with
    | (s1, some b) => (if c.delivery = 2 then s1.addVideo i q f k else s1, (k, ⟨q, b.1, b.2, false⟩))
    | (_, none) => skip
  else skip

/-- The frames of a group's streams close zero-length until the rejoin (R366). -/
def State.groupHold (s : State) (j : Nat) : Bool :=
  s.groupOf j != 0 && (match s.group (s.groupOf j), s.jobImage j with
    | some g, some m => !g.lost.isEmpty && m.lossMode == 0
    | _, _ => false)

/-- A frame of a bound stream opens (R17 to R38): number, history role, reset, outputs and crops; during a restart, before the
job's first frame, and while its group waits, it closes zero-length at once. -/
def State.openBound (s : State) (i ts : Nat) (j : Nat) (x : Job) (e : BindEntry) (g : ImgStream) : State :=
  let t := s.strm i
  let m := s.live.filter fun w => (psetAddrs i).contains w.1
  let gap := match t.lastHist with
    | some h => t.restarted && decide (h + 2 * psPeriod m i < ts)
    | none => t.restarted
  let cause := lowerCause t.resetDue (if gap then 2 else 0)
  let f0 : Frame :=
    { seq := t.nextSeq, rxCount := (s.slot i).count, tStart := ts, width := psWidth m i, height := psHeight m i,
      exps := psExps m i, bandRows := g.bandRows, stripeW := g.stripeW, halo := g.halo,
      interval := if e.totalRows = 0 then 0 else g.bandRows * psPeriod m i / e.totalRows,
      ts := if x.variant then g.ts5 else g.ts6, k := if cause = 0 then t.k else 0, cause := cause, pset := m,
      slot0 := 0, pairs := 0, ended := false, rows := 0, bands := [], flags := 0, extra := 0, widthLines := 0, crcs := 0,
      lost := 0, replayed := 0, firstLost := 0xFFFF, zeroLen := false, aborted := false,
      outs := (outputsOf m i e).map fun k => (k, ⟨e.outQ k, 0, 0, false⟩), crops := [], listSeq := 0, stat := RawStat.init,
      luma := [], lumaPix := 0, prev := [], excluded := false }
  let t1 : Strm := { t with nextSeq := (t.nextSeq + 1) % 2 ^ 32, histRole := (t.histRole + 1) % 3, restarted := false,
                            resetDue := 0, frames := t.frames ++ [f0] }
  if x.phase == .restarting || decide (ts < x.restartAt + 1000) || s.groupHold j then
    (s.setStrm i { t1 with lists := listsAfter t f0.seq ts }).closeFrame i f0 true false
  else
    let list := (boxListFor t f0.seq ts).orElse fun _ =>
      if bitAt (psWord m (crsA i)) 1 then t.lastList else none
    let s1 := s.setStrm i { t1 with k := min (f0.k + 1) 4, unverified := false, lists := listsAfter t f0.seq ts,
                                    lastList := list }
    let s2 := if cause = 0 then s1 else forEach [0, 1, 2] (fun r s => s.invalBuffer i r) s1
    let f1 : Frame := { f0 with
      bands := List.replicate f0.bandCount ⟨none, 0, List.replicate f0.stripeCount .waiting, false, false, false, false⟩
      flags := (if f0.k < 4 then 1 else 0) + (if cause = 0 then 0 else 0x100) }
    let o := (outputsOf m i e).foldl (fun (y : State × List (Nat × OutBuf)) k =>
      let r := y.1.openOutput i j e { f1 with outs := [] } k
      (r.1, y.2 ++ [r.2])) (s2, [])
    let boxes := if cropsOn m i e then (match list with | some l => l.boxes | none => []) else []
    let c := boxes.foldl (fun (y : State × List Crop) b =>
      let r := y.1.admitBox i (s.jobImage j) f1.exps (emptySource (s.jobImage j) f1.height f1.width b.source) b
      (r.1, y.2 ++ [r.2])) (o.1, [])
    c.1.setFrame i { f1 with outs := o.2, crops := c.2, listSeq := (list.map (·.listSeq)).getD 0,
                             excluded := o.2.any fun k => k.2.skip }

/-- A frame opens at slot i with start time ts (R50, R52, R77): a pending set goes live, the port's frame starts, and a
bound stream's frame enters the pipeline. -/
def State.openFrame (s : State) (i ts : Nat) : State :=
  let s1 := if s.pendingSet i && decide (s.pendingSince i + 1000 ≤ ts) then s.goLive i else s
  let m := s1.live
  let x := s1.slot i
  let e := psExps m i
  let rx : RxFrame := ⟨ts, psWidth m i, psHeight m i, e, psDt m i, psLineNum m i, [], [], none, [],
    List.replicate e 0, [], 0, 0, 0, 0⟩
  let s2 := s1.setSlot i { x with rx := some rx, count := x.count + 1, lastStart := some ts, causeFive := false }
  let t := s2.strm i
  let s3 := if x.causeFive && t.job.isSome then s2.setStrm i { t with resetDue := lowerCause t.resetDue 5 } else s2
  match if t.held then none else t.job, t.entry, t.img with
  | some j, some en, some g =>
    match s3.job j with
    | some jb => if decide (ts < jb.committed + 1000) && jb.phase == .running && jb.restartAt == 0 then s3
                 else s3.openBound i ts j jb en g
    | none => s3
  | _, _, _ => s3

end Sys2Proof.Machine
end

