-- ==== Sys2Proof/Machine/LoadProof.lean ====
section
/-! DEFINITION. The load of the resident jobs and the admission proof (R202 to R204). -/

namespace Sys2Proof.Machine

open Sys2Proof

/-- A term of U (R203): a rendering stream with its stripes per band, or a tensor job; occupancy with t_sw in ns, and the
interval or period in ns. -/
structure LoadItem where
  tensor : Bool
  id : Nat
  n : Nat
  t : Nat
  period : Rat
  deriving DecidableEq, Repr

/-- Stripes per band at an image's largest W (R21, R203). -/
def ImgStream.stripes (g : ImgStream) : Nat := if g.maxW ≤ g.stripeW then 1 else cdiv g.maxW g.stripeW

/-- STREAMn_PERIOD of a stream, live. -/
def State.periodOf (s : State) (i : Nat) : Nat := psPeriod s.live i

/-- The term of a stream under an entry and an image stream, on the full or the reduced schedule. -/
def State.streamItem (s : State) (e : BindEntry) (g : ImgStream) (five : Bool) : LoadItem :=
  ⟨false, e.stream, g.stripes, (if five then g.ts5 else g.ts6) + 300,
   (g.bandRows * s.periodOf e.stream : Nat) / (max e.totalRows 1 : Nat)⟩

/-- The term of a tensor job in a slot: the period is that of the stream that feeds it. -/
def State.tensorItem (s : State) (j : Nat) (b : Binding) (m : Image) (five : Bool) : LoadItem :=
  ⟨true, j, 1, (if five then m.tj5 else m.tj6) + 300, (s.periodOf ((b.entries.head?.map (·.stream)).getD 0) : Nat)⟩

/-- The terms of a job with a binding and an image. -/
def State.bindItems (s : State) (j : Nat) (b : Binding) (m : Image) (five : Bool) : List LoadItem :=
  if m.kind = 1 then [s.tensorItem j b m five]
  else b.entries.filterMap fun e => (m.streams[e.imgStream]?).map fun g => s.streamItem e g five

/-- The terms of the resident jobs that `p` takes, each on its reduced schedule where `five` says so. -/
def State.jobItems (s : State) (p : Nat → Job → Image → Bool) (five : Job → Bool) : List LoadItem :=
  ((List.range 8).map fun j => match s.job j, s.jobImage j with
    | some x, some m => if p j x m then s.bindItems j x.bind m (five x) else []
    | _, _ => []).flatten

/-- U in engines (R203). -/
def loadOf (l : List LoadItem) : Rat := (l.map fun x => ((x.n * x.t : Nat) : Rat) / x.period).sum

/-- The three conditions of R204 on E engines. -/
def fits (e : Nat) (l : List LoadItem) : Bool :=
  let u := loadOf l
  decide (u ≤ 88 / 100 * (e : Rat)) && decide (0 < e) &&
    l.all fun x => decide (((x.t : Nat) : Rat) ≤ (1 - u / (e : Rat)) * x.period)

/-- A load in milli-engines, rounded up (log 26). -/
def milli (x : Rat) : Nat := (x * 1000).ceil.toNat

end Sys2Proof.Machine
end

