-- ==== Sys2Proof/Machine/Sched.lean ====
section
/-! DEFINITION. The scheduler: units of work and their order, placing, cancelling, dropping, the deadline guard, shedding, and
bands becoming ready (R23, R218 to R229). -/

namespace Sys2Proof.Machine

open Sys2Proof

/-- Context reload time t_sw in ns (R203). -/
def tSw : Nat := 300

/-! Order (R220). -/

/-- The order key of a unit: deadline, rendering before tensor, stream or job, frame, band, stripe. -/
def workKey (w : Work) : List Nat :=
  [w.deadline, b2n w.tensor, if w.tensor then w.job else w.stream, w.seq, w.band, w.stripe]

/-- Lexicographic order of number lists. -/
def lexLt : List Nat → List Nat → Bool
  | a :: l, b :: m => decide (a < b) || (a == b && lexLt l m)
  | _, _ => false

/-- A unit put into a queue in the order of R220. -/
def insertWork (w : Work) : List Work → List Work
  | [] => [w]
  | x :: l => if lexLt (workKey w) (workKey x) then w :: x :: l else x :: insertWork w l

/-! Engines (R218, R205). -/

/-- The leaf of a unit's requests at an arbitration point (Table 10-4): its stream, or 64 and the job slot of a tensor job. -/
def Work.leaf (w : Work) : Nat := if w.tensor then 64 + w.job else w.stream

/-- An engine in rotation (STATUS.IN_ROTATION, R107, R228). -/
def Engine.serves (g : Engine) : Bool := g.inRotation && !g.fenced && !g.frozen && !g.resetting && g.selftest != 3

/-- Whether the scheduler may place units on an engine: in rotation, and not about to leave it. -/
def Engine.open_ (g : Engine) : Bool := g.serves && !g.draining

/-- The engines that may take units. -/
def State.rotation (s : State) : List Nat := (List.range 6).filter fun e => (s.eng e).open_

/-- Committed work of an engine (R221). -/
def Engine.committed (g : Engine) : Nat :=
  (g.work.map fun w => w.ts + tSw).sum + ((g.ready.filter fun r => r.gone == 0).map fun r => r.work.ts + tSw).sum

/-- The engine with the least committed work, the lowest-numbered on equality. -/
def State.leastLoaded (s : State) (l : List Nat) : Option Nat :=
  l.foldl (fun b e => match b with
    | none => some e
    | some x => if (s.eng e).committed < (s.eng x).committed then some e else some x) none

/-- The logical engines of a step's work units under the full schedule or the variant (R205). -/
def Image.unitsOf (m : Image) (variant : Bool) : List Nat := if variant then m.tensorUnits5 else m.tensorUnits

/-- The physical engine of a tensor work unit: the logical engine that the schedule of its step gives it, mapped under a variant onto
the engines left in ring order (R205, R218). -/
def State.unitEngine (s : State) (j unit : Nat) : Option Nat :=
  match s.job j, s.jobImage j with
  | some x, some m =>
    let n := (m.unitsOf x.stepVariant).getD unit 0
    if x.stepVariant then ((List.range 6).filter fun e => !(s.eng e).fenced && (s.eng e).open_)[n]? else some n
  | _, _ => none

/-- A unit put into an engine's work queue. -/
def State.enqueue (s : State) (e : Nat) (w : Work) : State :=
  let g := s.eng e
  s.setEng e { g with work := insertWork w g.work }

/-- A unit that waits in the scheduler. -/
def State.waitUnit (s : State) (w : Work) : State :=
  { s with sched := { s.sched with waiting := insertWork w s.sched.waiting } }

/-- A unit placed (R221): on the least loaded engine, or the one a tensor unit names; it waits while that queue is full. -/
def State.place (s : State) (w : Work) : State :=
  let e := if w.tensor then (s.unitEngine w.job w.stripe).filter fun e => (s.eng e).open_
    else s.leastLoaded s.rotation
  match e with
  | some e => if (s.eng e).work.length < 8 then s.enqueue e w else s.waitUnit w
  | none => s.waitUnit w

/-- Waiting units placed where an entry is free, in order. -/
def State.placeWaiting (s : State) : State :=
  forEach s.sched.waiting (fun w s =>
    let free := s.rotation.filter fun e => decide ((s.eng e).work.length < 8)
    let e := if w.tensor then (s.unitEngine w.job w.stripe).filter fun e => free.contains e else s.leastLoaded free
    match e with
    | some e => s.enqueue e w
    | none => s.waitUnit w) { s with sched := { s.sched with waiting := [] } }

/-- The work units of a job's open step placed. -/
def State.placeStep (s : State) (j : Nat) : State :=
  match s.job j, s.jobImage j with
  | some x, some m =>
    let n := x.stepUnits.length
    let t := if x.stepVariant then m.tj5 else m.tj6
    forEach (List.range n) (fun k s => s.place ⟨true, j, 0, x.step, 0, k, x.stepDeadline, false, t / max 1 n⟩) s
  | _, _ => s

/-! Cancelling (R95, R142, R146). -/

/-- Same unit, whatever its run. -/
def sameUnit (a b : Work) : Bool :=
  a.tensor == b.tensor && a.job == b.job && (a.tensor || a.stream == b.stream && a.band == b.band) && a.seq == b.seq
    && a.stripe == b.stripe

/-- A cancel issued on an engine: the first ready-queue stripe that `p` names and every later one; those that `p` does not
name will return to the work queue. -/
def markGone (p : Work → Bool) (hit : Bool) : List ReadyEntry → List ReadyEntry
  | [] => []
  | r :: l =>
    let h := hit || (p r.work && r.gone == 0)
    { r with gone := if !h then r.gone else if p r.work then 2 else max r.gone 1 } :: markGone p h l

/-- A command is a PUT. -/
def UnitCmd.isPut (c : UnitCmd) : Bool := match c with | .put _ => true | _ => false

/-- The commands of a queue that complete although their stripe stops: those in flight; a PUT sends no further line (R146). -/
def stillRuns (l : List Issued) : List Issued := l.filter fun c => c.started && !c.cmd.isPut

/-- A cancel issued on an engine (R95); an executing stripe that it reaches issues no further command. -/
def State.cancel (s : State) (e : Nat) (p : Work → Bool) : State :=
  let g := s.eng e
  let r := markGone p false g.ready
  let hitExec := match r.head? with
    | some x => x.gone != 0 && g.exec.isSome
    | none => false
  s.setEng e { g with
    ready := r
    exec := if hitExec then g.exec.map fun x => { x with abandoned := true } else g.exec
    matrixQ := if hitExec then stillRuns g.matrixQ else g.matrixQ
    vectorQ := if hitExec then stillRuns g.vectorQ else g.vectorQ
    moverQ := if hitExec then stillRuns g.moverQ else g.moverQ
    tack := if hitExec then none else g.tack }

/-- The staging region of a job in a tile: its first CIRCULAR region (log 20). -/
def State.staging (s : State) (t j : Nat) : Option Nat :=
  (List.range 32).find? fun r =>
    let d := sget (fun _ => Region.unused) (s.tile t).regions r
    d.mode == 2 && d.job == j

/-- A region of a tile. -/
def State.region (s : State) (t r : Nat) : Region := sget (fun _ => Region.unused) (s.tile t).regions r

/-- A job may use a region: its own, or one that outlives a stripe and that another job of the same image holds (R212, log 104). -/
def State.mayUse (s : State) (j : Nat) (d : Region) : Bool :=
  d.job == j || (d.persist && (s.job j).isSome && (s.job j).map (·.digest) == (s.job d.job).map (·.digest))

/-- A region of a tile replaced. -/
def State.setRegion (s : State) (t r : Nat) (d : Region) : State :=
  let x := s.tile t
  s.setTile t { x with regions := sset (fun _ => Region.unused) x.regions r d }

/-- Unspent credits of a sender returned: the receivers' INBOUND entries become void and have every credit back (R146). -/
def State.returnCredits (s : State) (e : Nat) : State :=
  let g := s.eng e
  let s1 := forEach g.credits (fun c s =>
    let t := c.1 / 32
    let h := s.eng t
    s.setEng t { h with sb := h.sb.map fun b =>
      if b.kind == 3 && b.sender == e && b.region == c.1 % 32 then { b with isVoid := true, out := b.out - c.2 } else b }) s
  s1.setEng e { s1.eng e with credits := [] }

/-- A cancelled stripe names the owner of a scoreboard entry or of granted lines. -/
def ownedBy (l : List ReadyEntry) (w : Option Work) : Bool :=
  match w with
  | some w => l.any fun r => sameUnit r.work w
  | none => false

/-- The staging regions rewound to what they were before the first allocation of their job's cancelled stripes (R142). -/
def State.rewind (s : State) (e : Nat) (out : List ReadyEntry) : State :=
  forEach (out.map (·.work.job)).dedup (fun j s =>
    match out.find? fun r => r.work.job == j && decide (0 < r.allocs), s.staging e j with
    | some first, some r =>
      let d := s.region e r
      s.setRegion e r { d with head := first.headPtr, headWrap := first.headWrap, recs := d.recs.take first.records }
    | _, _ => s) s

/-- Units put back at the head of an engine's work queue, which holds 8 (R111): what does not fit waits in the scheduler. -/
def State.putBack (s : State) (e : Nat) (l : List Work) : State :=
  let g := s.eng e
  let q := l ++ g.work
  forEach (q.drop 8) (fun w s => s.waitUnit w) (s.setEng e { g with work := q.take 8 })

/-- A cancel completes (R95): scoreboard entries, INBOUND ones among them (R96), and credits released, the staging heads rewound,
stripes that the cancel does not concern back at the head of the work queue. -/
def State.finishCancel (s : State) (e : Nat) : State :=
  let g := s.eng e
  let out := g.ready.filter fun r => r.gone != 0
  if out.isEmpty then s
  else
    let back := (out.filter fun r => r.gone == 1).map (·.work)
    let wasExec := match g.exec with
      | some x => out.any fun r => sameUnit r.work x.work
      | none => false
    let g1 : Engine := { g with
      ready := g.ready.filter fun r => r.gone == 0
      sb := g.sb.map fun b => if ownedBy out b.owner then SbEntry.free else b
      granted := g.granted.filter fun x => !ownedBy out x.2.2
      exec := if wasExec then none else g.exec
      matrixQ := if wasExec then [] else g.matrixQ
      vectorQ := if wasExec then [] else g.vectorQ
      moverQ := if wasExec then [] else g.moverQ
      tack := if wasExec then none else g.tack }
    let s1 := (s.setEng e g1).when wasExec fun s => s.returnCredits e
    ((s1.rewind e out).putBack e back).placeWaiting

/-! Dropping (R226). -/

/-- Units removed from work queues and from the scheduler, and cancelled in ready queues. -/
def State.removeUnits (s : State) (p : Work → Bool) : State :=
  let s1 : State := { s with sched := { s.sched with waiting := s.sched.waiting.filter fun w => !p w } }
  (forEach (List.range 6) (fun e s =>
    let g := s.eng e
    let s2 := s.setEng e { g with work := g.work.filter fun w => !p w }
    if g.ready.any fun r => p r.work && r.gone != 2 then s2.cancel e p else s2) s1).placeWaiting

/-- INBOUND entries of dropped units released (R146). -/
def State.freeInbound (s : State) (p : Work → Bool) : State :=
  forEach (List.range 6) (fun e s =>
    let g := s.eng e
    let mine := fun (o : Option Work) => match o with | some w => p w | none => false
    s.setEng e { g with sb := g.sb.map fun b => if b.kind == 3 && mine b.owner then SbEntry.free else b
                        granted := g.granted.filter fun x => !mine x.2.2 }) s

/-- ERR_CAUSE of a drop or abort (Table 10-7). -/
def schedCause (c stream job e : Nat) : Nat := c + 256 * stream + 65536 * job + 524288 * e

/-- A band dropped (R30, R187, R226): its units go, its rows are invalid history, black output and empty crop source, its frame carries
LATE. `c`
is the cause: 1 SLIP, 2 OVERLOAD, 3 DEADLINE, 4 SHED, and 0 for a band that a second stored error ends (R150), whose CAUSE
code `code` the spec leaves open. -/
def State.dropBandCode (s : State) (i : Nat) (f0 : Frame) (b c code e : Nat) : State :=
  let p := fun (w : Work) => !w.tensor && w.stream == i && w.seq == f0.seq && w.band == b
  let f1 := f0.setBand b fun x => { x with dropped := true, stripes := x.stripes.map fun _ => .dropped }
  let img := ((s.strm i).job).bind s.jobImage
  let f : Frame := { f1 with
    crops := f1.crops.map fun k => k.without (((sourceOf img f1.exps k.box.source).map (·.1)).getD 1) (f1.top b) (f1.bottom b)
    flags := f1.flags ||| 0x20, lost := f1.lost + 1, firstLost := min f1.firstLost b,
    excluded := f1.excluded || (c == 4 && (s.strm i).shedTest) }
  let s1 := (((s.setFrame i f).removeUnits p).freeInbound p).invalBand i f b
  let s2 := s1.blackBand i f b
  let s3 := (s2.bump pgSched (0x200 + 4 * i) 0 16 1).fail pgSched 0
    (schedCause code i (((s.strm i).job).getD 0) (if c = 1 then e else 0)) 0
  if c = 1 then s3.event (pgEng e) 5 else s3

/-- A band dropped with one of the causes of Table 10-7. -/
def State.dropBand (s : State) (i : Nat) (f : Frame) (b c e : Nat) : State := s.dropBandCode i f b c c e

/-- A tensor step dropped (R226). -/
def State.dropStepCode (s : State) (j : Nat) (x : Job) (c code e : Nat) : State :=
  let p := fun (w : Work) => w.tensor && w.job == j
  let s1 := ((s.removeUnits p).freeInbound p).voidOpen j x 2
  let s2 := (s1.bump pgSched (0x300 + 4 * j) 0 16 1).fail pgSched 0 (schedCause code (64 + j) j (if c = 1 then e else 0)) 0
  if c = 1 then s2.event (pgEng e) 5 else s2

/-- A tensor step dropped with one of the causes of Table 10-7. -/
def State.dropStep (s : State) (j : Nat) (x : Job) (c e : Nat) : State := s.dropStepCode j x c c e

/-- The open step of a tensor job ends on a poisoned input (R358): count zero, status POISON; the job goes on. -/
def State.poisonStep (s : State) (j : Nat) : State :=
  let p := fun (w : Work) => w.tensor && w.job == j
  match s.job j with
  | some x => ((s.removeUnits p).freeInbound p).voidOpen j x 4
  | none => s

/-! The deadline guard (R225). -/

/-- A band or step that the guard watches. -/
structure Item where
  tensor : Bool
  id : Nat
  seq : Nat
  band : Nat
  deadline : Nat
  deriving DecidableEq, Repr

/-- Whether a unit belongs to an item. -/
def Item.has (x : Item) (w : Work) : Bool :=
  if x.tensor then w.tensor && w.job == x.id
  else !w.tensor && w.stream == x.id && w.seq == x.seq && w.band == x.band

/-- The order of R220 among items. -/
def Item.key (x : Item) : List Nat := [x.deadline, b2n x.tensor, x.id, x.seq, x.band]

/-- An item put in order. -/
def insertItem (x : Item) : List Item → List Item
  | [] => [x]
  | y :: l => if lexLt x.key y.key then x :: y :: l else y :: insertItem x l

/-- Bands that are ready and unfinished, and open steps, in the order of R220. -/
def State.openItems (s : State) : List Item :=
  let bands := ((List.range 64).map fun i => ((s.strm i).frames.map fun f =>
    (f.bands.zipIdx.filter fun b => b.1.ready.isSome && !b.1.complete).map fun b =>
      (⟨false, i, f.seq, b.2, b.1.deadline⟩ : Item)).flatten).flatten
  let steps := (List.range 8).filterMap fun j => match s.job j with
    | some x => if x.stepUnits.isEmpty then none else some (⟨true, j, x.step, 0, x.stepDeadline⟩ : Item)
    | none => none
  (bands ++ steps).foldl (fun l x => insertItem x l) []

/-- A simulation of the engines: when each becomes free, and the latest finish of an item's units. -/
structure Sim where
  free : List Nat
  last : Nat
  deriving DecidableEq, Repr

/-- The engine of a list that becomes free first. -/
def firstFree (free : List Nat) (l : List Nat) : Nat :=
  l.foldl (fun b e => if free.getD e 0 < free.getD b 0 then e else b) (l.headD 0)

/-- The projected finish of an item (R225), with or without slip. -/
def State.project (s : State) (x : Item) (slip : Bool) : Nat :=
  let now := s.clk.up
  let run : Sim := (List.range 6).foldl (fun (m : Sim) e =>
    let g := s.eng e
    match g.exec with
    | some r =>
      let t := max now (r.start + r.work.ts + tSw + (if slip then g.slip - r.slip0 else 0))
      ⟨m.free ++ [t], if x.has r.work then max m.last t else m.last⟩
    | none => ⟨m.free ++ [now], m.last⟩) ⟨[], now⟩
  let queued := ((List.range 6).map fun e =>
    let g := s.eng e
    ((g.ready.filter fun r => r.gone != 2 && !(match g.exec with
      | some z => sameUnit z.work r.work
      | none => false)).map (·.work)) ++ g.work).flatten ++ s.sched.waiting
  let sorted := queued.foldl (fun l w => insertWork w l) []
  (sorted.foldl (fun (m : Sim) w =>
    let l := if w.tensor then (s.unitEngine w.job w.stripe).toList else s.rotation
    if l.isEmpty then m
    else
      let e := firstFree m.free l
      let t := max now (m.free.getD e 0) + w.ts + tSw
      ⟨m.free.set e t, if x.has w then max m.last t else m.last⟩) run).last

/-- The priority of an item: of the stream's entry, or the highest of a tensor job's entries. -/
def State.priority (s : State) (x : Item) : Nat :=
  if x.tensor then (match s.job x.id with | some j => (j.bind.entries.map (·.priority)).foldl max 0 | none => 0)
  else (match (s.strm x.id).entry with | some e => e.priority | none => 0)

/-- Whether a unit of the item executes. -/
def State.started (s : State) (x : Item) : Bool :=
  (List.range 6).any fun e => match (s.eng e).exec with | some r => x.has r.work | none => false

/-- The order in which victims are chosen (R225): not started first, lowest priority, tensor steps, higher number. -/
def State.victimKey (s : State) (x : Item) : List Nat :=
  [b2n (s.started x), s.priority x, b2n (!x.tensor), 255 - x.id]

/-- The victim among a list of items. -/
def State.victim (s : State) (l : List Item) : Option Item :=
  l.foldl (fun b x => match b with
    | none => some x
    | some y => if lexLt (s.victimKey x) (s.victimKey y) then some x else some y) none

/-- The engine with the most slip that runs or holds a unit of an item. -/
def State.slipEngine (s : State) (x : Item) : Nat :=
  ((List.range 6).filter fun e => (match (s.eng e).exec with | some r => x.has r.work | none => false)
    || (s.eng e).ready.any fun r => x.has r.work).foldl
    (fun b e => if (s.eng b).slip < (s.eng e).slip then e else b)
    (((List.range 6).foldl (fun b e => if (s.eng b).slip < (s.eng e).slip then e else b) 0))

/-- An item dropped with a cause. -/
def State.dropItem (s : State) (x : Item) (c : Nat) : State :=
  if x.tensor then (match s.job x.id with | some j => s.dropStep x.id j c (s.slipEngine x) | none => s)
  else match s.frameOf x.id x.seq with
    | some f => s.dropBand x.id f x.band c (s.slipEngine x)
    | none => s

/-- One evaluation of the deadline guard; a victim that the slip rule chooses too is dropped with SLIP (Table 10-6). -/
def State.guard (s : State) : State :=
  forEach s.openItems (fun x s =>
    if !s.openItems.contains x || decide (s.project x true ≤ x.deadline) then s
    else if s.project x false ≤ x.deadline then s.dropItem x 1
    else match s.victim (s.openItems.filter fun y => decide (y.deadline ≤ x.deadline)) with
      | some v => s.dropItem v (if decide (v.deadline < s.project v true) && decide (s.project v false ≤ v.deadline) then 1 else 2)
      | none => s) s

/-! Shedding for a forced self-test (R228). -/

/-- Whether a stream or job is shed. -/
def State.shedding (s : State) : Bool :=
  (List.range 64).any (fun i => (s.strm i).shedTest || (s.strm i).shedHeat) ||
    (List.range 8).any fun j => match s.job j with | some x => x.shed | none => false

/-- SHED or UNSHED, when shedding began or ended between two states. -/
def State.shedEvent (s : State) (before : Bool) : State :=
  if !before && s.shedding then s.event pgSched 1 else if before && !s.shedding then s.event pgSched 2 else s

/-- The terms of U of what is not shed. -/
def State.activeItems (s : State) : List LoadItem :=
  (s.jobItems (fun _ x _ => !x.shed) fun x => x.variant).filter fun y =>
    y.tensor || !((s.strm y.id).shedTest || (s.strm y.id).shedHeat)

/-- The stream that is shed next: the lowest priority, then the highest number. -/
def State.shedVictim (s : State) : Option Nat :=
  (s.activeItems.filter fun x => !x.tensor).foldl (fun (b : Option Nat) x =>
    let key := fun (i : Nat) => [(((s.strm i).entry.map (·.priority)).getD 0), 255 - i]
    match b with
    | none => some x.id
    | some y => if lexLt (key x.id) (key y) then some x.id else some y) none

/-- Streams shed until R204 holds on E engines. -/
def State.shedUntil (s : State) (e : Nat) : Nat → State
  | 0 => s
  | n + 1 =>
    if fits e s.activeItems then s
    else match s.shedVictim with
      | some i =>
        let s1 := s.setStrm i { s.strm i with shedTest := true }
        State.shedUntil { s1 with sched := { s1.sched with shedTest := s1.sched.shedTest ++ [i] } } e n
      | none => s

/-- An engine that is out of rotation for a self-test, or about to be. -/
def Engine.testing (g : Engine) : Bool := g.selftest == 1 || g.selftest == 3

/-- An engine that takes no units because of a self-test. -/
def Engine.outForTest (g : Engine) : Bool := g.draining || g.selftest == 3

/-- Tensor jobs whose schedule names an engine out for a self-test run their variant, or are shed without one; afterwards they
go back to the full schedule unless an engine is fenced. -/
def State.testVariants (s : State) : State :=
  forEach (List.range 8) (fun j s => match s.job j, s.jobImage j with
    | some x, some m =>
      let out := (m.unitsOf false).any fun e => (s.eng e).outForTest
      let fenced := (List.range 6).any fun e => (s.eng e).fenced
      if m.kind = 1 && !fenced then
        s.setJob j (some { x with variant := out && m.sections.any (fun y => y.1 == 0x0B)
                                  shed := (out && !m.sections.any fun y => y.1 == 0x0B) || s.pwr.heatShed.contains (.job j) })
      else s
    | _, _ => s) s

/-- Shedding judged again: ended while no forced self-test keeps an engine out, else until R204 holds on what is left. -/
def State.judgeShed (s : State) : State :=
  let before := s.shedding
  let s1 := forEach s.sched.shedTest (fun i s => s.setStrm i { s.strm i with shedTest := false }) s
  let s2 := ({ s1 with sched := { s1.sched with shedTest := [] } } : State).testVariants
  let out := (List.range 6).any fun e => (s2.eng e).outForTest && (s2.eng e).selfForce
  (if out then s2.shedUntil s2.rotation.length 64 else s2).shedEvent before

/-- An engine that is to self-test leaves rotation once it holds no stripe (R107, R228). -/
def State.checkSelftest (s : State) (e : Nat) : State :=
  let g := s.eng e
  if g.selftest == 1 && g.draining && g.ready.isEmpty && g.work.isEmpty && g.exec.isNone then
    s.setEng e { g with selftest := 3, draining := false, inRotation := false }
  else s

/-- An engine takes no further unit before its self-test; shedding and variants are judged first, then its waiting units move
(R228). -/
def State.drain (s : State) (e : Nat) : State :=
  let g := s.eng e
  let s1 := (s.setEng e { g with draining := true, work := [] }).judgeShed
  (forEach g.work (fun w s => s.place w) s1).checkSelftest e

/-- A band boundary for the engines that wait for one: they come back into rotation, or leave it for an accepted self-test
(R107, R228, R349). -/
def State.bringBack (s : State) : State :=
  let l := (List.range 6).filter fun e => (s.eng e).returning
  let s2 := if l.isEmpty then s else
    (forEach l (fun e s => s.setEng e { s.eng e with returning := false, inRotation := true }) s).judgeShed.placeWaiting
  forEach ((List.range 6).filter fun e => (s2.eng e).selftest == 1 && !(s2.eng e).draining) (fun e s => s.drain e) s2

/-- An engine is to come back at the next band boundary; at once when no band or step is open. -/
def State.comeBack (s : State) (e : Nat) : State :=
  let s1 := s.setEng e { s.eng e with returning := true }
  if s1.openItems.isEmpty then s1.bringBack else s1

/-! Bands becoming ready (R23, R219, R221, R228). -/

/-- A band becomes ready: its stripes are placed with the stripe time of the schedule that runs now (R208), or it is dropped
because its stream is shed. -/
def State.readyBand (s : State) (i seq b : Nat) : State :=
  let t := s.strm i
  match s.frameOf i seq, t.job with
  | some f0, some j =>
    let v := match s.job j with | some x => x.variant | none => false
    let d := s.clk.up + f0.interval + 16000
    let ts := match t.img with
      | some g => if v then g.ts5 else g.ts6
      | none => f0.ts
    let f := f0.setBand b fun x => { x with ready := some s.clk.up, deadline := d, degraded := v,
                                            stripes := x.stripes.map fun _ => .placed }
    let s1 := s.setFrame i f
    if t.shedTest || t.shedHeat then s1.dropBand i f b 4 0
    else forEach (List.range f.stripeCount) (fun k s => s.place ⟨false, j, i, seq, b, k, d, false, ts⟩) s1
  | _, _ => s

/-- Whether band b of a frame is due to become ready. -/
def Frame.due (f : Frame) (b : Nat) : Bool :=
  let all := f.ended && decide (f.rows ≤ 2 * f.pairs)
  all || (decide (b + 1 < f.bandCount) && decide (f.trigger b < 2 * f.pairs))

/-- Every band of a stream that is due becomes ready, in order; the guard then evaluates. -/
def State.checkReady (s : State) (i : Nat) : State :=
  let l := ((s.strm i).frames.map fun f => (f.bands.zipIdx.filter fun b => b.1.ready.isNone && f.due b.2).map fun b =>
    (f.seq, b.2)).flatten
  if l.isEmpty then s else (forEach l (fun x s => s.readyBand i x.1 x.2) s.bringBack).guard

end Sys2Proof.Machine
end

