-- ==== Sys2Proof/Machine/CamOps.lean ====
section
/-! DEFINITION. Camera ports: enabling, packets, the placing and substituting of rows, closing frames, the control
interface and frame sync (R39 to R60, R279, R425). Port p, slot n of it, stream i = 4p + n. -/

namespace Sys2Proof.Machine

open Sys2Proof

/-- An enabled port with its link up receives packets (R44). -/
def State.receives (s : State) (p : Nat) : Bool := bitAt (s.reg (pgCam p) 8) 0 && bitAt (s.reg (pgCam p) 0xC) 0

/-- The domain of port p is on: PD4 holds C0 to C7 and PD5 C8 to C15 (R370, R376). -/
def State.portPowered (s : State) (p : Nat) : Bool := s.pwr.dom.getD (if p < 8 then 4 else 5) .on == .on

/-! Enabling a port (R41, R54, R279). -/

/-- CSI-2 link rate of PHY_CFG in Mbit/s × 7 (R41). -/
def linkRate (w : Word) : Nat :=
  let lanes := fld w 2 2
  let rate := 50 * fld w 8 8
  if fld w 0 2 = 1 then 7 * (if lanes = 3 then 4 else lanes + 1) * rate
  else if fld w 0 2 = 2 then 16 * (lanes + 1) * rate
  else 0

/-- A configuration that the port can use (R39, R41, Table 03-6). -/
def phyOk (p : Nat) (w : Word) : Bool :=
  let t := fld w 0 2
  let l := fld w 2 2
  let r := fld w 8 8
  decide (fld w 20 2 ≠ 3) && decide (linkRate w ≤ 126000) &&
    (if p < 8 then decide (t = 0) && decide (1 ≤ r) && decide (r ≤ 5)
     else decide (t = 1) && decide (l ≠ 2) && decide (2 ≤ r) && decide (r ≤ 90)
       || decide (t = 2) && decide (l ≠ 3) && decide (2 ≤ r) && decide (r ≤ 120))

/-- Bits of a row of every exposure of a slot's live set. -/
def State.rowBits (s : State) (i : Nat) : Nat := psWidth s.live i * dtBits (psDt s.live i) * psExps s.live i

/-- The line store divided among the slots of a port (R54); rows that still wait in it are dropped (DESIGN CHOICE, log 94). -/
def State.divide (s : State) (p : Nat) : State :=
  let b := ((List.range 4).map fun n => s.rowBits (4 * p + n)).sum
  let d := if b = 0 then 0 else 1572864 * 8 / b
  (forEach (List.range 4) (fun n s =>
    s.setSlot (4 * p + n) { s.slot (4 * p + n) with partBytes := cdiv (d * s.rowBits (4 * p + n)) 8, store := [],
                                                     idle := .discard }) s).setRfld (pgCam p) 0xC 4 8 (min d 255)

/-- A camera lane: untrained it stands at delay 32 and threshold 32 (R279). -/
def State.camLane (s : State) (p l : Nat) : CamLane :=
  sget (fun _ => ⟨32, 32, false, none, [], 0, none, 0, false⟩) s.cal.cam (4 * p + l)

/-- A camera lane replaced. -/
def State.setCamLane (s : State) (p l : Nat) (v : CamLane) : State :=
  { s with cal := { s.cal with cam := sset (fun _ => ⟨32, 32, false, none, [], 0, none, 0, false⟩) s.cal.cam (4 * p + l) v } }

/-- At PORT_EN a lane starts from its retained values, or from restored ones saved with the same PHY_CFG, else from 32 and 32, and a
measurement is due (R279, R281). -/
def State.camLanesStart (s : State) (p : Nat) : State :=
  if p < 8 then s
  else forEach (List.range 4) (fun l s =>
    let c := s.camLane p l
    let w := (s.reg (pgCam p) 0x100).toNat
    if c.valid && c.phyCfg.all (· == w) then s.setCamLane p l { c with pending := none, passes := [], phyCfg := none, due := true }
    else s.setCamLane p l ⟨32, 32, false, none, [], 0, none, 0, true⟩) s

/-- No lane in use of the port has its measurement due: the first frame may open (R279; LANES in use, Table 03-6). -/
def State.lanesReady (s : State) (p : Nat) : Bool :=
  decide (p < 8) || (List.range (s.rfld (pgCam p) 0x100 2 2 + 1)).all fun l => !(s.camLane p l).due

/-- A write of 1 to PORT_EN; on an enabled port it only clears CFG_ERR (Table 03-5). -/
def State.portEnable (s : State) (p : Nat) : State :=
  if bitAt (s.reg (pgCam p) 8) 0 then s.setRfld (pgCam p) 0xC 16 1 0
  else if phyOk p (s.reg (pgCam p) 0x100) then
    (((s.setRfld (pgCam p) 8 0 1 1).setRfld (pgCam p) 0xC 16 1 0).divide p).camLanesStart p
  else s.setRfld (pgCam p) 0xC 16 1 1

/-! Rows (R47 to R51, R54). -/

/-- The frame in the pipeline that the port's current frame of slot i feeds. -/
def State.feeds (s : State) (i : Nat) : Option Frame :=
  (s.strm i).frames.find? fun f => f.rxCount == (s.slot i).count && !f.ended

/-- Bits of the line store that a slot's stored rows use. -/
def storeBits (x : Slot) (dt : Nat) : Nat := (x.store.map fun r => max r.px.length 1 * dtBits dt).sum

/-- Whether a row of `bits` finds a slot's part of the line store full (R54). -/
def Slot.fullFor (x : Slot) (dt bits : Nat) : Bool := decide (8 * x.partBytes < storeBits x dt + bits)

/-- A row put at its index of an exposure; the rows of frames that no pipeline takes leave the store at once (DESIGN CHOICE,
log 94). -/
def State.putRow (s : State) (i : Nat) (r : RxFrame) (w : Row) : State :=
  let x := s.slot i
  let r1 : RxFrame := { r with next := r.next.set w.exp (w.row + 1),
                               recent := (w :: r.recent.filter fun q => q.exp != w.exp)
                                 ++ (r.recent.filter fun q => q.exp == w.exp).take 1 }
  s.setSlot i { x with rx := some r1, store := if (s.feeds i).isSome then x.store ++ [w] else x.store }

/-- The row that stands for row k of an exposure (R48): row k − 2 as placed, or black; every pixel marked. -/
def substitute (frame : Nat) (r : RxFrame) (e k : Nat) : Row :=
  match r.recent.find? fun q => q.exp == e && q.row + 2 == k with
  | some q => { q with row := k, marked := true }
  | none => ⟨frame, e, k, List.replicate r.width 0, true, true⟩

/-- Register page and offset of a slot's counters. -/
def slotReg (i : Nat) : Nat × Nat := (pgCam (i / 4), 0x12C + 0x20 * (i % 4))

/-- Rows from the next of an exposure up to `k` substituted as missing when the frame closes, counted in ROWS_SUBST; a close
always finds room for them (DESIGN CHOICE, log 94). -/
def State.fillTo (s : State) (i e k : Nat) : State :=
  match (s.slot i).rx with
  | none => s
  | some r =>
    let n := r.next.getD e 0
    forEach ((List.range (k - n)).map (· + n)) (fun j s =>
      match (s.slot i).rx with
      | some r => (s.putRow i r (substitute (s.slot i).count r e j)).bump (slotReg i).1 (slotReg i).2 16 16 1
      | none => s) s

/-- The open frame of a slot closes (R50, R51): missing exposure rows are substituted, its counts go to the pipeline's frame,
and bands become ready (R23). `rule` says how later packets outside frames are taken. -/
def State.endFrame (s : State) (i : Nat) (rule : IdleRule) : State :=
  match (s.slot i).rx with
  | none => s.setSlot i { s.slot i with idle := rule }
  | some r0 =>
    let rows := min r0.height (r0.next.foldl max 0)
    let s1 := forEach (List.range r0.exps) (fun e s => s.fillTo i e rows) s
    let r := ((s1.slot i).rx).getD r0
    let fl := r.flags ||| (if rows < r.height then 2 else 0)
    let s2 := match s1.feeds i with
      | some f => s1.setFrame i { f with ended := true, rows := rows, flags := f.flags ||| fl, extra := r.extra,
                                         widthLines := r.widthLines, crcs := r.crcs }
      | none => s1
    (s2.setSlot i { s2.slot i with rx := none, idle := rule }).checkReady i

/-- Whether F rows are placed in every exposure. -/
def RxFrame.full (r : RxFrame) : Bool := r.next.all fun n => decide (r.height ≤ n)

/-- A flag bit set in the open frame, with its counts changed. -/
def State.markRx (s : State) (i : Nat) (f : RxFrame → RxFrame) : State :=
  match (s.slot i).rx with
  | some r => s.setSlot i { s.slot i with rx := some (f r) }
  | none => s

/-- An orphan row or packet counted. -/
def State.orphan (s : State) (i : Nat) : State := s.bump (slotReg i).1 ((slotReg i).2 + 4) 24 8 1

/-- LS_OVERFLOW (R54): the frame closes at the last stored row and the slot waits for its next frame start. -/
def State.overflow (s : State) (i : Nat) : State :=
  ((s.bump (slotReg i).1 ((slotReg i).2 + 4) 16 4 1).event (pgCam (i / 4)) 4).endFrame i .discard

/-- Rows from the next of an exposure up to `k` substituted as missing, each of which needs room in the slot's part (R48, R54). -/
def State.fillRows (s : State) (i e k : Nat) : State :=
  match (s.slot i).rx with
  | none => s
  | some r =>
    let n := r.next.getD e 0
    forEach ((List.range (k - n)).map (· + n)) (fun j s =>
      match (s.slot i).rx with
      | some r =>
        if (s.slot i).fullFor r.dt (r.width * dtBits r.dt) then s.overflow i
        else (s.putRow i r (substitute (s.slot i).count r e j)).bump (slotReg i).1 (slotReg i).2 16 16 1
      | none => s) s

/-- The index of a row (R47): none when it is at or below a placed row, or below the frame's first line start. A line number of 0
counts as a number (DESIGN CHOICE, log 94). -/
def rowIndex (r : RxFrame) (e : Nat) : Option Nat :=
  let n := r.next.getD e 0
  match (if r.lineNum then sget (fun _ => 0) r.pendLine e else 0), r.base with
  | l + 1, some b => if b ≤ l ∧ n ≤ l - b then some (l - b) else none
  | _, _ => some n

/-- A row with its pixels cut or padded to W (R49), and whether its width was wrong. -/
def fitRow (w : Nat) (px : List Nat) : List Nat × Bool :=
  (px.take w ++ List.replicate (w - px.length) (px.getLast?.getD 0), decide (px.length ≠ w))

/-- A row of exposure e taken: extra, substituted or placed; `px` is none when its payload failed CRC. -/
def State.takeRow (s : State) (i e : Nat) (px : Option (List Nat)) : State :=
  match (s.slot i).rx with
  | none => s
  | some r =>
    let idx := rowIndex r e
    let s1 := s.markRx i fun r => { r with pendLine := sset (fun _ => 0) r.pendLine e 0 }
    match idx with
    | none => s1.orphan i
    | some k =>
      if r.height ≤ k then s1.markRx i fun r => { r with extra := r.extra + 1, flags := r.flags ||| 4 }
      else
        let s2 := s1.fillRows i e k
        let x := s2.slot i
        match x.rx with
        | none => s2
        | some r =>
          if x.fullFor r.dt (r.width * dtBits r.dt) then s2.overflow i
          else match px with
            | some (q :: l) =>
              let w := fitRow r.width (q :: l)
              let s3 := s2.putRow i r ⟨x.count, e, k, w.1, false, false⟩
              if w.2 then s3.markRx i fun r => { r with widthLines := r.widthLines + 1, flags := r.flags ||| 8 } else s3
            | _ => (s2.putRow i r (substitute x.count r e k)).bump (slotReg i).1 (slotReg i).2 16 16 1

/-! Unpacking (R63, Table 03-2); the bit order is that of MIPI CSI-2 (PRESUMED, log 21). -/

/-- Pixels of whole packing groups. -/
def unpackGo (dt : Nat) : Nat → List Nat → List Nat
  | 0, _ => []
  | n + 1, l =>
    match dt, l with
    | 0x2B, a :: b :: c :: d :: e :: l =>
      [4 * a + e % 4, 4 * b + e / 4 % 4, 4 * c + e / 16 % 4, 4 * d + e / 64] ++ unpackGo dt n l
    | 0x2C, a :: b :: c :: l => [16 * a + c % 16, 16 * b + c / 16] ++ unpackGo dt n l
    | 0x2D, a :: b :: c :: d :: e :: f :: g :: l =>
      [64 * a + e % 64, 64 * b + e / 64 + 4 * (f % 16), 64 * c + f / 16 + 16 * (g % 4), 64 * d + g / 4]
        ++ unpackGo dt n l
    | 0x2E, a :: b :: l => (256 * a + b) :: unpackGo dt n l
    | 0x2F, a :: b :: c :: d :: e :: l =>
      [4096 * a + 1024 * (e % 4) + 4 * b + e / 4 % 4, 4096 * c + 1024 * (e / 16 % 4) + 4 * d + e / 64] ++ unpackGo dt n l
    | 0x27, a :: b :: c :: l => (65536 * a + 4096 * (c % 16) + 16 * b + c / 16) :: unpackGo dt n l
    | _, _ => []

/-- Pixels of a payload. -/
def unpack (dt : Nat) (data : List Byte) : List Nat := unpackGo dt data.length (data.map (·.toNat))

/-! Packets (R43 to R47, Table 03-3). -/

/-- The enabled slot and exposure that a virtual channel belongs to. -/
def State.claim (s : State) (p vc : Nat) : Option (Nat × Nat) :=
  ((List.range 4).map (· + 4 * p)).findSome? fun i =>
    let v := psVc s.live i
    if s.slotEn i && decide (v ≤ vc) && decide (vc < v + psExps s.live i) then some (i, vc - v) else none

/-- A corrected header counted (R45). -/
def State.header (s : State) (p : Nat) (corrected : Bool) : State :=
  if corrected then s.bump (pgCam p) 0x104 0 16 1 else s

/-- A packet on a virtual channel that no slot claims. -/
def State.unmatched (s : State) (p : Nat) : State := (s.bump (pgCam p) 0x108 0 16 1).event (pgCam p) 7

/-- An exposure's frame start noted in the open frame. -/
def State.noteStart (s : State) (i e : Nat) : State := s.markRx i fun r => { r with starts := r.starts ++ [e] }

/-- A frame start has reached a slot: a new absence can be raised (R53). -/
def State.notAbsent (s : State) (i : Nat) : State := s.setSlot i { s.slot i with absent := false }

/-- A frame-start packet; no frame opens before the lanes have been measured (R279). -/
def State.frameStart (s : State) (p vc : Nat) (corrected : Bool) : State :=
  if !s.receives p then s else
    let s1 := s.header p corrected
    match s1.claim p vc with
    | none => s1.unmatched p
    | some (i, e) =>
      let s2 := s1.notAbsent i
      match (s2.slot i).rx with
      | none => if s2.lanesReady p then (s2.openFrame i s.clk.ptp).noteStart i e else s2
      | some r =>
        if r.starts.contains e then
          let s3 := if min r.height (r.next.foldl max 0) < r.height then s2
            else s2.bump (slotReg i).1 ((slotReg i).2 + 4) 8 8 1
          ((s3.endFrame i .discard).openFrame i s.clk.ptp).noteStart i e
        else s2.noteStart i e

/-- A frame-end packet: the frame ends once every exposure's has arrived. With no frame open it changes nothing: after an end
that the port generated the next long packet still opens a frame (DESIGN CHOICE, log 94). -/
def State.frameEndPacket (s : State) (p vc : Nat) (corrected : Bool) : State :=
  if !s.receives p then s else
    let s1 := s.header p corrected
    match s1.claim p vc with
    | none => s1.unmatched p
    | some (i, e) =>
      match (s1.slot i).rx with
      | none => s1
      | some r =>
        let l := if r.ends.contains e then r.ends else r.ends ++ [e]
        let s2 := s1.markRx i fun r => { r with ends := l }
        if r.exps ≤ l.length then s2.endFrame i .orphan else s2

/-- A line-start packet (R47): the next row of its channel has this number; rows skipped are missing. -/
def State.lineStart (s : State) (p vc line : Nat) (corrected : Bool) : State :=
  if !s.receives p then s else
    let s1 := s.header p corrected
    match s1.claim p vc with
    | none => s1.unmatched p
    | some (i, e) =>
      match (s1.slot i).rx with
      | none => s1
      | some r =>
        if r.lineNum then
          let r1 : RxFrame := { r with base := some (r.base.getD line), pendLine := sset (fun _ => 0) r.pendLine e (line + 1) }
          let s2 := s1.setSlot i { s1.slot i with rx := some r1 }
          match rowIndex r1 e with
          | some k => if k < r.height then s2.fillRows i e k else s2
          | none => s2
        else s1

/-- A line-end packet changes nothing but the header count. -/
def State.lineEnd (s : State) (p vc : Nat) (corrected : Bool) : State :=
  if !s.receives p then s else
    let s1 := s.header p corrected
    if (s1.claim p vc).isNone then s1.unmatched p else s1

/-- A generic short packet, null, blanking or embedded-data packet is discarded without a count (R44), on a virtual channel that
no slot claims too (DESIGN CHOICE, log 94). -/
def State.discardPacket (s : State) (p : Nat) (corrected : Bool) : State :=
  if s.receives p then s.header p corrected else s

/-- The pixels of a long packet taken by the open frame; a payload whose CRC fails is a fault of class 0x13. -/
def State.payload (s : State) (p i e : Nat) (dt : Nat) (data : List Byte) (crcOk : Bool) : State :=
  if crcOk then s.takeRow i e (some (unpack dt data))
  else
    let s1 := (((s.bump (slotReg i).1 (slotReg i).2 0 16 1).event (pgCam p) 3).fault 0x13 p (((s.strm i).job).getD 0)).markRx i
      fun r => { r with crcs := r.crcs + 1, flags := r.flags ||| 0x10 }
    s1.takeRow i e none

/-- A long packet of a port that receives. One of another data type counts DT_UNSUPP whether or not a frame is open; one that opens
a frame stands for the frame start of its exposure (both DESIGN CHOICE, log 94). -/
def State.takeLong (s : State) (p vc dt : Nat) (data : List Byte) (crcOk corrected : Bool) : State :=
  if dt = 0x10 ∨ dt = 0x11 ∨ dt = 0x12 then s.header p corrected
  else
    let s1 := s.header p corrected
    match s1.claim p vc with
    | none => s1.unmatched p
    | some (i, e) =>
      let x := s1.slot i
      let want := match x.rx with | some r => r.dt | none => psDt s1.live i
      if dt ≠ want then (s1.bump (pgCam p) 0x108 16 16 1).event (pgCam p) 8
      else match x.rx, x.idle with
        | some _, _ => s1.payload p i e dt data crcOk
        | none, .discard => s1
        | none, .orphan => s1.orphan i
        | none, .reopen =>
          if !s1.lanesReady p then s1 else
          (((s1.bump (slotReg i).1 ((slotReg i).2 + 4) 0 8 1).openFrame i s.clk.ptp).noteStart i e).payload p i e dt data crcOk

/-- A-PHY retransmissions counted (Table 03-7): those that a long packet took, on a port with RETX_EN (log 94). -/
def State.retransmitted (s : State) (p n : Nat) : State :=
  if decide (p < 8) && bitAt (s.reg (pgCam p) 0x100) 18 && decide (n ≠ 0) then s.bump (pgCam p) 0x10C 0 16 n else s

/-- A long packet, with the retransmissions it took on an A-PHY link. -/
def State.longPacket (s : State) (p vc dt : Nat) (data : List Byte) (crcOk corrected : Bool) (retx : Nat) : State :=
  if !s.receives p then s else (s.retransmitted p retx).takeLong p vc dt data crcOk corrected

/-- The job slot of the first stream of a port that a job binds; 0 without one. -/
def State.portJob (s : State) (p : Nat) : Nat := (((List.range 4).filterMap fun n => (s.strm (4 * p + n)).job).head?).getD 0

/-- An uncorrectable header (R45, R46; class 0x13). -/
def State.badHeader (s : State) (p : Nat) : State :=
  if s.receives p then
    forEach ((List.range 4).map (· + 4 * p)) (fun i s => s.markRx i fun r =>
      { r with crcs := r.crcs + 1, flags := r.flags ||| 0x10 }) (((s.bump (pgCam p) 0x104 16 16 1).event (pgCam p) 2).fault 0x13 p (s.portJob p))
  else s

/-! Time limits (Table 03-3, R53). -/

/-- The frame end generated 64 µs after the F-th row. -/
def State.feMissing (s : State) (i : Nat) : State :=
  match (s.slot i).rx with
  | some r => if r.full then (s.bump (slotReg i).1 ((slotReg i).2 + 4) 8 8 1).endFrame i .reopen else s
  | none => s

/-- The frame closed at 1.5 periods. -/
def State.frameTimeout (s : State) (i : Nat) : State :=
  if (s.slot i).rx.isSome && decide (psPeriod s.live i ≠ 0) then
    ((s.bump (slotReg i).1 ((slotReg i).2 + 4) 20 4 1).event (pgCam (i / 4)) 5).endFrame i .reopen
  else s

/-- No frame start for two periods. -/
def State.streamAbsent (s : State) (i : Nat) : State :=
  let x := s.slot i
  if s.slotEn i && decide (psPeriod s.live i ≠ 0) && !x.absent then
    (s.setSlot i { x with absent := true, causeFive := true }).event (pgCam (i / 4)) 6
  else s

/-! Links (R55, R57) and disabling. -/

/-- A CCI transaction ends with status bits. -/
def State.cciEnd (s : State) (p bits : Nat) : State :=
  let s1 := s.setPort p { s.port p with cciBusy := false }
  (s1.setReg (pgCam p) 0x208 (s1.reg (pgCam p) 0x208 ||| BitVec.ofNat 32 (bits + 2))).event (pgCam p) 9

/-- Every open frame of a port closes; each slot waits for a frame start, one without an open frame too (DESIGN CHOICE, log 94). -/
def State.closeSlots (s : State) (p : Nat) : State :=
  forEach ((List.range 4).map (· + 4 * p)) (fun i s => s.endFrame i .discard) s

/-- Swatches of camera lanes discarded (Table 12-4). -/
def State.dropSwatch (s : State) (p : Nat) : State :=
  forEach (List.range 4) (fun l s => if (s.camLane p l).passes.isEmpty then s
    else s.setCamLane p l { s.camLane p l with passes := [] }) s

/-- A transaction that runs over an A-PHY link ends with LINK at once when the link is down (R57). -/
def State.cciLink (s : State) (p : Nat) : State := if decide (p < 8) && (s.port p).cciBusy then s.cciEnd p 16 else s

/-- The link enters its data state. -/
def State.linkUp (s : State) (p gear : Nat) : State :=
  if bitAt (s.reg (pgCam p) 8) 0 && !bitAt (s.reg (pgCam p) 0xC) 0 && s.portPowered p then
    let g := if p < 8 then min (max gear 1) (s.rfld (pgCam p) 0x100 8 8) else 0
    ((s.setRfld (pgCam p) 0xC 0 1 1).setRfld (pgCam p) 0xC 1 3 g).event (pgCam p) 1
  else s

/-- The link goes down (class 0x14). -/
def State.linkDown (s : State) (p : Nat) : State :=
  if s.receives p then
    let s1 := ((((s.setRfld (pgCam p) 0xC 0 1 0).setRfld (pgCam p) 0xC 1 3 0).bump (pgCam p) 0x10C 16 16 1).event
      (pgCam p) 0).fault 0x14 p (s.portJob p)
    ((s1.closeSlots p).dropSwatch p).cciLink p
  else s

/-- The A-PHY link moves to another gear at or below RATE (R41). -/
def State.gearChange (s : State) (p gear : Nat) : State :=
  if decide (p < 8) && s.receives p then s.setRfld (pgCam p) 0xC 1 3 (min (max gear 1) (s.rfld (pgCam p) 0x100 8 8)) else s

/-- PORT_EN written to 0: every open frame closes, and the port receives nothing; its link is down. -/
def State.portDisable (s : State) (p : Nat) : State :=
  if bitAt (s.reg (pgCam p) 8) 0 then
    let s1 := (s.closeSlots p).dropSwatch p
    (((s1.setRfld (pgCam p) 8 0 1 0).setRfld (pgCam p) 0xC 0 1 0).setRfld (pgCam p) 0xC 1 3 0).cciLink p
  else s

/-! Slots (R42, R56). -/

/-- Whether EN = 1 is allowed by the live values (R42). -/
def State.slotOk (s : State) (i : Nat) : Bool :=
  let m := s.live
  !((List.range 4).map (· + i / 4 * 4)).any (fun j => j != i && s.slotEn j && vcOverlap m i m j)
    && decide (psVc m i + psExps m i - 1 ≤ s.vcMax (i / 4)) && decide (dtBits (psDt m i) ≠ 0)
    && sizeOk (psWidth m i) (psHeight m i)

/-- A write to STREAMn_CFG: the staging fields and EN act separately. -/
def State.writeSlotCfg (s : State) (i : Nat) (w : Word) : State :=
  let p := i / 4
  let en := s.slotEn i
  let s1 := s.stage i (camA i) (putFld w 0 1 (b2n en))
  let setEn := fun (s : State) (b : Bool) =>
    { s with regs := sset resetWord s.regs (camA i) (putFld (sget resetWord s.regs (camA i)) 0 1 (b2n b)) }
  if bitAt w 0 then
    if s1.slotOk i then
      let s2 := (setEn s1 true).setRfld (pgCam p) 0xC 16 1 0
      if en then s2 else s2.setSlot i { s2.slot i with idle := .discard }
    else s1.setRfld (pgCam p) 0xC 16 1 1
  else
    let s2 := setEn (s1.endFrame i .discard) false
    if s2.pendingSet i then s2.goLive i else s2

/-! Camera control (R57). -/

/-- A write to CCI_CMD: its fields KIND, RLEN, WLEN and CCC take the value, and GO starts the transaction unless one runs. A length
above 16 acts as 16, and RCOUNT starts at 0 (DESIGN CHOICE, log 94). -/
def State.cciWrite (s : State) (p : Nat) (w : Word) : State :=
  let x := s.port p
  let keep := s.setReg (pgCam p) 0x200 (w &&& 0x601F1FFF)
  if !bitAt w 31 then keep
  else if x.cciBusy then keep.setRfld (pgCam p) 0x208 5 1 1
  else if p < 8 && !bitAt (s.reg (pgCam p) 0xC) 0 then (keep.setRfld (pgCam p) 0x208 8 5 0).cciEnd p 16
  else
    let n := min (fld w 8 5) 16
    let data := (List.range n).map fun k => BitVec.ofNat 8 (s.rfld (pgCam p) (0x210 + 4 * (k / 4)) (8 * (k % 4)) 8)
    ((keep.setRfld (pgCam p) 0x208 8 5 0).setPort p { x with cciBusy := true, cciRead := min (fld w 16 5) 16 }).emit
      (.cci p w.toNat (s.rfld (pgCam p) 0x204 0 7) data)

/-- The target's bytes put into CCI_DATA. -/
def State.cciData (s : State) (p : Nat) (data : List Byte) : State :=
  forEach data.zipIdx (fun b s => s.setRfld (pgCam p) (0x210 + 4 * (b.2 / 4)) (8 * (b.2 % 4)) 8 b.1.toNat) s

/-- A transaction ends: read data taken, or not acknowledged. -/
def State.cciDone (s : State) (p : Nat) (nack : Bool) (data : List Byte) : State :=
  if (s.port p).cciBusy then
    let d := if nack then [] else data.take (s.port p).cciRead
    ((s.cciData p d).setRfld (pgCam p) 0x208 8 5 d.length).cciEnd p (if nack then 4 else 0)
  else s

/-- 10 ms have elapsed. -/
def State.cciTimeout (s : State) (p : Nat) : State := if (s.port p).cciBusy then s.cciEnd p 8 else s

/-! Frame sync (R58 to R60). -/

/-- FSYNC_PERIOD as it acts: at least 100,000 ns. -/
def State.fsyncPeriodOf (s : State) (p : Nat) : Nat := max (s.reg (pgCam p) 0x1C4).toNat 100000

/-- FSYNC_START. -/
def State.fsyncStart (s : State) (p : Nat) : Nat :=
  (s.reg (pgCam p) 0x1D0).toNat + 2 ^ 32 * (s.reg (pgCam p) 0x1D4).toNat

/-- FSYNC_START written by hardware. -/
def State.setFsyncStart (s : State) (p t : Nat) : State :=
  (s.setReg (pgCam p) 0x1D0 (BitVec.ofNat 32 t)).setReg (pgCam p) 0x1D4 (BitVec.ofNat 32 (t / 2 ^ 32))

/-- The first time of a series that is not before `t`. -/
def seriesAfter (start period t : Nat) : Nat := if t ≤ start then start else start + cdiv (t - start) period * period

/-- A write to FSYNC_CTRL; modes 2 and 3 read back as 1 on P8 to P15. A write that sets MODE non-zero starts the series of R58 from
FSYNC_START as it stands; while MODE is non-zero the series goes on, a period that waits included (R60), and a write to FSYNC_START
acts only with the next such start (DESIGN CHOICE, log 95). -/
def State.fsyncMode (s : State) (p : Nat) (w : Word) : State :=
  let m := if 8 ≤ p ∧ 2 ≤ fld w 0 2 then 1 else fld w 0 2
  let s1 := s.setReg (pgCam p) 0x1C0 (BitVec.ofNat 32 (m + 4 * fld w 2 1))
  let x := s1.port p
  if m = 0 then s1.setPort p { x with fsyncArmed := false, fsyncNew := none }
  else if x.fsyncArmed then s1
  else
    let d := s1.fsyncPeriodOf p
    let t := seriesAfter (s1.fsyncStart p) d (s.clk.ptp + 1000)
    let t1 := match x.fsyncLast with
      | some l => seriesAfter (s1.fsyncStart p) d (max (l + 1) (s.clk.ptp + 1000))
      | none => t
    s1.setPort p { x with fsyncArmed := true, fsyncNext := t1, fsyncPeriod := d, fsyncSent := false, fsyncNew := none }

/-- A write to FSYNC_PERIOD; while MODE is non-zero it takes effect after the next edge. -/
def State.fsyncPeriodWrite (s : State) (p : Nat) (w : Word) : State :=
  let s1 := s.setReg (pgCam p) 0x1C4 w
  if (s1.port p).fsyncArmed then s1.setPort p { s1.port p with fsyncNew := some (s1.fsyncPeriodOf p) } else s1

/-- The next edge of the series: a pulse of FSYNC_WIDTH at the polarity of POL (R58). While the port's domain is off the pin stays at
its inactive level (R376). -/
def State.fsyncEdge (s : State) (p : Nat) : State :=
  let x := s.port p
  if x.fsyncArmed then
    let t := x.fsyncNext
    let d := x.fsyncNew.getD x.fsyncPeriod
    let s1 := if s.rfld (pgCam p) 0x1C0 0 1 = 1 ∧ s.portPowered p = true then s.emit (.fsync p t (s.rfld (pgCam p) 0x1C8 0 16) (!bitAt (s.reg (pgCam p) 0x1C0) 2)) else s
    let s2 := if x.fsyncNew.isSome then s1.setFsyncStart p t else s1
    s2.setPort p { x with fsyncNext := t + d, fsyncPeriod := d, fsyncSent := false, fsyncNew := none, fsyncLast := some t }
  else s

/-- The frame-sync message of the next edge t_k sent on the uplink of an A-PHY port, at t_k − FSYNC_COMP (R58). -/
def State.fsyncUplink (s : State) (p : Nat) : State :=
  let x := s.port p
  if x.fsyncArmed && s.rfld (pgCam p) 0x1C0 1 1 == 1 && !x.fsyncSent && decide (p < 8) && s.portPowered p then
    (s.emit (.uplink p (x.fsyncNext - s.rfld (pgCam p) 0x1CC 0 20) x.fsyncNext)).setPort p { x with fsyncSent := true }
  else s

/-- The 802.1AS time stepped forward: edges whose times were skipped are not produced (R60). -/
def State.fsyncSkip (s : State) : State :=
  forEach (List.range 16) (fun p s =>
    let x := s.port p
    if x.fsyncArmed && decide (x.fsyncNext < s.clk.ptp) then
      s.setPort p { x with fsyncNext := seriesAfter x.fsyncNext x.fsyncPeriod s.clk.ptp, fsyncSent := false }
    else s) s

end Sys2Proof.Machine
end

