-- ==== Sys2Proof/Machine/CalOps.lean ====
section
/-! DEFINITION. Calibration: lanes and visits, failing lanes, camera lanes, the record and its restore (R270 to R282). -/

namespace Sys2Proof.Machine

open Sys2Proof

/-! Lanes (R270, R276, R277). -/

/-- A change of the calibration state. -/
def State.withCal (s : State) (f : Cal → Cal) : State := { s with cal := f s.cal }

/-- A DRAM lane replaced. -/
def State.setLane (s : State) (c i : Nat) (v : Lane) : State :=
  s.withCal fun x => { x with lanes := sset (fun _ => (⟨⟨0, 0, 0⟩, ⟨0, 0, 0⟩, false, false, 0, 0⟩ : Lane)) x.lanes (74 * c + i) v }

/-- A gusset lane. -/
def State.gusset (s : State) (c g : Nat) : Gusset := sget (fun _ => (⟨none, false⟩ : Gusset)) s.cal.gusset (2 * c + g)

/-- A gusset lane replaced. -/
def State.setGusset (s : State) (c g : Nat) (v : Gusset) : State :=
  s.withCal fun x => { x with gusset := sset (fun _ => (⟨none, false⟩ : Gusset)) x.gusset (2 * c + g) v }

/-- The visit of gusset lane g of channel c. -/
def State.visit (s : State) (c g : Nat) : Option Visit := sget (fun _ => none) s.cal.visits (2 * c + g)

/-- A visit begun, changed or ended. -/
def State.setVisit (s : State) (c g : Nat) (v : Option Visit) : State :=
  s.withCal fun x => { x with visits := sset (fun _ => none) x.visits (2 * c + g) v }

/-- The lanes that gusset lane g visits, in order (R272, R277): its half of the channel, or every working lane when it is the
only one in service. -/
def State.covered (s : State) (c g : Nat) : List Nat :=
  let carried := (List.range 2).filterMap fun h => (s.gusset c h).carries
  if s.gussetsFree c = [0, 1] then (List.range 36).map (· + 36 * g)
  else if s.gussetsFree c = [g] then
    ((List.range 72).filter fun k => !carried.contains k) ++
      ((List.range 2).filter fun h => h != g && (s.gusset c h).carries.isSome && !(s.gusset c h).failed).map (· + 72)
  else []

/-- The lane that a gusset lane visits next. -/
def State.nextLane (s : State) (c g : Nat) : Option Nat :=
  let n := sget (fun _ => 0) s.cal.next (2 * c + g)
  let l := s.covered c g
  (l.find? fun k => decide (n ≤ k)).orElse fun _ => l.head?

/-- LANE_VISIT_START (R272, R275). -/
def State.visitStart (s : State) (c g : Nat) : State :=
  if bitAt (s.reg pgCal 8) 0 && !s.dram.selfRefresh && (s.visit c g).isNone then
    match s.nextLane c g with
    | some k => s.setVisit c g (some ⟨k, false, false, [], s.lane c k⟩)
    | none => s
  else s

/-- The gusset lanes in service, as keys. -/
def State.rotating (s : State) : List Nat :=
  ((List.range 128).map fun c => (s.gussetsFree c).map fun g => 2 * c + g).flatten

/-- A round that every gusset lane in service has completed is counted. -/
def State.countRound (s : State) : State :=
  if !s.cal.turned.isEmpty && s.rotating.all fun k => s.cal.turned.contains k then
    (s.bump pgCal 0x11C 0 32 1).withCal fun x => { x with turned := [] }
  else s

/-- A visit ends (step 6): the next lane, and a rotation after the last one. -/
def State.visitEnd (s : State) (c g : Nat) : State :=
  match s.visit c g with
  | some v =>
    let last := (s.covered c g).getLast? == some v.lane
    let s1 := (s.setVisit c g none).withCal fun x =>
      { x with next := sset (fun _ => 0) x.next (2 * c + g) (if last then 0 else v.lane + 1)
               turned := if last && !x.turned.contains (2 * c + g) then x.turned ++ [2 * c + g] else x.turned }
    s1.countRound
  | none => s

/-- CAL's cause word (Table 12-5). -/
def calCause (c unit lane : Nat) : Nat := c + 256 * unit + 65536 * lane

/-- LANES_EXHAUSTED when a channel has lost its last gusset lane (R277); its rotation stops. -/
def State.checkExhausted (s : State) (c : Nat) : State :=
  if (s.gussetsFree c).isEmpty then s.fail pgCal 1 (calCause 3 c 0) 0 else s

/-- A working lane retired: gusset lane g keeps its traffic (R276); a gusset lane that carried another hands that one on. -/
def State.retireLane (s : State) (c g k : Nat) : State :=
  let r := if 72 ≤ k then ((s.gusset c (k - 72)).carries).getD k else k
  let s1 := if 72 ≤ k then s.setGusset c (k - 72) ⟨none, true⟩ else s
  (((s1.setGusset c g ⟨some r, false⟩).log 5 0x11 (logBody (c + 128 * g) r 2)).fail pgCal 0 (calCause 2 c r) 0).checkExhausted c

/-- A lane fails under measurement (R276, R277): the gusset lane in step 2, the lane under visit in step 4. -/
def State.laneFails (s : State) (c g : Nat) (v : Visit) : State :=
  if v.step4 then (s.retireLane c g v.lane).visitEnd c g
  else ((s.setGusset c g ⟨none, true⟩).visitEnd c g).checkExhausted c

/-- Two passes agree (R273). -/
def passAgree (a b : Nat × Nat) : Bool :=
  decide (a.1 ≤ b.1 + 2) && decide (b.1 ≤ a.1 + 2) && decide (a.2 ≤ b.2 + 2) && decide (b.2 ≤ a.2 + 2)

/-- The mean of two passes, rounded down. -/
def passMean (a b : Nat × Nat) : Nat × Nat := ((a.1 + b.1) / 2, (a.2 + b.2) / 2)

/-- What the passes of a direction decide: nothing yet, a pair's mean, or disagreement. When a third pass agrees with both of the
first two, the spec names no pair (log 32). -/
inductive PassResult where
  | more | value (v : Nat × Nat) | disagree
  deriving DecidableEq, Repr

/-- The decision of R273; `second` chooses between two agreeing pairs. -/
def judgePasses (second : Bool) : List (Nat × Nat) → PassResult
  | [a, b] => if passAgree a b then .value (passMean a b) else .more
  | [a, b, c] =>
    if passAgree a c && (!passAgree b c || !second) then .value (passMean a c)
    else if passAgree b c then .value (passMean b c)
    else .disagree
  | _ => .more

/-- A direction with a new delay and threshold: a delay near an end moves the coarse phase (R273). -/
def LaneDir.apply (d : LaneDir) (v : Nat × Nat) : LaneDir :=
  if v.1 < 8 then ⟨v.1 + 52, v.2, d.coarse - 1⟩
  else if 55 < v.1 then ⟨v.1 - 52, v.2, min 7 (d.coarse + 1)⟩
  else ⟨v.1, v.2, d.coarse⟩

/-- The visit after the step at hand: step 4 after step 2, the end after step 4. -/
def State.visitNext (s : State) (c g : Nat) (v : Visit) : State :=
  if v.step4 then s.visitEnd c g else s.setVisit c g (some { v with step4 := true, write := false, passes := [] })

/-! A swatch and what a pass finds in it (R271, R276). -/

/-- The sweeps are complete: at least 1,024 transitions at each delay and 4,096 bits at each threshold. -/
def Swatch.complete (m : Swatch) : Bool :=
  (m.delays.toList.all fun x => decide (1024 ≤ x.2)) && m.checks.toList.all fun x => decide (4096 ≤ x.1)

/-- The lowest tap at which half of the transitions are sampled before the edge; none when no tap reaches half. -/
def Swatch.fine (m : Swatch) : Option Nat := m.delays.toList.findIdx? fun x => decide (x.2 ≤ 2 * x.1)

/-- The fine steps that the transitions spread over: from the lowest tap that samples one before the edge to the highest that samples
one after it (DEDUCED, log 106). -/
def Swatch.spread (m : Swatch) : Nat :=
  let l := m.delays.toList
  (64 - l.reverse.findIdx fun x => decide (x.1 < x.2)) + 1 - l.findIdx fun x => decide (0 < x.1)

/-- The thresholds without a mismatch from threshold t on. -/
def Swatch.runAt (m : Swatch) (t : Nat) : Nat := ((m.checks.toList.drop t).takeWhile fun x => x.2 == 0).length

/-- The longest run of thresholds without a mismatch. -/
def Swatch.run (m : Swatch) : Nat := ((List.range 64).map m.runAt).foldl max 0

/-- The midpoints, rounded down, of the longest runs. -/
def Swatch.mids (m : Swatch) : List Nat :=
  ((List.range 64).filter fun t => m.runAt t == m.run && m.run != 0).map fun t => (2 * t + m.run - 1) / 2

/-- What a pass finds in a swatch (R271). The spec names no delay for a sweep that never reaches half and no threshold when the longest
run is not one: free values (log 106). -/
def State.passOf (s : State) (m : Swatch) : Pass :=
  let thr := match m.mids with
    | [] => s.drawn.choice 64
    | [t] => t
    | l => l.getD (s.drawn.choice l.length) 0
  ⟨m.fine.getD (s.choice 64), thr, m.spread, m.run⟩

/-- The free values of a pass taken. -/
def State.swept (s : State) (m : Swatch) : State := if m.fine.isSome && m.mids.length == 1 then s else s.drawn.drawn

/-- CAL_PASS_DONE (R271 to R274, R276). -/
def State.passDone (s0 : State) (c g : Nat) (w : Swatch) : State :=
  let m := s0.passOf w
  let s := s0.swept w
  match s.visit c g with
  | none => s0
  | some v =>
    let i := if v.step4 then v.lane else 72 + g
    if !w.complete then s0
    else if 32 < m.spread ∨ m.run < 8 then s.laneFails c g v
    else
      let l := v.passes ++ [(m.fine, m.thr)]
      let x := s.lane c i
      match judgePasses (s.choice 2 == 1) l with
      | .more => s.setVisit c g (some { v with passes := l })
      | .value n =>
        let y := if v.write then { x with wr := x.wr.apply n, valid := true, disagree := 0, aged := s.clk.up }
          else { x with rd := x.rd.apply n, valid := true }
        let s1 := (s.setLane c i y).drawn
        if v.write then s1.visitNext c g v else s1.setVisit c g (some { v with write := true, passes := [] })
      | .disagree =>
        let s1 := ((s.setLane c i { x with disagree := x.disagree + 1 }).bump pgCal 0x20 0 16 1).fail pgCal 2 (calCause 1 c i) 0
        if 3 ≤ x.disagree + 1 then s1.laneFails c g v else s1.visitNext c g v

/-- Every visit stops (Table 12-4): the lane under visit keeps its old values, and its gusset lane resumes there. -/
def State.stopVisits (s : State) : State :=
  forEach s.cal.visits (fun e s => match e.2 with
    | some v => ((s.setLane (e.1 / 2) v.lane v.oldLane).setVisit (e.1 / 2) (e.1 % 2) none).withCal fun x =>
        { x with next := sset (fun _ => 0) x.next e.1 v.lane }
    | none => s) s

/-! Camera lanes (R278, R279). -/

/-- CAM_LANE_MEASURE: one pass of the monitor sampler, against the main sampler's decisions. -/
def State.camMeasure (s0 : State) (p l : Nat) (w : Swatch) : State :=
  if 8 ≤ p ∧ s0.receives p ∧ w.complete then
    let s := s0.swept w
    let x := s.camLane p l
    let q := x.passes ++ [((s0.passOf w).fine, (s0.passOf w).thr)]
    match judgePasses (s.choice 2 == 1) q with
    | .more => s.setCamLane p l { x with passes := q }
    | .value n => (s.setCamLane p l { x with passes := [], pending := some n, disagree := 0, aged := s.clk.up, due := false }).drawn
    | .disagree =>
      let s1 := (s.setCamLane p l { x with passes := [], disagree := x.disagree + 1, due := false }).bump pgCal 0x20 16 16 1
      if x.disagree + 1 = 3 then s1.fail pgCal 3 (calCause 4 p l) 0 else s1
  else s0

/-- CAM_LANE_APPLY: the new value goes into the main sampler while the lane is in the LP state. -/
def State.camApply (s : State) (p l : Nat) : State :=
  let x := s.camLane p l
  match x.pending with
  | some n => s.setCamLane p l { x with fine := n.1, thr := n.2, valid := true, pending := none }
  | none => s

/-! The record (R280, R281, Table 12-2). -/

/-- A reading in °C. -/
def degrees (t : Nat) : Int := sext 8 t

/-- The highest reading and its sensor; sensors that are off take no part (R379). -/
def State.tempMax (s : State) : Option (Int × Nat) :=
  (s.pwr.temps.zipIdx.filter fun t => t.1 != 0x80).foldl (fun (b : Option (Int × Nat)) t => match b with
    | none => some (degrees t.1, t.2)
    | some m => if m.1 < degrees t.1 then some (degrees t.1, t.2) else some m) none

/-- A lane's word. -/
def laneWord (x : Lane) : Nat :=
  x.rd.fine % 64 + 2 ^ 6 * (x.rd.thr % 64) + 2 ^ 12 * (x.rd.coarse % 8) + 2 ^ 15 * (x.wr.fine % 64) + 2 ^ 21 * (x.wr.thr % 64)
    + 2 ^ 27 * (x.wr.coarse % 8) + 2 ^ 30 * b2n x.failed + 2 ^ 31 * b2n x.valid

/-- The lane that a word spells, measured at a time. -/
def laneOfWord (w now : Nat) : Lane :=
  ⟨⟨w % 64, w / 2 ^ 6 % 64, w / 2 ^ 12 % 8⟩, ⟨w / 2 ^ 15 % 64, w / 2 ^ 21 % 64, w / 2 ^ 27 % 8⟩, w.testBit 30, w.testBit 31, 0, now⟩

/-- A channel's lane map. -/
def State.laneMap (s : State) (c : Nat) : Nat :=
  let f := fun (g : Nat) => ((s.gusset c g).carries.getD 0x7F) + 128 * b2n (s.gusset c g).failed
  f 0 + 256 * f 1

/-- A camera lane's half-word. -/
def camWord (x : CamLane) : Nat := x.fine % 64 + 64 * (x.thr % 64) + 2 ^ 15 * b2n x.valid

/-- A lane's values for a save: those from before a visit under way (R280). -/
def State.savedLane (s : State) (c i : Nat) : Lane :=
  match (List.range 2).findSome? fun g => (s.visit c g).bind fun v => if v.lane = i then some v.oldLane else none with
  | some x => x
  | none => s.lane c i

/-- The record with a TAG. -/
def State.calRecord (s : State) (tag : List Byte) : List Byte :=
  leBytes 4 0x314C4143 ++ leBytes 2 1 ++ leBytes 1 (if Config.revB1 then 0xB1 else 0xB0) ++ leBytes 1 128
    ++ leBytes 1 (((s.tempMax.map (·.1)).getD 0) % 256).toNat ++ leBytes 3 0 ++ leBytes 4 39104 ++ leBytes 8 s.clk.ptp
    ++ leBytes 8 0 ++ tag
    ++ ((List.range 128).map fun c => leBytes 4 (s.laneMap c) ++ leBytes 4 0
        ++ ((List.range 74).map fun i => leBytes 4 (laneWord (s.savedLane c i))).flatten).flatten
    ++ ((List.range 8).map fun q => leBytes 4 (s.reg (pgCam (8 + q)) 0x100).toNat
        ++ ((List.range 4).map fun l => leBytes 2 (camWord (s.camLane (8 + q) l))).flatten ++ leBytes 4 0).flatten

/-- CAL_SAVE (R280): the record is taken at the GO; an address that is not 128-byte aligned in DRAM saves nothing (log 33). -/
def State.calSave (s : State) (w : Word) : State :=
  let a := (s.reg pgCal 0x100).toNat + 2 ^ 32 * (s.reg pgCal 0x104).toNat
  if !bitAt w 0 then s
  else if s.cal.save.isSome then s.cause pgCal (calCause 8 0 0) 0
  else if a % 128 = 0 ∧ inDram a 39104 then
    let tag := Config.keyedShake (s.calRecord (List.replicate 32 0)) 32
    s.withCal fun x => { x with save := some (a, s.calRecord tag) }
  else s

/-- SAVE_DONE: the record lies in DRAM. -/
def State.saveDone (s : State) : State :=
  match s.cal.save with
  | some r => (((s.memWrite 10 r.1 r.2).1).withCal fun x => { x with save := none }).event pgCal 4
  | none => s

/-- What keeps a record from being restored: the cause of RESTORE_REFUSED, 0 none (R281). -/
def recordFault (b : List Byte) : Nat :=
  let clear := b.take 0x20 ++ List.replicate 32 0 ++ (b.drop 0x40).take (39104 - 0x40)
  if (b.drop 0x20).take 32 ≠ Config.keyedShake clear 32 then 5
  else if leAt b 0 4 ≠ 0x314C4143 ∨ leAt b 4 2 ≠ 1 ∨ leAt b 12 4 ≠ 39104 then 6
  else if leAt b 6 1 ≠ (if Config.revB1 then 0xB1 else 0xB0) then 7
  else 0

/-- A gusset lane of a lane map: a retirement stands, also one made since the save (Table 12-4). -/
def mapGusset (old : Gusset) (v : Nat) : Gusset :=
  if old.carries.isSome then old else ⟨if v % 128 = 0x7F then none else some (v % 128), old.failed || v.testBit 7⟩

/-- Every lane map and lane value of a record applied (R281). -/
def State.applyRecord (s : State) (b : List Byte) : State :=
  let s1 := forEach (List.range 128) (fun c s =>
    let o := 0x40 + 304 * c
    let m := leAt b o 4
    let s2 := (s.setGusset c 0 (mapGusset (s.gusset c 0) (m % 256))).setGusset c 1 (mapGusset (s.gusset c 1) (m / 256 % 256))
    forEach (List.range 74) (fun i s => s.setLane c i (laneOfWord (leAt b (o + 8 + 4 * i) 4) s.clk.up)) s2) s
  forEach (List.range 8) (fun q s =>
    let o := 0x9840 + 16 * q
    forEach (List.range 4) (fun l s =>
      let v := leAt b (o + 4 + 2 * l) 2
      s.setCamLane (8 + q) l ⟨v % 64, v / 64 % 64, v.testBit 15, none, [], 0, some (leAt b o 4), s.clk.up, false⟩) s) s1

/-- A restore record taken or refused; `source` is 1 flash, 2 the restore window. -/
def State.takeRecord (s : State) (source : Nat) (b : List Byte) : State × Bool :=
  let f := recordFault b
  if f = 0 then ((s.applyRecord b).setRfld pgCal 0x10C 0 2 source, true)
  else (s.fail pgCal 5 (calCause f 0 0) 0, false)

/-- A verification pass lies within 2 steps of a lane's values in both directions. -/
def laneNear (x : Lane) (rd wr : Pass) : Bool :=
  passAgree (x.rd.fine, x.rd.thr) (rd.fine, rd.thr) && passAgree (x.wr.fine, x.wr.thr) (wr.fine, wr.thr)

/-- Training (R281): a restored lane whose verification pass lies near its values takes the pass's values; every other lane is
trained in full. In a channel without a gusset lane in service, a lane that no setting serves is marked FAILED (R277; DEDUCED,
log 113). -/
def State.train (s : State) (restored : Bool) (passes : List (Nat × Swatch × Swatch)) (trained : List (Nat × LaneDir × LaneDir))
    (failing : List Nat) : State :=
  forEach (List.range (128 * 74)) (fun k s =>
    let x0 := s.lane (k / 74) (k % 74)
    let x := { x0 with failed := x0.failed || (s.gussetsFree (k / 74)).isEmpty && failing.contains k }
    match if restored then (passes.find? fun p => p.1 == k).filter fun p =>
        laneNear x (s.passOf p.2.1) ((s.swept p.2.1).passOf p.2.2) else none with
    | some p =>
      let r := s.passOf p.2.1
      let w := (s.swept p.2.1).passOf p.2.2
      ((s.swept p.2.1).swept p.2.2).setLane (k / 74) (k % 74) { x with
        rd := { x.rd with fine := r.fine, thr := r.thr }, wr := { x.wr with fine := w.fine, thr := w.thr }
        valid := true, disagree := 0, aged := s.clk.up }
    | none =>
      let s1 := if restored then s.bump pgCal 0x10C 8 16 1 else s
      match trained.find? fun p => p.1 == k with
      | some p => s1.setLane (k / 74) (k % 74) { x with rd := p.2.1, wr := p.2.2, valid := true, disagree := 0, aged := s.clk.up }
      | none => s1.setLane (k / 74) (k % 74) x) s

end Sys2Proof.Machine
end

