-- ==== Sys2Proof/Machine/Functions.lean ====
section
/-! DEFINITION. The function tables (R128, R129) and transforms (R88): exact functions to 128 fractional bits, and FP32
results held to the error that the spec allows; within it the result is a free value. -/

namespace Sys2Proof.Machine

open Sys2Proof

/-! Real functions on rationals, cut to 128 fractional bits after each operation. -/

/-- 2 to an integer power. -/
def pow2 (k : Int) : Rat := if 0 ≤ k then ((2 ^ k.toNat : Nat) : Rat) else 1 / ((2 ^ (-k).toNat : Nat) : Rat)

/-- A rational cut to 128 fractional bits. -/
def cut (x : Rat) : Rat := ((x * ((2 ^ 128 : Nat) : Rat)).floor : Rat) / ((2 ^ 128 : Nat) : Rat)

/-- A power series: `t0` is the first term, and `next n t` the term after the n-th. -/
def series (t0 : Rat) (next : Nat → Rat → Rat) (n : Nat) : Rat :=
  ((List.range n).foldl (fun (x : Rat × Rat) i => (x.1 + x.2, cut (next i x.2))) (0, t0)).1

/-- The inverse hyperbolic tangent of |z| ≤ 1/3. -/
def atanhR (z : Rat) : Rat :=
  let q := cut (z * z)
  ((List.range 60).foldl (fun (x : Rat × Rat) i => (x.1 + x.2 / (2 * (i : Rat) + 1), cut (x.2 * q))) (0, z)).1

/-- The natural logarithm of 2. -/
def ln2 : Rat := cut (2 * atanhR (1 / 3))

/-- The largest k with 2^k ≤ x, for x > 0. -/
def log2R (x : Rat) : Int :=
  let k : Int := (Nat.log2 x.num.natAbs : Int) - (Nat.log2 x.den : Int)
  if pow2 k ≤ x then k else k - 1

/-- The natural logarithm of x > 0. -/
def lnR (x : Rat) : Rat :=
  let k := log2R x
  let m := cut (x / pow2 k)
  (k : Rat) * ln2 + 2 * atanhR (cut ((m - 1) / (m + 1)))

/-- The exponential. -/
def expR (x : Rat) : Rat :=
  let k := (x / ln2).floor
  let r := cut (x - (k : Rat) * ln2)
  pow2 k * series 1 (fun n t => t * r / ((n : Rat) + 1)) 40

/-- The inverse tangent of 1/n. -/
def atanInv (n : Nat) : Rat :=
  ((List.range 60).foldl (fun (x : Rat × Rat) i =>
    (x.1 + (if i % 2 = 0 then x.2 else -x.2) / (2 * (i : Rat) + 1), cut (x.2 / ((n : Rat) * n)))) (0, 1 / (n : Rat))).1

/-- π by Machin's formula. -/
def piR : Rat := 16 * atanInv 5 - 4 * atanInv 239

/-- The cosine and sine of |x| ≤ π. -/
def cosR (x : Rat) : Rat := series 1 (fun n t => -(t * x * x) / ((2 * (n : Rat) + 1) * (2 * n + 2))) 40
/-- The sine. -/
def sinR (x : Rat) : Rat := series x (fun n t => -(t * x * x) / ((2 * (n : Rat) + 2) * (2 * n + 3))) 40

/-- The square root of x ≥ 0. -/
def sqrtR (x : Rat) : Rat := ((isqrt (x * ((2 ^ 256 : Nat) : Rat)).floor.toNat : Nat) : Rat) / ((2 ^ 128 : Nat) : Rat)

/-- The error function of x / √2, |x| ≤ 6. -/
def erfHalf (x : Rat) : Rat :=
  let q := cut (x * x / 2)
  let s := ((List.range 120).foldl (fun (y : Rat × Rat) i =>
    (y.1 + y.2 / (2 * (i : Rat) + 1), cut (-(y.2 * q) / ((i : Rat) + 1)))) (0, 1)).1
  cut (s * x * sqrtR (2 / piR))

/-- The exact function of a table code (Table 06-6) for an argument inside its domain. -/
def exactFn (code : Nat) (x : Rat) : Rat :=
  match code with
  | 4 => 1 / (1 + expR (-x))
  | 5 => 1 - 2 / (expR (2 * x) + 1)
  | 6 => x / 2 * (1 + erfHalf x)
  | 7 => x / (1 + expR (-x))
  | 8 => lnR (1 + expR x)
  | 9 => expR x
  | 10 => lnR x
  | 11 => 1 / x
  | 12 => sqrtR x
  | _ => if x = 0 then 0 else 1 / sqrtR x

/-- The largest error of a table function (Table 06-6) at an argument with exact value `y`. -/
def fnBound (code : Nat) (x y : Rat) : Rat :=
  let eps := max 1 (if x < 0 then -x else x)
  let rel := if y < 0 then -y else y
  match code with
  | 4 => pow2 (-22)
  | 5 => pow2 (-21)
  | 6 | 7 => pow2 (-20) * eps
  | 8 => pow2 (-21) * eps
  | 9 => pow2 (-21) * rel
  | 10 => if 1 / 2 ≤ x ∧ x ≤ 2 then pow2 (-21) else pow2 (-21) * rel
  | _ => pow2 (-22) * rel

/-- The distance of two rationals. -/
def distR (a b : Rat) : Rat := if a < b then b - a else a - b

/-- An FP32 value within `bound` of `y`: the free value of draw `d` and place `k` where it is one, else `y` rounded. -/
def within (d k : Nat) (y bound : Rat) : Fl :=
  let v := decodeF fp32 (Config.fnWord d k % 2 ^ 32)
  match v with
  | .fin _ _ _ => if distR (ratOf v) y ≤ bound then v else roundF32 (flOfRat y)
  | _ => roundF32 (flOfRat y)

/-- A small integer, exactly. -/
def flN (n : Int) : Fl := flOfInt n 0

/-- A decimal bound of Table 06-6 in hundredths. -/
def flCent (n : Int) : Fl := flOfRat ((n : Rat) / 100)

/-- The error that a function's result may have: what its table allows, and no more than keeps the operator within 2^−10 of its
result (R131; log 23). -/
def tight (y bound : Rat) : Rat := min bound (pow2 (-11) * distR y 0)

/-- A table function inside its domain. -/
def inTable (d k code : Nat) (x : Fl) : Fl :=
  let y := exactFn code (ratOf x)
  within d k y (tight y (fnBound code (ratOf x) y))

/-- SIGMOID, TANH, GELU, SILU, SOFTPLUS (Table 06-6). -/
def domainFn (d k code : Nat) (lo hi : Int) (below above x : Fl) : Fl :=
  if flLt x (flN lo) then below else if flLt (flN hi) x then above else inTable d k code x

/-- RECIP, SQRT, RSQRT, LOG at the ends of their domains (Table 06-6); LOG, SQRT and RSQRT of +∞ by R131 (DEDUCED, log 23). -/
def octaveFn (d k code : Nat) (x : Fl) : Fl :=
  match code, x with
  | _, .nan => .nan
  | 11, .inf s => .fin s 0 0
  | 10, .inf s => if s then .nan else .inf false
  | 12, .inf s => if s then .nan else .inf false
  | _, .inf s => if s then .nan else .fin false 0 0
  | 10, .fin s m e => if m = 0 then .inf true else if s then .nan else inTable d k 10 (.fin s m e)
  | 11, .fin s m e => if m = 0 then .inf s else inTable d k 11 (.fin s m e)
  | 12, .fin s m e => if m = 0 then .fin s 0 e else if s then .nan else inTable d k 12 (.fin s m e)
  | c, .fin s m e => if m = 0 then .inf false else if s then .nan else inTable d k c (.fin s m e)

/-- A user table: lo, hi and the 1,025 points as FP32 codes (R129). The interpolation is within two FP32 roundings of the
exact one: held here to 2^−23 of the largest point of the segment. -/
def userFn (d k : Nat) (t : List Nat) (x : Fl) : Fl :=
  let lo := decodeF fp32 (t.getD 0 0)
  let hi := decodeF fp32 (t.getD 1 0)
  let y := fun (i : Nat) => decodeF fp32 (t.getD (2 + i) 0)
  if flLt x lo then y 0 else if flLt hi x then y 1024
  else
    let u := ratOf x - ratOf lo
    let h := (ratOf hi - ratOf lo) / 1024
    let i := if h ≤ 0 then 0 else min 1023 (u / h).floor.toNat
    let f := if h ≤ 0 then 0 else u / h - (i : Rat)
    match y i, y (i + 1) with
    | .fin s m e, .fin s' m' e' =>
      let a := ratOf (.fin s m e)
      let b := ratOf (.fin s' m' e')
      let big := max (max a (-a)) (max b (-b))
      within d k (a + f * (b - a)) (tight (a + f * (b - a)) (pow2 (-23) * big))
    | a, b => if f = 0 then a else roundF32 (flAdd a (flMul (flOfRat f) (flAdd b (flNeg a))))

/-- A function of Table 06-6 on an FP32 value: code, its parameters, the SAT bit, and the user tables of the image. Reserved
codes never pass the loader (FORMAT_PAIR) and act as IDENTITY here. -/
def applyFn (d k code : Nat) (a b : Fl) (sat : Bool) (tables : List (List Nat)) (x : Fl) : Fl :=
  if x = .nan then .nan else
  match code with
  | 1 => if flLt x (flN 0) then .fin false 0 0 else x
  | 2 => if flLt x (flN 0) then roundF32 (flMul a x) else x
  | 3 => if flLt x a then a else if flLt b x then b else x
  | 4 => domainFn d k 4 (-16) 16 (flN 0) (flN 1) x
  | 5 => domainFn d k 5 (-9) 9 (flN (-1)) (flN 1) x
  | 6 => domainFn d k 6 (-6) 6 (flN 0) x x
  | 7 => domainFn d k 7 (-20) 20 (flN 0) x x
  | 8 => domainFn d k 8 (-20) 20 (flN 0) x x
  | 9 =>
    if flLt x (flCent (-8733)) then flN 0
    else if flLt (flCent 8872) x then (if sat then decodeF fp32 (maxCode fp32) else .inf false)
    else inTable d k 9 x
  | 10 | 11 | 12 | 13 => octaveFn d k code x
  | 16 | 17 | 18 | 19 => userFn d k (tables.getD (code - 16) []) x
  | _ => x

/-! Sums in an order that the spec leaves open (R120). -/

/-- One FP32 addition of the matrix unit: rounded once, flushed to zero of its sign below 2^−126. -/
def flushAdd (x y : Fl) : Fl :=
  let z := roundF32 (flAdd x y)
  match z with
  | .fin s m e => if flLt (flAbs z) (.fin false 1 (-126)) then .fin s 0 0 else .fin s m e
  | w => w

/-- One FP32 addition of the vector unit (R126). -/
def keepAdd (x y : Fl) : Fl := roundF32 (flAdd x y)

/-- A sum by an adder tree: partial sums are added two at a time, chosen by draw `d` and place `k`, until one is left. -/
def treeSum (add : Fl → Fl → Fl) (d k : Nat) : Nat → List Fl → Fl
  | _, [] => .fin false 0 0
  | _, [x] => x
  | 0, x :: _ => x
  | n + 1, x :: y :: l =>
    let all := x :: y :: l
    let c := Config.treeChoice d (k * 4096 + n)
    let i := c % all.length
    let rest := all.eraseIdx i
    let j := c / all.length % rest.length
    treeSum add d k n (add (all.getD i .nan) (rest.getD j .nan) :: rest.eraseIdx j)

/-- The sum of a list. -/
def sumFree (add : Fl → Fl → Fl) (d k : Nat) (l : List Fl) : Fl := treeSum add d k l.length l

/-! Transforms (R88). -/

/-- Real and imaginary part of output bin `b` of an n-point transform of finite inputs, exact to 100 bits; the inverse is
scaled by 1/n. -/
def dftBin (n : Nat) (inverse : Bool) (x : List (Rat × Rat)) (b : Nat) : Rat × Rat :=
  let y := x.zipIdx.foldl (fun (a : Rat × Rat) p =>
    let k := b * p.2 % n
    let ang := 2 * piR * (if 2 * k ≤ n then (k : Rat) else (k : Rat) - (n : Rat)) / (n : Rat)
    let c := cosR ang
    let s := if inverse then sinR ang else -(sinR ang)
    (a.1 + p.1.1 * c - p.1.2 * s, a.2 + p.1.1 * s + p.1.2 * c)) (0, 0)
  if inverse then (y.1 / (n : Rat), y.2 / (n : Rat)) else y

/-- An n-point transform: each result within 2^−20 of the sum of magnitudes, what the roundings of its stages can add up to, so that
a frequency-domain convolution keeps R131 (log 24); all NaN where an input is NaN, and free values where one is infinite. -/
def dft (d k n : Nat) (inverse : Bool) (x : List (Fl × Fl)) : List (Fl × Fl) :=
  let finite := x.all fun p => match p.1, p.2 with | .fin _ _ _, .fin _ _ _ => true | _, _ => false
  if x.any fun p => p.1 == .nan || p.2 == .nan then x.map fun _ => (.nan, .nan)
  else if !finite then
    (List.range n).map fun b => (decodeF fp32 (Config.fnWord d (k * 1024 + 2 * b) % 2 ^ 32),
      decodeF fp32 (Config.fnWord d (k * 1024 + 2 * b + 1) % 2 ^ 32))
  else
    let r := x.map fun p => (ratOf p.1, ratOf p.2)
    let mag := (r.map fun p => distR p.1 0 + distR p.2 0).foldl (· + ·) 0
    let bound := pow2 (-20) * (if inverse then mag / (n : Rat) else mag)
    (List.range n).map fun b =>
      let y := dftBin n inverse r b
      (within d (k * 1024 + 2 * b) y.1 bound, within d (k * 1024 + 2 * b + 1) y.2 bound)

end Sys2Proof.Machine
end

