-- ==== Sys2Proof/Machine/Units.lean ====
section
/-! DEFINITION. What the units of an engine compute (R83 to R88, R113 to R129, R161 to R178): operands read from the local
tile, accumulator rows, conversion to the output formats, and the moves of the data mover. -/

namespace Sys2Proof.Machine

open Sys2Proof

/-! Formats (Tables 06-1, 06-2). -/

/-- Bits of an element. -/
def Fmt.bits : Fmt → Nat
  | .int4 | .mxfp4 => 4
  | .mxfp6e2 | .mxfp6e3 => 6
  | .fp16 | .bf16 => 16
  | .fp32 => 32
  | _ => 8

/-- The format is microscaled. -/
def Fmt.mx : Fmt → Bool
  | .mxfp8e4 | .mxfp8e5 | .mxfp6e2 | .mxfp6e3 | .mxfp4 | .mxint8 => true
  | _ => false

/-- The format is INT4 or INT8. -/
def Fmt.isInt : Fmt → Bool
  | .int4 | .int8 => true
  | _ => false

/-- The floating-point layout of an element; none for integers. -/
def Fmt.layout : Fmt → Option FFmt
  | .fp8e4 | .mxfp8e4 => some e4m3
  | .fp8e5 | .mxfp8e5 => some e5m2
  | .fp16 => some Sys2Proof.Machine.fp16
  | .bf16 => some Sys2Proof.Machine.bf16
  | .fp32 => some Sys2Proof.Machine.fp32
  | .mxfp6e2 => some e2m3
  | .mxfp6e3 => some e3m2
  | .mxfp4 => some e2m1
  | _ => none

/-- The element exponent e_max of an MX format (R125). -/
def Fmt.emax : Fmt → Int
  | .mxfp8e4 => 8
  | .mxfp8e5 => 15
  | .mxfp6e3 => 4
  | .mxfp6e2 | .mxfp4 => 2
  | _ => 0

/-- An element's own value, without its block's scale. -/
def Fmt.value (f : Fmt) (c : Nat) : Fl :=
  match f.layout with
  | some l => decodeF l c
  | none => flOfInt (sext f.bits c) (if f == .mxint8 then -6 else 0)

/-- An element with its scale byte (R117). -/
def Fmt.scaled (f : Fmt) (c x : Nat) : Fl :=
  if !f.mx then f.value c else if x = 255 then .nan else flMul (.fin false 1 ((x : Int) - 127)) (f.value c)

/-! Addresses and reads in the local tile. -/

/-- The device address of a place in tile t. -/
def State.addrOf (s : State) (t : Nat) (p : Place) : Nat := tileBase t + 128 * (s.region t p.region).base + p.off

/-- `w` bits at a bit offset from an address (R114). -/
def State.bitsAt (s : State) (a bit w : Nat) : Nat := leNat (s.bytes (a + bit / 8) 5) / 2 ^ (bit % 8) % 2 ^ w

/-- `w` bits stored at a bit offset from an address in tile t. -/
def State.setBits (s : State) (t a bit w v : Nat) : State :=
  let n := cdiv (bit % 8 + w) 8
  let o := leNat (s.bytes (a + bit / 8) n)
  let lo := 2 ^ (bit % 8)
  s.tileWrite t (a + bit / 8) (leBytes n (o - o / lo % 2 ^ w * lo + v % 2 ^ w * lo))

/-- Channels of a block (R159). -/
def Fmt.chans (f : Fmt) : Nat := if f.bits = 4 then 256 else 128

/-- Bytes of a position in a channel block: whole lines (Table 08-1). -/
def Fmt.posBytes (f : Fmt) : Nat := if f.bits = 32 then 512 else if f.bits = 16 then 256 else 128

/-- Code and scale of element k of position p of an array. -/
def State.code (s : State) (t : Nat) (a : Arr) (p k : Nat) : Nat × Nat :=
  (s.bitsAt (s.addrOf t a.at_ + k / a.fmt.chans * a.block + p * a.pitch) (k % a.fmt.chans * a.fmt.bits) a.fmt.bits,
   if a.fmt.mx then (s.byte (s.addrOf t a.scales + p * a.scalePitch + k / 32)).toNat else 127)

/-- Element k of position p of an array. -/
def State.elem (s : State) (t : Nat) (a : Arr) (p k : Nat) : Fl :=
  let c := s.code t a p k
  a.fmt.scaled c.1 c.2

/-- An FP32 value of a table in the local tile. -/
def State.f32At (s : State) (t : Nat) (p : Place) (i : Nat) : Fl := decodeF fp32 (leNat (s.bytes (s.addrOf t p + 4 * i) 4))

/-! Conversion of a position (R122 to R125). -/

/-- The larger magnitude of two values that are no NaN, an infinity counting as the largest finite FP32. -/
def blockMax (l : List Fl) : Fl :=
  l.foldl (fun m v =>
    let a := match flAbs v with
      | .inf _ => decodeF fp32 (maxCode fp32)
      | w => w
    if flLt m a then a else m) (.fin false 0 0)

/-- The scale byte of a block (R125). -/
def blockScale (f : Fmt) (l : List Fl) : Nat :=
  if l.any (· == .nan) then 255 else
    match blockMax l with
    | .fin _ m e => if m = 0 then 127 else (clampI (-127) 127 ((Nat.log2 m : Int) + e - f.emax) + 127).toNat
    | _ => 127

/-- The code of an MX element: the value over the scale, rounded and saturated; zero in a block with a NaN. -/
def mxCode (f : Fmt) (x : Nat) (v : Fl) : Nat :=
  if x = 255 then 0 else
    let u := flMul (.fin false 1 (127 - (x : Int))) v
    match f.layout with
    | some l => encodeF l true u
    | none =>
      match flMul u (flOfInt 64 0) with
      | .fin s m e =>
        let q := flRne (.fin s m e)
        ((if q < -128 then -127 else min 127 q) % 256).toNat
      | .inf s => if s then 256 - 127 else 127
      | .nan => 0

/-- The codes and scale bytes of a position's values. -/
def convert (c : Conv) (r : Rounding) (l : List Fl) : List Nat × List Nat :=
  if c.fmt.mx then
    let blocks := (List.range (cdiv l.length 32)).map fun j => (l.drop (32 * j)).take 32
    let sc := blocks.map (blockScale c.fmt)
    (((blocks.zip sc).map fun b => b.1.map (mxCode c.fmt b.2)).flatten, sc)
  else match c.fmt.layout with
    | some f => (l.map (encodeF f c.sat), [])
    | none => (l.map fun v => (quantInt c.fmt.bits r (f32Of c.ro) c.zo v % (2 ^ c.fmt.bits : Nat)).toNat, [])

/-- Codes packed from the first byte up (R114). -/
def packCodes (w : Nat) (l : List Nat) : List Byte :=
  leBytes (cdiv (l.length * w) 8) (l.zipIdx.foldl (fun a c => a + c.1 % 2 ^ w * 2 ^ (w * c.2)) 0)

/-- Bytes that a position's `n` channels take in one block: up to the end of its lines, as far as the pitch leaves them to it. -/
def Fmt.extent (f : Fmt) (pitch n : Nat) : Nat := max (cdiv (n * f.bits) 8) (min pitch f.posBytes)

/-- A position's values converted and written, block by block (R159), the channels and bytes beyond them as zero (R116, Table 08-1),
with the scale plane of an MX target. -/
def State.putPos (s : State) (t : Nat) (c : Conv) (r : Rounding) (dst : Place) (pitch p : Nat) (l : List Fl) : State :=
  let y := convert c r l
  let b := c.fmt.chans
  let s1 := forEach (List.range (cdiv y.1.length b)) (fun j s =>
    let codes := packCodes c.fmt.bits ((y.1.drop (b * j)).take b)
    s.tileWrite t (s.addrOf t dst + j * c.block + p * pitch)
      (codes ++ List.replicate (c.fmt.extent pitch ((y.1.drop (b * j)).take b).length - codes.length) 0)) s
  if c.fmt.mx then s1.tileWrite t (s.addrOf t c.scales + p * c.scalePitch) (y.2.map (BitVec.ofNat 8)) else s1

/-- A position belongs to the stripe's core, where the destination is restricted to it (R22). -/
def inCore (core : Option (Nat × Nat)) (p : Nat) : Bool :=
  match core with
  | some c => decide (c.1 ≤ p) && decide (p < c.2)
  | none => true

/-! Matrix unit (R83, R84, R118 to R121). -/

/-- Both operands are 4 bits wide: two terms per cell. -/
def pair4 (w a : Fmt) : Bool := (w == .int4 && a == .int4) || (w == .mxfp4 && a == .mxfp4)

/-- Terms of a dot product (Table 06-3). -/
def termsOf (w a : Fmt) : Nat := if pair4 w a then 256 else 128

/-- Bytes of a weight set (Table 08-2). -/
def weightBytes (w a : Fmt) : Nat := termsOf w a * 256 * w.bits / 8 + if w.mx then 256 * (termsOf w a / 32) else 0

/-- Element (k, n) of a weight set: columns follow one another, the scale bytes come after the elements (log 25). -/
def WeightBuf.code (b : WeightBuf) (k n : Nat) : Nat :=
  let w := b.wFmt.bits
  let bit := (n * termsOf b.wFmt b.aFmt + k) * w
  leAt b.bytes (bit / 8) 5 / 2 ^ (bit % 8) % 2 ^ w

/-- The scale byte of block j of column n. -/
def WeightBuf.scale (b : WeightBuf) (j n : Nat) : Nat :=
  let k := termsOf b.wFmt b.aFmt
  leAt b.bytes (k * 256 * b.wFmt.bits / 8 + n * (k / 32) + j) 1

/-- An accumulator row: 256 words. -/
def Engine.accRow (g : Engine) (tile r : Nat) : List Word := sget (fun _ => List.replicate 256 0) g.acc (128 * tile + r)

/-- An accumulator row stored. -/
def Engine.setAccRow (g : Engine) (tile r : Nat) (l : List Word) : Engine :=
  { g with acc := sset (fun _ => List.replicate 256 0) g.acc (128 * tile + r) l }

/-- An accumulator word of an integer pair: exact, saturating at INT32 (R119). -/
def accInt (old : Option Word) (sum : Int) : Word :=
  let v := (match old with | some w => w.toInt | none => 0) + sum
  BitVec.ofInt 32 (clampI (-2 ^ 31) (2 ^ 31 - 1) v)

/-- The exact sum of a list, with the sign of its zeros (R115, R121). -/
def exactSum : List Fl → Fl
  | [] => .fin false 0 0
  | x :: l => l.foldl flAdd x

/-- The products of a dot product's terms, MX ones with their blocks' scales. -/
def State.products (s : State) (t : Nat) (b : WeightBuf) (a : Arr) (p n : Nat) : List Fl :=
  (List.range (termsOf b.wFmt b.aFmt)).map fun i => flMul (b.wFmt.scaled (b.code i n) (b.scale (i / 32) n)) (s.elem t a p i)

/-- The results of one activation row that the accumulator takes, for column n: of an integer pair the exact sum, otherwise
the sum of products or of block results by a tree (R120, R121). -/
def State.dot (s : State) (t d k : Nat) (b : WeightBuf) (a : Arr) (p n : Nat) : Int × Fl :=
  let terms := termsOf b.wFmt b.aFmt
  if b.wFmt.isInt && a.fmt.isInt then
    (((List.range terms).map fun i => sext b.wFmt.bits (b.code i n) * sext a.fmt.bits (s.code t a p i).1).sum, .nan)
  else if b.wFmt.mx || a.fmt.mx then
    let block := fun (j : Nat) =>
      let x := b.scale j n
      let y := (s.code t a p (32 * j)).2
      if x = 255 ∨ y = 255 then Fl.nan
      else
        let v := exactSum ((List.range 32).map fun i =>
          flMul (b.wFmt.value (b.code (32 * j + i) n)) (a.fmt.value (s.code t a p (32 * j + i)).1))
        roundF32 (flMul (.fin false 1 ((x : Int) + y - 254)) v)
    (0, sumFree flushAdd d k ((List.range (terms / 32)).map block))
  else
    (0, sumFree flushAdd d k (s.products t b a p n))

/-- A dot product as a column gives it, with what goes wrong in the hardware; column 256 is the gusset column. -/
def MmCmd.got (c : MmCmd) (p col : Nat) (x : Int × Fl) : Int × Fl :=
  match c.upset with
  | .dot r n w => if r = p ∧ n = col then (w.toInt, f32Of w) else x
  | _ => x

/-- One accumulator row after an MM row. -/
def State.mmRow (s : State) (t d : Nat) (b : WeightBuf) (c : MmCmd) (old : List Word) (p : Nat) : List Word :=
  (List.range 256).map fun n =>
    let x := c.got p n (s.dot t d (p * 256 + n) b c.src p n)
    let w := old.getD n 0
    if b.wFmt.isInt && c.src.fmt.isInt then accInt (if c.accumulate then some w else none) x.1
    else BitVec.ofNat 32 (encodeF fp32 false (if c.accumulate then flushAdd (f32Of w) x.2 else x.2))

/-- The active weight buffer. -/
def Engine.active (g : Engine) : WeightBuf := if g.activeBuf then g.buf1 else g.buf0

/-- Rows that an MM adds to its accumulator tile. -/
def MmCmd.count (c : MmCmd) : Nat := min c.rows (128 - c.row0)

/-- MM: rows into the accumulator (R84). -/
def State.runMm (s : State) (e : Nat) (c : MmCmd) : State :=
  let g := s.eng e
  let g0 : Engine := if c.swap then { g with activeBuf := !g.activeBuf } else g
  let g1 := (List.range c.count).foldl (fun g p =>
    g.setAccRow c.tile.val (c.row0 + p) (s.mmRow e s.free g0.active c (g.accRow c.tile.val (c.row0 + p)) p)) g0
  (s.setEng e g1).drawn

/-! The gusset column's compare (R101, R102). -/

/-- One FP32 addition of magnitudes, rounded toward +∞. -/
def addUp (x y : Fl) : Fl :=
  let v := flAdd x y
  let z := roundF32 v
  if flLt z v then decodeF fp32 (encodeF fp32 false z + 1) else z

/-- A value is a NaN or an infinity. -/
def Fl.special : Fl → Bool
  | .fin _ _ _ => false
  | _ => true

/-- A mismatch of two FP32 dot products whose terms' magnitudes sum to m (R102). -/
def fpDiffers (a b m : Fl) : Bool :=
  if a.special || b.special then !(a == b)
  else flLt (flAdd (flMul (.fin false 1 (-14)) m) (.fin false 1 (-126))) (flAbs (flAdd a (flNeg b)))

/-- The compare of row p of an MM in the window of column j: the gusset column forms the same dot product in an association of its
own (R102). -/
def State.rowDiffers (s : State) (e d : Nat) (b : WeightBuf) (c : MmCmd) (j p : Nat) : Bool :=
  let k := p * 256 + j
  let x := c.got p j (s.dot e d k b c.src p j)
  let y := c.got p 256 (s.dot e d (k + 2 ^ 15) b c.src p j)
  if b.wFmt.isInt && c.src.fmt.isInt then x.1 != y.1
  else fpDiffers x.2 y.2 (sumFree addUp d (k + 2 ^ 16) ((s.products e b c.src p j).map flAbs))

/-- Whether a row of an MM that has just run compares unequal in the check unit's window. -/
def State.gussetDiffers (s : State) (e : Nat) (c : MmCmd) : Bool :=
  let g := s.eng e
  (List.range c.count).any fun p => s.rowDiffers e (s.free - 1) g.active c g.check.window p

/-- WSET: the inactive buffer takes a weight set (R83). -/
def State.runWset (s : State) (e : Nat) (c : WsetCmd) : State :=
  let g := s.eng e
  let b : WeightBuf := ⟨s.bytes (s.addrOf e c.src) (weightBytes c.wFmt c.aFmt), c.wFmt, c.aFmt⟩
  s.setEng e (if g.activeBuf then { g with buf0 := b } else { g with buf1 := b })

/-! Vector unit (R87, R88, R122 to R129). -/

/-- The user tables in the engine's table memory of the image of the job that executes (R129). -/
def State.userTables (s : State) (e : Nat) : List (List Nat) :=
  match (s.eng e).exec.bind fun x => s.job x.work.job with
  | some j => (((s.eng e).tables.find? fun t => t.1 == j.digest).map (·.2)).getD []
  | none => []

/-- DRAIN of one word (R122): scale and bias in one rounding, then the function. -/
def State.drainWord (s : State) (t d : Nat) (tabs : List (List Nat)) (c : DrainCmd) (w : Word) (p ch : Nat) : Fl :=
  let a := if c.intAcc then roundF32 (flOfInt w.toInt 0) else f32Of w
  let v := match c.scale, c.bias with
    | none, none => a
    | some x, none => roundF32 (flMul a (s.f32At t x ch))
    | none, some y => roundF32 (flAdd a (s.f32At t y ch))
    | some x, some y => roundF32 (flAdd (flMul a (s.f32At t x ch)) (s.f32At t y ch))
  applyFn d (p * 512 + ch) c.fn.code (f32Of c.fn.a) (f32Of c.fn.b) c.conv.sat tabs v

/-- DRAIN (R87): accumulator rows to the local tile. -/
def State.runDrain (s : State) (e : Nat) (c : DrainCmd) : State :=
  let g := s.eng e
  let tabs := s.userTables e
  let d := s.free
  (forEach ((List.range c.rows).filter (inCore c.core)) (fun p s =>
    let row := g.accRow c.tile.val (c.row0 + p)
    s.putPos e c.conv .nearest c.dst c.pitch p ((List.range c.chans).map fun n => s.drainWord e d tabs c (row.getD n 0) p n)) s).drawn

/-- The larger of two values with the open cases of a NaN (Table 05-3). -/
def maxFree (x y : Fl) : Fl :=
  match x, y with
  | .nan, .nan => .nan
  | .nan, v => if Config.nanWins (encodeF fp32 false v) then .nan else v
  | v, .nan => if Config.nanWins (encodeF fp32 false v) then .nan else v
  | v, w => flMax v w

/-- The smaller of two values with the open cases of a NaN. -/
def minFree (x y : Fl) : Fl :=
  match x, y with
  | .nan, .nan => .nan
  | .nan, v => if Config.nanWins (encodeF fp32 false v) then .nan else v
  | v, .nan => if Config.nanWins (encodeF fp32 false v) then .nan else v
  | v, w => flMin v w

/-- One element of a VOP, exact (R126). -/
def vopValue (op : VOpKind) (x y z : Fl) : Fl :=
  match op with
  | .add => flAdd x y
  | .mul => flMul x y
  | .fma => flAdd (flMul x y) z
  | .min => minFree x y
  | .max => maxFree x y
  | .compare => f32Of (Config.compareWord (encodeF fp32 false x) (encodeF fp32 false y))
  | .select => if Config.selects (encodeF fp32 false x) then y else z
  | .convert => x

/-- The cap on the temporal weight of history frame n − m at warm-up count k (Table 02-5). -/
def weightCap (k m : Nat) : Fl :=
  match k, m with
  | 0, _ => flN 0
  | 1, 1 => flOfQuot false 1 4
  | 1, _ => flN 0
  | 2, _ => flOfQuot false 1 2
  | 3, _ => flOfQuot false 3 4
  | _, _ => flN 1

/-- The temporal weight of a position clamped (R29, R31): zero where the block's gather was invalid, at most the cap. -/
def State.clampWeight (s : State) (e : Nat) (w : Option WeightRule) (p : Nat) (v : Fl) : Fl :=
  match w, (s.eng e).exec with
  | some r, some x =>
    let k := ((s.frameOf x.work.stream x.work.seq).map (·.k)).getD 0
    let b := r.blocks.getD p 0
    if (s.byte (s.addrOf e r.bits + b / 8)).toNat.testBit (b % 8) then flMin v (weightCap k r.hist) else flN 0
  | _, _ => v

/-- The rounding mode of a VOP: the other modes serve convert to integer formats only (R123). -/
def VopCmd.mode (c : VopCmd) : Rounding :=
  if c.op = .convert ∧ c.conv.fmt.isInt then (match c.round with | 1 => .zero | 2 => .down | _ => .nearest) else .nearest

/-- The input positions and weights that an output coordinate of a bilinear resize takes on an axis of n positions (R180). -/
def lerpTaps (f n o : Nat) : List (Nat × Rat) :=
  let c : Rat := max 0 (min ((n : Rat) - 1) (((o : Rat) + 1 / 2) / f - 1 / 2))
  let i := c.floor.toNat
  let w := c - (i : Rat)
  if w = 0 then [(i, 1)] else [(i, 1 - w), (i + 1, w)]

/-- Columns and rows of a resize's output. -/
def Resize.outCols (r : Resize) : Nat := if r.kind = 2 then r.cols / max r.factor 1 else r.cols * r.factor

def Resize.outRows (r : Resize) : Nat := if r.kind = 2 then r.rows / max r.factor 1 else r.rows * r.factor

/-- Element of output position p of a resize, exact before the conversion's one rounding (R180). -/
def Resize.value (r : Resize) (x : Nat → Fl) (p : Nat) : Fl :=
  let f := max r.factor 1
  let oy := p / max r.outCols 1
  let ox := p % max r.outCols 1
  if r.kind = 2 then
    flMul (flOfQuot false 1 (f * f)) (exactSum ((List.range (f * f)).map fun i => x ((oy * f + i / f) * r.cols + ox * f + i % f)))
  else if r.kind = 1 then
    exactSum ((lerpTaps f r.rows oy).map fun y => (lerpTaps f r.cols ox).map fun q =>
      flMul (flOfRat (y.2 * q.2)) (x (y.1 * r.cols + q.1))).flatten
  else x (oy / f * r.cols + ox / f)

/-- VOP (R126, R180). -/
def State.runVop (s : State) (e : Nat) (c : VopCmd) : State :=
  let at_ := fun (s : State) (i p k : Nat) => match c.srcs[i]? with
    | some a => s.elem e a p k
    | none => .fin false 0 0
  (forEach ((List.range c.positions).filter (inCore c.core)) (fun p s =>
    s.putPos e c.conv c.mode c.dst c.pitch p ((List.range c.elems).map fun k =>
      match c.resize with
      | some r => r.value (fun q => at_ s 0 q k) p
      | none => s.clampWeight e c.weight p (vopValue c.op (at_ s 0 p k) (at_ s 1 p k) (at_ s 2 p k)))) s).drawn

/-- VLUT (R128, R129). -/
def State.runVlut (s : State) (e : Nat) (c : VlutCmd) : State :=
  let tabs := s.userTables e
  let d := s.free
  (forEach (List.range c.positions) (fun p s =>
    s.putPos e c.conv .nearest c.dst c.pitch p ((List.range c.elems).map fun k =>
      applyFn d (p * 512 + k) c.fn.code (f32Of c.fn.a) (f32Of c.fn.b) c.conv.sat tabs (s.elem e c.src p k))) s).drawn

/-- A reduction of values: the FP32 additions of a sum in an open order, one rounding of the mean at the conversion. -/
def reduce (op : VRedKind) (d k : Nat) (l : List Fl) : Fl :=
  match op with
  | .max => match l with
    | [] => flN 0
    | x :: m => m.foldl maxFree x
  | .sum => sumFree keepAdd d k l
  | .mean => if l.isEmpty then flN 0 else flDiv (sumFree keepAdd d k l) (flN l.length)

/-- The coordinate that a padding mode reads for i outside [0, n) (Table 08-3): REPLICATE or REFLECT. -/
def padIndex (mode : Nat) (i : Int) (n : Nat) : Nat :=
  if mode = 1 then (clampI 0 (n - 1) i).toNat
  else if n ≤ 1 then 0
  else
    let m := (i % (2 * (n - 1) : Nat)).toNat
    if m < n then m else 2 * (n - 1) - m

/-- The values of window (oy, ox) that take part in a pooling: real positions, and the selvedge under its mode (R167, R178). -/
def Pool.values (w : Pool) (mean : Bool) (x : Nat → Fl) (oy ox : Nat) : List Fl :=
  ((List.range w.kh).map fun i => (List.range w.kw).filterMap fun j =>
    let y : Int := (oy * w.sh + i : Nat) - (w.ph : Int)
    let q : Int := (ox * w.sw + j : Nat) - (w.pw : Int)
    if 0 ≤ y ∧ y < w.rows ∧ 0 ≤ q ∧ q < w.cols then some (x (y.toNat * w.cols + q.toNat))
    else if mean && !w.countPad then none
    else if w.mode = 0 then (if mean then some (flN 0) else none)
    else if w.mode = 3 then some (f32Of w.const)
    else some (x (padIndex w.mode y w.rows * w.cols + padIndex w.mode q w.cols))).flatten

/-- VRED (Table 05-3, R178): one element per position along lanes, one position along the channel axis, or one position per window of
a pooling; a window of which nothing takes part gives 0. -/
def State.runVred (s : State) (e : Nat) (c : VredCmd) : State :=
  let d := s.free
  (match c.pool with
  | some w =>
    let n := outExtent w.cols w.kw w.sw 1 w.pw
    let m := outExtent w.rows w.kh w.sh 1 w.ph
    forEach (List.range (m * n)) (fun p s =>
      s.putPos e c.conv .nearest c.dst c.pitch p ((List.range c.elems).map fun k =>
        reduce c.op d (p * 256 + k) (w.values (c.op == VRedKind.mean) (fun q => s.elem e c.src q k) (p / n) (p % n)))) s
  | none =>
  if c.alongLanes then
    forEach (List.range c.positions) (fun p s =>
      s.putPos e c.conv .nearest c.dst c.pitch p [reduce c.op d p ((List.range c.elems).map fun k => s.elem e c.src p k)]) s
  else
    s.putPos e c.conv .nearest c.dst c.pitch 0 ((List.range c.elems).map fun k =>
      reduce c.op d k ((List.range c.positions).map fun p => s.elem e c.src p k))).drawn

/-- FFT (R88): transforms of complex FP32 points (real part first, log 24), in place. -/
def State.runFft (s : State) (e : Nat) (c : FftCmd) : State :=
  let d := s.free
  (forEach (List.range c.count) (fun j s =>
    let a := s.addrOf e c.src + j * c.pitch
    let f := fun (i o : Nat) => decodeF fp32 (leNat (s.bytes (a + i * c.stride + o) 4))
    let y := dft d j c.points c.inverse ((List.range c.points).map fun i => (f i 0, f i 4))
    forEach y.zipIdx (fun p s => s.tileWrite e (a + p.2 * c.stride)
      (leBytes 4 (encodeF fp32 false p.1.1) ++ leBytes 4 (encodeF fp32 false p.1.2))) s) s).drawn

/-! Data mover (R160, R164, R167, R168, R176, R177). -/

/-- Bit address of a position in a row-major array: row pitch in bytes, position pitch in bits. -/
def posBit (row pos r x : Nat) : Nat := 8 * row * r + pos * x

/-- `bits` bits moved from one place to another, between bit offsets. -/
def State.moveBits (s : State) (t src sb dst db bits : Nat) : State :=
  if sb % 8 = 0 ∧ db % 8 = 0 ∧ bits % 8 = 0 then s.tileWrite t (dst + db / 8) (s.bytes (src + sb / 8) (bits / 8))
  else s.setBits t dst db bits (s.bitsAt src sb bits)

/-- The selvedge of a padded array filled (R167, R168). -/
def State.fillSelvedge (s : State) (t : Nat) (c : MoveCmd) (mode top bottom left right chans : Nat) (const : Word)
    (conv : Conv) : State :=
  let n := c.rows - top - bottom
  let m := c.elems - left - right
  let a := s.addrOf t c.dst
  let sc := fun (p : Nat) => s.addrOf t conv.scales + p * conv.scalePitch
  let b := conv.fmt.chans
  let blocks := List.range (cdiv chans b)
  let part := fun (j : Nat) => min b (chans - b * j)
  let v : Fl := if mode = 3 then f32Of const else .fin false 0 0
  let y := convert conv .nearest (List.replicate chans v)
  forEach (List.range c.rows) (fun r s => forEach (List.range c.elems) (fun x s =>
    let inside := decide (top ≤ r) && decide (r < top + n) && decide (left ≤ x) && decide (x < left + m)
    let at_ := a + c.dstRow * r + c.dstPos / 8 * x
    if inside || !inCore c.core (r * c.elems + x) then s
    else if mode = 0 ∨ mode = 3 then
      let s1 := forEach blocks (fun j s => s.tileWrite t (at_ + j * conv.block) (packCodes conv.fmt.bits (y.1.take (part j)))) s
      if conv.fmt.mx then s1.tileWrite t (sc (r * c.elems + x)) (y.2.map (BitVec.ofNat 8)) else s1
    else
      let q := top + padIndex mode ((r : Int) - top) n
      let w := left + padIndex mode ((x : Int) - left) m
      let s1 := forEach blocks (fun j s =>
        s.tileWrite t (at_ + j * conv.block) (s.bytes (a + j * conv.block + c.dstRow * q + c.dstPos / 8 * w)
          (cdiv (part j * conv.fmt.bits) 8))) s
      if conv.fmt.mx then
        s1.tileWrite t (sc (r * c.elems + x)) (s.bytes (sc (q * c.elems + w)) (cdiv chans 32))
      else s1) s) s

/-- The channels of a position of the first layer group: per exposure four values, then four marks (R176). -/
def splitWords (w : List Nat) : List Fl :=
  (List.range (cdiv w.length 4)).map (fun e =>
    let l := (w.drop (4 * e)).take 4
    (l.map fun v => flOfQuot false (v % 32768) 32767) ++ l.map fun v => flN (v / 32768 : Nat)) |>.flatten

/-- MOVE (Table 05-3). -/
def State.runMove (s : State) (t : Nat) (c : MoveCmd) : State :=
  let src := s.addrOf t c.src
  let dst := s.addrOf t c.dst
  let each := fun (f : Nat → Nat → State → State) (s : State) =>
    forEach (List.range c.rows) (fun r s => forEach (List.range c.elems) (fun x s =>
      if inCore c.core (r * c.elems + x) then f r x s else s) s) s
  match c.kind with
  | .copy => each (fun r x s => s.moveBits t src (posBit c.srcRow c.srcPos r x) dst (posBit c.dstRow c.dstPos r x) c.bits) s
  | .transpose => each (fun r x s => s.moveBits t src (posBit c.srcRow c.srcPos r x) dst (posBit c.dstRow c.dstPos x r) c.bits) s
  | .pleat n => each (fun r x s => forEach (List.range (4 * n)) (fun k s =>
      s.moveBits t src (posBit c.srcRow c.srcPos (2 * r + k % 4 / 2) (2 * x + k % 2) + k / 4 * c.bits) dst
        (posBit c.dstRow c.dstPos r x + k * c.bits) c.bits) s) s
  | .unpleat n => each (fun r x s => forEach (List.range (4 * n)) (fun k s =>
      s.moveBits t src (posBit c.srcRow c.srcPos r x + k * c.bits) dst
        (posBit c.dstRow c.dstPos (2 * r + k % 4 / 2) (2 * x + k % 2) + k / 4 * c.bits) c.bits) s) s
  | .pack first count kw sy sx dy dx chans => each (fun r x s =>
      let row := dst + posBit c.dstRow c.dstPos r x / 8
      let s1 := s.tileWrite t row (List.replicate (if c.bits = 16 then 256 else 128) 0)
      forEach (List.range count) (fun i s =>
        let k := first + i
        let from_ := posBit c.srcRow c.srcPos (r * sy + k / max kw 1 * dy) (x * sx + k % max kw 1 * dx)
        forEach (List.range chans) (fun q s => s.moveBits t src (from_ + q * c.bits) row ((i * chans + q) * c.bits) c.bits) s) s1) s
  | .split planes conv => each (fun r x s =>
      let words := planes.map fun o => s.bitsAt (src + o) (posBit c.srcRow c.srcPos r x) 16
      s.putPos t conv .nearest c.dst (c.dstPos / 8) (r * (c.dstRow / max (c.dstPos / 8) 1) + x) (splitWords words)) s
  | .fill mode top bottom left right chans const conv => s.fillSelvedge t c mode top bottom left right chans const conv

/-! The ranges that a command reads and writes: (port, place, bytes) (Table 07-2). -/

/-- The ranges of an array: one per channel block, of `size` bytes per position for the channels it holds, and the scales. -/
def Arr.ranges (port : Nat) (a : Arr) (positions elems : Nat) (size : Nat → Nat) : List (Nat × Place × Nat) :=
  ((List.range (max 1 (cdiv elems a.fmt.chans))).map fun j =>
    (port, (⟨a.at_.region, a.at_.off + j * a.block⟩ : Place),
      if positions = 0 then 0 else (positions - 1) * a.pitch + size (min a.fmt.chans (elems - j * a.fmt.chans)))) ++
    if a.fmt.mx then [(port, a.scales, (positions - 1) * a.scalePitch + cdiv elems 32)] else []

/-- The ranges of an array that is read. -/
def Arr.spans (port : Nat) (a : Arr) (positions elems : Nat) : List (Nat × Place × Nat) :=
  a.ranges port positions elems fun n => cdiv (n * a.fmt.bits) 8

/-- The ranges of a converted result. -/
def convSpans (c : Conv) (dst : Place) (pitch positions elems : Nat) : List (Nat × Place × Nat) :=
  (⟨dst, c.fmt, pitch, c.block, c.scales, c.scalePitch⟩ : Arr).ranges 2 positions elems (c.fmt.extent pitch)

/-- Bytes of a moved array of rows and positions. -/
def moveLen (row pos rows elems : Nat) : Nat := (rows - 1) * row + cdiv (elems * pos) 8

/-- What a command reads. -/
def UnitCmd.reads (g : Engine) : UnitCmd → List (Nat × Place × Nat)
  | .wset c => [(0, c.src, weightBytes c.wFmt c.aFmt)]
  | .mm c => c.src.spans 0 c.rows (termsOf (if c.swap == g.activeBuf then g.buf0 else g.buf1).wFmt c.src.fmt)
  | .drain c => (match c.scale with | some p => [(1, p, 4 * c.chans)] | none => [])
      ++ (match c.bias with | some p => [(1, p, 4 * c.chans)] | none => [])
  | .vop c => (match c.resize with
      | some r => (c.srcs.take 1).map fun (a : Arr) => a.spans 1 (r.rows * r.cols) c.elems
      | none => c.srcs.map fun (a : Arr) => a.spans 1 c.positions c.elems).flatten
      ++ (match c.weight with | some w => [(1, w.bits, cdiv (w.blocks.foldl max 0 + 1) 8)] | none => [])
  | .vlut c => c.src.spans 1 c.positions c.elems
  | .vred c => c.src.spans 1 (match c.pool with | some w => w.rows * w.cols | none => c.positions) c.elems
  | .fft c => [(1, c.src, (c.count - 1) * c.pitch + (c.points - 1) * c.stride + 8)]
  | .move c => match c.kind with
    | .pleat _ => [(3, c.src, moveLen c.srcRow c.srcPos (2 * c.rows) (2 * c.elems))]
    | .fill .. => [(3, c.dst, moveLen c.dstRow c.dstPos c.rows c.elems)]
    | .pack first count kw sy sx dy dx _ => if count = 0 then [] else
        [(3, c.src, moveLen c.srcRow c.srcPos ((c.rows - 1) * sy + (first + count - 1) / max kw 1 * dy + 1)
          ((c.elems - 1) * sx + (max kw 1 - 1) * dx + 1))]
    | .split planes _ => planes.map fun o => (3, (⟨c.src.region, c.src.off + o⟩ : Place), moveLen c.srcRow c.srcPos c.rows c.elems)
    | _ => [(3, c.src, moveLen c.srcRow c.srcPos c.rows c.elems)]
  | .put c => [(3, c.src, 128 * c.lines)]

/-- What a command writes in the local tile. -/
def UnitCmd.writes : UnitCmd → List (Nat × Place × Nat)
  | .wset _ | .mm _ | .put _ => []
  | .drain c => convSpans c.conv c.dst c.pitch c.rows c.chans
  | .vop c => convSpans c.conv c.dst c.pitch c.positions c.elems
  | .vlut c => convSpans c.conv c.dst c.pitch c.positions c.elems
  | .vred c => match c.pool with
    | some w => convSpans c.conv c.dst c.pitch (outExtent w.rows w.kh w.sh 1 w.ph * outExtent w.cols w.kw w.sw 1 w.pw) c.elems
    | none => if c.alongLanes then convSpans c.conv c.dst c.pitch c.positions 1 else convSpans c.conv c.dst c.pitch 1 c.elems
  | .fft c => [(2, c.src, (c.count - 1) * c.pitch + (c.points - 1) * c.stride + 8)]
  | .move c => match c.kind with
    | .transpose => [(4, c.dst, moveLen c.dstRow c.dstPos c.elems c.rows)]
    | .unpleat _ => [(4, c.dst, moveLen c.dstRow c.dstPos (2 * c.rows) (2 * c.elems))]
    | .split planes conv => (convSpans conv c.dst (c.dstPos / 8) ((c.rows - 1) * (c.dstRow / max (c.dstPos / 8) 1) + c.elems)
        (8 * cdiv planes.length 4)).map fun r => (4, r.2)
    | .pack .. => [(4, c.dst, (c.rows - 1) * c.dstRow + (c.elems - 1) * (c.dstPos / 8) + if c.bits = 16 then 256 else 128)]
    | _ => [(4, c.dst, moveLen c.dstRow c.dstPos c.rows c.elems)]

/-- The unit that executes a command. -/
def UnitCmd.unit : UnitCmd → EngUnit
  | .wset _ | .mm _ => .matrix
  | .drain _ | .vop _ | .vlut _ | .vred _ | .fft _ => .vector
  | .move _ | .put _ => .mover

/-- The data effect of a command whose operands are ready. -/
def State.runCmd (s : State) (e : Nat) : UnitCmd → State
  | .wset c => s.runWset e c
  | .mm c => s.runMm e c
  | .drain c => s.runDrain e c
  | .vop c => s.runVop e c
  | .vlut c => s.runVlut e c
  | .vred c => s.runVred e c
  | .fft c => s.runFft e c
  | .move c => s.runMove e c
  | .put _ => s

end Sys2Proof.Machine
end

