-- ==== Sys2Proof/Machine/FaultOps.lean ====
section
/-! DEFINITION. What masters may reach, the freeze of an engine (R109, R140, R154, R341), and the replacement
request (R353). -/

namespace Sys2Proof.Machine

open Sys2Proof

/-- The unit queues of an engine whose stripe stops. -/
def Engine.halt (g : Engine) : Engine :=
  { g with matrixQ := stillRuns g.matrixQ, vectorQ := stillRuns g.vectorQ, moverQ := stillRuns g.moverQ, tack := none }

/-- The job slot of the stripe that executes, or of the stripe at the head of the ready queue. -/
def Engine.jobSlot (g : Engine) : Nat :=
  match g.exec, g.ready.head? with
  | some x, _ => x.work.job
  | none, some r => r.work.job
  | none, none => 0

/-- An engine frozen by an access for a job (R109, R140, R154): it issues nothing further and gives up its credits (R146); the
fault manager stops the job (R343). -/
def State.freezeEngineFor (s : State) (e addr job : Nat) : State :=
  if (s.eng e).frozen then s
  else
    let g := s.eng e
    let s1 := s.setEng e { g.halt with frozen := true, exec := g.exec.map fun x => { x with abandoned := true } }
    (((s1.returnCredits e).fail (pgEng e) 7 (6 + 65536 * job) addr).freezeMaster e addr job).owe (.frozenEngine e job)

/-- An engine frozen by an access of the stripe that executes. -/
def State.freezeEngine (s : State) (e addr : Nat) : State := s.freezeEngineFor e addr (s.eng e).jobSlot

/-- What keeps an access to a range of a region from being performed: 3 it leaves the region, 6 the region is another job's,
4 a read or 5 a write reaches a group that is not ON; with the address (R109, R140, R154). -/
def State.spanFault (s : State) (t j : Nat) (wr : Bool) (sp : Nat × Place × Nat) : Option (Nat × Nat) :=
  let p := sp.2.1
  let d := s.region t p.region
  let a := s.addrOf t p
  if sp.2.2 = 0 then none
  else if d.mode = 0 then some (3, a)
  else if 128 * d.size < p.off + sp.2.2 then some (3, if p.off < 128 * d.size then tileBase t + 128 * (d.base + d.size) else a / 128 * 128)
  else if !s.mayUse j d then some (6, a)
  else
    let off := a - tileBase t
    match ((List.range ((off + sp.2.2 - 1) / 0x400000 + 1)).filter fun g =>
      decide (off / 0x400000 ≤ g) && (s.bgroup t g).state != 0).head? with
    | some g => some (if wr then 5 else 4, max a (tileBase t + 0x400000 * g))
    | none => none

/-- A refused access of an engine to its tile, for a job, reported, and the engine frozen. -/
def State.refuseAccess (s : State) (e job : Nat) (sp : Nat × Place × Nat) (f : Nat × Nat) : State :=
  let s1 := match f.1 with
    | 3 => (s.smemCause e 3 sp.1 sp.2.1.region 0xF f.2).event (pgSmem e) 8
    | 4 => (s.smemCause e 4 sp.1 sp.2.1.region 0xF f.2).event (pgSmem e) 6
    | 5 => ((s.smemCause e 5 sp.1 sp.2.1.region 0xF f.2).event (pgSmem e) 5).log 7 0x0D (logBody e f.2 5)
    | _ => s
  s1.freezeEngineFor e f.2 job

/-- The DRAM ranges of a job (Table 15-6): its image, the area of a tensor job's output queue, and per entry the ring, the history buffers, the output area and the
areas of its queues. -/
def State.jobRanges (s : State) (j : Nat) : List (Nat × Nat) :=
  match s.job j with
  | some x =>
    let area := fun (q : Nat) => let c := (s.queue q).ctx; (c.areaBase, c.areaSize)
    (x.bind.imageAddr, x.bind.imageSize) :: (if x.kind = 1 then [area x.bind.outQ] else []) ++ (x.bind.entries.map fun e =>
      let t := s.strm e.stream
      [(e.ringBase, e.ringSlots * t.slotBytes), (e.histBase, 3 * (match t.img with | some g => histStride g | none => 0)),
       (e.outBase, e.outSize), area e.dispQ, area e.codeQ, area e.visQ, area e.cropQ]).flatten
  | none => []

/-- A range lies wholly in one of a list of ranges. -/
def inRanges (l : List (Nat × Nat)) (a n : Nat) : Bool := l.any fun r => decide (r.1 ≤ a) && decide (a + n ≤ r.1 + r.2)

/-- A range lies in the band ring of one of the job's streams. -/
def State.inRing (s : State) (j a n : Nat) : Bool :=
  match s.job j with
  | some x => inRanges (x.bind.entries.map fun e => (e.ringBase, e.ringSlots * (s.strm e.stream).slotBytes)) a n
  | none => false

/-! Service and replacement (R352, R353). -/

/-- A channel without a gusset lane in service (R277). -/
def State.exhausted (s : State) (c : Nat) : Bool := (s.gussetsFree c).isEmpty

/-- Whether a channel has a lane marked FAILED. -/
def State.hasFailedLane (s : State) (c : Nat) : Bool := (List.range 74).any fun i => (s.lane c i).failed

/-- The conditions of R353. -/
def State.replaceDue (s : State) : Bool :=
  (List.range 6).any (fun e => (s.eng e).fenced || (s.tile e).faulted) || !s.dram.retired.isEmpty ||
    (List.range 128).any fun c => s.exhausted c && s.hasFailedLane c

/-- REPLACE_N follows its conditions; REPLACE is raised when it is asserted. -/
def State.checkReplace (s : State) : State :=
  let r := s.replaceDue
  if r = s.flt.replaced then s
  else
    let s1 : State := { s with flt := { s.flt with replaced := r } }
    if r then s1.event pgFlt 3 else s1

end Sys2Proof.Machine
end

