-- ==== Sys2Proof/Machine/DmaOps.lean ====
section
/-! DEFINITION. The DMA engine: shared pools, windows, transfers, completion, failures, stops and freezes (R234, R293 to R303). -/

namespace Sys2Proof.Machine

open Sys2Proof

/-! Pools (R234). -/

/-- Lines of a pool: 0 the DMA staging buffer, 1 the write buffer (Table 10-5). -/
def poolLines (p : Nat) : Nat := if p = 0 then 4096 else 6144

/-- Floor of a user in a pool. -/
def poolFloor (p : Nat) : Nat := if p = 0 then 16 else 32

/-- The users that hold a floor in a pool: streams that a job binds or holds, and tensor jobs (only in the staging buffer). -/
def State.poolUsers (s : State) (p : Nat) : List Nat :=
  ((List.range 64).filter fun i => (s.strm i).job.isSome || (s.strm i).held) ++
    (if p = 0 then ((List.range 8).filter fun j => match s.job j with | some x => x.kind == 1 | none => false).map (· + 64) else [])

/-- Lines in use by a user: of the write buffer, those that its stripes' outputs hold. -/
def State.poolUsed (s : State) (p u : Nat) : Nat :=
  if p = 1 then ((List.range 6).map fun e => match (s.eng e).exec with
    | some x => if !x.work.tensor && x.work.stream == u then x.bufLines else 0
    | none => 0).sum
  else sget (fun _ => 0) s.sched.poolUse (128 * p + u)

/-- Lines reserved as floors. -/
def State.poolFloors (s : State) (p : Nat) : Nat := poolFloor p * (s.poolUsers p).length

/-- Lines of a pool that a user borrows. -/
def State.borrowed (s : State) (p u : Nat) : Nat := s.poolUsed p u - (if (s.poolUsers p).contains u then poolFloor p else 0)

/-- Free lines of the shared part. -/
def State.sharedFree (s : State) (p : Nat) : Nat :=
  poolLines p - s.poolFloors p - ((List.range 128).map fun u => s.borrowed p u).sum

/-- Lines that a user can still take: its floor, then at most a quarter of the shared part. -/
def State.poolRoom (s : State) (p u : Nat) : Nat :=
  let own := if (s.poolUsers p).contains u then poolFloor p - s.poolUsed p u else 0
  own + min (s.sharedFree p) ((poolLines p - s.poolFloors p) / 4 - s.borrowed p u)

/-- Lines taken or given back by a user. -/
def State.poolSet (s : State) (p u n : Nat) : State :=
  { s with sched := { s.sched with poolUse := sset (fun _ => 0) s.sched.poolUse (128 * p + u) n } }

/-- The pool user of a queue: the stream of the entry that names it, a tensor job as 64 + slot, host software as 127. -/
def State.poolUser (s : State) (q : Nat) : Nat :=
  let c := (s.queue q).ctx
  match s.job c.owner with
  | some x => if x.kind = 1 then 64 + c.owner else
      ((x.bind.entries.find? fun e => [e.statusQ, e.statsQ, e.boxQ, e.dispQ, e.codeQ, e.visQ, e.cropQ].contains q).map
        (·.stream)).getD 127
  | none => 127

/-! Windows (Table 15-6). -/

/-- A range touches a region of a resident job. -/
def State.inRegions (s : State) (a n : Nat) : Bool :=
  (List.range 6).any fun t => (List.range 32).any fun r =>
    let d := s.region t r
    d.mode != 0 && decide (a < tileBase t + 128 * (d.base + d.size)) && decide (tileBase t + 128 * d.base < a + n)

/-- Whether a descriptor of a queue may read or write a range: a job's queue its rings and areas, host software everything but
protected ranges and, when it writes, regions of resident jobs. -/
def State.dmaWindow (s : State) (q a n : Nat) (wr : Bool) : Bool :=
  let o := (s.queue q).ctx.owner
  match s.job o with
  | some x =>
    let rings := (x.bind.outQ :: x.bind.eventQ :: (x.bind.entries.map fun e =>
      [e.statusQ, e.statsQ, e.boxQ, e.dispQ, e.codeQ, e.visQ, e.cropQ]).flatten).map fun k =>
        let c := (s.queue k).ctx
        (c.ringBase, 32 * c.slots)
    mapped a n && inRanges (s.jobRanges o ++ rings) a n
  | none => mapped a n && !s.inProtected a n && !(wr && s.inRegions a n)

/-- The first group that is not ON in a range of the tiles: its tile and group. -/
def State.groupOff (s : State) (a n : Nat) : Option (Nat × Nat) :=
  if decide (a < 0x40000000) || decide (0x4C000000 < a + n) || n == 0 then none
  else ((List.range ((a + n - 1) / 0x400000 - a / 0x400000 + 1)).map fun k => a / 0x400000 + k - 0x100).findSome? fun g =>
    if (s.bgroup (g / 8) (g % 8)).state ≠ 0 then some (g / 8, g % 8) else none

/-! Transfers (R294, R298). -/

/-- A transfer's answer: the bytes, whether a source was poisoned, and whether one was invalid. -/
structure Moved where
  data : List Byte
  poison : Bool
  srcInvalid : Bool
  deriving DecidableEq, Repr

/-- `n` source bytes: DRAM by sectors, tiles by lines; what cannot be delivered reads as zeros. -/
def State.fabRead (s : State) (w a n : Nat) : State × Moved :=
  let unit := if a < dramBase then 128 else 64
  let l := if n = 0 then [] else (List.range ((a + n - 1) / unit - a / unit + 1)).map fun i => unit * (a / unit + i)
  l.foldl (fun (x : State × Moved) b =>
    let lo := max a b
    let k := min (a + n) (b + unit) - lo
    let r := x.1.memRead w b unit
    let bad := r.2.poison || r.2.error
    let d := if bad || !r.2.valid then List.replicate k 0 else (r.2.data.drop (lo - b)).take k
    (r.1, ⟨x.2.data ++ d, x.2.poison || bad, x.2.srcInvalid || (!r.2.valid && !bad)⟩)) (s, ⟨[], false, false⟩)

/-- Bytes that the read engine reads for a channel. -/
def State.dmaRead (s : State) (ch a n : Nat) : State × Moved := s.fabRead (who 6 ch) a n

/-- Bytes written to DRAM or tiles; an edge word of a tile that fails parity becomes zero around them. The answers: poison, and
the address of a rejected write. -/
def State.dmaWrite (s : State) (ch a : Nat) (bytes : List Byte) : State × Bool × Option Nat :=
  let n := bytes.length
  if n = 0 then (s, false, none)
  else if dramBase ≤ a then
    let bad := (sectorsOf a n).find? fun b => s.pageState (pageNum b) == 3
    ((s.dramWrite (who 7 ch) a bytes).1, false, bad)
  else
    let edges := ([a / 4 * 4, (a + n - 1) / 4 * 4].filter fun w => decide (w < a) || decide (a + n < w + 4)).filter fun w =>
      (s.tile ((w - 0x40000000) / 0x2000000)).storedErrs.contains w
    let s1 := forEach edges (fun w s => s.tileWrite ((w - 0x40000000) / 0x2000000) w [0, 0, 0, 0]) s
    let cut := min n (0x2000000 - a % 0x2000000)
    let s2 := s1.tileWrite ((a - 0x40000000) / 0x2000000) a (bytes.take cut)
    (if cut < n then s2.tileWrite ((a + cut - 0x40000000) / 0x2000000) (a + cut) (bytes.drop cut) else s2, !edges.isEmpty, none)

/-- Destination of a COPY. -/
def Desc.dest (d : Desc) : Nat := d.aux0 + d.aux1 % 65536 * 2 ^ 32

/-- Bytes of a descriptor from `done` up to `upTo` transferred; a rejected write stops it there. The answer is its address. -/
def State.dmaMove (s : State) (d upTo : Nat) : State × Option Nat :=
  let x := s.chan d
  match x.desc with
  | some k =>
    let r := s.dmaRead d (k.addr + x.done) (upTo - x.done)
    let w := r.1.dmaWrite d (k.dest + x.done) r.2.data
    let y := w.1.chan d
    (w.1.setChan d { y with done := if w.2.2.isSome then x.done else upTo, poison := x.poison || r.2.poison || w.2.1
                            srcInvalid := x.srcInvalid || r.2.srcInvalid }, w.2.2)
  | none => (s, none)

/-! Queues of a channel (R293). -/

/-- The lowest available descriptor of a queue for its channel: an H2D descriptor that has been made available or a COPY of an
INTERNAL queue; a box list goes to the CRS instead (BOX_LIST_ARRIVE). -/
def State.dmaNext (s : State) (q : Nat) : Option Desc :=
  let c := (s.queue q).ctx
  let d := (s.readDesc q c.cons).2
  if !c.en then none
  else if c.dir = 1 ∧ seqAhead c.avail c.cons then (if d.kind = 6 then none else some d)
  else if c.dir = 2 ∧ c.prod ≠ c.cons ∧ d.kind = 7 then some d
  else none

/-- The queue that a channel serves next, after the one it served last. -/
def State.dmaQueue (s : State) (d : Nat) : Option Nat :=
  let l := (s.queues.map (·.1)).filter fun q => (s.queue q).ctx.channel == d && (s.dmaNext q).isSome
  (l.find? fun q => decide ((s.chan d).queue < q)).orElse fun _ => l.head?

/-- ERR_CAUSE of the DMA (Table 13-10). -/
def State.dmaCause (s : State) (d q c addr : Nat) : State := s.cause pgDma (c + 256 * d + 65536 * q) addr

/-- The descriptor in progress written back: OWN 0, its status and length; the queue's counters move, DESC_DONE is raised when
EVT_FULL is 1 or it failed, and the staging lines go back. -/
def State.writeBack (s : State) (d status len : Nat) : State :=
  let x := s.chan d
  match x.desc with
  | some k =>
    let q := x.queue
    let c := (s.queue q).ctx
    let k1 := { k with own := false, status := status, length := len, srcInvalid := x.srcInvalid }
    let s1 := s.blockWrite 0x93 (who 7 d) (slotAddr c c.cons) (descBytes k1)
    let u := s1.poolUser q
    let s2 := (s1.poolSet 0 u (s1.poolUsed 0 u - x.lines)).setQueue q
      { s1.queue q with ctx := { (s1.queue q).ctx with cons := (c.cons + 1) % 2 ^ 32, lastStatus := status } }
    let s3 := s2.setChan d { x with desc := none, lines := 0, tries := 0, failed := 0, poison := false, srcInvalid := false
                                    half := false }
    if k.evtFull || status != 0 then s3.descDone q c.cons status else s3
  | none => s

/-! Stops (R300, R301). -/

/-- A channel comes to rest. -/
def State.chanRest (s : State) (d : Nat) : State := (s.setChan d { s.chan d with state := .stopped }).event pgDma 1

/-- A channel stops at the next descriptor boundary. -/
def State.chanStop (s : State) (d : Nat) (q : Option Nat) : State :=
  let x := s.chan d
  match x.state with
  | .idle => (s.setChan d { x with stopQ := q }).chanRest d
  | .active => s.setChan d { x with state := .stopping, stopQ := q }
  | _ => s

/-- A channel at rest or halted goes on, and what its queues hold is written. -/
def State.chanResume (s : State) (d : Nat) : State :=
  let x := s.chan d
  match x.state with
  | .stopped | .halted =>
    let l := (s.queues.map (·.1)).filter fun q => (s.queue q).ctx.channel == d
    forEach l (fun q s => s.flushQueue q) (s.setChan d { x with state := .idle, stopQ := none })
  | _ => s

/-- The channel after a descriptor: idle again, or at rest when a stop was asked for. -/
def State.chanNext (s : State) (d : Nat) : State :=
  let x := s.chan d
  match x.state with
  | .stopping => s.chanRest d
  | .active => s.setChan d { x with state := .idle }
  | _ => s

/-! Failures (R298, R299, R302). -/

/-- A channel halts: BUS_ERROR, HALT, class 0x17, and the restart of the job that owns the queue. -/
def State.chanHalt (s : State) (d : Nat) : State :=
  let x := s.chan d
  let q := x.queue
  let s1 := s.writeBack d 5 x.done
  let c := (s1.queue q).ctx
  let s2 := (s1.setQueue q { s1.queue q with ctx := { c with halts := satAdd 8 c.halts 1 } }).setChan d
    { s1.chan d with state := .halted }
  let s3 := ((s2.bump pgDma 0x20 16 16 1).event pgDma 0).fault 0x17 d (c.owner % 8)
  if (s3.job c.owner).isSome then s3.owe (.restart c.owner 0x17) else s3

/-- A channel freezes (R302, R342). -/
def State.chanFreeze (s : State) (d q c addr : Nat) : State :=
  let s1 := (s.dmaCause d q c addr).writeBack d 6 0
  (((s1.setChan d { s1.chan d with state := .frozen }).event pgDma 3).freezeMaster (0x10 + d) addr ((s.queue q).ctx.owner % 8))

/-- What a tile reports of a refused access to a group that is not ON (R154). -/
def State.groupRefused (s : State) (t g : Nat) (wr : Bool) : State :=
  let a := tileBase t + 0x400000 * g
  if wr then ((s.smemCause t 5 7 0 0xF a).event (pgSmem t) 5).log 7 0x0D (logBody t a 5)
  else (s.smemCause t 4 7 0 0xF a).event (pgSmem t) 6

/-- A descriptor whose source or destination reaches a group that is not ON freezes its channel (R154, R302). -/
def State.dmaOff (s : State) (d q : Nat) (k : Desc) : Option State :=
  match s.groupOff k.addr k.length, s.groupOff k.dest k.length with
  | some g, _ => some ((s.groupRefused g.1 g.2 false).chanFreeze d q 6 (tileBase g.1 + 0x400000 * g.2))
  | none, some g => some ((s.groupRefused g.1 g.2 true).chanFreeze d q 6 (tileBase g.1 + 0x400000 * g.2))
  | none, none => none

/-! Descriptors (R293, R296, R297). -/

/-- A descriptor that the channel refuses: a reserved kind, a kind that the direction does not allow, a nonzero reserved field. -/
def refusedDesc (d : Desc) : Bool := d.kind != 7 || decide (65536 ≤ d.aux1)

/-- An uncorrectable error in a queue's context (class 0x16, R354). -/
def State.ctxError (s : State) (d q : Nat) : State :=
  let x := s.queue q
  if (s.job x.ctx.owner).isSome then (s.fault 0x16 0 x.ctx.owner).owe (.restart x.ctx.owner 0x16)
  else
    let s1 := (s.setQueue q { x with ctx := { x.ctx with mode := x.ctx.mode / 2 * 2 } }).chanStop d (some q)
    (s1.qmFail 5 6 q).fault 0x16 0 0

/-- DMA_DESCRIPTOR_START: the next descriptor of the channel's next queue starts, is refused, or freezes the channel; while no
staging line is free it waits. -/
def State.dmaStart (s : State) (d : Nat) (ecc : Bool) : State :=
  let x := s.chan d
  if x.state ≠ .idle then s
  else match s.dmaQueue d with
    | none => s
    | some q =>
      if ecc then s.ctxError d q
      else match s.dmaNext q with
        | none => s
        | some k =>
          let u := s.poolUser q
          let room := s.poolRoom 0 u
          let want := min 64 (cdiv k.length 128)
          let s1 := (s.setChan d { x with state := .active, queue := q, desc := some k, done := 0, lines := 0 }).setReg
            (0x601 + d / 64) (0x40 * (d % 64) + 8) (BitVec.ofNat 32 (s.queue q).ctx.cons)
          if refusedDesc k then
            ((((s1.writeBack d 8 0).bump pgQm 0x20 16 16 1).qmFail 4 5 q).chanNext d)
          else if k.length = 0 then s1
          else if !s.dmaWindow q k.addr k.length false then s1.chanFreeze d q 5 k.addr
          else if !s.dmaWindow q k.dest k.length true then s1.chanFreeze d q 5 k.dest
          else match s1.dmaOff d q k with
            | some f => f
            | none =>
              if room = 0 then s
              else
                let n := min want room
                (s1.poolSet 0 u (s.poolUsed 0 u + n)).setChan d { s1.chan d with lines := n }

/-- A write of the transfer was rejected (R266): BUS_ERROR at once. -/
def State.dmaRejected (s : State) (d a : Nat) : State := (s.dmaCause d (s.chan d).queue 3 a).chanHalt d

/-- DESC_HALF (R297): the first half is acknowledged. -/
def State.dmaHalf (s : State) (d : Nat) : State :=
  let x := s.chan d
  match x.desc with
  | some k =>
    if (x.state = .active ∨ x.state = .stopping) ∧ k.evtHalf ∧ 1 ≤ k.length ∧ !x.half ∧ x.failed = 0 then
      match s.dmaOff d x.queue k with
      | some f => f
      | none =>
      let r := s.dmaMove d (cdiv k.length 2)
      match r.2 with
      | some a => r.1.dmaRejected d a
      | none =>
        let s1 := r.1.setChan d { r.1.chan d with half := true }
        s1.announce x.queue 0x100 x.queue ((s1.queue x.queue).ctx.cons)
    else s
  | none => s

/-- DESCRIPTOR_COMPLETE (R296): the rest is transferred, read back, and the descriptor written back. -/
def State.dmaComplete (s : State) (d : Nat) : State :=
  let x := s.chan d
  match x.desc with
  | some k =>
    if (x.state = .active ∨ x.state = .stopping) ∧ x.failed = 0 ∧ (!k.evtHalf ∨ k.length = 0 ∨ x.half) then
      match s.dmaOff d x.queue k with
      | some f => f
      | none =>
      let r := s.dmaMove d k.length
      match r.2 with
      | some a => r.1.dmaRejected d a
      | none =>
        let v := if k.length = 0 then (r.1, ⟨[], true, false, false⟩) else r.1.readBack (who 6 d) (k.dest + k.length - 1)
        let bad := (v.1.chan d).poison || !v.2.valid || v.2.poison || v.2.error
        let s1 := v.1.bump (0x601 + d / 64) (0x40 * (d % 64) + 0x14) 0 16 1
        let s2 := if bad then (s1.dmaCause d x.queue 4 k.addr).event pgDma 4 else s1
        (s2.writeBack d (if bad then 4 else 0) k.length).chanNext d
    else s
  | none => s

/-- A failed access, to be retried 1 µs later: 1 no response for 10 µs, 2 a fabric transfer error. -/
def State.dmaFail (s : State) (d c addr : Nat) : State :=
  let x := s.chan d
  if x.desc.isSome ∧ (x.state = .active ∨ x.state = .stopping) ∧ x.failed = 0 then
    (s.dmaCause d x.queue c addr).setChan d { x with failed := c, addr := addr }
  else s

/-- DMA_RETRY: the access is repeated; the third retry that fails halts the channel. -/
def State.dmaRetry (s : State) (d : Nat) (ok : Bool) : State :=
  let x := s.chan d
  if x.failed = 0 then s
  else
    let s1 := ((s.bump pgDma 0x20 0 16 1).bump (0x601 + d / 64) (0x40 * (d % 64) + 0x14) 16 16 1).event pgDma 2
    if ok then s1.setChan d { x with failed := 0, tries := 0 }
    else if 2 ≤ x.tries then (s1.dmaCause d x.queue x.failed x.addr).chanHalt d
    else (s1.dmaCause d x.queue x.failed x.addr).setChan d { x with tries := x.tries + 1 }

/-! Enabling and disabling (R285, R300). -/

/-- A write of word i of a queue's context: EN going to 0 stops the channel, EN going to 1 lets the channel it stopped go on. -/
def State.queueWrite (s : State) (q i : Nat) (w : Word) : State :=
  if 16384 ≤ q then s
  else
    let was := (s.queue q).ctx.en
    let s1 := s.ctxWrite q i w
    let c := (s1.queue q).ctx
    if was && !c.en then s1.chanStop c.channel (some q)
    else if !was && c.en then
      let s2 := if (s1.chan c.channel).stopQ = some q then s1.chanResume c.channel else s1
      s2.flushQueue q
    else s1

end Sys2Proof.Machine
end

