-- ==== Sys2Proof/Machine/Parity.lean ====
section
/-! DEFINITION. Parity errors of stripe memory and their outcomes (R147 to R150). -/

namespace Sys2Proof.Machine

open Sys2Proof

/-- Replays (R103, R149) and faults of a stripe: what stops its commands; a SIGNAL under way is void. -/
def Engine.abandon (g : Engine) (cause : Nat) (words : List Nat) : Engine :=
  { g.halt with exec := g.exec.map fun x => { x with abandoned := true, signalled := false, bufLines := 0, failWords := x.failWords ++ words }, replayCause := cause }

/-! Lines and regions. -/

/-- The region that holds a line of a tile. -/
def State.regionAt (s : State) (t line : Nat) : Option (Nat × Region) :=
  ((List.range 32).map fun r => (r, s.region t r)).find? fun x =>
    x.2.mode != 0 && decide (x.2.base ≤ line) && decide (line < x.2.base + x.2.size)

/-- Bank of a line (Table 07-1). -/
def bankOfLine (line : Nat) : Nat := 8 * (line / 32768) + line % 8

/-- Where the image copy of a job holds line `k` of its PERSIST lines in a tile: WEIGHTS, then SPECTRA (log 27). -/
def State.persistSource (s : State) (j k : Nat) : Option Nat :=
  match s.job j with
  | some x =>
    match s.images.find? fun r => r.img.digest == x.digest with
    | some r =>
      let sec := fun (id : Nat) => (r.img.sections.find? fun y => y.1 == id).map fun y => (y.2.2.1, y.2.2.2)
      match sec 6, sec 7 with
      | some w, some p => if k < cdiv w.2 128 then some (r.addr + w.1 + 128 * k) else some (r.addr + p.1 + 128 * (k - cdiv w.2 128))
      | some w, none => some (r.addr + w.1 + 128 * k)
      | none, some p => some (r.addr + p.1 + 128 * k)
      | none, none => none
    | none => none
  | none => none

/-- The number of a line among the PERSIST lines of its job in a tile. -/
def State.persistIndex (s : State) (t r line : Nat) : Nat :=
  let d := s.region t r
  (((List.range r).map fun k => let x := s.region t k; if x.persist && x.job == d.job && x.mode != 0 then x.size else 0).sum)
    + (line - d.base)

/-- A PERSIST line restored from the image copy in DRAM; a poisoned read damages the image (R358). -/
def State.restoreLine (s : State) (t r line : Nat) : State :=
  match s.persistSource (s.region t r).job (s.persistIndex t r line) with
  | some a =>
    let v := s.dramRead 10 a 128
    let s1 := (v.1.memWrite 10 (tileBase t + 128 * line) v.2.data).1
    if v.2.poison then s1.owe (.damaged a) else s1
  | none => s

/-! Counting (R148, R150). -/

/-- A stored error counted for its bank, and BANK_WEAR (R150). -/
def State.countBank (s : State) (t bank : Nat) : State :=
  let x := s.tile t
  let limit := max 1 (s.rfld (pgSmem t) 8 8 8)
  let old := x.bankTimes.filter fun b => decide (s.clk.up < b.2 + 1000000000)
  let count := fun (l : List (Nat × Nat)) => (l.filter fun b => b.1 == bank).length
  let now := old ++ [(bank, s.clk.up)]
  let was := x.wearRaised.contains bank && decide (limit ≤ count old)
  let up := decide (limit ≤ count now) && !was
  let s1 := (s.setTile t { x with bankTimes := now
                                  wearRaised := (x.wearRaised.filter (· != bank)) ++ if was || up then [bank] else [] }).bump
    (pgSmem t) (0x140 + 4 * (bank / 2)) (16 * (bank % 2)) 16 1
  if up then s1.event (pgSmem t) 3 else s1

/-- What a re-read of a line finds, counted (R148): words that pass are transient, words that fail stored; the lowest stored
word is recorded. -/
def State.countParity (s : State) (t port line passed : Nat) (words : List Nat) : State :=
  let p := pgSmem t
  let s1 := if passed = 0 then s else (s.bump p 0x20 0 16 passed).event p 0
  if words.isEmpty then s1
  else
    let lo := words.foldl min 31
    let r := ((s.regionAt t line).map (·.1)).getD 0
    let s2 := forEach words (fun _ s => s.countBank t (bankOfLine line)) (s1.bump p 0x20 16 16 words.length)
    (s2.smemCause t 1 port r 0xF (tileBase t + 128 * line + 4 * lo)).event p 1

/-- The frame of a stripe. -/
def State.workFrame (s : State) (w : Work) : Option Frame := if w.tensor then none else s.frameOf w.stream w.seq

/-! Outcomes (Table 07-4). -/

/-- Bytes of a gathered patch row's slot. -/
def GatherPlan.slot (p : GatherPlan) : Nat := alignUp p.width 64

/-- Patches of a gather. -/
def GatherPlan.patches (p : GatherPlan) : Nat := p.nx * p.ny

/-- Writes that an entry takes: lines of a window, or patch rows. -/
def FetchEntry.writes (f : FetchEntry) : Nat :=
  match f.gather with
  | some p => p.patches * p.rows
  | none => f.rows * cdiv f.bytes 128

/-- Lines of staging that an entry takes; a gather adds its valid bits. -/
def FetchEntry.lines (f : FetchEntry) : Nat :=
  match f.gather with
  | some p => cdiv (p.patches * p.rows * p.slot + cdiv p.patches 8) 128
  | none => f.rows * cdiv f.bytes 128

/-- The writes of a FILL or HOLD entry that cover a line of its range: their indices. -/
def SbEntry.covering (b : SbEntry) (line : Nat) : List Nat :=
  match b.plan with
  | some f => match f.gather with
    | some p => (List.range f.writes).filter fun k =>
        decide (k * p.slot / 128 ≤ line - b.base) && decide (line - b.base ≤ (k * p.slot + p.slot - 1) / 128)
    | none => [line - b.base]
  | none => []

/-- The ranges of staging that hold a failed line are fetched again. -/
def Engine.refetch (g : Engine) (line : Nat) : Engine :=
  { g with sb := g.sb.map fun b =>
      if (b.kind == 1 || b.kind == 2) && b.plan.isSome && decide (b.base ≤ line) && decide (line < b.base + b.len) then
        let l := (b.covering line).filter b.landed.contains
        { b with kind := if l.isEmpty then b.kind else 1, out := b.out + l.length, landed := b.landed.filter fun k => !l.contains k }
      else b }

/-- A second stored error at a word in the replay (R150): the band or step is dropped, the tile is faulted, and the fault
manager fences engine and tile (class 0x04). -/
def State.repeatError (s : State) (e : Nat) (w : Work) : State :=
  let code := s.freeWord.toNat % 256
  let s0 := s.drawn
  let s1 := if w.tensor then
      match s0.job w.job with
      | some x => s0.dropStepCode w.job x 0 code e
      | none => s0
    else match s0.frameOf w.stream w.seq with
      | some f => s0.dropBandCode w.stream f w.band 0 code e
      | none => s0
  (s1.setTile e { s1.tile e with faulted := true }).owe (.fence e true 4)

/-- A stored error in a read for the stripe that executes on engine t, by an engine port or by the fabric port for the OFM or CRS
(Table 07-4, R148 to R150): the failed words are noted, their range fetched again or their PERSIST line restored, also when the
stripe is abandoned already. -/
def State.storedInStripe (s : State) (t line : Nat) (port : Bool) (words : List Nat) : State :=
  let g := s.eng t
  let l := words.map fun w => tileBase t + 128 * line + 4 * w
  let s0 := if port then s.cause (pgEng t) (1 + 65536 * g.jobSlot) (l.foldl min (tileBase t + 128 * line + 124)) else s
  match g.exec with
  | some x =>
    if x.work.replay && l.any x.failWords.contains then s0.repeatError t x.work
    else
      let g1 := if x.abandoned then { g with exec := some { x with failWords := x.failWords ++ l } } else g.abandon 1 l
      let s1 := s0.setEng t (g1.refetch line)
      match s1.regionAt t line with
      | some (r, d) => if d.persist then s1.restoreLine t r line else s1
      | none => s1
  | none => s0

/-- PARITY_REREAD (R148): ports 0, 1 and 3 read for the stripe, the fabric port for the OFM and CRS or for others. -/
def State.parityReread (s : State) (t port : Nat) (behalf : Bool) (line passed : Nat) (words : List Nat) : State :=
  let engine := port == 0 || port == 1 || port == 3
  let s1 := s.countParity t port line passed words
  if words.isEmpty then if engine && decide (0 < passed) then s1.addSlip t 8 else s1
  else
    let x := s1.tile t
    let s2 := s1.setTile t { x with storedErrs := x.storedErrs ++ ((words.map fun w => tileBase t + 128 * line + 4 * w).filter
      fun a => !x.storedErrs.contains a) }
    if engine || behalf then s2.storedInStripe t line engine words else s2

/-- The first line of a list of ranges of tile t (port, place, bytes) with words known to be bad (R147): the port, the line, and the
words of it that the range takes. -/
def State.badWords (s : State) (t : Nat) (l : List (Nat × Place × Nat)) : Option (Nat × Nat × List Nat) :=
  l.findSome? fun r =>
    let a := s.addrOf t r.2.1
    let bad := (s.tile t).storedErrs.filter fun w => decide (a < w + 4) && decide (w < a + r.2.2)
    match bad with
    | [] => none
    | w :: _ =>
      let line := (w - tileBase t) / 128
      some (r.1, line, (bad.filter fun v => (v - tileBase t) / 128 == line).map fun v => (v - tileBase t) % 128 / 4)

end Sys2Proof.Machine
end

