-- ==== Sys2Proof/Machine/RfeOps.lean ====
section
/-! DEFINITION. The raw front end: the steps of Table 04-1, the band ring, raw statistics, and the curve tables (R62 to R72). -/

namespace Sys2Proof.Machine

open Sys2Proof

/-! Steps 2 and 3. -/

/-- The linear value of a code (R64). -/
def decompand (m : Sparse Word) (i code : Nat) : Nat :=
  if bitAt (psWord m (rfeA i)) 12 then
    let k := psFld m (rfeA i) 13 4
    let x := fun j => if j = 0 then 0 else psFld m (rfeA i + 0x40 + 4 * j) 0 24
    let sl := fun j => psFld m (rfeA i + 0x40 + 4 * j) 24 5
    let r := (List.range k).foldl (fun (y : Nat × Nat) j =>
      if x (j + 1) ≤ code then (j + 1, y.2 + (x (j + 1) - x j) * 2 ^ sl j) else y) (0, 0)
    min (r.2 + (code - x r.1) * 2 ^ sl r.1) 0xFFFFFF
  else code

/-- BLACK_c. -/
def blackOf (m : Sparse Word) (i c : Nat) : Nat := psFld m (rfeA i + 8 + 4 * (c / 2)) (16 * (c % 2)) 16

/-- Plane of the sample at (r, x) (R68). -/
def planeOf (cfa r x : Nat) : Nat :=
  let p := 2 * (r % 2) + x % 2
  match cfa with
  | 1 => [1, 0, 3, 2].getD p 0
  | 2 => [2, 3, 0, 1].getD p 0
  | 3 => [3, 2, 1, 0].getD p 0
  | _ => p

/-- Numerator of u over planeDen, and whether the sample is saturated (R65); `free` stands for u where WHITE_LEVEL equals the
black level and the code lies below it (log 19). -/
def levelOf (m : Sparse Word) (i c y free : Nat) : Nat × Bool :=
  let w := psFld m (rfeA i + 4) 0 24
  let b := blackOf m i c
  if w ≤ y then (planeDen m i c, true)
  else if b < w then (y - b, false)
  else if b = w then (free % 65537, false)
  else (0, false)

/-! Step 4: one row, samples as 2 × numerator + mark (R66). -/

/-- Marks of a row judged in increasing x. `up` is row r − 2 as judged; `port` says that the port marked the row; `sat` which
samples are saturated, and so never judged defective (R65). -/
def judgeRow (m : Sparse Word) (i r : Nat) (port : Bool) (up u : List Nat) (sat : List Bool) : List Nat :=
  let cfa := psFld m (rfeA i) 0 3
  let hot := psFld m (rfeA i + 0x10) 0 16
  let cold := psFld m (rfeA i + 0x10) 16 16
  let step := fun (done : List Nat) (x : Nat) =>
    let v := u.getD x 0
    let left := if 2 ≤ x then (done[x - 2]?).toList else []
    let right := if port then [] else ((u[x + 2]?).map (2 * ·)).toList
    let above := (if 2 ≤ x then (up[x - 2]?).toList else []) ++ (up[x]?).toList ++ (up[x + 2]?).toList
    let nb := ((left ++ right ++ above).filter fun q => q % 2 == 0).map (· / 2)
    let d := planeDen m i (planeOf cfa r x)
    let hi := nb.foldl max 0
    let lo := nb.foldl min (nb.headD 0)
    let bad := !sat.getD x false && decide (2 ≤ nb.length) && (decide (hi * 65536 + hot * d < v * 65536)
      || decide (v * 65536 + cold * d < lo * 65536))
    done ++ [2 * v + b2n (port || bad)]
  if bitAt (psWord m (rfeA i)) 8 then (List.range u.length).foldl step [] else u.map fun v => 2 * v + b2n port

/-! Steps 5 and 6: the curve in FP32, every operation rounded (log 22), and the sample word. -/

/-- Rounded sum. -/
def f32Add (x y : Fl) : Fl := roundF32 (flAdd x y)
/-- Rounded product. -/
def f32Mul (x y : Fl) : Fl := roundF32 (flMul x y)
/-- Rounded quotient. -/
def f32Div (x y : Fl) : Fl := roundF32 (flDiv x y)
/-- Rounded square root. -/
def f32Sqrt (x : Fl) : Fl := roundF32 (flSqrt x)
/-- A natural number as FP32. -/
def f32Nat (n : Nat) : Fl := roundF32 (.fin false n 0)

/-- A positive finite value. -/
def flPos : Fl → Bool
  | .fin s m _ => !s && decide (m ≠ 0)
  | _ => false

/-- A value that is not negative and finite. -/
def flNonneg : Fl → Bool
  | .fin s m _ => !s || decide (m = 0)
  | _ => false

/-- The generalised Anscombe curve (R67). -/
def anscombe (g o u : Fl) : Fl :=
  let k := f32Add (f32Div (f32Mul (f32Nat 3) g) (f32Nat 8)) (f32Div o g)
  if flPos g && flNonneg k then
    let r := f32Sqrt k
    f32Div (f32Add (f32Sqrt (f32Add u k)) (flNeg r)) (f32Add (f32Sqrt (f32Add (f32Nat 1) k)) (flNeg r))
  else u

/-- Entry n of curve table t: a code of 15 bits. -/
def State.curveEntry (s : State) (t n : Nat) : Nat :=
  fld (sget resetWord s.regs (0x143000 + 0x800 * t + 4 * (n / 2))) (16 * (n % 2)) 15

/-- y of u = n / d under a stream's curve (R67). -/
def State.curveOf (s : State) (m : Sparse Word) (i e n d : Nat) : Fl :=
  let u := f32Div (.fin false n 0) (.fin false d 0)
  let c := psCurve m i
  if c = 1 then anscombe (f32Of (psWord m (rfeA i + 0x14 + 8 * e))) (f32Of (psWord m (rfeA i + 0x18 + 8 * e))) u
  else if 4 ≤ c then
    let j := min (512 * n / d) 511
    let t := fun k => f32Div (.fin false (s.curveEntry (c - 4) k) 0) (.fin false 32767 0)
    let f := f32Add (f32Mul (f32Nat 512) u) (flNeg (f32Nat j))
    f32Add (t j) (f32Mul (f32Add (t (j + 1)) (flNeg (t j))) f)
  else u

/-- The sample word (R68). -/
def sampleWord (y : Fl) (mark : Bool) : Nat :=
  match y with
  | .nan => 0x8000
  | .inf s => (if s then 0 else 32767) + 0x8000 * b2n mark
  | .fin s k e => (roundR (max 0 (min 1 (ratOf (.fin s k e))) * 32767)).toNat + 0x8000 * b2n mark

/-! The pair. -/

/-- A row of an exposure after steps 2 to 4: numerators with marks, and which samples are saturated. -/
def State.levels (s : State) (f : Frame) (i : Nat) (w : Row) (up : List Nat) : List Nat × List Bool :=
  let cfa := psFld f.pset (rfeA i) 0 3
  let l := w.px.zipIdx.map fun p =>
    let c := planeOf cfa w.row p.2
    if w.black then (0, false)
    else levelOf f.pset i c (decompand f.pset i p.1) (Config.freeNat (s.free + 2 ^ 20 * w.row + p.2))
  (judgeRow f.pset i w.row w.marked up (l.map (·.1)) (l.map (·.2)), l.map (·.2))

/-- The bytes of a plane row: samples of one parity, zero to the pitch (R69). -/
def planeRow (pitch par : Nat) (words : List Nat) : List Byte :=
  let b := ((words.zipIdx.filter fun w => w.2 % 2 == par).map fun w => leBytes 2 w.1).flatten
  b ++ List.replicate (pitch - b.length) 0

/-- One sample's part of the raw statistics (R72). -/
def statSample (st : RawStat) (zone c bin num : Nat) (mark : Bool) : RawStat :=
  let add := fun (m : Sparse Nat) (k v : Nat) => sset (fun _ => 0) m k (sget (fun _ => 0) m k + v)
  if mark then { st with defect := add st.defect zone 1 }
  else { st with hist := add st.hist (256 * c + bin) 1, sum := add st.sum (4 * zone + c) num, num := add st.num (4 * zone + c) 1 }

/-- Zone of the cell whose top-left sample is at (2k, 2q) (R72). -/
def zoneOf (w h k q : Nat) : Nat :=
  let j := ((List.range 32).filter fun j => decide (2 * (j * w / 64) ≤ 2 * q)).length - 1
  let i := ((List.range 24).filter fun i => decide (2 * (i * h / 48) ≤ 2 * k)).length - 1
  32 * i + j

/-- The statistics of one exposure's row pair: for each cell the samples of its placed rows; a sample whose y is NaN is marked
(R68). -/
def State.gather (s : State) (f : Frame) (i e k : Nat) (rows : List (Nat × List Nat × List Bool)) : RawStat :=
  let m := f.pset
  let cfa := psFld m (rfeA i) 0 3
  (List.range (f.width / 2)).foldl (fun st q =>
    let z := zoneOf f.width f.height k q
    let cell := (rows.map fun r => [2 * q, 2 * q + 1].map fun x => (r.1, x, r.2.1.getD x 0, r.2.2.getD x false)).flatten
    let st1 := cell.foldl (fun st p =>
      let c := planeOf cfa p.1 p.2.1
      let n := p.2.2.1 / 2
      let d := planeDen m i c
      let y := s.curveOf m i e n d
      let bin := if bitAt (psWord m (rfeA i)) 7 then
          (match y with
            | .inf sg => if sg then 0 else 255
            | v => (max 0 (min 255 (ratOf v * 256).floor)).toNat)
        else min 255 (256 * n / d)
      statSample st z c bin n (p.2.2.1 % 2 == 1 || y == .nan)) st
    let add := fun (m : Sparse Nat) (k v : Nat) => sset (fun _ => 0) m k (sget (fun _ => 0) m k + v)
    { st1 with cells := st1.cells + 1, sat := if cell.any fun p => p.2.2.2 then add st1.sat z 1 else st1.sat }) f.stat

/-- Whether a ring slot holds a pair that an unfinished band's window contains (R24, R70). -/
def Strm.slotBusy (t : Strm) (n slot : Nat) : Bool :=
  t.frames.any fun f => (List.range f.pairs).any fun j =>
    decide ((f.slot0 + j) % n = slot) && f.bands.zipIdx.any fun b =>
      !b.1.complete && decide (b.2 * f.bandRows ≤ 2 * j + 1 + f.halo) && decide (2 * j < (b.2 + 1) * f.bandRows + f.halo)

/-- A row of the store. -/
def storedRow (x : Slot) (fr e r : Nat) : Option Row := x.store.find? fun w => w.frame == fr && w.exp == e && w.row == r

/-- The rows of the next pair of a frame, by exposure: both rows, or the last even row twice when the frame ended after it
(R34, R51; log 17). The flag says that the odd row is a replicate. -/
def pairRows (x : Slot) (f : Frame) : Option (List (Row × Row) × Bool) :=
  let k := f.pairs
  let l := (List.range f.exps).filterMap fun e =>
    match storedRow x f.rxCount e (2 * k), storedRow x f.rxCount e (2 * k + 1) with
    | some a, some b => some ((a, b), false)
    | some a, none => if f.ended ∧ f.rows = 2 * k + 1 then some ((a, { a with row := 2 * k + 1 }), true) else none
    | none, _ => none
  if l.length = f.exps then some (l.map (·.1), l.any (·.2)) else none

/-- Parity of the columns of a plane. -/
def planePar (cfa c : Nat) : Nat := if planeOf cfa 0 1 = c ∨ planeOf cfa 1 1 = c then 1 else 0

/-- The ring slot of pair k of a frame (R69). -/
def Frame.ringSlot (f : Frame) (n k : Nat) : Nat := (f.slot0 + k) % max n 1

/-- The pair and the plane that hold what plane c of pair k reads as: its own, or for a pair that an ended frame lacks the last
pair's odd row, which is or replicates the last row received (R34). -/
def Frame.ringSource (f : Frame) (i k c : Nat) : Nat × Nat :=
  if f.ended && decide (f.pairs ≤ k) then
    let cfa := psFld f.pset (rfeA i) 0 3
    (f.pairs - 1, 4 * (c / 4) + planeOf cfa 1 (planePar cfa (c % 4)))
  else (k, c)

/-- Address of position q of plane c (exposure × 4 + plane) of a pair of a frame (R69, R34). -/
def Frame.ringAddr (f : Frame) (i : Nat) (en : BindEntry) (k c q : Nat) : Nat :=
  let pitch := cdiv f.width 128 * 128
  let o := f.ringSource i k c
  en.ringBase + f.ringSlot en.ringSlots o.1 * (4 * f.exps * pitch) + o.2 * pitch + 2 * q

/-- The address that holds what a ring address reads as for a frame: another one only in the slot of a pair that the ended
frame lacks (R34). -/
def Frame.ringRead (f : Frame) (i : Nat) (en : BindEntry) (a : Nat) : Nat :=
  let pitch := cdiv f.width 128 * 128
  let slot := 4 * f.exps * pitch
  let n := max en.ringSlots 1
  let o := a - en.ringBase
  if a < en.ringBase ∨ n * slot ≤ o ∨ slot = 0 then a
  else
    let k := (o / slot + n - f.slot0 % n) % n
    if k < f.height / 2 then f.ringAddr i en k (o % slot / pitch) 0 + o % pitch else a

/-- One exposure of a pair written into the ring, with its levels for the next pair. -/
def State.ringWrite (s : State) (f : Frame) (i base e : Nat) (a b : List Nat) : State :=
  let m := f.pset
  let cfa := psFld m (rfeA i) 0 3
  let pitch := cdiv f.width 128 * 128
  let words := fun (r : Nat) (l : List Nat) => l.zipIdx.map fun v =>
    sampleWord (s.curveOf m i e (v.1 / 2) (planeDen m i (planeOf cfa r v.2))) (v.1 % 2 == 1)
  forEach [(0, a), (1, b)] (fun r s =>
    forEach [0, 1] (fun par s =>
      s.blockWrite 0x90 (who 8 i) (base + (4 * e + planeOf cfa r.1 par) * pitch) (planeRow pitch par (words r.1 r.2))) s) s

/-- ROW_PAIR_COMMIT (R62 to R72): the next row pair of a stream goes into the ring and is committed, or it waits for a slot.
With CFG.STAT_EXP at or above the stream's exposures the pair adds nothing to the raw statistics (DESIGN CHOICE, log 112). -/
def State.commitPair (s : State) (i : Nat) : State :=
  let x := s.slot i
  let t := s.strm i
  match x.store.head?.bind (fun w => t.frames.find? fun f => f.rxCount == w.frame), t.entry with
  | some f, some en =>
    match pairRows x f with
    | none => s
    | some (rows, repl) =>
      if t.slotBusy en.ringSlots t.ringHead then
        if t.stalled then s else (s.setStrm i { t with stalled := true }).event pgRfe 2
      else
        let k := f.pairs
        let base := en.ringBase + t.ringHead * (4 * f.exps * (cdiv f.width 128 * 128))
        let up := fun (e par : Nat) => ((((f.prev.getD e []).find? fun w => w.row % 2 == par).map (·.px)).getD [])
        let lv := rows.zipIdx.map fun p =>
          let a := s.levels f i p.1.1 (up p.2 0)
          let b := s.levels f i p.1.2 (up p.2 1)
          (a, b)
        let s1 := forEach lv.zipIdx (fun v s => s.ringWrite f i base v.2 v.1.1.1 v.1.2.1) s
        let se := psFld f.pset (rfeA i) 10 2
        let st := match lv[se]? with
          | some v => s.gather f i se k ((2 * k, v.1) :: if repl then [] else [(2 * k + 1, v.2)])
          | none => f.stat
        let prev := lv.zipIdx.map fun v =>
          ([⟨f.rxCount, v.2, 2 * k, v.1.1.1, false, false⟩, ⟨f.rxCount, v.2, 2 * k + 1, v.1.2.1, false, false⟩] : List Row)
        let s2 := s1.setFrame i { f with pairs := k + 1, slot0 := if k = 0 then t.ringHead else f.slot0, stat := st, prev := prev }
        let s3 := s2.setStrm i { s2.strm i with ringHead := (t.ringHead + 1) % max en.ringSlots 1, stalled := false }
        let s4 := s3.setSlot i { s3.slot i with store := x.store.filter fun w =>
          !(w.frame == f.rxCount && decide (w.row ≤ 2 * k + 1)) }
        s4.drawn.checkReady i
  | _, _ => s

/-- RING_SLOT_RESUME (R70): the waiting pair is written once its slot is free. -/
def State.ringResume (s : State) (i : Nat) : State := if (s.strm i).stalled then s.commitPair i else s

/-- A write to a curve table (R67): ignored with TABLE_BUSY while an enabled stream's live set uses it. -/
def State.curveWrite (s : State) (t k : Nat) (w : Word) : State :=
  if (List.range 64).any fun i => s.slotEn i && psCurve s.live i == 4 + t then s.fail pgRfe 1 (5 + 256 * 0xFF) 0
  else
    let v := fld w 0 15 + 65536 * (if k = 256 then 0 else fld w 16 15)
    { s with regs := sset resetWord s.regs (0x143000 + 0x800 * t + 4 * k) (BitVec.ofNat 32 v) }

end Sys2Proof.Machine
end

