-- ==== Sys2Proof/Machine/EngOps.lean ====
section
/-! DEFINITION. An engine at work (R82 to R112, R139 to R150): issue and start of unit commands, the scoreboard, fetches into
staging, ring lines and credits, tacks, replays, and the completion of a stripe. -/

namespace Sys2Proof.Machine

open Sys2Proof

/-! Queues (Table 05-4). -/

/-- The queue of a unit. -/
def Engine.queue (g : Engine) : EngUnit → List Issued
  | .matrix => g.matrixQ
  | .vector => g.vectorQ
  | .mover => g.moverQ

/-- The queue of a unit replaced. -/
def Engine.setQueue (g : Engine) (u : EngUnit) (l : List Issued) : Engine :=
  match u with
  | .matrix => { g with matrixQ := l }
  | .vector => { g with vectorQ := l }
  | .mover => { g with moverQ := l }

/-- The stripe that executes, while it may issue and start commands. -/
def Engine.running (g : Engine) : Option Exec :=
  match g.exec with
  | some x => if x.abandoned || g.frozen || g.fenced || g.resetting then none else some x
  | none => none

/-! The scoreboard (R96). -/

/-- First line and lines of a range of a tile. -/
def State.lines (s : State) (t : Nat) (p : Place) (n : Nat) : Nat × Nat :=
  let o := 128 * (s.region t p.region).base + p.off
  (o / 128, if n = 0 then 0 else (o + n - 1) / 128 - o / 128 + 1)

/-- Two ranges of lines share one. -/
def overlaps (a b : Nat × Nat) : Bool := decide (a.1 < b.1 + b.2) && decide (b.1 < a.1 + a.2)

/-- An entry holds back readers of its range: a FILL, or an INBOUND with credits out or void. -/
def SbEntry.blocks (b : SbEntry) : Bool := b.kind == 1 || (b.kind == 3 && (b.isVoid || b.out != 0))

/-- Whether the ranges that a command reads are all there. -/
def State.landed (s : State) (e : Nat) (c : UnitCmd) : Bool :=
  let g := s.eng e
  (c.reads g).all fun r => g.sb.all fun b => !(b.blocks && overlaps (b.base, b.len) (s.lines e r.2.1 r.2.2))

/-! Starting commands (R83, R85, R89). -/

/-- A command is an MM, or a DRAIN, of a tile. -/
def UnitCmd.mmOf (c : UnitCmd) (t : Nat) : Bool := match c with | .mm m => m.tile.val == t | _ => false
/-- A command is a DRAIN of a tile. -/
def UnitCmd.drainOf (c : UnitCmd) (t : Nat) : Bool := match c with | .drain m => m.tile.val == t | _ => false
/-- A command is a WSET. -/
def UnitCmd.isWset (c : UnitCmd) : Bool := match c with | .wset _ => true | _ => false
/-- A command is an MM. -/
def UnitCmd.isMm (c : UnitCmd) : Bool := match c with | .mm _ => true | _ => false

/-- Whether a command may start, after those that its unit has started: one WSET and one MM at a time in the matrix unit,
SWAP after every earlier WSET (R83), the accumulator interlock by issue order (R85), one command at a time elsewhere. -/
def Engine.mayStart (g : Engine) (before : List Issued) (c : Issued) : Bool :=
  match c.cmd with
  | .wset _ => !before.any fun x => x.cmd.isWset
  | .mm m => !(before.any fun x => x.cmd.isMm) && !(m.swap && before.any fun x => x.cmd.isWset) &&
      g.vectorQ.all fun x => !(x.cmd.drainOf m.tile && decide (x.num < c.num)) || x.started
  | .drain d => before.isEmpty && g.matrixQ.all fun x => !(x.cmd.mmOf d.tile && decide (x.num < c.num))
  | _ => before.isEmpty

/-- The gusset column compares: CHECKING, in the window of a working column, no test under way (R101). -/
def Check.compares (c : Check) : Bool := c.state == 0 && decide (c.window < 256) && c.kat.isNone

/-- A mismatch (R103): counted, the stripe abandoned, the known-answer tests start. -/
def State.mismatch (s : State) (e : Nat) (forced : Bool) : State :=
  let g := s.eng e
  let c := g.check
  let s1 := s.setEng e { (g.abandon 3 []) with check := { c with kat := some c.window, forced := forced, inject := false } }
  (s1.bump (pgEng e) 0x114 16 16 1).fail (pgEng e) 0 (3 + 256 * c.window + 65536 * g.jobSlot) 0

/-- An accumulator word fails parity (R86). -/
def State.accParity (s : State) (e tile row col : Nat) : State :=
  let g := s.eng e
  let w := tile + 8 * (row * 256 + col)
  let s1 := (s.setEng e (g.abandon 2 [])).bump (pgAcc e) 0x20 0 16 1
  ((s1.setReg (pgAcc e) 0x28 (BitVec.ofNat 32 w)).event (pgAcc e) 0).cause (pgEng e) (2 + 65536 * g.jobSlot) w

/-- A vector-unit or scalar-core error (classes 0x0A, 0x0B): a replay; the third within 1 s on the engine fences it. -/
def State.datapathError (s : State) (e cls : Nat) : State :=
  let g := s.eng e
  let l := (g.scalarErrs.filter fun t => decide (s.clk.up < t + 1000000000)) ++ [s.clk.up]
  let s1 := s.setEng e { (g.abandon cls []) with scalarErrs := l }
  if 3 ≤ l.length then s1.owe (.fence e false cls) else s1

/-- What the checks of a command find once it has run (R86, R102, class 0x0A). -/
def State.checkCmd (s : State) (e : Nat) : UnitCmd → State
  | .mm m =>
    let c := (s.eng e).check
    let s1 := if c.compares && (c.inject || s.gussetDiffers e m) then s.mismatch e c.inject else s
    match m.upset with
    | .accParity r k => if m.accumulate then s1.accParity e m.tile r k else s1
    | _ => s1
  | .drain d => match d.upset with
    | .accParity r k => s.accParity e d.tile r k
    | _ => s
  | .vop v => if v.upset == .residue then s.datapathError e 0x0A else s
  | _ => s

/-- The grants at the tile-ring stops for n lines of a leaf from tile t to tile u (Table 10-4): local injection at its own stop, then
a through input at each stop between, in the shorter direction, clockwise at 3 hops (R143). -/
def State.grantRing (s : State) (t u leaf n : Nat) : State :=
  let up := (u + 6 - t) % 6
  let hops := min up (6 - up)
  let stop := fun (k : Nat) => if up ≤ 3 then (t + k) % 6 else (t + 6 - k) % 6
  forEach (List.range n) (fun _ s =>
    forEach (List.range (hops - 1)) (fun k s => s.grant 1 (stop (k + 1)) (if up ≤ 3 then 0 else 1) leaf) (s.grant 1 t 2 leaf)) s

/-- The lines that a PUT can send now go onto the ring, each for a credit (R144). -/
def State.sendPut (s : State) (e : Nat) : State :=
  let g := s.eng e
  match g.moverQ with
  | c :: l =>
    match c.cmd with
    | .put p =>
      let key := 32 * p.tile.val + p.region.val
      let have_ := sget (fun _ => 0) g.credits key
      let n := min c.waitCredits have_
      let run := (g.exec.map (·.run)).getD 0
      if c.started && decide (0 < n) then
        let first := p.lines - c.waitCredits
        let data := (List.range n).map fun i =>
          (⟨e, run, p.region, (s.region p.tile p.region).base, p.line + first + i,
            s.bytes (s.addrOf e p.src + 128 * (first + i)) 128⟩ : RingLine)
        let g1 : Engine := { g with moverQ := { c with waitCredits := c.waitCredits - n } :: l
                                    credits := sset (fun _ => 0) g.credits key (have_ - n)
                                    exec := g.exec.map fun x => { x with unacked := x.unacked + n } }
        let s1 := ((s.setEng e g1).bump (pgSmem e) 0x114 0 32 n).grantRing e p.tile.val ((g.exec.map fun x => x.work.leaf).getD 0) n
        let t := s1.tile p.tile
        s1.setTile p.tile { t with incoming := t.incoming ++ data }
      else s
    | _ => s
  | [] => s

/-- The next command of a unit started, when it may: its accesses are checked first (R109, R140), then the parity of what it reads
(R147), then it has its effect. -/
def State.startNext (s : State) (e : Nat) (u : EngUnit) : State :=
  let g := s.eng e
  let before := (g.queue u).takeWhile (·.started)
  match g.running, (g.queue u).dropWhile (·.started) with
  | some x, c :: rest =>
    if g.mayStart before c && s.landed e c.cmd then
      let spans := ((c.cmd.reads g).map fun r => (false, r)) ++ (c.cmd.writes.map fun w => (true, w))
      match spans.findSome? fun r => (s.spanFault e x.work.job r.1 r.2).map fun f => (r.2, f) with
      | some y => (s.setEng e (g.setQueue u (before ++ rest))).refuseAccess e x.work.job y.1 y.2
      | none =>
      match s.badWords e (c.cmd.reads g) with
      | some b => s.parityReread e b.1 true b.2.1 0 b.2.2
      | none =>
        let g1 := g.setQueue u (before ++ { c with started := true } :: rest)
        let s1 := s.setEng e { g1 with exec := some { x with slipFrom := none } }
        let s2 := match x.slipFrom with
          | some t => s1.addSlip e (s.clk.up - t)
          | none => s1
        ((s2.runCmd e c.cmd).sendPut e).checkCmd e c.cmd
    else s
  | _, _ => s

/-- Every unit starts what it can. -/
def State.pump (s : State) (e : Nat) : State :=
  [EngUnit.matrix, .vector, .mover, .matrix, .vector, .mover].foldl (fun s u => s.startNext e u) (s.sendPut e)

/-- An MM whose every row reads its tap position from the selvedge of a zero fill: it is not issued (R169, log 46). -/
def UnitCmd.needless (c : UnitCmd) : Bool := match c with | .mm m => m.selvedgeZero | _ => false

/-- A command issued by the scalar core (R89, R99): not while a tack holds it, the queue is full, or the stripe is abandoned
or signalled, and not an MM that R169 leaves out. -/
def State.issueCmd (s : State) (e : Nat) (c : UnitCmd) : State :=
  let g := s.eng e
  let u := c.unit
  match g.running with
  | some x =>
    if g.tack.isSome || x.signalled || c.needless || decide (16 ≤ (g.queue u).length) then s
    else
      let wait := match c with | .put p => p.lines | _ => 0
      let g1 := g.setQueue u (g.queue u ++ [⟨g.issue, c, false, wait⟩])
      (s.setEng e { g1 with issue := g.issue + 1, exec := some { x with stripeTack := false } }).pump e
  | none => s

/-- The oldest started command of a unit completes; a PUT once every line is sent and acknowledged (Table 05-3). -/
def State.completeCmd (s : State) (e : Nat) (u : EngUnit) : State :=
  let g := s.eng e
  match g.queue u with
  | c :: l =>
    let out := match g.exec with | some x => x.unacked | none => 0
    let open_ := match c.cmd with | .put _ => decide (0 < c.waitCredits) || decide (0 < out) | _ => false
    if c.started && !open_ then (s.setEng e (g.setQueue u l)).pump e else s
  | [] => s

/-! Tacks (R99). -/

/-- A TACK issued. -/
def State.issueTack (s : State) (e mask : Nat) (stripe : Bool) : State :=
  let g := s.eng e
  match g.running with
  | some x =>
    if g.tack.isSome || x.signalled then s
    else s.setEng e { g with tack := some ⟨mask, stripe, g.issue⟩, issue := g.issue + 1
                             exec := some { x with stripeTack := stripe } }
  | none => s

/-- Whether a tack's condition holds. -/
def Engine.tackHolds (g : Engine) (t : Tack) : Bool :=
  let clear := fun (b : Nat) (l : List Issued) => !t.mask.testBit b || l.all fun c => decide (t.num < c.num)
  let put := match g.exec with
    | some x => x.unacked == 0 && g.moverQ.all fun c => match c.cmd with | .put _ => false | _ => true
    | none => true
  clear 0 g.matrixQ && clear 1 g.vectorQ && clear 2 g.moverQ && (!t.stripe || put)

/-- The waiting tack released. -/
def State.releaseTack (s : State) (e : Nat) : State :=
  let g := s.eng e
  match g.tack with
  | some t => if g.tackHolds t then s.setEng e { g with tack := none } else s
  | none => s

/-- Bytes of an array's positions. -/
def Arr.bytes (a : Arr) (n : Nat) : Nat := if n = 0 then 0 else a.pitch * (n - 1) + a.pitch

/-- The ranges of the tile that SIGNAL names: stage 7, the history rows and the tap points of the stripe's core, or the parts of
a step's outputs (R94, R109). -/
def State.signalSpans (s : State) (w : Work) (out hist : Option Place) (taps : List (Nat × Arr)) (parts : List (Nat × Nat × Place × Nat)) :
    List (Nat × Place × Nat) :=
  let n := match s.workFrame w with
    | some f => let c := f.columns w.stripe; (c.2 - c.1) * (f.bottom w.band - f.top w.band)
    | none => 0
  let tap := fun (t : Nat × Arr) => match s.workFrame w, sourceOf (s.jobImage w.job) 1 t.1 with
    | some f, some y =>
      let c := f.columns w.stripe
      t.2.bytes ((cdiv c.2 y.1 - c.1 / y.1) * (cdiv (f.bottom w.band) y.1 - f.top w.band / y.1))
    | _, _ => 0
  (out.toList.map fun p => (1, p, 256 * n)) ++ (hist.toList.map fun p => (1, p, 128 * n)) ++ (taps.map fun t => (1, t.2.at_, tap t))
    ++ parts.map fun p => (1, p.2.2.1, p.2.2.2)

/-- Lines of the write buffer that a stripe's outputs need (log 101): its share of every output's bytes. -/
def State.bufferNeed (s : State) (w : Work) : Nat :=
  match s.workFrame w with
  | some f =>
    let c := f.columns w.stripe
    let n := (c.2 - c.1) * (f.bottom w.band - f.top w.band)
    ((f.outs.filter fun o => !o.2.skip).map fun o => cdiv ((f.outSet w.stream).bytes o.1 * n) (128 * max (f.width * f.height) 1)).sum
  | none => 0

/-- SIGNAL (R94, R99): refused with ILLEGAL_OP without a STRIPE tack right before it, and with a freeze when a place it names lies
outside the job's windows (R109). -/
def State.issueSignal (s : State) (e : Nat) (out hist : Option Place) (taps : List (Nat × Arr))
    (parts : List (Nat × Nat × Place × Nat)) : State :=
  let g := s.eng e
  match g.running with
  | some x =>
    if g.tack.isSome || x.signalled then s
    else if !x.stripeTack then s.cause (pgEng e) (5 + 65536 * g.jobSlot) 0
    else match (s.signalSpans x.work out hist taps parts).findSome? fun r => (s.spanFault e x.work.job false r).map fun f => (r, f) with
      | some y => s.refuseAccess e x.work.job y.1 y.2
      | none => s.setEng e { g with issue := g.issue + 1
                                    exec := some { x with signalled := true, outPlace := out, hist := hist, taps := taps, parts := parts
                                                          bufLines := min (s.bufferNeed x.work) (s.poolRoom 1 x.work.stream) } }
  | none => s

/-! Regions (R141, R142). -/

/-- Lines in use of a CIRCULAR region. -/
def Region.used (d : Region) : Nat := if d.headWrap = d.tailWrap then d.head - d.tail else d.size - d.tail + d.head

/-- A pointer moved on by `k` lines with its wrap bit. -/
def advancePtr (size p : Nat) (w : Bool) (k : Nat) : Nat × Bool := if size ≤ p + k then (p + k - size, !w) else (p + k, w)

/-- `n` lines allocated at the head: the region after it and the first line in the tile; none while they do not fit. -/
def Region.alloc (d : Region) (n : Nat) : Option (Region × Nat) :=
  let skip := if d.size < d.head + n then d.size - d.head else 0
  if d.mode ≠ 2 ∨ d.size - d.used < n + skip ∨ 8 ≤ d.recs.length then none
  else
    let h := advancePtr d.size d.head d.headWrap (n + skip)
    some ({ d with head := h.1, headWrap := h.2, recs := d.recs ++ [(n + skip, false)] }, if skip = 0 then d.base + d.head else d.base)

/-- The leading allocations that wait to be released freed. -/
def Region.sweep (d : Region) : Nat → Region
  | 0 => d
  | k + 1 =>
    match d.recs with
    | (n, true) :: l =>
      let t := advancePtr d.size d.tail d.tailWrap n
      Region.sweep { d with tail := t.1, tailWrap := t.2, recs := l } k
    | _ => d

/-- Allocation `i` of the recorded ones released; lines are freed in allocation order only. -/
def Region.free (d : Region) (i : Nat) : Region :=
  Region.sweep { d with recs := d.recs.zipIdx.map fun r => if r.2 = i then (r.1.1, true) else r.1 } 8

/-- The waiting allocations of a tile made as far as they fit, the oldest of each region first (R142). -/
def State.serveAllocs (s : State) (t : Nat) : State :=
  (s.tile t).waiting.foldl (fun s w =>
    let x := s.tile t
    let d := s.region t w.1
    match if x.waiting.any fun v => v.1 == w.1 then none else d.alloc w.2 with
    | some y => s.setRegion t w.1 y.1
    | none => if d.mode = 2 then s.setTile t { x with waiting := x.waiting ++ [w] } else s)
    (s.setTile t { s.tile t with waiting := [] })

/-- REGION_ALLOCATE (R141, R142): an allocation, after the release of the oldest one when the consumer makes it; it waits while
it does not fit. Of a BOUND inbound region the release frees the lines granted first (R144). -/
def State.allocRegion (s : State) (t r n : Nat) (release : Bool) : State :=
  let d := s.region t r
  let g := s.eng t
  let s1 := if !release then s
    else if d.mode = 1 then s.setEng t { g with granted := match g.granted.zipIdx.find? fun x => x.1.1 == r with
      | some x => g.granted.eraseIdx x.2
      | none => g.granted }
    else s.setRegion t r (d.free 0)
  if d.mode ≠ 2 ∨ n = 0 then s1.serveAllocs t
  else
    let x := s1.tile t
    (s1.setTile t { x with waiting := x.waiting ++ [(r, n)] }).serveAllocs t

/-! Fetching (R22, R28, R91, R96 to R98, R295). -/

/-- The base of the history buffer that holds frame n − m (R26, R28). -/
def State.histOf (s : State) (w : Work) (m : Nat) : Nat :=
  let t := s.strm w.stream
  t.histBase ((t.roleOf w.seq + 3 - m % 3) % 3)

/-- Motion offset k of a gather in quarters of a pixel, dx and dy (R27). DESIGN CHOICE (log 96): 4 bytes per block, row by row,
dx in the low half. -/
def State.motion (s : State) (e : Nat) (p : GatherPlan) (k : Nat) : Int × Int :=
  let o := leNat (s.bytes (s.addrOf e p.offs + 4 * k) 4)
  (sext 16 o, sext 16 (o / 65536))

/-- Where patch k of a gather starts, before the clamp of R28: column and row. -/
def State.patchAt (s : State) (e : Nat) (g : ImgStream) (p : GatherPlan) (k : Nat) : Int × Int :=
  let m := s.motion e p k
  (8 * (p.bx + k % max p.nx 1 : Nat) + m.1.fdiv 4 - g.margin, 8 * (p.by_ + k / max p.nx 1 : Nat) + m.2.fdiv 4 - g.margin)

/-- Where the patches of an entry's gather start. -/
def State.patchPlaces (s : State) (e : Nat) (w : Work) (f : FetchEntry) : List (Int × Int) :=
  match f.gather, (s.strm w.stream).img with
  | some p, some g => (List.range p.patches).map (s.patchAt e g p)
  | _, _ => []

/-- The index table of a gather (R27, R28): per block the address of the patch's first pixel, FRAC and HIST. -/
def State.buildIndex (s : State) (e : Nat) (w : Work) (p : GatherPlan) : State :=
  match s.workFrame w, (s.strm w.stream).img with
  | some f, some g =>
    forEach (List.range p.patches) (fun k s =>
      let m := s.motion e p k
      let q := s.patchAt e g p k
      let x := (clampI 0 (f.width - 1 : Nat) q.1).toNat
      let y := (clampI 0 (f.height - 1 : Nat) q.2).toNat
      let a := s.histOf w p.hist + 4 * (y * f.width + x)
      let frac := (m.1 % 4).toNat + 4 * (m.2 % 4).toNat
      s.tileWrite e (s.addrOf e p.table + 8 * k) (leBytes 8 (a + 2 ^ 48 * frac + 2 ^ 52 * (p.hist - 1)))) s
  | _, _ => s

/-- The access windows of a fetch (R109): the source in the job's DRAM ranges, the offsets and the table in its regions. -/
def State.fetchFault (s : State) (e : Nat) (w : Work) (f : FetchEntry) : Option ((Nat × Place × Nat) × (Nat × Nat)) :=
  let none_ : Nat × Place × Nat := (5, ⟨0, 0⟩, 0)
  if f.plane.isSome && f.gather.isNone then none
  else match f.gather with
  | some p =>
    [(false, ((1 : Nat), p.offs, 4 * p.patches)), (true, (4, p.table, 8 * p.patches))].findSome? fun r =>
      (s.spanFault e w.job r.1 r.2).map fun x => (r.2, x)
  | none =>
    if f.rows = 0 ∨ f.bytes = 0 ∨ (List.range f.rows).all fun r => inRanges (s.jobRanges w.job) (f.base + r * f.pitch) f.bytes then none
    else some (none_, (6, f.base))

/-- The first stripe of the ready queue that waits for an allocation, and its index. -/
def Engine.fetching (g : Engine) : Option (ReadyEntry × Nat) :=
  g.ready.zipIdx.find? fun r => r.1.gone == 0 && !r.1.waiting.isEmpty

/-- Scoreboard entry `i` replaced. -/
def Engine.setSb (g : Engine) (i : Nat) (b : SbEntry) : Engine := { g with sb := g.sb.set i b }

/-- Ready-queue stripe `i` replaced. -/
def Engine.setReady (g : Engine) (i : Nat) (r : ReadyEntry) : Engine := { g with ready := g.ready.set i r }

/-- The index table of a gather lies in a range that a HOLD keeps for another stripe: the fetch waits (R96). -/
def State.tableHeld (s : State) (e : Nat) (w : Work) (f : FetchEntry) : Bool :=
  match f.gather with
  | some p => (s.eng e).sb.any fun b => b.kind == 2 && !(match b.owner with | some o => sameUnit o w | none => false)
      && overlaps (b.base, b.len) (s.lines e p.table (8 * p.patches))
  | none => false

/-- The next fetch entry of the stripe in turn: a free scoreboard entry of the fetch engine's 14 and staging lines, or it
waits (R97, R142). The answer says whether it went on. -/
def State.fetchNext (s : State) (e : Nat) : State × Bool :=
  let g := s.eng e
  match g.fetching with
  | none => (s, false)
  | some (r, i) =>
    match r.waiting, s.staging e r.work.job with
    | f :: rest, some t =>
      if f.writes = 0 then (s.setEng e (g.setReady i { r with waiting := rest }), true)
      else match s.fetchFault e r.work f with
        | some y => (s.refuseAccess e r.work.job y.1 y.2, false)
        | none =>
          if s.tableHeld e r.work f then (s, false)
          else match (List.range 14).find? (fun k => (g.sb.getD k SbEntry.free).kind == 0), (s.region e t).alloc f.lines with
          | some k, some d =>
            let b : SbEntry := ⟨1, d.2, f.lines, some r.work, f.writes, false, 0, t, some f, [], [], s.patchPlaces e r.work f⟩
            let o := s.region e t
            let r1 : ReadyEntry := if r.allocs = 0 then { r with headPtr := o.head, headWrap := o.headWrap, records := o.recs.length } else r
            let s1 := (s.setEng e ((g.setSb k b).setReady i { r1 with waiting := rest, allocs := r.allocs + 1 })).setRegion e t d.1
            (match f.gather with
              | some p => s1.buildIndex e r.work p
              | none => s1, true)
          | _, _ => (s, false)
    | _, _ => (s, false)

/-- Fetch entries started one after another, as far as they go. -/
def State.fetchGo (s : State) (e : Nat) : Nat → State
  | 0 => s
  | n + 1 => let r := s.fetchNext e; if r.2 then r.1.fetchGo e n else r.1

/-- Every fetch entry that can start does. -/
def State.fetchAll (s : State) (e : Nat) : State := s.fetchGo e 64

/-- The basting distance for a unit (R91). -/
def State.basting (s : State) (e : Nat) (w : Work) : Nat :=
  let l := s.rfld (pgEng e) 8 4 4
  min (min (((s.jobImage w.job).map (·.basting)).getD 4) (if l = 0 then 1 else l)) 4

/-- The engine takes stripes: RUN, and neither frozen, fenced, in reset nor in self-test. -/
def State.takes (s : State) (e : Nat) : Bool :=
  let g := s.eng e
  bitAt (s.reg (pgEng e) 8) 0 && !g.frozen && !g.fenced && !g.resetting && g.selftest != 3

/-- A fetch entry of a stripe with the extent of its window (R22): core ± h in full-resolution pixels, half as many positions
of a plane. -/
def State.sized (s : State) (w : Work) (f : FetchEntry) : FetchEntry :=
  match s.workFrame w, f.plane, f.gather with
  | some fr, some _, none =>
    let c := fr.columns w.stripe
    { f with base := 0, pitch := 0, rows := (fr.bottom w.band - fr.top w.band) / 2 + fr.halo, bytes := 2 * ((c.2 - c.1) / 2 + fr.halo) }
  | _, _, _ => f

/-- The context of a job in a tile (R93). The spec gives its context block's fields and no layout: its content is taken from the
region descriptors and the image (log 98). -/
def State.jobContext (s : State) (e j : Nat) : Option JobContext :=
  (s.jobImage j).map fun m =>
    let before := (s.images.takeWhile fun r => some r.img.digest != (s.job j).map (·.digest)).map (·.img.programBytes)
    ⟨j, (List.range 32).filterMap fun r =>
        let d := s.region e r
        if d.mode != 0 && s.mayUse j d then some (r, d.base, d.size) else none,
      m.layers.map fun l => (l.sc, l.bc, l.ro, l.zo), before.sum⟩

/-- FETCH_START (R91): the head of the work queue moves to the ready queue with its fetch list; the fetch
engine takes the context of another job (R93). -/
def State.startFetch (s : State) (e : Nat) (plan : List FetchEntry) : State :=
  let g := s.eng e
  match g.work with
  | w :: l =>
    if s.takes e && g.ready.all (·.gone == 0) && decide (g.ready.length < s.basting e w) then
      let d := match s.staging e w.job with | some t => s.region e t | none => Region.unused
      let r : ReadyEntry := ⟨w, d.head, d.headWrap, d.recs.length, plan.map (s.sized w), 0, 0, false⟩
      let c := if (g.fetchCtx.map (·.job)) = some w.job then g.fetchCtx else s.jobContext e w.job
      ((s.setEng e { g with work := l, ready := g.ready ++ [r], fetchCtx := c }).placeWaiting).fetchAll e
    else s
  | [] => s

/-- 0x8000 in every sample word: value 0 with the defect mark (R68). -/
def marked (n : Nat) : List Byte := (List.range n).map fun i => if i % 2 = 1 then 0x80 else 0

/-- A sector read by an engine for a unit. -/
def State.engRead (s : State) (e : Nat) (w : Work) (a : Nat) : State × ReadResp := (s.granted (who e w.leaf) a).readSector e a

/-- A range of DRAM for a fetch by a stripe: lost sectors of a band ring read as 0x8000 (Table 11-5), and slots of pairs that its
ended frame lacks as the last row received (R34); validity, and poison elsewhere. -/
def State.fetchRange (s : State) (e : Nat) (w : Work) (a n : Nat) : State × List Byte × Bool × Bool :=
  let ring := s.inRing w.job a n
  let from_ := fun (b : Nat) => match s.workFrame w, (s.strm w.stream).entry with
    | some f, some en => f.ringRead w.stream en b
    | _, _ => b
  (sectorsOf a n).foldl (fun (x : State × List Byte × Bool × Bool) b =>
    let y := x.1.engRead e w (from_ b)
    let lo := max a b
    let part := ((if y.2.poison && ring then marked 64 else y.2.data).drop (lo - b)).take (min (a + n) (b + 64) - lo)
    (y.1, x.2.1 ++ part, x.2.2.1 && y.2.valid, x.2.2.2 || (y.2.poison && !ring))) (s, [], true, false)

/-- Where a sample word of the band ring comes from: an address, or a word without one. -/
inductive RingPlace where
  | at_ (a : Nat)
  | word (w : Nat)
  deriving DecidableEq, Repr

/-- Position q of plane c of pair k of a frame. A frame that ended before any row has no last row to replicate: free words
(log 97). -/
def State.ringPlace (s : State) (i : Nat) (f : Frame) (en : BindEntry) (k c q : Nat) : RingPlace :=
  if f.ended && f.pairs == 0 then .word (Config.freeNat (s.free + (c * 16384 + k) * 16384 + q) % 65536)
  else .at_ (f.ringAddr i en k c q)

/-- Position (y, x) of plane c of the padded frame (R22): in the selvedge by the padding mode of the image's first group, whose
constant is taken as a sample word without a mark (log 97). -/
def State.windowPlace (s : State) (i : Nat) (f : Frame) (en : BindEntry) (g : ImgStream) (c : Nat) (y x : Int) : RingPlace :=
  let n := f.height / 2
  let m := f.width / 2
  if 0 ≤ y ∧ y < n ∧ 0 ≤ x ∧ x < m then s.ringPlace i f en y.toNat c x.toNat
  else if g.padMode = 0 then .word 0
  else if g.padMode = 3 then .word (sampleWord (f32Of g.padConst) false)
  else s.ringPlace i f en (padIndex g.padMode y n) c (padIndex g.padMode x m)

/-- The sample words at a list of places, each sector read once; lost ones as 0x8000 (Table 11-5). -/
def State.ringWords (s : State) (w : Nat) (l : List RingPlace) : State × List Nat :=
  let secs := (l.filterMap fun p => match p with | .at_ a => some (a / 64 * 64) | .word _ => none).dedup
  let r := secs.foldl (fun (x : State × List (Nat × List Byte)) b =>
    let y := (x.1.granted w b).readSector (w % 16) b
    (y.1, x.2 ++ [(b, if y.2.poison then marked 64 else y.2.data)])) (s, [])
  (r.1, l.map fun p => match p with
    | .at_ a => leAt (((r.2.find? fun b => b.1 == a / 64 * 64).map (·.2)).getD []) (a % 64) 2
    | .word w => w)

/-- Line `k` of a fetched window: 64 positions of a row (R22, R98). -/
def State.windowLine (s : State) (e : Nat) (w : Work) (l : FetchEntry) (c k : Nat) : State × List Byte :=
  match s.workFrame w, (s.strm w.stream).entry, (s.strm w.stream).img with
  | some f, some en, some g =>
    let n := cdiv l.bytes 128
    let y : Int := (f.top w.band / 2 + k / n : Nat) - (f.halo / 2 : Nat)
    let x : Int := ((f.columns w.stripe).1 / 2 + k % n * 64 : Nat) - (f.halo / 2 : Nat)
    let r := s.ringWords (who e w.leaf) ((List.range (min 64 (l.bytes / 2 - k % n * 64))).map fun q =>
      s.windowPlace w.stream f en g c y (x + q))
    (r.1, (r.2.map (leBytes 2)).flatten)
  | _, _, _ => (s, [])

/-- One row of a gathered patch (R27, R29, R295): the row of the history frame, the part outside the frame replicated from its
nearest edge; the answer says whether every sector was valid, and poison. -/
def State.gatherRow (s : State) (e : Nat) (w : Work) (p : GatherPlan) (at_ : Int × Int) (r : Nat) :
    State × List Byte × Bool × Bool :=
  match s.workFrame w with
  | none => (s, [], false, false)
  | some f =>
    let base := s.histOf w p.hist
    let col := fun (q : Nat) => (clampI 0 (f.width - 1 : Nat) (at_.1 + q)).toNat
    let y := (clampI 0 (f.height - 1 : Nat) (at_.2 + r)).toNat
    let x := col 0
    let n := col (p.width / 4 - 1) + 1 - x
    let q := (sectorsOf (base + 4 * (y * f.width + x)) (4 * n)).foldl (fun (z : State × List Byte × Bool × Bool) b =>
      let v := z.1.engRead e w b
      (v.1, z.2.1 ++ v.2.data, z.2.2.1 && v.2.valid && !v.2.poison, z.2.2.2 || v.2.poison)) (s, [], true, false)
    let px := (q.2.1.drop ((base + 4 * (y * f.width + x)) % 64)).take (4 * n)
    (q.1, ((List.range (p.width / 4)).map fun k => (px.drop (4 * (col k - x))).take 4).flatten, q.2.2.1, q.2.2.2)

/-- The valid bits of a gather, written after its last patch, and its counts (R295). -/
def State.gatherDone (s : State) (e : Nat) (b : SbEntry) (p : GatherPlan) : State :=
  let bits := (List.range p.patches).foldl (fun m k => if b.bad.contains k then m else m + 2 ^ k) 0
  let s1 := s.tileWrite e (tileBase e + 128 * b.base + p.patches * p.rows * p.slot) (leBytes (cdiv p.patches 8) bits)
  (s1.bump pgDma (0x100 + 4 * e) 0 32 p.patches).bump pgDma (0x120 + 4 * e) 0 32 ((List.range p.patches).filter b.bad.contains).length

/-- Whether the stripe of an entry is cancelled. -/
def Engine.isGone (g : Engine) (w : Work) : Bool := g.ready.any fun r => r.gone != 0 && sameUnit r.work w

/-- A poisoned fetch of a stripe in the ready queue (R258): the stripe is abandoned, at once or when its turn comes. -/
def Engine.poisonUnit (g : Engine) (w : Work) : Engine :=
  if (match g.exec with | some x => sameUnit x.work w | none => false) then g.abandon 0x10 []
  else { g with ready := g.ready.map fun r => if sameUnit r.work w then { r with poisoned := true } else r }

/-- FETCH_LINE_LAND (R96, R258, R295): a line or patch row is read and written to staging; the last one turns the FILL into a
HOLD. Data for a cancelled stripe is dropped; poison outside rings and history abandons the stripe. -/
def State.fetchLand (s : State) (e : Nat) (l : FetchLand) : State :=
  let g := s.eng e
  let b := g.sb.getD l.entry SbEntry.free
  match b.plan, b.owner with
  | some f, some w =>
    if b.kind ≠ 1 ∨ f.writes ≤ l.line ∨ b.landed.contains l.line then s
    else
      let store := fun (s : State) (o : Nat) (d : List Byte) => if g.isGone w then s else s.tileWrite e (tileBase e + 128 * b.base + o) d
      let r : State × SbEntry × Bool := match f.gather with
        | some p =>
          let k := l.line / max p.rows 1
          let v := s.gatherRow e w p (b.pos.getD k (0, 0)) (l.line % max p.rows 1)
          let s1 := store v.1 (l.line * p.slot) v.2.1
          let s2 := if v.2.2.2 then s1.setStrm w.stream { s1.strm w.stream with unverified := true } else s1
          (s2, { b with bad := if v.2.2.1 && !l.failed || b.bad.contains k then b.bad else b.bad ++ [k] }, false)
        | none =>
          let n := cdiv f.bytes 128
          let c := l.line % n * 128
          let a := f.base + l.line / n * f.pitch + c
          let pad := fun (d : List Byte) => d ++ List.replicate (128 - d.length) 0
          match f.plane with
          | some p =>
            let v := s.windowLine e w f p l.line
            (store v.1 (128 * l.line) (pad v.2), b, false)
          | none =>
            let v := s.fetchRange e w a (min 128 (f.bytes - c))
            (store v.1 (128 * l.line) (pad v.2.1), b, v.2.2.2)
      let b1 : SbEntry := { r.2.1 with landed := b.landed ++ [l.line], out := b.out - 1, kind := if b.out ≤ 1 then 2 else 1 }
      let s1 := r.1.setEng e ((r.1.eng e).setSb l.entry b1)
      let s2 := match f.gather with
        | some p => if b.out ≤ 1 && !g.isGone w then s1.gatherDone e b1 p else s1
        | none => s1
      let s3 := if r.2.2 && !g.isGone w then
          let a := f.base + l.line / max (cdiv f.bytes 128) 1 * f.pitch
          let s3 := (s2.setEng e ((s2.eng e).poisonUnit w)).owe (.damaged a)
          if w.tensor && !(s.images.any fun r => decide (r.addr ≤ a) && decide (a < r.addr + r.size)) then s3.poisonStep w.job
          else s3
        else s2
      s3.pump e
  | _, _ => s

/-! Executing a stripe (R92, R93, R227). -/

/-- The band of a unit, for SLIP. -/
def Work.bandKey (w : Work) : Nat × Nat × Nat := if w.tensor then (64 + w.job, w.seq, 0) else (w.stream, w.seq, w.band)

/-- The band of a rendering unit changed. -/
def State.withBand (s : State) (w : Work) (f : Band → Band) : State :=
  if w.tensor then s else match s.frameOf w.stream w.seq with
    | some fr => s.setFrame w.stream (fr.setBand w.band f)
    | none => s

/-- The zone means that a stripe's tone and colour network takes (R74): those of the previous frame, in the pipeline still or
closed; none after a job start. -/
def State.zonesFor (s : State) (w : Work) : Option (List Nat) :=
  if w.tensor then none
  else match s.frameOf w.stream ((w.seq + 2 ^ 32 - 1) % 2 ^ 32) with
    | some f => some (zoneMeans w.stream f)
    | none => (s.strm w.stream).zones

/-- A frame of which a stripe starts under a reduced variant carries DEGRADED (R34). -/
def State.markDegraded (s : State) (w : Work) : State :=
  match s.workFrame w with
  | some f => if (f.bands[w.band]?).any (·.degraded) then s.setFrame w.stream { f with flags := f.flags ||| 0x200 } else s
  | none => s

/-- STRIPE_EXECUTE_START (R92): the head of the ready queue starts, after a reload of the context when its job is another
than the last stripe's (R93); SLIP restarts with another band. A stripe whose fetch was poisoned is abandoned (R258). -/
def State.startStripe (s : State) (e : Nat) : State :=
  let g := s.eng e
  match g.exec, g.ready with
  | none, r :: _ =>
    if r.gone == 0 && s.takes e then
      let w := r.work
      let slip := if g.slipBand = some w.bandKey then g.slip else 0
      let x : Exec := ⟨w, s.clk.up, false, [], false, false, 0, g.runs, slip, 0, none, s.zonesFor w, none, none, [], []⟩
      let g1 : Engine := { g with
        exec := some x, lastJob := some w.job, execCtx := if g.lastJob = some w.job then g.execCtx else s.jobContext e w.job
        runs := g.runs + 1, matrixQ := [], vectorQ := [], moverQ := [], tack := none, slip := slip, slipBand := some w.bandKey }
      (s.markDegraded w).setEng e (if r.poisoned then g1.abandon 0x10 [] else g1)
    else s
  | _, _ => s

/-! Replays (R103, R149). -/

/-- Commands in flight on an engine. -/
def Engine.inFlight (g : Engine) : Bool := !(g.matrixQ.isEmpty && g.vectorQ.isEmpty && g.moverQ.isEmpty)

/-- STRIPE_REPLAY_START: the abandoned stripe's program starts again once nothing is in flight and the tests have ended;
not a cancelled stripe, and not after both tests failed (Table 05-6). -/
def State.startReplay (s : State) (e : Nat) : State :=
  let g := s.eng e
  match g.exec, g.ready with
  | some x, r :: _ =>
    if x.abandoned && !g.inFlight && g.check.kat.isNone && g.check.state != 3 && r.gone == 0 && s.takes e then
      let w : Work := { x.work with replay := true }
      let y : Exec := ⟨w, x.start, false, x.failWords, false, false, 0, g.runs, x.slip0, 0, some (x.slipFrom.getD x.start), x.zones, none, none, [], []⟩
      let s1 := (s.returnCredits e).setEng e { (s.returnCredits e).eng e with
        exec := some y, runs := g.runs + 1, ready := { r with work := w } :: g.ready.tail }
      ((s1.withBand w fun b => { b with replayed := true }).bump (pgEng e) 0x118 8 8 1).event (pgEng e) 4
    else s
  | _, _ => s

/-! Ring lines and credits (R143 to R146). -/

/-- Lines of an inbound region neither under credit nor still held by their consumer (R144, log 44). -/
def State.freeLines (s : State) (e r : Nat) : Nat :=
  (s.region e r).size - ((s.eng e).granted.map fun x => if x.1 == r then x.2.1 else 0).sum

/-- CREDIT_GRANT (R144): the receiver's INBOUND entry and the sender's credits, with which its waiting PUT goes on; a void entry is granted again to the next
run (R146), and a grant to a frozen sender comes back at once (Table 07-7). -/
def State.grantCredits (s : State) (e sender r n : Nat) : State :=
  let g := s.eng e
  let give := fun (s : State) =>
    let h := s.eng sender
    (s.setEng sender { h with credits := sset (fun _ => 0) h.credits (32 * e + r) (sget (fun _ => 0) h.credits (32 * e + r) + n) }).pump
      sender
  let note := fun (g : Engine) => { g with granted := g.granted ++ [(r, n, g.exec.map (·.work))] }
  let frozen := (s.eng sender).frozen
  let entry := fun (base len : Nat) => (⟨3, base, len, g.exec.map (·.work), if frozen then 0 else n, frozen, sender, r, none, [], [], []⟩ : SbEntry)
  match g.sb.zipIdx.find? fun b => b.1.kind == 3 && b.1.sender == sender && b.1.region == r && b.1.isVoid with
  | some (b, i) =>
    if b.out = 0 ∧ n ≤ b.len ∧ !frozen then give (s.setEng e (g.setSb i { b with out := n, isVoid := false })) else s
  | none =>
    match [14, 15].find? fun k => (g.sb.getD k SbEntry.free).kind == 0 with
    | none => s
    | some k =>
      let d := s.region e r
      if d.mode = 2 then
        match d.alloc n with
        | some x =>
          let s1 := (s.setRegion e r x.1).setEng e (note (g.setSb k (entry x.2 n)))
          if frozen then s1 else give s1
        | none => s
      else if d.mode = 1 ∧ n ≤ s.freeLines e r then
        let s1 := s.setEng e (note (g.setSb k (entry d.base n)))
        if frozen then s1 else give s1
      else s

/-- A credit of an INBOUND entry returned by a written line; the last one ends the wait unless the entry is void. -/
def SbEntry.credit (b : SbEntry) : SbEntry := if b.out ≤ 1 && !b.isVoid then SbEntry.free else { b with out := b.out - 1 }

/-- RING_LINE_ARRIVE (R144, R154): the oldest line on its way to the tile is written through RIN, its credit returns, and an
acknowledgement is due, also when the region has gone since the line was sent (Table 07-7); a line outside its region or to a
group that is not ON is not written, and its sender freezes. -/
def State.ringArrive (s : State) (t : Nat) : State :=
  let x := s.tile t
  match x.incoming with
  | [] => s
  | l :: rest =>
    let d := s.region t l.region
    let a := tileBase t + 128 * (l.base + l.line)
    let same := fun (q : Nat × Nat × Nat) => q.1 == l.sender && q.2.1 == l.run
    let acks := if x.acks.any same then x.acks.map fun q => if same q then (q.1, q.2.1, q.2.2 + 1) else q
      else x.acks ++ [(l.sender, l.run, 1)]
    let g := s.eng t
    let s1 := (s.setTile t { x with incoming := rest, acks := acks }).setEng t { g with sb := match g.sb.zipIdx.find? fun b =>
        b.1.kind == 3 && b.1.sender == l.sender && b.1.region == l.region with
      | some b => g.sb.set b.2 b.1.credit
      | none => g.sb }
    let s2 := s1.bump (pgSmem t) 0x110 0 32 1
    if d.mode ≠ 0 ∧ d.base = l.base ∧ d.size ≤ l.line then ((s2.smemCause t 3 6 l.region l.sender a).event (pgSmem t) 8).freezeEngine l.sender a
    else if (s2.bgroup t ((a - tileBase t) / 0x400000)).state ≠ 0 then
      (((s2.smemCause t 5 6 l.region l.sender a).event (pgSmem t) 5).log 7 0x0D (logBody l.sender a 5)).freezeEngine l.sender a
    else (s2.tileWrite t a l.data).pump t

/-- The first `k` acknowledgements due to a sender taken: those left, and what was taken of each run. -/
def takeAcks (sender : Nat) : Nat → List (Nat × Nat × Nat) → List (Nat × Nat × Nat) × List (Nat × Nat)
  | _, [] => ([], [])
  | k, q :: l =>
    if q.1 ≠ sender then let r := takeAcks sender k l; (q :: r.1, r.2)
    else
      let n := min k q.2.2
      let r := takeAcks sender (k - n) l
      (if q.2.2 = n then r.1 else (q.1, q.2.1, q.2.2 - n) :: r.1, (q.2.1, n) :: r.2)

/-- CREDIT_ACK (R144, R145): an acknowledgement of up to 8 lines reaches the sender; the lines of an earlier run do not count for
the run that executes. -/
def State.ackCredits (s : State) (t sender n : Nat) : State :=
  let x := s.tile t
  let due := ((x.acks.filter fun q => q.1 == sender).map (·.2.2)).sum
  let r := takeAcks sender (min (min n 8) due) x.acks
  let s1 := s.setTile t { x with acks := r.1 }
  let g := s1.eng sender
  (s1.setEng sender { g with exec := g.exec.map fun y =>
    { y with unacked := y.unacked - ((r.2.filter fun q => q.1 == y.run).map (·.2)).sum } }).pump sender

/-- CREDIT_RELEASE (R146): a sender whose run was cancelled, abandoned or frozen returns its unspent credits for a receiver's
region, and the INBOUND entry is void. -/
def State.releaseCredits (s : State) (e t r : Nat) : State :=
  let g := s.eng e
  let n := sget (fun _ => 0) g.credits (32 * t + r)
  if (g.running.isNone) then
    let s1 := s.setEng e { g with credits := sset (fun _ => 0) g.credits (32 * t + r) 0 }
    let h := s1.eng t
    s1.setEng t { h with sb := h.sb.map fun b =>
      if b.kind == 3 && b.sender == e && b.region == r then { b with isVoid := true, out := b.out - n } else b }
  else s

/-! The completion of a stripe (R24, R73, R94, R142, R187). -/

/-- A pixel of stage 7 of a stripe's core: FP16 RGB, one channel-blocked position per pixel (R159), rows from the top. -/
def State.stagePixel (s : State) (e : Nat) (p : Place) (x0 x1 y0 x y : Nat) : Rgb :=
  let a := s.addrOf e p + 256 * ((y - y0) * (x1 - x0) + (x - x0))
  let c := fun (k : Nat) => decodeF fp16 (leNat (s.bytes (a + 2 * k) 2))
  ⟨c 0, c 1, c 2⟩

/-- The luma bin of a pixel (R73): Y is computed exactly, ten thousand times as large. -/
def lumaBin (d k : Nat) (p : Rgb) : Nat :=
  let y := match flAdd (flAdd (flMul (flN 2126) p.r) (flMul (flN 7152) p.g)) (flMul (flN 722) p.b) with
    | .fin s m e => max 0 (min 1 (ratOf (.fin s m e) / 10000))
    | v => unitOf d k v
  min 1023 (y * 1024).floor.toNat

/-- The history rows of a stripe's core written (R26, R94): four FP8 channels per pixel. -/
def State.writeHistory (s : State) (e i : Nat) (f : Frame) (p : Place) (x0 x1 y0 y1 : Nat) : State :=
  let t := s.strm i
  let base := t.histBase (t.roleOf f.seq)
  let s1 := forEach (List.range (y1 - y0)) (fun r s =>
    let row := ((List.range (x1 - x0)).map fun q => s.bytes (s.addrOf e p + 128 * (r * (x1 - x0) + q)) 4).flatten
    (s.dramWrite (who e i) (base + 4 * ((y0 + r) * f.width + x0)) row).1) s
  s1.setStrm i { s1.strm i with lastHist := some f.tStart }

/-- FP32 codes of the samples of a tap point of a stripe, by channel, row and column of the source. -/
def State.tapSamples (s : State) (e : Nat) (a : Arr) (factor chans x0 x1 y0 y1 : Nat) : List (Nat × Nat) :=
  let w := cdiv x1 factor - x0 / factor
  ((List.range (cdiv y1 factor - y0 / factor)).map fun r => ((List.range w).map fun q => (List.range chans).map fun c =>
    (sampleKey c (y0 / factor + r) (x0 / factor + q), encodeF fp32 false (s.elem e a (r * w + q) c))).flatten).flatten

/-- FP32 codes of the RFE output under a stripe (SOURCE 1): values and marks of the band ring, read through the CRS. -/
def State.ringSamples (s : State) (i : Nat) (f : Frame) (x0 x1 y0 y1 : Nat) : State × List (Nat × Nat) :=
  match (s.strm i).entry with
  | some en =>
    let at_ := ((List.range (cdiv y1 2 - y0 / 2)).map fun r => ((List.range (4 * f.exps)).map fun p =>
      (List.range (cdiv x1 2 - x0 / 2)).map fun q => (p, y0 / 2 + r, x0 / 2 + q)).flatten).flatten
    let v := s.ringWords (who 9 i) (at_.map fun p => s.ringPlace i f en p.2.1 p.1 p.2.2)
    (v.1, ((at_.zip v.2).map fun p =>
      let c := 8 * (p.1.1 / 4) + p.1.1 % 4
      [(sampleKey c p.1.2.1 p.1.2.2, encodeF fp32 false (flOfQuot false (p.2 % 32768) 32767)),
       (sampleKey (c + 4) p.1.2.1 p.1.2.2, encodeF fp32 false (flN (p.2 / 32768 : Nat)))]).flatten)
  | none => (s, [])

/-- The source samples that a stripe holds for a crop (R187). -/
def State.cropSamples (s : State) (e i : Nat) (f : Frame) (x : Exec) (g : Option Image) (src x0 x1 y0 y1 : Nat) :
    State × List (Nat × Nat) :=
  match src, x.outPlace with
  | 0, some p => (s, s.tapSamples e ⟨p, .fp16, 256, 0, p, 0⟩ 1 3 x0 x1 y0 y1)
  | 0, none => (s, [])
  | 1, _ => s.ringSamples i f x0 x1 y0 y1
  | _, _ => match x.taps.find? fun t => t.1 == src, sourceOf g f.exps src with
    | some t, some y => (s, s.tapSamples e t.2 y.1 y.2 x0 x1 y0 y1)
    | _, _ => (s, [])

/-- The channels of a sample key that a crop takes. -/
def Crop.takes (c : Crop) (key : Nat) : Bool :=
  let ch := key / (16384 * 16384)
  !c.zero && decide (c.box.chFirst ≤ ch) && decide (ch < c.box.chFirst + c.chans)

/-- What SIGNAL's completion delivers of a rendering stripe: outputs, history rows, luma counts and crop samples; the
stripe counts as done. -/
def State.deliver (s : State) (e : Nat) (x : Exec) : State :=
  let w := x.work
  match s.frameOf w.stream w.seq with
  | none => s
  | some f =>
    let b := f.bands.getD w.band ⟨none, 0, [], false, false, true, false⟩
    if b.dropped then s
    else
      let c := f.columns w.stripe
      let y0 := f.top w.band
      let y1 := f.bottom w.band
      let px := fun (p : Place) => s.stagePixel e p c.1 c.2 y0
      let s1 := match x.outPlace with
        | some p => forEach [0, 1, 2] (fun k s => s.writeOutput w.stream f k false c.1 c.2 y0 y1 (px p)) s
        | none => s
      let s2 := match x.hist with
        | some p => s1.writeHistory e w.stream f p c.1 c.2 y0 y1
        | none => s1
      let luma := match x.outPlace with
        | some p => (List.range (y1 - y0)).foldl (fun m r => (List.range (c.2 - c.1)).foldl (fun m q =>
            let k := 1024 * (w.band + 1) + lumaBin s.free (r * 16384 + q) (px p (c.1 + q) (y0 + r))
            sset (fun _ => 0) m k (sget (fun _ => 0) m k + 1)) m) f.luma
        | none => f.luma
      let g := s.jobImage w.job
      let cr := f.crops.foldl (fun (z : State × List Crop) k =>
        if k.zero then (z.1, z.2 ++ [k]) else
          let v := z.1.cropSamples e w.stream f x g k.box.source c.1 c.2 y0 y1
          (v.1, z.2 ++ [{ k with samples := v.2.foldl (fun m v =>
              if k.takes v.1 then sset (fun _ => 0) m v.1 v.2 else m) k.samples }])) (s2, [])
      let f1 := f.setBand w.band fun b => { b with stripes := b.stripes.set w.stripe .done }
      (cr.1.setFrame w.stream { f1 with luma := luma, crops := cr.2 }).drawn

/-- The outputs of a finished step: their descriptors, and the step's end (R213, Table 13-3). -/
def State.finishStep (s : State) (j : Nat) (x : Job) : State :=
  let o := match x.open_ with
    | some d => (d.seq, d.flags + (if x.variant && !d.flags.testBit 9 then 0x200 else 0))
    | none => (0, 0)
  let lens := match s.jobImage j, x.open_ with
    | some m, some d => m.outBytes d.shape
    | _, _ => []
  (forEach (x.stepBufs.zip lens).zipIdx (fun b s =>
    let r := fitted b.1.2 b.1.1.2
    s.produce x.bind.outQ (stepDesc j x r.1 o.2 o.1 b.1.1.1 r.2 b.2) (if r.2 = 0 then none else some (b.1.1.1 + r.2 - 1))) s).endStep j x

/-- What SIGNAL's completion delivers of a work unit: its parts of the step's outputs; the last unit finishes the step. -/
def State.deliverUnit (s : State) (e : Nat) (x : Exec) : State :=
  match s.job x.work.job with
  | some j =>
    let s1 := forEach x.parts (fun p s => match j.stepBufs[p.1]? with
      | some b => if p.2.1 + p.2.2.2 ≤ b.2 then s.blockWrite 0x91 (who 9 (64 + x.work.job)) (b.1 + p.2.1) (s.bytes (s.addrOf e p.2.2.1) p.2.2.2) else s
      | none => s) s
    let j1 := { j with stepUnits := j.stepUnits.set x.work.stripe .done }
    if j1.stepUnits.all (· == .done) then s1.finishStep x.work.job j1 else s1.setJob x.work.job (some j1)
  | none => s

/-- The head stripe's entries and staging released (R96, R141, R142), and the engine ready for the next one. -/
def State.retireStripe (s : State) (e : Nat) : State :=
  let g := s.eng e
  match g.ready with
  | r :: l =>
    let sb := g.sb.map fun b => if b.kind != 3 && (match b.owner with | some w => sameUnit w r.work | none => false) then SbEntry.free else b
    let s1 := s.setEng e { g with
      ready := l.map fun q => if q.work.job = r.work.job then { q with records := q.records - r.allocs } else q
      granted := g.granted.filter fun x => !(match x.2.2 with | some w => sameUnit w r.work | none => false)
      exec := none, sb := sb, matrixQ := [], vectorQ := [], moverQ := [], tack := none }
    match s1.staging e r.work.job with
    | some t =>
      let d := s1.region e t
      (s1.setRegion e t ((List.range r.allocs).foldl (fun d _ => d.free 0) d)).serveAllocs e
    | none => s1
  | [] => s

/-- SIGNAL_COMPLETE (R94): the OFM has accepted the stripe, once the write buffer has a line for it (R234), unless a word it
reads fails its parity (Table 07-4). -/
def State.completeSignal (s : State) (e : Nat) : State :=
  let g := s.eng e
  match g.exec with
  | some x =>
    if x.signalled && (decide (s.bufferNeed x.work = 0) || decide (0 < x.bufLines) || decide (0 < s.poolRoom 1 x.work.stream)) then
      match s.badWords e (s.signalSpans x.work x.outPlace x.hist x.taps x.parts) with
      | some b => s.parityReread e 7 true b.2.1 0 b.2.2
      | none =>
      let s1 := if x.work.tensor then s.deliverUnit e x else s.deliver e x
      let s2 := (s1.retireStripe e).bumpWrap (pgEng e) 0x100
      (((s2.fetchAll e).placeWaiting).checkSelftest e).guard
    else s
  | none => s

end Sys2Proof.Machine
end

