-- ==== Sys2Proof/Machine/SmemOps.lean ====
section
/-! DEFINITION. The patrol and the power states of bank groups (R151 to R157). -/

namespace Sys2Proof.Machine

open Sys2Proof

/-! The patrol (R151). -/

/-- The PERSIST lines of a tile as ranges. -/
def State.persistRanges (s : State) (t : Nat) : List (Nat × Region) :=
  ((List.range 32).map fun r => (r, s.region t r)).filter fun x => x.2.mode != 0 && x.2.persist && decide (0 < x.2.size)

/-- The first PERSIST line at or after a position. -/
def State.patrolLine (s : State) (t pos : Nat) : Option (Nat × Nat) :=
  (s.persistRanges t).foldl (fun (b : Option (Nat × Nat)) x =>
    let l := max pos x.2.base
    if l < x.2.base + x.2.size then (match b with
      | none => some (x.1, l)
      | some y => if l < y.2 then some (x.1, l) else some y) else b) none

/-- PATROL_READ: the next PERSIST line is read, and restored on a stored error, one found now or known from before (R147). -/
def State.patrol (s : State) (t : Nat) (words : List Nat) : State :=
  let p := pgSmem t
  if !bitAt (s.reg p 8) 0 then s
  else match (s.patrolLine t (s.tile t).patrolPos).orElse fun _ => s.patrolLine t 0 with
    | none => s
    | some (r, line) =>
      let s1 := (s.setTile t { s.tile t with patrolPos := line + 1 }).setRfld p 0x10C 0 18 line
      let s2 := if (s1.patrolLine t (line + 1)).isNone then
          (s1.setTile t { s1.tile t with patrolPos := 0 }).bump p 0x10C 24 8 1
        else s1
      let known := ((s.tile t).storedErrs.filter fun w => (w - tileBase t) / 128 == line).map fun w => (w - tileBase t) % 128 / 4
      let bad := words ++ known.filter fun w => !words.contains w
      if bad.isEmpty then s2
      else
        let s3 := s2.countParity t 7 line 0 bad
        if (s3.persistSource (s3.region t r).job (s3.persistIndex t r line)).isSome then (s3.restoreLine t r line).event p 2 else s3

/-! Bank groups (R152 to R155). -/

/-- Whether a region of a resident job has a line in a group. -/
def State.groupUsed (s : State) (t g : Nat) : Bool :=
  (List.range 32).any fun r =>
    let d := s.region t r
    d.mode != 0 && decide (0 < d.size) && decide (d.base < 32768 * (g + 1)) && decide (32768 * g < d.base + d.size)

/-- Outstanding writes to a group: the lines on the ring that it is to receive; every other write lands in the step that issues
it. -/
def State.outstanding (s : State) (t g : Nat) : Nat :=
  ((s.tile t).incoming.filter fun l => (l.base + l.line) / 32768 == g).length

/-- A request to a tile's groups: refused whole when a group that is to leave ON is in use; a reserved code asks nothing. -/
def State.requestPower (s : State) (t : Nat) (w : Word) : State :=
  let p := pgSmem t
  let asks := (List.range 8).filterMap fun g =>
    let r := fld w (2 * g) 2
    let x := s.bgroup t g
    if r = 3 ∨ r = x.target.getD x.state then none else some (g, r)
  match asks.find? fun q => q.2 != 0 && s.groupUsed t q.1 with
  | some q => (s.smemCause t 6 0 0 0xF (tileBase t + 0x400000 * q.1)).event p 9
  | none => forEach asks (fun q s => s.setBgroup t q.1 { s.bgroup t q.1 with target := some q.2 })
      (s.setReg p 0x100 (w &&& 0xFFFF))

/-- The groups that a job's regions use are switched ON by the supervisor when it loads (R153); one that was OFF holds zero. -/
def State.powerFor (s : State) (t : Nat) : State :=
  forEach ((List.range 8).filter fun g => s.groupUsed t g && (s.bgroup t g).state != 0) (fun g s =>
    (s.setBgroup t g Group.on).event (pgSmem t) 4) s

/-- The groups of a tile whose power domain is switched off are OFF (R155). -/
def State.groupsOff (s : State) (t : Nat) : State := forEach (List.range 8) (fun g s => s.setBgroup t g ⟨2, none⟩) s

/-- BANK_GROUP_POWER_DONE: the group changes state once nothing is outstanding or 10 µs have passed; a group that comes back
from OFF holds zero, and one that goes OFF loses its contents (R155). -/
def State.powerDone (s : State) (t g : Nat) (timeout : Bool) : State :=
  let x := s.bgroup t g
  match x.target with
  | none => s
  | some r =>
    if x.state = 0 ∧ 0 < s.outstanding t g ∧ !timeout then s
    else
      let a := tileBase t + 0x400000 * g
      let wipe := r == 2 || x.state == 2
      let s1 := if wipe then
          ({ s with mem := s.mem.filter fun c => !(decide (a ≤ c.1) && decide (c.1 < a + 0x400000)) } : State)
        else s
      let y := s1.tile t
      let s2 := if wipe then s1.setTile t { y with storedErrs := y.storedErrs.filter fun w => !(decide (a ≤ w) && decide (w < a + 0x400000)) }
        else s1
      (s2.setBgroup t g ⟨r, none⟩).event (pgSmem t) 4

end Sys2Proof.Machine
end

