-- ==== Sys2Proof/Machine/EngCheck.lean ====
section
/-! DEFINITION. The check unit's rotation and its outcomes, self-tests, soft resets and the hang ladder of an engine (R101 to
R111, R349, R350). -/

namespace Sys2Proof.Machine

open Sys2Proof

/-! Engines emptied (R349, R350). -/

/-- A unit put at the head of an engine's work queue, or placed as any other when it is a tensor unit. -/
def State.placeFirst (s : State) (w : Work) : State :=
  match if w.tensor then none else s.leastLoaded s.rotation with
  | some e => s.putBack e [w]
  | none => s.waitUnit w

/-- An engine that is out of rotation gives up its units: the ready queue is cancelled, and every unit is placed again, the
one that executed first and as a replay (R350). -/
def State.evict (s : State) (e : Nat) : State :=
  let g := s.eng e
  let keep := (g.ready.filter fun r => r.gone != 2).map (·.work)
  let exec_ := g.exec.bind fun x => keep.find? fun w => sameUnit w x.work
  let rest := (keep.filter fun w => match exec_ with | some x => !sameUnit w x | none => true) ++ g.work
  let s1 := ((s.setEng e { g with work := [] }).cancel e fun _ => true).finishCancel e
  let h := s1.eng e
  let s2 := s1.setEng e { h with exec := none, matrixQ := [], vectorQ := [], moverQ := [], tack := none
                                 check := { h.check with kat := none, forced := false } }
  let s3 := forEach rest (fun w s => s.place { w with replay := false }) s2
  match exec_ with
  | some w => (s3.withBand w fun b => { b with replayed := true }).placeFirst { w with replay := false }
  | none => s3

/-- A soft reset starts (R349). -/
def State.softReset (s : State) (e : Nat) : State :=
  let g := s.eng e
  if g.resetting then s
  else ((s.setEng e { g with resetting := true, inRotation := false, returning := false, draining := false }).returnCredits e).evict e

/-- An engine that hangs is taken out of rotation and reset: the first step of the ladder. -/
def State.hangReset (s : State) (e : Nat) : State :=
  if (s.eng e).fenced then s
  else
    let s1 := s.softReset e
    s1.setEng e { s1.eng e with hang := 1 }

/-- ENGINE_HANG (R110): a stripe executes, or a fetch has reads outstanding, and nothing has completed for 20 µs. -/
def State.engineHang (s : State) (e : Nat) : State :=
  let g := s.eng e
  if (g.exec.isSome || g.sb.any fun b => b.kind == 1) && !g.resetting && !g.fenced then
    ((s.fail (pgEng e) 6 (4 + 65536 * g.jobSlot) 0).fault 0x0C e g.jobSlot).owe (.hang e)
  else s

/-- An engine serves again: what it was frozen for ends (R343), and it comes back at the next band boundary. -/
def State.engineBack (s : State) (e : Nat) : State :=
  let s1 : State := { s with sec := { s.sec with frozen := s.sec.frozen.filter (· != e)
                                                 givingUp := s.sec.givingUp.filter (· != e) } }
  let g := s1.eng e
  (s1.setEng e { g with resetting := false, frozen := false, hang := 0 }).comeBack e

/-- RESET_DONE: the soft reset has completed; the memories are reloaded with what they held (log 28). -/
def State.resetDone (s : State) (e : Nat) : State :=
  if (s.eng e).resetting && decide ((s.eng e).hang < 2) then (s.event (pgEng e) 9).engineBack e else s

/-- A power domain's state set. -/
def State.setDom (s : State) (d : Nat) (v : DomState) : State := { s with pwr := { s.pwr with dom := s.pwr.dom.set d v } }

/-- SOFT_RESET_TIMEOUT: step 2 of the ladder; the engine's domain is switched off. -/
def State.softResetTimeout (s : State) (e : Nat) : State :=
  let g := s.eng e
  if g.resetting && g.hang == 1 then (s.setEng e { g with hang := 2 }).setDom (8 + e) .off else s

/-- The switch of an engine's domain answers during the ladder: off, then on again, and the engine serves. -/
def State.ladderAck (s : State) (e : Nat) : State :=
  let g := s.eng e
  if g.hang = 2 then (s.setEng e { g with hang := 3 }).setDom (8 + e) .on
  else if g.hang = 3 then s.engineBack e
  else s

/-- POWER_CYCLE_TIMEOUT: step 3; the fault manager fences the engine (class 0x0C). -/
def State.powerCycleTimeout (s : State) (e : Nat) : State :=
  let g := s.eng e
  if g.hang = 2 ∨ g.hang = 3 then (s.setEng e { g with hang := 0 }).owe (.fence e false 0x0C) else s

/-! Self-tests (R107, R108, R228, R392). -/

/-- A request accepted (R107, R228): the engine leaves rotation at the next band boundary, at once when no band or step is open; a
forced request stops placing on it now, moves its waiting units and sheds load. -/
def State.acceptTest (s : State) (e : Nat) (force : Bool) : State :=
  let s1 := s.setEng e { s.eng e with selftest := 1, selfForce := force }
  if force || s1.openItems.isEmpty then s1.drain e else s1

/-- A self-test request answered. -/
def State.answerTest (s0 : State) (e : Nat) : State :=
  let s := s0.setRfld (pgEng e) 0x120 0 1 0
  let g := s.eng e
  let force := bitAt (s.reg (pgEng e) 0x120) 1
  if g.fenced then (s.setEng e { g with selftest := 5 }).event (pgEng e) 8
  else if s.pwr.state ≠ .active ∨ force then s.acceptTest e force
  else if fits (s.rotation.filter (· != e)).length s.activeItems then s.acceptTest e false
  else s.setEng e { g with selftest := 2 }

/-- A write of SELFTEST: FORCE is kept; REQ is ignored while a test is accepted or runs, and waits for a mismatch's outcome
(R106). -/
def State.requestTest (s : State) (e : Nat) (w : Word) : State :=
  let g := s.eng e
  let s1 := s.setRfld (pgEng e) 0x120 1 1 (fld w 1 1)
  if !bitAt w 0 || g.testing then s1
  else if g.check.kat.isSome then s1.setRfld (pgEng e) 0x120 0 1 1
  else s1.answerTest e

/-- ENGINE_SELFTEST_DONE: PASS brings the engine back at the next band boundary; FAIL hands it to the fault manager. -/
def State.testDone (s : State) (e failUnit : Nat) (pass : Bool) : State :=
  let g := s.eng e
  if g.selftest = 3 then
    let s1 := (s.setEng e { g with selftest := if pass then 4 else 5 }).setRfld (pgEng e) 0x120 8 8 (if pass then 0 else failUnit)
    if pass then (s1.event (pgEng e) 8).comeBack e
    else ((s1.fail (pgEng e) 8 (8 + 65536 * g.jobSlot) 0)).owe (.fence e false 0)
  else s

/-! The check unit (R101 to R106). -/

/-- The gusset column is switched off (class 0x08). -/
def State.gussetOff (s : State) (e : Nat) : State :=
  let g := s.eng e
  (((s.setEng e { g with check := { g.check with state := 2 } }).log 3 8 (logBody e 0 0)).event (pgEng e) 2).fault 8 e g.jobSlot

/-- Take-over of a column (R104); a WSET in flight is reissued, and its measured time is slip. -/
def State.takeOver (s : State) (e col : Nat) : State :=
  let g := s.eng e
  let again := g.matrixQ.any fun c => c.started && c.cmd.isWset
  let s1 := ((s.setEng e { g with check := { g.check with state := 1, spared := col } }).log 2 6 (logBody e 0 col)).event (pgEng e) 1
  if again then (s1.addSlip e (s.freeWord.toNat % 2 ^ 16)).drawn else s1

/-- KAT_COMPLETE (Table 05-6): the outcome of the known-answer tests on the column and on the gusset column. A self-test
request that waited is judged afterwards (Table 05-8), after the fence when both tests failed. -/
def State.katDone (s : State) (e : Nat) (colPass gussetPass : Bool) : State :=
  let g := s.eng e
  match g.check.kat with
  | none => s
  | some col =>
    let c := { g.check with kat := none, forced := false }
    let s0 := s.setEng e { g with check := c }
    let s1 :=
      if g.check.forced || (colPass && gussetPass) then
        let l := (c.transients.filter fun t => decide (s.clk.up < t.2 + 1000000000)) ++ [(col, s.clk.up)]
        let s2 := (s0.setEng e { g with check := { c with transients := l } }).bump (pgEng e) 0x118 0 8 1
        if 3 ≤ (l.filter fun t => t.1 == col).length then s2.takeOver e col else s2
      else if gussetPass then s0.takeOver e col
      else if colPass then s0.gussetOff e
      else (((s0.setEng e { g with check := { c with state := 3 } }).event (pgEng e) 3)).owe (.fence e false 9)
    if bitAt (s1.reg (pgEng e) 0x120) 0 && (s1.eng e).check.state != 3 then s1.answerTest e else s1

/-- GUSSET_WINDOW_ADVANCE (R101): the next window, unless a compare of this one reports a mismatch on the check unit's own rows;
window 256 judges the gusset column. -/
def State.windowNext (s : State) (e : Nat) (kat mismatch : Bool) : State :=
  let g := s.eng e
  let c := g.check
  if c.kat.isSome || (s.pwr.state != .active && g.selftest != 3) then s
  else if c.compares && (c.inject || mismatch) then s.mismatch e c.inject
  else if c.window < 256 then s.setEng e { g with check := { c with window := c.window + 1 } }
  else
    let s1 := (s.setEng e { g with check := { c with window := 0 } }).bump (pgEng e) 0x114 0 16 1
    if c.state = 0 ∧ !kat then s1.gussetOff e else s1

/-- CHECK_INJECT (R105). -/
def State.injectMismatch (s : State) (e : Nat) : State :=
  let g := s.eng e
  s.setEng e { g with check := { g.check with inject := true } }

/-! Rotation (R111). -/

/-- ENGINE_RUN: the supervisor writes CTRL.RUN; an engine that is fit enters or leaves rotation. -/
def State.engineRun (s : State) (e : Nat) (run : Bool) : State :=
  let s1 := s.setRfld (pgEng e) 8 0 1 (b2n run)
  let g := s1.eng e
  let ok := run && !g.fenced && !g.resetting && !g.frozen && g.selftest != 3
  (s1.setEng e { g with inRotation := ok, returning := if ok then false else g.returning }).placeWaiting

/-- A scalar-core mismatch (class 0x0B): the stripe is abandoned for a replay. -/
def State.scalarMismatch (s : State) (e : Nat) : State :=
  if (s.eng e).exec.isSome && !(s.eng e).fenced then s.datapathError e 0x0B else s

/-! What an engine's page shows of its state (Tables 05-10 to 05-14). -/

/-- The layout of ENGe.JOB for a unit of work (Table 05-13). -/
def jobWord (w : Work) : Nat :=
  1 + 2 * (w.job % 8) + 16 * (w.stream % 64) + 2 ^ 10 * (w.band % 512) + 2 ^ 19 * (w.stripe % 32) + 2 ^ 24 * b2n w.replay

/-- Bits that engine e adds to a word of its page 0. CHECKED needs the engine to run as well as STATE 0. -/
def State.engMirror (s : State) (e o : Nat) : Nat :=
  let g := s.eng e
  if o = 0xC then
    b2n g.serves + 2 * b2n g.exec.isSome + 4 * b2n g.fenced + 8 * b2n (g.selftest == 3) + 16 * b2n g.resetting + 32 * b2n g.frozen
      + 64 * b2n (g.check.state == 0 && s.rfld (pgEng e) 8 0 1 == 1) + 2 ^ 8 * g.ready.length % 2 ^ 11
      + 2 ^ 11 * (g.sb.filter fun b => b.kind != 0).length + 2 ^ 16 * g.work.length
  else if o = 0x104 then g.slip
  else if o = 0x108 then (g.exec.map fun x => jobWord x.work).getD 0
  else if o = 0x110 then g.check.window % 256 + 2 ^ 8 * b2n (g.check.window == 256) + 2 ^ 9 * g.check.state + 2 ^ 16 * g.check.spared
  else if o = 0x11C then b2n g.check.inject
  else if o = 0x120 then 4 * g.selftest
  else 0

end Sys2Proof.Machine
end

