-- ==== Sys2Proof/Machine/JobOps.lean ====
section
/-! DEFINITION. What the fault manager and the loader do to jobs and engines: stops, holds, restarts, fences, retired pages and
damaged images (R208, R215, R346 to R358). -/

namespace Sys2Proof.Machine

open Sys2Proof

/-! Job events (R321). -/

/-- A job event to a queue, or for the session in NET.EVT_SESSION when the binding names none. -/
def State.jobEvent (s : State) (q code arg0 arg1 : Nat) : State :=
  if 16384 ≤ q then
    if bitAt (s.reg pgNet 0x100) 31 then s.deviceEvent code arg0 arg1 (s.rfld pgNet 0x100 0 5) else s
  else s.produce q ⟨0, false, 5, false, false, false, 0, 0, 0, 0xFF, 0xFF, 0, arg1, code + 0xFFFF0000, arg0⟩ none

/-! Command results (R323, Tables 09-8, 14-8). -/

/-- A result of the loader (Table 09-8): code, section, index, need, have. -/
structure Verdict where
  code : Nat
  section_ : Nat
  index : Nat
  need : Nat
  have_ : Nat
  deriving DecidableEq, Repr

/-- A result whose check names no layer, entry or tile and no quantity (log 36). -/
def Verdict.bare (code sect : Nat) : Verdict :=
  ⟨code, sect, Config.resultField code 0, Config.resultField code 1, Config.resultField code 2⟩

/-- A result that names the layer, entry or tile concerned, without a quantity (log 36). -/
def Verdict.at_ (code sect i : Nat) : Verdict := ⟨code, sect, i, Config.resultField code 1, Config.resultField code 2⟩

/-- A result that names a quantity, without a layer, entry or tile (log 36). -/
def Verdict.short (code sect need have_ : Nat) : Verdict := ⟨code, sect, Config.resultField code 0, need, have_⟩

/-- A command completes: its block leaves the pending ones, its result is kept, and LOAD_RESULT is raised on a queue or, when that
queue is not enabled, for the session in NET.EVT_SESSION. -/
def State.complete (s : State) (cmd job tag : Nat) (v : Verdict) (evQ : Nat) : State :=
  let s1 : State := { s with sup := { s.sup with
    cmds := (s.sup.cmds.takeWhile fun c => c.1 != tag) ++ (s.sup.cmds.dropWhile fun c => c.1 != tag).drop 1
    result := leBytes 2 v.code ++ leBytes 2 v.section_ ++ leBytes 4 v.index ++ leBytes 4 v.need ++ leBytes 4 v.have_ ++ leBytes 4 tag } }
  s1.jobEvent (if (s.queue evQ).ctx.en then evQ else 0xFFFF) 0x102 (cmd + 256 * job + 65536 * v.code) tag

/-- A job restart is in progress. -/
def State.restarts (s : State) : Bool :=
  (List.range 8).any fun j => match s.job j with | some x => x.phase == .restarting | none => false

/-- The commands that met a restart are answered BUSY once none is in progress (R217). -/
def State.answerBusy (s : State) : State :=
  if s.restarts then s
  else forEach s.sup.busy (fun c s => s.complete c.1 c.2.1 c.2.2 (.bare 0x21 0) 0xFFFF)
    { s with sup := { s.sup with busy := [] } }

/-! What a job holds. -/

/-- The queues of a binding entry. -/
def BindEntry.queues (e : BindEntry) : List Nat :=
  [e.statusQ, e.statsQ, e.boxQ, e.dispQ, e.codeQ, e.visQ, e.cropQ].filter fun q => decide (q < 16384)

/-- The queues that a job owns: those of its streams, or a tensor job's output queue. -/
def Binding.queues (b : Binding) (kind : Nat) : List Nat :=
  if kind = 1 then [b.outQ].filter fun q => decide (q < 16384) else (b.entries.map fun e => e.queues).flatten

/-- The streams of a rendering job. -/
def Job.streams (x : Job) : List BindEntry := if x.kind = 1 then [] else x.bind.entries

/-- OWNER of a queue set. -/
def State.setOwner (s : State) (q o : Nat) : State :=
  let x := s.queue q
  s.setQueue q { x with ctx := { x.ctx with owner := o } }

/-- Every unit of a job cancelled, and the cancels complete (R229). -/
def State.cancelJob (s : State) (j : Nat) : State :=
  let p := fun (w : Work) => w.job == j
  forEach (List.range 6) (fun e s => if (s.eng e).ready.any fun r => r.gone != 0 then s.finishCancel e else s)
    ((s.removeUnits p).freeInbound p)

/-- The channels of a job's queues. -/
def State.jobChannels (s : State) (x : Job) : List Nat := ((x.bind.queues x.kind).map fun q => (s.queue q).ctx.channel).eraseDups

/-- The open frames of a job closed with ABORTED (R36). -/
def State.abortFrames (s : State) (x : Job) (excluded : Bool) : State :=
  forEach x.streams (fun e s => forEach (s.strm e.stream).frames (fun f s => s.closeFrame e.stream f true excluded) s) s

/-- The lowest stream of a job. -/
def Job.lowest (x : Job) : Nat := (x.bind.entries.map (·.stream)).foldl min 63

/-! Stops (R215, R301). -/

/-- A stream let go: held in its job slot with its ring, history, queues and FRAME_SEQ, or released. -/
def State.letGo (s : State) (j : Nat) (e : BindEntry) (hold : Bool) : State :=
  let t := s.strm e.stream
  let p1 : State := { s with pwr := { s.pwr with heatShed := s.pwr.heatShed.filter (· != .stream e.stream) }
                             sched := { s.sched with shedTest := s.sched.shedTest.filter (· != e.stream) } }
  if hold then
    p1.setStrm e.stream { t with held := true, job := some j, frames := [], stalled := false, shedTest := false, shedHeat := false }
  else forEach e.queues (fun q s => s.setOwner q 0xFF) (p1.setStrm e.stream Strm.init)

/-- A held stream's reservations given up (R215). -/
def State.releaseHeld (s : State) (i : Nat) : State :=
  match (s.strm i).entry with
  | some e => if (s.strm i).held then s.letGo 0 e false else s
  | none => s

/-- Another job that runs the image of a job. -/
def State.sharer (s : State) (j : Nat) : Option Nat :=
  (List.range 8).find? fun k => k != j && (s.job k).isSome && (s.job k).map (·.digest) == (s.job j).map (·.digest)

/-- The regions of a job removed from every tile; those that outlive a stripe go to another job of its image (log 104). -/
def State.freeRegions (s : State) (j : Nat) : State :=
  forEach (List.range 6) (fun t s =>
    let x := s.tile t
    s.setTile t { x with
      regions := (x.regions.map fun r => match s.sharer j with
        | some k => if r.2.job == j && r.2.persist then (r.1, { r.2 with job := k }) else r
        | none => r).filter fun r => r.2.job != j
      waiting := x.waiting.filter fun w => (s.region t w.1).job != j }) s

/-- Images that no job uses any longer are removed (log 29). -/
def State.dropImages (s : State) : State :=
  { s with images := s.images.filter fun r => (List.range 8).any fun j => match s.job j with
      | some x => x.digest == r.img.digest
      | none => false }

/-- A job stopped: its units cancelled, its channels stopped, its frames and steps closed ABORTED, its persistent streams held
when `hold`, and JOB_STOPPED with the cause (Table 14-8). -/
def State.stopJob (s : State) (j cause : Nat) (hold : Bool) : State :=
  match s.job j, s.jobImage j with
  | some x, img =>
    let persistOk := match img with | some m => m.persistOk | none => false
    let last := ((s.strm x.lowest).nextSeq + 2 ^ 32 - 1) % 2 ^ 32
    let s1 := forEach (s.jobChannels x) (fun d s => s.chanStop d none) (s.cancelJob j)
    let s2 := s1.abortFrames x (cause == 0)
    let s3 := match s2.job j with
      | some y =>
        let z := if y.open_.isSome then s2.voidOpen j y 3 else s2
        forEach y.due (fun d s => match s.job j with
          | some w => s.voidStep j { w with open_ := some d } 3 d.flags d.seq
          | none => s) z
      | none => s2
    let s4 := forEach x.streams (fun e s => s.letGo j e (hold && e.persist && persistOk)) s3
    let s5 := if x.kind = 1 then forEach (x.bind.queues 1) (fun q s => s.setOwner q 0xFF) s4 else s4
    let s6 := if x.bind.eventQ < 16384 then s5.setOwner x.bind.eventQ 0xFF else s5
    let s7 := ((s6.freeRegions j).setJob j none).dropImages
    (({ s7 with pwr := { s7.pwr with heatShed := s7.pwr.heatShed.filter (· != .job j) } } : State).jobEvent x.bind.eventQ 0x103
      (j + 256 * cause) last).placeWaiting.answerBusy
  | none, _ => s

/-! Restarts (R354 to R357). -/

/-- A job restart begins (Table 16-3): its units are cancelled, its channels stop, its open frames close ABORTED; its history is
kept unless the DRC reported an error in it or the cause lies in PD7. -/
def State.restartJob (s : State) (j cls : Nat) (host : Bool) : State :=
  match s.job j with
  | some x =>
    let s1 := ((s.bump pgFlt 0x20 16 16 1).log 0x0B cls (logBody j 0 0)).event pgFlt 1
    let s2 := forEach (s1.jobChannels x) (fun d s => s.chanStop d none) (s1.cancelJob j)
    let s3 := s2.setJob j (some { x with phase := .restarting, restartAt := s.clk.ptp, restartClass := cls })
    let s4 := s3.abortFrames x host
    let s5 := match s4.job j with
      | some y => if y.open_.isSome then s4.voidOpen j y 3 else s4
      | none => s4
    let pd7 := cls == 0x10 || cls == 0x11 || cls == 0x12
    (forEach x.streams (fun e s =>
      let t := s.strm e.stream
      s.setStrm e.stream { t with stalled := false, resetDue := if t.unverified || pd7 then lowerCause t.resetDue 2 else t.resetDue })
      s5).placeWaiting
  | none => s

/-- JOB_RESTART_READY: the channels go on, the job's PERSIST lines are as in the image copy, and the job runs again. -/
def State.restartReady (s : State) (j : Nat) : State :=
  match s.job j with
  | some x =>
    if x.phase = .restarting then
      let s1 := forEach (s.jobChannels x) (fun d s => s.chanResume d) s
      let s2 := forEach (List.range 6) (fun t s => forEach ((s.persistRanges t).filter fun r => s.mayUse j r.2) (fun r s =>
        forEach (List.range r.2.size) (fun k s => s.restoreLine t r.1 (r.2.base + k)) s) s) s1
      let s3 := forEach x.streams (fun e s =>
        let t := s.strm e.stream
        if t.unverified then s.setStrm e.stream { t with resetDue := lowerCause t.resetDue 2 } else s) s2
      match s3.job j with
      | some y => ((s3.setJob j (some { y with phase := .running, restartAt := max y.restartAt s.clk.ptp })).jobEvent x.bind.eventQ 0x104 j
          (s3.strm x.lowest).nextSeq).answerBusy
      | none => s3
    else s
  | none => s

/-- Every rendering job, or every job, restarted. -/
def State.restartAll (s : State) (all : Bool) (cls : Nat) : State :=
  forEach (List.range 8) (fun j s => match s.job j with
    | some x => if all || x.kind == 0 then s.restartJob j cls false else s
    | none => s) s

/-! Fences (R208, R349 to R351). -/

/-- The CRASH record (R363): class and unit, the cores' words (free values), pages with pending events, engine states. -/
def State.crash (s : State) (cls unit : Nat) : State :=
  let pages := (s.regs.map fun r => r.1 / 4096).eraseDups.filter fun p => (idType (pageOf p).1).isSome && s.pend p != 0
  let core := (List.range 8).map fun k => Config.freeWord (s.free + k)
  let body := leBytes 4 (cls + 256 * unit) ++ (core.map fun w => leBytes 4 w.toNat).flatten
    ++ (pages.map fun p => leBytes 2 p ++ leBytes 4 (s.pend p).toNat ++ leBytes 4 (s.reg p 0x24).toNat
        ++ leBytes 4 (s.reg p 0x28).toNat ++ leBytes 2 (s.reg p 0x2C).toNat).flatten
    ++ ((List.range 6).map fun e => [s.engMirror e 0xC, s.engMirror e 0x108].map fun n => leBytes 4 n).flatten.flatten
  let cut := body.take 4080
  ({ s with free := s.free + 8 } : State).log 8 cls (cut ++ List.replicate (alignUp cut.length 16 - cut.length) 0)

/-- A job goes on with its variant (R208); an open step with a work unit left whose logical engine is fenced runs again on the variant
(R350; DEDUCED, log 57). -/
def State.startVariant (s : State) (j : Nat) (x : Job) (m : Image) : State :=
  let lost := x.stepUnits.zipIdx.any fun u => u.1 != .done && (s.eng ((m.unitsOf false).getD u.2 0)).fenced
  if x.open_.isSome && !x.stepVariant && lost then
    let n := (m.unitsOf true).length
    ((s.cancelJob j).setJob j (some { x with variant := true, stepVariant := true, stepUnits := List.replicate n .placed })).placeStep j
  else s.setJob j (some { x with variant := true })

/-- The jobs after a fence: those with a reduced schedule go on with it at the next band boundary, the others stop; a job stops
too when fewer engines are left than its variant uses. -/
def State.judgeJobs (s : State) : State :=
  let left := ((List.range 6).filter fun e => !(s.eng e).fenced).length
  if left = 6 then s
  else forEach (List.range 8) (fun j s => match s.job j, s.jobImage j with
    | some x, some m =>
      if !m.sections.any fun y => y.1 == 0x0B then s.stopJob j 1 true
      else if left < m.sched5Engines then s.stopJob j 3 true
      else s.startVariant j x m
    | _, _ => s) s

/-- An engine fenced, or an engine with its tile (R349, R351): its units move, the fence is logged, and the jobs are judged. -/
def State.fenceEngine (s : State) (e : Nat) (withTile : Bool) (cls : Nat) : State :=
  if (s.eng e).fenced then s
  else
    let job := (s.eng e).jobSlot
    let s0 := if cls = 0 ∨ cls = 0x0C ∨ cls = 0x1C then s else s.fault cls e job
    let g := s0.eng e
    let s1 := ((s0.setEng e { g with fenced := true, inRotation := false, returning := false, draining := false, resetting := false, frozen := false
                                     hang := 0 }).returnCredits e).evict e
    let s2 := if withTile then s1.setTile e { s1.tile e with faulted := true } else s1
    let s3 := (((s2.log 4 cls (logBody e 0 (b2n withTile))).crash cls e).event pgFlt 2).judgeJobs
    let s4 := s3.judgeShed.placeWaiting
    if bitAt (s4.reg (pgEng e) 0x120) 0 then s4.answerTest e else s4

/-! Pages and images (R358). -/

/-- Whether a page lies in one of a list of ranges. -/
def pageIn (p : Nat) (l : List (Nat × Nat)) : Bool := l.any fun r => decide (r.1 < pageAddr p + 1024) && decide (pageAddr p < r.1 + r.2)

/-- The history buffers of a stream. -/
def State.historyRange (s : State) (i : Nat) : List (Nat × Nat) :=
  let t := s.strm i
  match t.entry, t.img with
  | some e, some g => [(e.histBase, 3 * histStride g)]
  | _, _ => []

/-- The band rings, queue rings and output areas of a job. -/
def State.vitalRanges (s : State) (x : Job) : List (Nat × Nat) :=
  (x.streams.map fun e => (e.ringBase, e.ringSlots * (s.strm e.stream).slotBytes)) ++ (x.bind.entries.map fun e => (e.outBase, e.outSize)) ++
    ((x.bind.eventQ :: x.bind.queues x.kind).map fun q =>
      let c := (s.queue q).ctx
      [(c.ringBase, 32 * c.slots), (c.areaBase, c.areaSize)]).flatten

/-- A retired page: a history buffer's leaves its job running with RETIRED_IN_JOB, one in a ring or an output area stops it. -/
def State.pageRetired (s : State) (p : Nat) : State :=
  forEach (List.range 8) (fun j s => match s.job j with
    | some x =>
      if pageIn p (s.vitalRanges x) then s.stopJob j 3 true
      else if x.streams.any fun e => pageIn p (s.historyRange e.stream) then s.event pgFlt 6
      else s
    | none => s) s

/-- An uncorrectable error in a history buffer is remembered until the next frame that renders (R216, R356). -/
def State.pageLost (s : State) (p : Nat) : State :=
  forEach (List.range 64) (fun i s =>
    if pageIn p (s.historyRange i) then s.setStrm i { s.strm i with unverified := true } else s) s

/-- A resident image whose DRAM copy was read poisoned: its jobs stop, the image goes, IMAGE_DAMAGED. -/
def State.imageDamaged (s : State) (a : Nat) : State :=
  match s.images.find? fun r => decide (r.addr ≤ a) && decide (a < r.addr + r.size) with
  | some r =>
    let s1 := forEach (List.range 8) (fun j s => match s.job j with
      | some x => if x.digest = r.img.digest then s.stopJob j 3 true else s
      | none => s) s
    ({ s1 with images := s1.images.filter fun y => y.img.digest != r.img.digest } : State).event pgFlt 7
  | none => s

end Sys2Proof.Machine
end

