-- ==== Sys2Proof/Machine/OutOps.lean ====
section
/-! DEFINITION. Box lists at the CRS, the limits of bands and steps, the no-progress watchdog and the arbitration test registers
(R182, R183, R225, R233, R235). -/

namespace Sys2Proof.Machine

open Sys2Proof

/-! Box lists. -/

/-- Entry k of a box list (Table 08-8). -/
def boxOf (b : List Byte) (k : Nat) : Box :=
  let a := fun (o n : Nat) => leAt b (32 + 24 * k + o) n
  ⟨a 0 4, a 4 2, a 6 2, a 8 2, a 10 2, a 12 2, a 14 2, a 16 1, a 17 1, a 18 2, a 20 2⟩

/-- The list that a buffer's bytes spell (Table 08-7). -/
def boxListOf (b : List Byte) (now : Nat) : BoxList :=
  ⟨leAt b 0 4, leAt b 4 1, leAt b 5 1, leAt b 8 4, (List.range (leAt b 6 2)).map (boxOf b), now⟩

/-- The stream whose binding names a queue for its box lists, with its job slot. -/
def State.boxBinding (s : State) (q : Nat) : Option (Nat × Nat) :=
  ((List.range 64).filterMap fun i => match (s.strm i).entry, (s.strm i).job with
    | some e, some j => if e.boxQ = q then some (i, j) else none
    | _, _ => none).head?

/-- A list in a buffer judged (R183): kept for its frame, stale, or refused whole; a list that its descriptor's LENGTH does not
hold is refused (log 30). -/
def State.judgeList (s : State) (q : Nat) (b : List Byte) : State :=
  let l := boxListOf (b.take (32 + 24 * 1024)) s.clk.ptp
  let refused := (s.bump pgCrs 0x104 16 16 1).fail pgCrs 0 (1 + 256 * l.stream) 0
  match s.boxBinding q with
  | some (i, j) =>
    let t := s.strm i
    if 1024 < leAt b 6 2 ∨ b.length < 32 + 24 * leAt b 6 2 ∨ l.stream ≠ i ∨ l.job ≠ j then refused
    else if l.frameSeq ≠ 0xFFFFFFFF ∧ seqAhead t.nextSeq l.frameSeq then (s.bump pgCrs 0x104 0 16 1).fail pgCrs 1 (2 + 256 * i) 0
    else s.setStrm i { t with lists := t.lists ++ [l] }
  | none => refused

/-- A consumed H2D descriptor written back with its status (R288), with DESC_HALF and DESC_DONE (R297). -/
def State.backDesc (s : State) (q status : Nat) (d : Desc) : State :=
  let c := (s.queue q).ctx
  let s1 := if d.evtHalf && decide (1 ≤ d.length) && decide (status ≠ 8) then s.announce q 0x100 q c.cons else s
  let s2 := s1.blockWrite 0x93 (who 7 c.channel) (slotAddr c c.cons) (descBytes { d with own := false, status := status })
  let s3 := s2.setQueue q { s2.queue q with ctx := { (s2.queue q).ctx with cons := (c.cons + 1) % 2 ^ 32, lastStatus := status } }
  if d.evtFull || status != 0 then s3.descDone q c.cons status else s3

/-- BOX_LIST_ARRIVE: the CRS takes the LIST descriptor at the head of a queue. -/
def State.boxListArrive (s : State) (q : Nat) : State :=
  let c := (s.queue q).ctx
  if c.en && c.dir == 1 && seqAhead c.avail c.cons && !s.chanStopped q && !s.sec.frozen.contains 0x92 then
    let d := (s.readDesc q c.cons).2
    if d.kind ≠ 6 then s
    else if d.aux0 ≠ 0 ∨ d.aux1 ≠ 0 then ((s.backDesc q 8 { d with length := 0 }).bump pgQm 0x20 16 16 1).qmFail 4 5 q
    else if !s.blockOk 0x92 d.addr (max d.length 1) then (s.freezeBlock 0x92 d.addr).backDesc q 6 { d with length := 0 }
    else
      let r := s.blockRead 0x92 (who 9 (((s.boxBinding q).map (·.1)).getD 0)) d.addr d.length
      let bad := r.2.poison || r.2.error
      let b := if bad || !r.2.valid then List.replicate d.length 0 else r.2.data
      (r.1.judgeList q b).backDesc q (if bad then 4 else 0) { d with srcInvalid := !r.2.valid && !bad }
  else s

/-! The scheduler's limits. -/

/-- BAND_DEADLINE (R225): a band or step that is unfinished at its deadline is dropped with cause DEADLINE. -/
def State.bandDeadline (s : State) (v : Victim) (seq b : Nat) : State :=
  match v with
  | .stream i => match s.frameOf i seq with
    | some f => match f.bands[b]? with
      | some x => if x.ready.isSome && !x.complete then s.dropBand i f b 3 0 else s
      | none => s
    | none => s
  | .job j => match s.job j with
    | some x => if x.stepUnits.isEmpty then s else s.dropStep j x 3 0
    | none => s

/-- Whether a user of a pool (a stream, or a tensor job as 64 + slot) has a ready band or an open step. -/
def State.userOpen (s : State) (u : Nat) : Bool :=
  s.openItems.any fun x => if x.tensor then u == 64 + x.id else u == x.id

/-- Whether a user waits on a pool: its floor is used and nothing is left of the shared part (R235). -/
def State.poolWaits (s : State) (u : Nat) : Bool :=
  s.userOpen u && (List.range 2).any fun p =>
    (p == 0 || decide (u < 64)) && decide (poolFloor p ≤ s.poolUsed p u) && decide (s.sharedFree p = 0)

/-- The job of a user, with the user's priority (R225). -/
def State.userJob (s : State) (u : Nat) : Option (Nat × Nat) :=
  if u < 64 then ((s.strm u).job.map fun j => (j, s.priority ⟨false, u, 0, 0, 0⟩))
  else (s.job (u - 64)).map fun _ => (u - 64, s.priority ⟨true, u - 64, 0, 0, 0⟩)

/-- The job that the watchdog aborts among those of users that wait: lowest priority, then the higher slot. -/
def State.watchdogJob (s : State) (users : List Nat) : Option Nat :=
  ((users.filter fun u => s.poolWaits u).filterMap fun u => s.userJob u).foldl (fun (b : Option (Nat × Nat)) x => match b with
    | none => some x
    | some y => if lexLt [x.2, 255 - x.1] [y.2, 255 - y.1] then some x else some y) none |>.map (·.1)

/-- POOL_WATCHDOG (R235): 100 µs have passed with users waiting; one job is aborted and restarts. -/
def State.poolWatchdog (s : State) (users : List Nat) : State :=
  match s.watchdogJob users with
  | some j =>
    let s1 := (s.bump pgSched 0x104 0 8 1).setRfld pgSched 0x104 8 3 j
    let st := match s.job j with | some x => if x.kind = 1 then 64 + j else x.lowest | none => 0
    ((s1.fail pgSched 3 (schedCause 5 st j 0) 0).fault 0x1E 0 j).owe (.restart j 0x1E)
  | none => s

/-- A write of SCHED_ARB_SEL: counting starts anew (R233). -/
def State.arbSelect (s : State) (w : Word) : State :=
  ((s.setReg pgSched 0x120 (w &&& 0xFFFFF)).setReg pgSched 0x124 0).setReg pgSched 0x128 0

end Sys2Proof.Machine
end

