-- ==== Sys2Proof/Machine/PowerOps.lean ====
section
/-! DEFINITION. Power states and domains, thermal shedding and trip, the device self-test, bring-up, resets and the supervisor
restart (R353, R359 to R361, R370 to R386). -/

namespace Sys2Proof.Machine

open Sys2Proof

/-- Whether the device has an owner (R334). -/
def State.owned (s : State) : Bool := s.fuse.slots.any fun o => !o.revoked

/-- Take-overs recorded in the retention log, in order: engine and column (R104, R362). -/
def State.loggedTakeovers (s : State) : List (Nat × Nat) :=
  s.flt.standing.filterMap fun r => if r.kind = 2 then some (leAt r.body 0 4, leAt r.body 12 4) else none

/-- The first `n` of the soft repairs and then the recorded take-overs burned into the fuse map: they become hard, and their
standing records go (R104, R262, R264; log 40). -/
def State.burnRepairs (s : State) (n : Nat) : State :=
  let k := min n s.fuse.fieldLeft
  let b := s.dram.soft.take k
  let o := s.loggedTakeovers.take (n - s.dram.soft.length)
  let s1 := { s with fuse := { s.fuse with hard := s.fuse.hard ++ b, fieldLeft := s.fuse.fieldLeft - b.length, takeovers := s.fuse.takeovers ++ o },
                     dram := { s.dram with soft := s.dram.soft.drop k },
                     flt := { s.flt with standing := s.flt.standing.filter fun r =>
                       !(r.kind == 6 && b.contains (leAt r.body 0 4)) && !(r.kind == 2 && o.contains (leAt r.body 0 4, leAt r.body 12 4)) } }
  s1.log 0x0A 0 (logBody (b.length + o.length) 0 0)

/-! Causes and readiness. -/

/-- A PMU cause with its event (Table 17-8). -/
def State.pmuFail (s : State) (bit c unit : Nat) : State := s.fail pgPmu bit (c + 256 * unit) 0

/-- READY (R361). -/
def State.ready (s : State) : Bool := s.sup.running && !s.sup.restarting && !s.pwr.booting && !s.pins.porstLow

/-- A rendering job is resident (Table 17-4). -/
def State.renders (s : State) : Bool := (List.range 8).any fun j => match s.job j with | some x => x.kind == 0 | none => false

/-- A stream is held. -/
def State.holdsStream (s : State) : Bool := (List.range 64).any fun i => (s.strm i).held

/-- A fuse burn runs. -/
def State.burns (s : State) : Bool := s.dram.burning.isSome || s.sec.burn.isSome

/-- The device self-test runs. -/
def State.bistRuns (s : State) : Bool := s.pwr.bist.isSome

/-- TEMP_MAX is at or above a limit in °C. -/
def State.hotAt (s : State) (l : Nat) : Bool :=
  match s.tempMax with | some m => decide ((l : Int) ≤ m.1) | none => false

def State.warn (s : State) : Nat := s.rfld pgPmu 0x110 0 8
def State.shedAt (s : State) : Nat := s.rfld pgPmu 0x110 8 8
def State.tripAt (s : State) : Nat := s.rfld pgPmu 0x110 16 8
def State.hyst (s : State) : Nat := max 1 (s.rfld pgPmu 0x110 24 4)

/-! Domains (R370, R371). -/

/-- The switch commands of entry to STANDBY and of the return to IDLE, in order (Table 17-4). -/
def offPlan : List (Nat × Bool) :=
  ([8, 9, 10, 11, 12, 13, 14, 15, 16, 17, 18, 19, 4, 5, 6] : List Nat).map fun d => (d, false)
def onPlan : List (Nat × Bool) :=
  ([3, 6, 14, 15, 16, 17, 18, 19, 8, 9, 10, 11, 12, 13, 4, 5] : List Nat).map fun d => (d, true)

/-- The next switch command of the transition, when none is awaited. -/
def State.issueSwitch (s : State) : State :=
  match s.pwr.trans, s.pwr.switching with
  | some t, none => { s with pwr := { s.pwr with switching := t.plan.head? } }
  | _, _ => s

/-- A tile emptied: it holds zero, without stored errors. -/
def State.clearTile (s : State) (t : Nat) : State :=
  let s1 : State := { s with mem := s.mem.filter fun c => !(decide (tileBase t ≤ c.1) && decide (c.1 < tileBase t + 0x2000000)) }
  s1.setTile t { s1.tile t with storedErrs := [], incoming := [], acks := [], waiting := [] }

/-- An engine that was off: empty, its memories reloaded; fences, its check unit's standing state and its place in rotation stay. -/
def State.clearEngine (s : State) (e : Nat) : State :=
  let g := (s.evict e).eng e
  (s.evict e).setEng e { Engine.init with
    inRotation := g.inRotation, returning := g.returning, fenced := g.fenced, hang := g.hang, resetting := g.resetting
    check := { Check.init with state := g.check.state, spared := g.check.spared, transients := g.check.transients }
    imem := g.imem, dmem := g.dmem, tables := g.tables, runs := g.runs, lastJob := none }

/-- A camera port whose domain goes off: frames close, the link is down. -/
def State.portOff (s : State) (p : Nat) : State :=
  ((((s.closeSlots p).dropSwatch p).setRfld (pgCam p) 0xC 0 1 0).setRfld (pgCam p) 0xC 1 3 0).cciLink p

/-- Pages whose registers are saved on entry to STANDBY (R378): PD4 to PD6. -/
def savedPage (i : Nat) : Bool :=
  (decide (0x100 ≤ i) && decide (i ≤ 0x150)) || i == 0x800 || i == 0x801 || i == 0x880 || i == 0x881

/-- The registers of PD4 to PD6 saved, as the units leave them when their domain goes off. -/
def State.saveRegs (s : State) : State :=
  { s with pwr := { s.pwr with saved := s.regs.filter fun r => savedPage (r.1 / 4096) } }

/-- What switching a domain does to the units in it. -/
def State.domainUnits (s : State) (d : Nat) (on : Bool) : State :=
  if 8 ≤ d ∧ d ≤ 13 then (if on then s else s.clearEngine (d - 8))
  else if 14 ≤ d ∧ d ≤ 19 then
    let s1 := s.clearTile (d - 14)
    if on then s1.powerFor (d - 14) else s1.groupsOff (d - 14)
  else if 4 ≤ d ∧ d ≤ 6 ∧ !on then
    (if d = 6 then s else forEach (List.range 8) (fun p s => s.portOff (8 * (d - 4) + p)) s).saveRegs
  else s

/-- A switch of the transition has ended; the sequence goes on. -/
def State.switched (s : State) (v : DomState) : State :=
  match s.pwr.trans, s.pwr.switching with
  | some t, some (d, _) =>
    (({ s with pwr := { s.pwr with trans := some { t with plan := t.plan.tail }, switching := none } } : State).setDom d v).issueSwitch
  | _, _ => s

/-- DOMAIN_SWITCH_ACK: of the transition, or of the escalation of an engine (R349). -/
def State.switchAck (s : State) (d : Nat) : State :=
  match s.pwr.switching with
  | some (x, on) =>
    if x = d then (s.domainUnits d on).switched (if on then .on else .off)
    else if 8 ≤ d ∧ d ≤ 13 then s.ladderAck (d - 8) else s
  | none => if 8 ≤ d ∧ d ≤ 13 then s.ladderAck (d - 8) else s

/-- SWITCH_TIMEOUT: the domain is isolated (class 0x1C); an engine, or a tile with its engine, is fenced. -/
def State.switchTimeout (s : State) (d : Nat) : State :=
  let cut := fun (s : State) =>
    let s1 := (s.fault 0x1C d 0).pmuFail 8 6 d
    if 8 ≤ d ∧ d ≤ 13 then s1.owe (.fence (d - 8) false 0x1C)
    else if 14 ≤ d ∧ d ≤ 19 then (s1.groupsOff (d - 14)).owe (.fence (d - 14) true 0x1C)
    else s1
  match s.pwr.switching with
  | some (x, _) => if x = d then (cut s).switched .isolated else s
  | none =>
    if 8 ≤ d ∧ d ≤ 13 ∧ 2 ≤ (s.eng (d - 8)).hang then
      (((cut s).setDom d .isolated).setEng (d - 8) { s.eng (d - 8) with hang := 0 })
    else s

/-! Power states (R374 to R378). -/

/-- Code of a power state in PSTATE and REQ. -/
def PState.code : PState → Nat
  | .active => 0
  | .idle => 1
  | .standby => 2
  | .off => 3

/-- A transition starts. Entry to STANDBY saves the registers of PD4 to PD6; the return takes the DRAM out of self-refresh. -/
def State.startTrans (s : State) (t : PState) (byTrip byHost : Bool) : State :=
  let back := s.pwr.state == .standby
  let plan := if t = .standby then offPlan else if back then onPlan else []
  let s1 : State := { s with pwr := { s.pwr with
    trans := some ⟨t, byTrip, byHost, plan.filter fun x => s.pwr.dom.getD x.1 .on != (if x.2 then .on else .off)⟩
    switching := none, wakeDue := false
    saved := if t = .standby then s.regs.filter fun r => savedPage (r.1 / 4096) else s.pwr.saved } }
  (if back then s1.withDram fun d => { d with selfRefresh := false } else s1).issueSwitch

/-- The return from STANDBY is refused (Table 17-4). -/
def State.tooHot (s : State) : Bool := s.pwr.tripped && s.hotAt s.warn

/-- A wake from STANDBY (R377); during the entry, and while a trip forbids it, the wake waits. -/
def State.wake (s : State) : State :=
  match s.pwr.state, s.pwr.trans with
  | .standby, none =>
    if s.tooHot then { s with pwr := { s.pwr with wakeDue := true } }
    else (s.event pgPmu 2).startTrans .idle false false
  | .standby, some _ => s
  | _, some t => if t.target = .standby then { s with pwr := { s.pwr with wakeDue := true } } else s
  | _, none => s

/-- A write of SAVE: its GO wakes the device from STANDBY (R280, Table 18-3). -/
def State.orderSave (s : State) (w : Word) : State := (s.calSave w).when (bitAt w 0) State.wake

/-- A write of SELFTEST: its REQ wakes the device from STANDBY (R107, Table 18-3). -/
def State.orderTest (s : State) (e : Nat) (w : Word) : State := (s.requestTest e w).when (bitAt w 0) State.wake

/-- A request refused. -/
def State.refuseState (s : State) (c : Nat) : State :=
  s.pmuFail 1 c (if c = 4 then ((s.tempMax.map (·.2)).getD 0) else 0)

/-- The cause that refuses a request for a state, 0 none. With several, the first in the order BIST_STATE for a device self-test,
JOBS_ACTIVE, STREAMS_HELD, BURNING, BIST_STATE (log 34). -/
def State.requestFault (s : State) (t : PState) : Nat :=
  if s.bistRuns then 5
  else match s.pwr.state, t with
    | .active, .idle => if s.renders then 1 else 0
    | .idle, .active => if s.pwr.tripped then 4 else 0
    | .standby, .standby => 0
    | _, .standby =>
      if s.renders then 1 else if s.holdsStream then 2 else if s.burns then 3
      else if (List.range 6).any fun e => (s.eng e).testing then 5 else 0
    | .standby, .idle => if s.tooHot then 4 else 0
    | .standby, .active => if s.pwr.tripped then 4 else 0
    | _, _ => 0

/-- A request of host software (R375): a request for the current state completes at once; one made during a transition changes
nothing (log 34). -/
def State.requestState (s0 : State) (t : PState) : State :=
  let s := s0.setRfld pgPmu 0x100 0 2 t.code
  if s.pwr.booting ∨ s.pwr.trans.isSome then s
  else if s.pwr.state = t then s.event pgPmu 0
  else
    let c := s.requestFault t
    if c ≠ 0 then s.refuseState c else s.startTrans t false true

/-- A START command found the device outside ACTIVE (R375, R377). -/
def State.toActive (s : State) : State :=
  if s.pwr.booting || s.pwr.tripped then s
  else match s.pwr.state, s.pwr.trans with
    | .idle, none => s.startTrans .active false false
    | .standby, none => (s.event pgPmu 2).startTrans .active false false
    | _, _ => s

/-- PERSIST lines of every tile as in the image copies (R155). -/
def State.restorePersist (s : State) : State :=
  forEach (List.range 6) (fun t s => forEach (s.persistRanges t) (fun r s =>
    forEach (List.range r.2.size) (fun k s => s.restoreLine t r.1 (r.2.base + k)) s) s) s

/-- The device is in a state. -/
def State.enter (s : State) (t : PState) : State := { s with pwr := { s.pwr with state := t } }

/-- PSTATE_TRANSITION_DONE: the sequence has ended and the state is reached. -/
def State.transitionDone (s : State) : State :=
  match s.pwr.trans with
  | some t =>
    if !t.plan.isEmpty then s
    else
      let ended := fun (s : State) => ({ s with pwr := { s.pwr with trans := none } } : State).when t.byHost fun s => s.event pgPmu 0
      match t.target with
      | .standby =>
        let s1 := ((s.drainAll.stopVisits).withDram fun d => { d with selfRefresh := true }).setDom 3 .retained
        let s2 := ended (s1.enter .standby)
        if s2.pwr.wakeDue then ({ s2 with pwr := { s2.pwr with wakeDue := false } } : State).wake else s2
      | .off => s
      | g =>
        let s1 := if s.pwr.state = .standby then
            let p := s.restorePersist
            { p with regs := s.pwr.saved.foldl (fun m r => sset resetWord m r.1 r.2) p.regs, pwr := { p.pwr with saved := [] } }
          else s
        let s2 := ended (s1.enter g)
        if g = .active then s2.placeWaiting else s2
  | none => s

/-! Fuse burns cut short (R360, R381). -/

/-- Bits of 2 ms burned since a time, the one in progress included when `last`. -/
def State.bitsSince (s : State) (t : Nat) (last : Bool) : Nat := (s.clk.up - t) / 2000000 + b2n last

/-- Fuse burns stop; `last`: after the bit in progress. An owner slot that is not complete stays unprogrammed (log 35). -/
def State.stopBurns (s : State) (last : Bool) : State :=
  let s1 := match s.dram.burning with
    | some t => (s.burnRepairs (s.bitsSince t last)).withDram fun d => { d with burning := none }
    | none => s
  match s1.sec.burn with
  | some (.rollback w target since) =>
    let k := s.bitsSince since last
    let f := s1.fuse
    { s1 with fuse := if w = 0 then { f with fw := min target (f.fw + k) } else { f with img := min target (f.img + k) }
              sec := { s1.sec with burn := none } }
  | some _ => { s1 with sec := { s1.sec with burn := none } }
  | none => s1

/-! Thermal shedding and trip (R379 to R381). -/

/-- The domain of a sensor. -/
def sensorDomain (i : Nat) : Nat :=
  if i < 6 then 8 + i else if i < 12 then 14 + (i - 6) else if i < 14 then 7 else if i = 14 then 2 else if i = 15 then 1
  else 4 + (i - 16)

/-- What can be shed for heat: running streams, and tensor jobs, that are not shed for heat yet. -/
def State.heatItems (s : State) : List Item :=
  (((List.range 64).filter fun i =>
      let t := s.strm i
      t.job.isSome && !t.held && !t.shedHeat).map fun i => (⟨false, i, 0, 0, 0⟩ : Item)) ++
    ((List.range 8).filter fun j => match s.job j with
      | some x => x.kind == 1 && !s.pwr.heatShed.contains (.job j)
      | none => false).map fun j => (⟨true, j, 0, 0, 0⟩ : Item)

/-- One more stream or tensor job is shed, in the victim order of R225. -/
def State.heatShed1 (s : State) : State :=
  let key := fun (x : Item) => [s.priority x, b2n (!x.tensor), 255 - x.id]
  match s.heatItems.foldl (fun (b : Option Item) x => match b with
      | none => some x
      | some y => if lexLt (key x) (key y) then some x else some y) none with
  | none => s
  | some v =>
    let first := s.pwr.heatShed.isEmpty
    let p : State := { s with pwr := { s.pwr with heatShed := s.pwr.heatShed ++ [if v.tensor then .job v.id else .stream v.id] } }
    let s1 := if v.tensor then (match p.job v.id with | some x => p.setJob v.id (some { x with shed := true }) | none => p)
      else p.setStrm v.id { p.strm v.id with shedHeat := true }
    ((s1.bump pgPmu 0x144 16 16 1).when first fun s => s.event pgPmu 4).shedEvent s.shedding

/-- HEAT_SHED_STEP: SHED_MS have passed since the last shed. -/
def State.heatShedStep (s : State) : State := if s.hotAt s.shedAt then s.heatShed1 else s

/-- HEAT_UNSHED_STEP: the stream or job shed last returns. -/
def State.heatUnshedStep (s : State) : State :=
  match s.pwr.heatShed.getLast?, s.tempMax with
  | some v, some m =>
    if m.1 < (s.shedAt : Int) - s.hyst then
      let p : State := { s with pwr := { s.pwr with heatShed := s.pwr.heatShed.dropLast } }
      let s1 := match v with
        | .stream i => p.setStrm i { p.strm i with shedHeat := false }
        | .job j => match p.job j with
          | some x => (p.setJob j (some { x with shed := false })).testVariants
          | none => p
      (s1.when s1.pwr.heatShed.isEmpty fun s => s.event pgPmu 5).shedEvent s.shedding
    else s
  | _, _ => s

/-- Self-tests end with FAIL and fence nothing (Table 17-7). -/
def State.failTests (s : State) : State :=
  let s1 := if s.pwr.bist.isSome then
      ((({ s with pwr := { s.pwr with bist := none } } : State).setRfld pgPmu 0x150 2 3 3).event pgPmu 7)
    else s
  forEach (List.range 6) (fun e s =>
    let g := s.eng e
    if g.testing then (s.setEng e { g with selftest := 5, selfForce := false, inRotation := true }).event (pgEng e) 8 else s) s1

/-- A thermal trip at a sensor. -/
def State.trip (s : State) (sensor : Nat) : State :=
  let s1 := ((({ s with pwr := { s.pwr with tripped := true } } : State).failTests.stopBurns true).log 1 0
    (logBody sensor 0 0)).event pgPmu 6
  if s.pwr.booting then { s1 with pwr := { s1.pwr with held := true } }
  else
    let s2 := forEach (List.range 8) (fun j s => s.stopJob j 3 true) s1
    match s2.pwr.state, s2.pwr.trans with
    | .standby, none => s2
    | _, some t => if t.target = .standby then s2 else (s2.enter .idle).startTrans .standby true false
    | _, none => s2.startTrans .standby true false

/-- THERMAL_SAMPLE: the readings, PEAK, WARN, SHED and TRIP. -/
def State.sample (s : State) (temps : List Nat) : State :=
  let was := s.hotAt s.shedAt
  let l := temps.zipIdx.map fun t => match s.pwr.dom.getD (sensorDomain t.2) .on with
    | .on => t.1 % 256
    | .retained => t.1 % 256
    | _ => 0x80
  let s1 : State := { s with pwr := { s.pwr with temps := l } }
  match s1.tempMax with
  | none => s1
  | some m =>
    let peak := degrees (s1.rfld pgPmu 0x118 16 8)
    let s2 := if peak < m.1 then s1.setRfld pgPmu 0x118 16 8 (m.1 % 256).toNat else s1
    let hot := s2.hotAt s2.warn
    let s3 := if hot && !s2.pwr.warned then s2.event pgPmu 3 else s2
    let s4 : State := { s3 with pwr := { s3.pwr with warned := hot, tripped := s3.pwr.tripped && hot, held := s3.pwr.held && hot }
                                dram := { s3.dram with hot := decide (85 < m.1) } }
    let s5 := if !s4.pwr.tripped && s4.hotAt s4.tripAt then s4.trip m.2
      else if s4.hotAt s4.shedAt && !was then s4.heatShed1
      else s4
    if !s5.pwr.tripped && s5.pwr.wakeDue && s5.pwr.state == .standby then s5.wake else s5

/-- THERM_CFG_WRITE. -/
def State.thermCfg (s : State) (w : Word) : State :=
  if fld w 0 8 < fld w 8 8 ∧ fld w 8 8 + 4 ≤ fld w 16 8 ∧ 100 ≤ fld w 16 8 ∧ fld w 16 8 ≤ 115 then s.setReg pgPmu 0x110 (w &&& 0x0FFFFFFF)
  else s.cause pgPmu 7 0

/-! The device self-test (R386). -/

/-- DEVICE_SELFTEST: a write of PMU.BIST. -/
def State.startBist (s : State) (w : Word) : State :=
  let s1 := s.setRfld pgPmu 0x150 1 1 (fld w 1 1)
  if !bitAt w 0 || s1.bistRuns then s1
  else if (s1.pwr.state = .idle ∨ s1.pwr.state = .standby) ∧ !(bitAt w 1 && (!s1.images.isEmpty || s1.holdsStream)) then
    ({ s1 with pwr := { s1.pwr with bist := some (bitAt w 1) } } : State).setRfld pgPmu 0x150 2 3 1 |>.wake
  else (s1.setRfld pgPmu 0x150 2 3 4).pmuFail 7 5 0

/-- The failures of a self-test (R384): engines fenced, tiles faulted with their engines, rows spared or their pages retired. -/
def State.testFailures (s : State) (r : BistResult) : State :=
  let s1 := forEach r.rows (fun p s => (s.spareRow p 12).bump pgPmu 0x150 24 8 1) s
  let s2 := forEach r.engines (fun e s => s.owe (.fence e.val false 0)) s1
  forEach r.tiles (fun t s => s.owe (.fence t.val true 0)) s2

/-- A mask of numbers. -/
def maskOf (l : List Nat) : Nat := (l.eraseDups.map fun n => 2 ^ n).sum

/-- DRAM after two marches over it: every page is INVALID, but for the retired ones (R265). -/
def State.emptied (s : State) : State :=
  s.withDram fun d => { d with state := d.state.filter fun x => x.2 == 3, merge := [], cache := [] }

/-- BIST_DONE. -/
def State.bistDone (s : State) (r : BistResult) : State :=
  match s.pwr.bist with
  | none => s
  | some scope =>
    let fail := !r.engines.isEmpty || !r.tiles.isEmpty || r.fatal.isSome || (scope && !r.rows.isEmpty)
    let r1 := if scope then r else { r with rows := [] }
    let s1 := forEach (List.range 6) (fun t s => s.clearTile t) ({ s with pwr := { s.pwr with bist := none } } : State)
    let s2 := (s1.restorePersist.testFailures r1).when scope fun s => s.emptied
    ((((s2.setRfld pgPmu 0x150 2 3 (if fail then 3 else 2)).setRfld pgPmu 0x150 8 6 (maskOf (r.engines.map (·.val)))).setRfld
      pgPmu 0x150 16 6 (maskOf (r.tiles.map (·.val)))).event pgPmu 7)

/-! Resets (R351, R360, R420). -/

/-- Take-overs burned into the fuses are in force (R104). -/
def State.applyFuses (s : State) : State :=
  forEach s.fuse.takeovers (fun x s =>
    s.setEng x.1 { s.eng x.1 with check := { (s.eng x.1).check with state := 1, spared := x.2 } }) s

/-- Engines and tiles after a reset that keeps the standing records: what the fuses and they record is in force again (R104, R351). -/
def State.reapply (s : State) : State :=
  forEach s.flt.standing (fun r s =>
    let e := leAt r.body 0 4
    let c := leAt r.body 12 4
    let g := s.eng e
    if 6 ≤ e then s
    else if r.kind = 2 then s.setEng e { g with check := { g.check with state := 1, spared := c } }
    else if r.kind = 3 then s.setEng e { g with check := { g.check with state := 2 } }
    else if r.kind = 4 then
      let s1 := s.setEng e { g with fenced := true }
      if c = 1 then s1.setTile e { s1.tile e with faulted := true } else s1
    else s) s.applyFuses

/-- Pages of PD0 and PD7, whose registers a warm reset keeps. -/
def warmPage (i : Nat) : Bool := i == 0x010 || i == 0x030 || i == 0x480 || (decide (0x400 ≤ i) && decide (i ≤ 0x420))

/-- A warm reset with its cause (Table 16-5): the locks end and the merge buffers begin to drain, while the DRC takes no new request
(R255); visits and burns stop, and everything outside PD0 and PD7 starts anew; the standing records are reapplied. PD0 writes a CRASH record for the resets that it starts itself. -/
def State.warmReset (s0 : State) (cause cls unit : Nat) : State :=
  let s1 := (s0.unlockAll.stopVisits.stopBurns true)
  let s := (if 3 ≤ cause then s1.crash cls unit else s1).log 9 cls (logBody cause 0 0)
  let r : State := { State.reset with
    pending := s.pending, free := s.free, out := s.out, clk := s.clk, pins := s.pins
    regs := s.regs.filter fun w => warmPage (w.1 / 4096)
    pwr := { Pwr.reset with warm := true, bootStart := s.clk.up, temps := s.pwr.temps, warned := s.pwr.warned
                            tripped := s.pwr.tripped, held := s.pwr.tripped }
    fuse := s.fuse
    mem := s.mem.filter fun c => decide (dramBase ≤ c.1)
    dram := { s.dram with selfRefresh := s.dram.merge.isEmpty, importing := false, burning := none, resp := []
                          draining := !s.dram.merge.isEmpty }
    cal := { s.cal with save := none, window := [], windowDone := false }
    flt := { s.flt with deviceFault := false, lastReset := cause, warmCount := min (s.flt.warmCount + 1) 0xFFFF, due := [] } }
  r.reapply

/-- WARM_N_ASSERT: ignored while PORST_N is low. -/
def State.warmAssert (s : State) : State :=
  if s.pins.porstLow then { s with pins := { s.pins with warmLow := true } }
  else ({ s with pins := { s.pins with warmLow := true } } : State).warmReset 1 0 0

/-- PORST_N_ASSERT: OFF; the fuses and what was burned into them stay. -/
def State.powerOff (s0 : State) : State :=
  let s := s0.stopBurns false
  { State.reset with pending := s.pending, free := s.free, out := s.out, fuse := s.fuse
                     pins := { s.pins with porstLow := true }, pwr := { Pwr.reset with state := .off } }

/-- POWER_ON_RESET: PORST_N rises; bring-up runs from step 0, with the fuses sensed. -/
def State.powerOn (s : State) : State :=
  let p := s.powerOff
  ({ p with pins := { p.pins with porstLow := false }, pwr := Pwr.reset } : State).applyFuses

/-- HEARTBEAT_LOSS (class 0x1A). -/
def State.heartbeatLoss (s : State) : State :=
  if s.pwr.booting || s.pins.porstLow then s
  else
    let s1 := s.fault 0x1A 0 0
    let s2 : State := { s1 with flt := { s1.flt with deviceFault := true }, sup := { s1.sup with running := false } }
    if bitAt (s.reg pgFlt 8) 0 then s2.warmReset 3 0x1A 0 else s2

/-- A clock that a power state gates is not counted: CK_ENG outside ACTIVE; in STANDBY all but the reference. -/
def State.gated (s : State) (c : Nat) : Bool :=
  (c == 0 && s.pwr.state != .active) || (s.pwr.state == .standby && c != 5)

/-- CLOCK_OUT_OF_RANGE (class 0x1B): 0 CK_ENG, 1 CK_FAB, 2 CK_MEM, 3 CK_SUP, 4 CK_PIX, 5 the reference. -/
def State.clockBad (s : State) (c : Nat) : State :=
  if s.gated c || s.pins.porstLow then s
  else
    let s1 := s.fault 0x1B c 0
    ({ s1 with flt := { s1.flt with deviceFault := true } } : State).warmReset 4 0x1B c

/-- LOCKSTEP_MISMATCH (class 0x19): a supervisor restart, or a warm reset at the second one within 1 s. -/
def State.lockstep (s : State) : State :=
  if s.pwr.booting || s.pins.porstLow then s
  else
    let s1 := s.fault 0x19 0 0
    let again := match s.sup.lastMismatch with | some t => decide (s.clk.up < t + 1000000000) | none => false
    if again then s1.warmReset 5 0x19 0
    else
      let s2 := (s1.crash 0x19 0).event pgFlt 4
      { s2 with sup := { s2.sup with restarting := true, running := false, lastMismatch := some s.clk.up } }

/-- SUP_RESTART_DONE: the firmware runs again, or its copy's digest did not verify. -/
def State.supRestarted (s : State) (ok : Bool) : State :=
  if s.sup.restarting then
    if ok then { s with sup := { s.sup with restarting := false, running := true }, clk := { s.clk with readyAt := s.clk.up } }
    else { s with sup := { s.sup with restarting := false }, flt := { s.flt with deviceFault := true } }
  else s

/-! Bring-up (R330, R331, R382 to R385). -/

/-- How the boot ROM goes on reading the flash once it has read its SFDP table (R421). -/
def State.flashMode (s : State) (octal : Bool) : State := { s with pwr := { s.pwr with flash := if octal then .octal else .single } }

/-- The checks of a boot manifest (R330): the first-stage loader is at most 256 KiB (Table 15-2), and a copy in flash lies in what the
device addresses (R421). -/
def State.manifestOk (s : State) (stage : Nat) (m : Manifest) : Bool :=
  m.magicOk && m.stage == stage && m.keyOk && (stage != 1 || !s.fuse.bootRevoked.contains m.keyIndex) && m.sigOk &&
    decide (s.fuse.fw ≤ m.secVersion) && m.digestOk &&
    (stage != 1 || decide (m.size ≤ 0x40000)) && (s.pwr.source == 2 || decide (m.offset + m.size ≤ flashBytes))

/-- Bring-up at a step. -/
def State.atStep (s : State) (n : Nat) : State := { s with pwr := { s.pwr with step := n } }

/-- Network boot (R331): N0 to N3 at 1000BASE-T1 with auto-negotiation. -/
def State.netBoot (s : State) : State :=
  let s1 := forEach (List.range 4) (fun n s => (s.setRfld pgNet (0x200 + 0x40 * n) 0 3 1).setRfld pgNet (0x200 + 0x40 * n) 3 1 1) s
  ({ s1 with sec := { s1.sec with netBoot := true }, pwr := { s1.pwr with source := 2 } } : State).atStep 2

/-- The first source from the one in use whose manifest passes. -/
def State.bootSource (s : State) (stage : Nat) (l : List Manifest) : Option (Nat × Manifest) :=
  if s.pwr.source = 2 then (l.head?.filter fun m => s.manifestOk stage m).map fun m => (2, m)
  else ((l.take 2).zipIdx.find? fun m => decide (s.pwr.source ≤ m.2) && s.manifestOk stage m.1).map fun m => (m.2, m.1)

/-- The stage that a boot step verifies, from the sources as the verifier finds them. -/
def State.bootStage (s : State) (stage : Nat) (l : List Manifest) : State :=
  match s.bootSource stage l with
  | some (k, m) =>
    let c := if stage = 1 then { s.sec with sblDigest := m.digest } else { s.sec with fwDigest := m.digest, fwVersion := m.secVersion }
    ({ s with sec := { c with bootCopy := k == 1 }, pwr := { s.pwr with source := k } } : State).atStep (stage + 2)
  | none => s.netBoot

/-- Step 4 ends: the ports take the flash's configuration, or 1000BASE-T1 with auto-negotiation. -/
def State.portBoot (s : State) (cfg : Option (List Word)) : State :=
  forEach (List.range 4) (fun n s => match cfg with
    | some l => s.setReg pgNet (0x200 + 0x40 * n) (l.getD n 0 &&& 0xFF)
    | none => (s.setRfld pgNet (0x200 + 0x40 * n) 0 3 1).setRfld pgNet (0x200 + 0x40 * n) 3 1 1) s

/-- The current owner slot and its number: the highest programmed one that is not revoked (R334). -/
def State.ownerSlot (s : State) : Option (OwnerSlot × Nat) := (s.fuse.slots.zipIdx.filter fun o => !o.1.revoked).getLast?

/-- Owner image keys offered to SEC: those whose hash the current owner slot holds are accepted (R332). -/
def State.takeKeys (s : State) (l : List Nat) : State :=
  let ok := match s.ownerSlot with | some (o, _) => l.filter fun h => h != 0 && o.imageKeys.contains h | none => []
  { s with sec := { s.sec with imageKeys := (s.sec.imageKeys ++ ok).eraseDups } }

/-- The record of the restore window taken or refused. -/
def State.fromWindow (s : State) : State :=
  let x := ({ s with pwr := { s.pwr with waiting := false }, cal := { s.cal with windowDone := false } } : State).takeRecord 2
    ((List.range 39104).map fun i => sget (fun _ => (0 : Byte)) s.cal.window i)
  ({ x.1 with pwr := { x.1.pwr with restored := x.2 } } : State).atStep 7

/-- The last fragment of a BULK_PUT to the restore window: bring-up that waits takes the record, and one that has not come to step 6
finds it there. -/
def State.restoreWindow (s : State) : State :=
  if s.pwr.booting && s.pwr.waiting then s.fromWindow
  else { s with cal := { s.cal with windowDone := true } }

/-- A restore record was found, or the wait for one begins (R281, R383). -/
def State.restoreStep (s : State) (r : StepResult) : State :=
  match r.record with
  | some b =>
    let x := s.takeRecord 1 b
    ({ x.1 with pwr := { x.1.pwr with restored := x.2 } } : State).atStep 7
  | none =>
    if s.cal.windowDone then s.fromWindow
    else if r.waitMs = 0 then s.atStep 7 else { s with pwr := { s.pwr with waiting := true } }

/-- RESTORE_WAIT_EXPIRE: training begins in full. -/
def State.restoreExpire (s : State) : State :=
  if s.pwr.booting && s.pwr.waiting then ({ s with pwr := { s.pwr with waiting := false } } : State).atStep 7 else s

/-- Step 9 ends (R384): a failure of a unit that bring-up needs stops it; else the failures act, and after a power-on reset every
page is INVALID. The cause code beside the failed unit is not given (a free value). -/
def State.builtInTest (s : State) (r : BistResult) : State :=
  match r.fatal with
  | some u => (({ s with pwr := { s.pwr with failed := true } } : State).cause pgPmu ((s.freeWord.toNat % 256) + 256 * (u % 256)) 0).drawn
  | none =>
    let s1 := s.testFailures (if s.pwr.warm then { r with rows := [] } else r)
    (if s.pwr.warm then s1 else s1.emptied).atStep 10

/-- READY rises (step 11): every engine in service runs. -/
def State.bringupEnd (s : State) : State :=
  let s1 := forEach (List.range 6) (fun e s =>
    let g := s.eng e
    if g.fenced then s else (s.setEng e { g with inRotation := true }).setRfld (pgEng e) 8 0 1 1) s
  ({ s1 with
    pwr := { s1.pwr with booting := false, state := .active, bootMs := min ((s1.clk.up - s1.pwr.bootStart) / 1000000) 0xFFFF }
    sup := { s1.sup with running := true }
    clk := { s1.clk with readyAt := s1.clk.up } } : State).atStep 11

/-- The drain of a reset has taken its 8 µs: every entry is in, and the DRC takes requests again (R255, log 102). -/
def State.endDrain (s : State) : State :=
  s.when s.dram.draining fun s => s.drainAll.drained

/-- BRINGUP_STEP_DONE: the step in progress completes; it holds while WARM_N or TEST_EN acts at step 0, while a trip is in force,
and after a failure. A warm reset skips steps 6 and 7 (R385). -/
def State.stepDone (s : State) (r : StepResult) : State :=
  if !s.pwr.booting || s.pins.porstLow || s.pwr.held || s.pwr.failed || s.pwr.waiting then s
  else match s.pwr.step with
    | 0 => if s.pins.warmLow || s.pins.testEn then s else s.endDrain.atStep 1
    | 1 => s.atStep 2
    | 2 => (s.flashMode r.octal).bootStage 1 r.boot
    | 3 => s.bootStage 2 r.boot
    | 4 => ((s.portBoot r.portCfg).takeKeys r.imageKeys).atStep 5
    | 5 => if s.pwr.warm then (s.withDram fun d => { d with selfRefresh := false }).atStep 8 else s.atStep 6
    | 6 => s.restoreStep r
    | 7 => (s.train s.pwr.restored r.passes r.trained r.failing).atStep 8
    | 8 => (forEach (List.range 6) (fun t s => s.clearTile t) s).atStep 9
    | 9 => s.builtInTest r.test
    | 10 => s.bringupEnd
    | _ => s

/-! Clocks and pins (R373, R418, R419). -/

/-- CK_AON from the internal oscillator, or from the crystal. -/
def State.aon (s : State) (internal : Bool) : State := { s with clk := { s.clk with aonInternal := internal } }

/-- PPS_PULSE: a whole second starts a pulse on GPIO2 while time is locked. -/
def State.ppsPulse (s : State) : State :=
  if s.net.locked && s.clk.ptp % 1000000000 == 0 then { s with clk := { s.clk with pps := some s.clk.ptp } } else s

/-- The levels of the output pins FAULT_N, REPLACE_N, READY, GPIO0 (THERM_N), GPIO1 (SHED_N), GPIO2 (PPS) and XSPI_RST_N; open-drain pins
read high when released (Table 20-6). XSPI_RST_N is low while PORST_N is low and for 100 µs after it rises (R421). -/
def State.pinLevels (s : State) : List Bool :=
  let up := !s.pins.porstLow
  [!up || !s.flt.deviceFault, !up || !s.flt.replaced, up && s.ready, !up || !s.hotAt s.warn, !up || s.pwr.heatShed.isEmpty,
   match s.clk.pps with | some t => up && s.net.locked && decide (s.clk.ptp < t + 1000000) | none => false,
   up && decide (100000 ≤ s.clk.up)]

/-- The level of pin FSYNCp: low while PORST_N is low; else the pulse that R58 gives each edge, and the inactive level of POL between
the pulses and while the port's domain is off (R376, Table 20-6). -/
def State.fsyncPin (s : State) (p : Nat) : Bool :=
  let pulse := s.portPowered p && s.rfld (pgCam p) 0x1C0 0 1 == 1 && (s.port p).fsyncLast.any fun t =>
    decide (t ≤ s.clk.ptp) && decide (s.clk.ptp < t + s.rfld (pgCam p) 0x1C8 0 16)
  !s.pins.porstLow && (bitAt (s.reg (pgCam p) 0x1C0) 2 != pulse)

end Sys2Proof.Machine
end

