-- ==== Sys2Proof/Machine/Settle.lean ====
section
/-! DEFINITION. What the fault manager does at the end of a command (R346, R359): the work that blocks handed to it, and the
replacement request. While the supervisor restarts, the work waits. -/

namespace Sys2Proof.Machine

open Sys2Proof

/-- One piece of work done. -/
def State.act (s : State) : Due → State
  | .restart j cls => s.restartJob j cls false
  | .restartAll all cls => s.restartAll all cls
  | .stop j => s.stopJob j 3 true
  | .frozenEngine e j => (s.stopJob j 3 true).softReset e
  | .fence e tile cls => s.fenceEngine e tile cls
  | .retired p => s.pageRetired p
  | .ue p => s.pageLost p
  | .damaged a => s.imageDamaged a
  | .hang e => s.hangReset e

/-- The work in order, what it brings about included; at most `n` pieces. -/
def State.actAll : Nat → State → State
  | 0, s => s
  | n + 1, s => match s.flt.due with
    | [] => s
    | d :: l => State.actAll n (({ s with flt := { s.flt with due := l } } : State).act d)

/-- The end of a command. -/
def State.settle (s : State) : State := (if s.sup.restarting then s else State.actAll 256 s).checkReplace

/-- A meaning that only changes the state. -/
def done (s : State) : Host.Outcome State Fault Refusal := .next s.settle

end Sys2Proof.Machine
end

