-- ==== Sys2Proof/Machine/Calibration.lean ====
section
/-! DEFINITION. The commands of lane calibration (R61, R268 to R282). -/

namespace Sys2Proof.Machine

open Sys2Proof

/-- LANE_VISIT_START (R269, R272). -/
def execLaneVisitStart (c : Fin 128) (g : Fin 2) (s : State) : Host.Outcome State Fault Refusal := done (s.visitStart c g)

/-- CAL_PASS_DONE (R273 to R277). -/
def execCalPassDone (c : Fin 128) (g : Fin 2) (m : Swatch) (s : State) : Host.Outcome State Fault Refusal := done (s.passDone c g m)

/-- CAM_LANE_MEASURE (R61, R278). -/
def execCamLaneMeasure (p : Fin 16) (l : Fin 4) (fine thr : Vector (Nat × Nat) 64) (s : State) :
    Host.Outcome State Fault Refusal := done (s.camMeasure p l ⟨fine, thr⟩)

/-- CAM_LANE_APPLY (R278). -/
def execCamLaneApply (p : Fin 16) (l : Fin 4) (s : State) : Host.Outcome State Fault Refusal := done (s.camApply p l)

/-- CAL_SAVE (R279). -/
def execCalSave (w : Word) (s : State) : Host.Outcome State Fault Refusal := done (s.orderSave w)

/-- SAVE_DONE (R279, R280). -/
def execSaveDone (s : State) : Host.Outcome State Fault Refusal := done s.saveDone

end Sys2Proof.Machine
end

