-- ==== Sys2Proof/Machine/Camera.lean ====
section
/-! DEFINITION. The commands of the camera ports (R39 to R61). -/

namespace Sys2Proof.Machine

open Sys2Proof

/-- PORT_ENABLE: a write of 1 to PORT_EN (R41, R54, R55, R279). -/
def execPortEnable (p : Fin 16) (s : State) : Host.Outcome State Fault Refusal := done (s.portEnable p)

/-- PORT_DISABLE: PORT_EN written to 0 (R55). -/
def execPortDisable (p : Fin 16) (s : State) : Host.Outcome State Fault Refusal := done (s.portDisable p)

/-- STREAM_ENABLE: a write of STREAMn_CFG that sets EN (R42, R56). -/
def execStreamEnable (p : Fin 16) (n : Fin 4) (w : Word) (s : State) : Host.Outcome State Fault Refusal :=
  done (s.writeSlotCfg (4 * p + n) (putFld w 0 1 1))

/-- STREAM_DISABLE: a write of STREAMn_CFG that clears EN (R56). -/
def execStreamDisable (p : Fin 16) (n : Fin 4) (w : Word) (s : State) : Host.Outcome State Fault Refusal :=
  done (s.writeSlotCfg (4 * p + n) (putFld w 0 1 0))

/-- LINK_UP (R41, R55). -/
def execLinkUp (p : Fin 16) (gear : Fin 8) (s : State) : Host.Outcome State Fault Refusal := done (s.linkUp p gear)

/-- LINK_DOWN (R55, R57). -/
def execLinkDown (p : Fin 16) (s : State) : Host.Outcome State Fault Refusal := done (s.linkDown p)

/-- GEAR_CHANGE (R41). -/
def execGearChange (p : Fin 16) (gear : Fin 8) (s : State) : Host.Outcome State Fault Refusal := done (s.gearChange p gear)

/-- FRAME_START_PACKET (R44, R45, R50, R52). -/
def execFrameStartPacket (p : Fin 16) (vc : Fin 32) (corrected : Bool) (s : State) : Host.Outcome State Fault Refusal :=
  done (s.frameStart p vc corrected)

/-- FRAME_END_PACKET (R44, R45, R50, R51). -/
def execFrameEndPacket (p : Fin 16) (vc : Fin 32) (corrected : Bool) (s : State) : Host.Outcome State Fault Refusal :=
  done (s.frameEndPacket p vc corrected)

/-- LINE_START_PACKET (R44, R45, R47, R48). -/
def execLineStartPacket (p : Fin 16) (vc : Fin 32) (line : Fin 65536) (corrected : Bool) (s : State) :
    Host.Outcome State Fault Refusal := done (s.lineStart p vc line corrected)

/-- LINE_END_PACKET (R44, R45). -/
def execLineEndPacket (p : Fin 16) (vc : Fin 32) (_line : Fin 65536) (corrected : Bool) (s : State) :
    Host.Outcome State Fault Refusal := done (s.lineEnd p vc corrected)

/-- LONG_PACKET (R43 to R54). -/
def execLongPacket (p : Fin 16) (vc : Fin 32) (dt : Fin 64) (data : LongPayload) (crcOk corrected : Bool) (s : State) :
    Host.Outcome State Fault Refusal := done (s.longPacket p vc dt data.bytes crcOk corrected data.retx)

/-- DISCARDED_SHORT_PACKET (R44, R45). -/
def execDiscardedShortPacket (p : Fin 16) (_vc : Fin 32) (_dt : Fin 64) (corrected : Bool) (s : State) :
    Host.Outcome State Fault Refusal := done (s.discardPacket p corrected)

/-- UNCORRECTABLE_HEADER (R45, R46). -/
def execUncorrectableHeader (p : Fin 16) (s : State) : Host.Outcome State Fault Refusal := done (s.badHeader p)

/-- FE_MISSING (R50, R51). -/
def execFeMissing (p : Fin 16) (n : Fin 4) (s : State) : Host.Outcome State Fault Refusal := done (s.feMissing (4 * p + n))

/-- FRAME_TIMEOUT (R50, R51). -/
def execFrameTimeout (p : Fin 16) (n : Fin 4) (s : State) : Host.Outcome State Fault Refusal := done (s.frameTimeout (4 * p + n))

/-- STREAM_ABSENT (R53). -/
def execStreamAbsent (p : Fin 16) (n : Fin 4) (s : State) : Host.Outcome State Fault Refusal := done (s.streamAbsent (4 * p + n))

/-- CCI_GO: a write of CCI_CMD (R57). -/
def execCciGo (p : Fin 16) (w : Word) (s : State) : Host.Outcome State Fault Refusal := done (s.cciWrite p w)

/-- CCI_DONE (R57). -/
def execCciDone (p : Fin 16) (nack : Bool) (data : List Byte) (s : State) : Host.Outcome State Fault Refusal :=
  done (s.cciDone p nack data)

/-- CCI_TIMEOUT (R57). -/
def execCciTimeout (p : Fin 16) (s : State) : Host.Outcome State Fault Refusal := done (s.cciTimeout p)

/-- FSYNC_MODE_WRITE (R58). -/
def execFsyncModeWrite (p : Fin 16) (w : Word) (s : State) : Host.Outcome State Fault Refusal := done (s.fsyncMode p w)

/-- FSYNC_PERIOD_WRITE (R60). -/
def execFsyncPeriodWrite (p : Fin 16) (w : Word) (s : State) : Host.Outcome State Fault Refusal := done (s.fsyncPeriodWrite p w)

/-- FSYNC_EDGE (R58, R60). -/
def execFsyncEdge (p : Fin 16) (s : State) : Host.Outcome State Fault Refusal := done (s.fsyncEdge p)

/-- FSYNC_UPLINK_MESSAGE (R58, R59). -/
def execFsyncUplinkMessage (p : Fin 8) (s : State) : Host.Outcome State Fault Refusal := done (s.fsyncUplink p)

end Sys2Proof.Machine
end

