-- ==== Sys2Proof/Machine/Dma.lean ====
section
/-! DEFINITION. The commands of the queue manager and the DMA engine (R284 to R305). -/

namespace Sys2Proof.Machine

open Sys2Proof

/-- QUEUE_ENABLE: a write of the context word that holds EN, with EN = 1 (R285, R286). -/
def execQueueEnable (q : Fin 16384) (w : Word) (s : State) : Host.Outcome State Fault Refusal :=
  done (s.queueWrite q 2 (putFld w 8 1 1))

/-- QUEUE_DISABLE: a write of the context word that holds EN, with EN = 0 (R285, R300). -/
def execQueueDisable (q : Fin 16384) (w : Word) (s : State) : Host.Outcome State Fault Refusal :=
  done (s.queueWrite q 2 (putFld w 8 1 0))

/-- QUEUE_CONTEXT_WRITE (R285). -/
def execQueueContextWrite (q : Fin 16384) (i : Fin 16) (w : Word) (s : State) : Host.Outcome State Fault Refusal :=
  done (s.queueWrite q i w)

/-- DOORBELL (R289, R290, R292). -/
def execDoorbell (q : Fin 16384) (v : Word) (s : State) : Host.Outcome State Fault Refusal := done (s.doorbell q v)

/-- DMA_DESCRIPTOR_START (R293, R302, R341, R354). -/
def execDmaDescriptorStart (d : Fin 128) (ecc : Bool) (s : State) : Host.Outcome State Fault Refusal := done (s.dmaStart d ecc)

/-- DESCRIPTOR_COMPLETE (R288, R294, R296, R297). -/
def execDescriptorComplete (d : Fin 128) (s : State) : Host.Outcome State Fault Refusal := done (s.dmaComplete d)

/-- DESC_HALF (R297). -/
def execDescHalf (d : Fin 128) (s : State) : Host.Outcome State Fault Refusal := done (s.dmaHalf d)

/-- DMA_ACCESS_TIMEOUT (R298). -/
def execDmaAccessTimeout (d : Fin 128) (addr : Nat) (s : State) : Host.Outcome State Fault Refusal :=
  if addr < 2 ^ 48 then done (s.dmaFail d 1 addr) else .refused (.illFormed "DMA_ACCESS_TIMEOUT")

/-- LINK_TRANSFER_ERROR (R298). -/
def execLinkTransferError (d : Fin 128) (addr : Nat) (s : State) : Host.Outcome State Fault Refusal :=
  if addr < 2 ^ 48 then done (s.dmaFail d 2 addr) else .refused (.illFormed "LINK_TRANSFER_ERROR")

/-- DMA_RETRY (R298, R299, R354). -/
def execDmaRetry (d : Fin 128) (ok : Bool) (s : State) : Host.Outcome State Fault Refusal := done (s.dmaRetry d ok)

/-- DMA_STOP (R300). -/
def execDmaStop (d : Fin 128) (s : State) : Host.Outcome State Fault Refusal := done (s.chanStop d none)

/-- DMA_RESUME (R299, R300, R301). -/
def execDmaResume (d : Fin 128) (s : State) : Host.Outcome State Fault Refusal := done (s.chanResume d)

end Sys2Proof.Machine
end

