-- ==== Sys2Proof/Machine/DrcOps.lean ====
section
/-! DEFINITION. The DRC's writes: repairs added, burned and imported (R262 to R267). -/

namespace Sys2Proof.Machine

open Sys2Proof

/-- The responses of the last operation forgotten. -/
def State.quiet (s : State) : State := s.withDram fun d => { d with resp := [] }

/-- A repair named by software: the row of its page is soft-spared, requester 12. -/
def State.repairAdd (s : State) (w : Word) : State := s.quiet.spareRow (fld w 0 23) 12

/-- The burn of the soft repairs: performed from a host session of an OWNED device; refused outside IDLE, or with no fuse space
left; in STANDBY it wakes the device (Table 18-3). -/
def State.repairBurn (s0 : State) (session : Nat) (w : Word) : State :=
  let s := s0.quiet
  if bitAt w 0 && s.owned && !(s.sess session).peer && !(s.sess session).unowned then
    if s.dram.burning.isSome then s
    else if (s.pwr.state = .idle ∨ s.pwr.state = .standby) ∧ 0 < s.fuse.fieldLeft then
      (s.withDram fun d => { d with burning := some s.clk.up }).wake
    else s.cause pgDrc (drcCause 5 0 0) 0
  else s

/-- The entries of a TX4200 list: up to 256 64-bit words, ending at the first zero (R267). -/
def importList : Nat → List Byte → List Nat
  | 0, _ => []
  | n + 1, bs =>
    let e := leAt bs 0 8
    if bs.length < 8 ∨ e = 0 then [] else e :: importList n (bs.drop 8)

/-- Whether an import entry names a 4 KiB page of DRAM. -/
def importOk (e : Nat) : Bool := decide (e % 4096 = 0) && inDram e 4096

/-- An import: each row of each listed page is spared, or retired where its bank has no spare. -/
def State.importGo (s0 : State) (w : Word) : State :=
  let s := s0.quiet
  if bitAt w 0 then
    if s.dram.importing then s.cause pgDrc (drcCause 6 12 0) 0
    else
      let a := (s.reg pgDrc 0x138).toNat + 2 ^ 32 * s.rfld pgDrc 0x13C 0 16
      let n := if dramBase ≤ a ∧ a < dramEnd then min 2048 (dramEnd - a) else 0
      let r := s.dramRead 12 a n
      let es := importList 256 r.2.data
      let s2 := (r.1.withDram fun d => { d with importing := true }).setRfld pgDrc 0x140 16 8
        (min 255 (es.filter fun e => !importOk e).length)
      forEach (es.filter importOk) (fun e s =>
        forEach (List.range 4) (fun i s =>
          if (s.fuse.hard ++ s.dram.soft).contains (pageNum e + i) then s else s.spareRow (pageNum e + i) 12) s) s2
  else s

end Sys2Proof.Machine
end

