-- ==== Sys2Proof/Machine/Dram.lean ====
section
/-! DEFINITION. The commands of the DRAM controller (R241 to R269, R426). -/

namespace Sys2Proof.Machine

open Sys2Proof

/-- DRAM_READ (R241, R247, R254, R256): the response, or the page's lock with the read waiting; not accepted while a reset drains (R255). -/
def execDramRead (req : Fin 11) (leaf : Fin 128) (addr : Nat) (upsets : List (Nat × Nat)) (s : State) :
    Host.Outcome State Fault Refusal :=
  if inDram addr 1 then
    if s.dram.draining then done s.quiet else
    let p := pageNum addr
    let q := (addr - dramBase) % 1024 / 64
    let s1 := (s.quiet.upset upsets).granted (who req leaf) addr
    match lockOf s1.dram p with
    | some _ => done (s1.waitAt p (.read req addr s1.clk.up))
    | none =>
      if s1.needsRecon p q then
        done (s1.withDram fun d => { d with locks := d.locks ++ [⟨p, false, req, s1.clk.up, [.read req addr s1.clk.up]⟩] })
      else done (State.answer (s1.respond req addr 0))
  else .refused (.illFormed "DRAM_READ")

/-- DRAM_WRITE (R248, R251, R254, R266); not accepted while a reset drains (R255). -/
def execDramWrite (req : Fin 11) (leaf : Fin 128) (addr : Nat) (bytes : List (Option Byte)) (s : State) :
    Host.Outcome State Fault Refusal :=
  if inDram addr 1 && decide (1 ≤ bytes.length) && decide (addr % 64 + bytes.length ≤ 64) then
    if s.dram.draining then done s.quiet else
    let p := pageNum addr
    let s1 := s.quiet.granted (who req leaf) addr
    match lockOf s1.dram p with
    | some _ => done (s1.waitAt p (.write req addr bytes s1.clk.up))
    | none => done (s1.writeSector req addr bytes).1
  else .refused (.illFormed "DRAM_WRITE")

/-- DRAM_INVALIDATE (R249, R250): a page whose lock is held takes its invalidation when the lock is released. -/
def execDramInvalidate (req : Fin 11) (addr len : Nat) (s : State) : Host.Outcome State Fault Refusal :=
  if inDram addr len then
    let s1 := s.quiet
    if s.dram.draining then done s1
    else if addr % 64 = 0 ∧ len % 64 = 0 then
      let held := ((s1.dram.locks.map (·.page)).filter fun p =>
        (lockOf s1.dram p).isSome && decide (coverMask p addr len ≠ 0)).dedup
      done ((forEach held (fun p s => s.waitAt p (.inval (coverMask p addr len))) s1).invalRange req addr len held)
    else done (s1.invalRange req addr len [])
  else .refused (.illFormed "DRAM_INVALIDATE")

/-- MERGE_DRAIN (R251, R252): an entry that is 1 µs old drains; a flagged old word leads to reconstruction first. An entry of
the page-check cache that fails its own parity is discarded (R253). -/
def execMergeDrain (page : Nat) (found : DrainFinds) (s : State) : Host.Outcome State Fault Refusal :=
  let s1 := (s.quiet.upset found.upsets).when found.parity fun s => s.dropCached page
  match s1.mergeOf page, lockOf s1.dram page with
  | none, _ => done s1.drained
  | some _, some _ => done (s1.waitAt page .drain)
  | some m, none =>
    if (s1.drainReads m).any (fun w => wordClass (s1.seen page w) == 2 && (decide (w < 144) || s1.metaLost page)) then
      done (s1.withDram fun d => { d with locks := d.locks ++ [⟨page, false, 10, s1.clk.up, [.drain]⟩] })
    else done (s1.drainPage page 10).drained

/-- RECONSTRUCT_DONE (R256, R257): the page's words are corrected or the page is lost, and its lock is released. The accesses of engines
that waited slip by their wait (Table 10-2). -/
def execReconstructDone (page : Nat) (s : State) : Host.Outcome State Fault Refusal :=
  let s1 := s.quiet
  match s1.dram.locks.find? fun l => l.page == page && !l.copy with
  | none => done s1
  | some l => done (s1.reconDone l).drained

/-- A bucket after one leak (R259). -/
def leak (thresh : Nat) (b : Bucket) : Bucket := ⟨b.level - 1, b.raised && !decide (2 * (b.level - 1) < thresh)⟩

/-- BUCKET_LEAK (R259): every bucket loses 1; CE_RATE is armed again below THRESH / 2. -/
def execBucketLeak (s : State) : Host.Outcome State Fault Refusal :=
  let s1 := s.quiet
  done (s1.withDram fun d =>
    { d with buckets := (d.buckets.map fun e => (e.1, leak s1.thresh e.2)).filter fun e => e.2 != ⟨0, false⟩ })

/-- SPARE_COPY_DONE (R261, R262): the copy that runs in its bank completes. -/
def execSpareCopyDone (page : Nat) (s : State) : Host.Outcome State Fault Refusal :=
  let s1 := s.quiet
  if copyRuns s1.dram page then done (s1.copyDone page).drained else done s1

/-- The pages that the scrubber still has to visit in its pass, from an index up (R260). -/
def State.scrubList (s : State) (from_ : Nat) : List Nat :=
  (s.dram.state.filter fun e => decide (from_ ≤ e.1) && (e.2 == 1 || e.2 == 2)).map (·.1)

/-- A page that the scrubber has to skip now: it has a merge entry, or its lock is held. -/
def State.scrubBusy (s : State) (p : Nat) : Bool := (s.mergeOf p).isSome || (lockOf s.dram p).isSome

/-- The eight syndromes of a page as it is received are zero (R260): by the code's linearity those of its error masks. -/
def State.syndromesZero (s : State) (p : Nat) : Bool :=
  let left := (List.range 144).map fun w => wordLeft (s.seen p w)
  left.all (· == 0) || (List.range 8).all fun b =>
    let l := left.map (laneByte b)
    rsChecks (l.take 128) == l.drop 128

/-- A visit of a page: every corrected word and differing metadata is written back; a flagged word or a nonzero syndrome
starts a reconstruction (R260). -/
def State.scrubPageAt (s : State) (p : Nat) : State :=
  let s1 := s.setRfld pgDrc 0x104 0 23 p
  if (List.range 144).any (fun w => wordClass (s1.seen p w) == 2) || !s1.syndromesZero p || s1.metaLost p then
    s1.withDram fun d => { d with locks := d.locks ++ [⟨p, false, 11, s1.clk.up, []⟩] }
  else (s1.correct p 11 (List.range 146)).clearFlips p (List.range 146)

/-- SCRUB_VISIT (R260, R392): the next page of the pass, or a skipped page that is free again; SCRUB_PASS at the end. -/
def execScrubVisit (upsets : List (Nat × Nat)) (s : State) : Host.Outcome State Fault Refusal :=
  let s1 := s.quiet.upset upsets
  if bitAt (s1.reg pgDrc 8) 0 && !s1.dram.selfRefresh then
    let ahead := s1.scrubList s1.dram.scrubPage
    let again := s1.dram.scrubSkip.filter fun p => (s1.pageState p == 1 || s1.pageState p == 2)
    let finish := fun (s : State) =>
      if (s.scrubList s.dram.scrubPage).isEmpty && s.dram.scrubSkip.isEmpty then
        ((s.withDram fun d => { d with scrubPage := 0 }).bump pgDrc 0x104 24 8 1).event pgDrc 5
      else s
    match again.find? fun p => !s1.scrubBusy p with
    | some p =>
      done (finish ((s1.withDram fun d => { d with scrubSkip := again.filter (· != p) }).scrubPageAt p))
    | none =>
      let skipped := ahead.takeWhile fun p => s1.scrubBusy p
      match ahead.drop skipped.length with
      | p :: _ =>
        done (finish ((s1.withDram fun d =>
          { d with scrubPage := p + 1, scrubSkip := again ++ skipped }).scrubPageAt p))
      | [] =>
        let s2 := s1.withDram fun d =>
          { d with scrubPage := (skipped.getLast?.map (· + 1)).getD d.scrubPage, scrubSkip := again ++ skipped }
        if ahead.isEmpty && again.isEmpty && decide (s1.dram.scrubPage = 0) then done s2 else done (finish s2)
  else done s1

/-- REPAIR_ADD (R262, R265): the row of the named page is soft-spared, requester 12. -/
def execRepairAdd (w : Word) (s : State) : Host.Outcome State Fault Refusal := done (s.repairAdd w)

/-- REPAIR_BURN (R264, R341, Table 18-3). -/
def execRepairBurn (session : Fin 32) (w : Word) (s : State) : Host.Outcome State Fault Refusal := done (s.repairBurn session w)

/-- BURN_DONE (R104, R264): every soft repair is hard, up to the fuses left, and every recorded take-over. -/
def execBurnDone (s : State) : Host.Outcome State Fault Refusal :=
  let s1 := s.quiet
  if s1.dram.burning.isSome then
    done (((s1.burnRepairs (s1.dram.soft.length + s1.flt.standing.length)).withDram fun d => { d with burning := none }).event pgDrc 6)
  else done s1

/-- IMPORT_GO (R267): each row of each listed page is spared, or retired where its bank has no spare. -/
def execImportGo (w : Word) (s : State) : Host.Outcome State Fault Refusal := done (s.importGo w)

/-- IMPORT_DONE (R267): the list is done once its copies are. -/
def execImportDone (s : State) : Host.Outcome State Fault Refusal :=
  let s1 := s.quiet
  if s1.dram.importing && !(s1.dram.copies.any fun c => c.2 == 12) then
    done ((s1.withDram fun d => { d with importing := false }).event pgDrc 7)
  else done s1

end Sys2Proof.Machine
end

