-- ==== Sys2Proof/Machine/Engine.lean ====
section
/-! DEFINITION. The commands of the stripe engines (R82 to R112, R346 to R350). -/

namespace Sys2Proof.Machine

open Sys2Proof

/-- FETCH_START (R90, R91, R93, R96, R97). -/
def execFetchStart (e : Fin 6) (plan : List FetchEntry) (s : State) : Host.Outcome State Fault Refusal := done (s.startFetch e plan)

/-- FETCH_LINE_LAND (R29, R96, R147, R258, R295). -/
def execFetchLineLand (e : Fin 6) (l : FetchLand) (s : State) : Host.Outcome State Fault Refusal := done (s.fetchLand e l)

/-- STRIPE_EXECUTE_START (R92, R93, R227). -/
def execStripeExecuteStart (e : Fin 6) (s : State) : Host.Outcome State Fault Refusal := done (s.startStripe e)

/-- WSET (R83, R163). -/
def execWset (e : Fin 6) (c : WsetCmd) (s : State) : Host.Outcome State Fault Refusal := done (s.issueCmd e (.wset c))

/-- MM (R84, R117 to R121, R161). -/
def execMm (e : Fin 6) (c : MmCmd) (s : State) : Host.Outcome State Fault Refusal := done (s.issueCmd e (.mm c))

/-- DRAIN (R87, R122 to R125). -/
def execDrain (e : Fin 6) (c : DrainCmd) (s : State) : Host.Outcome State Fault Refusal := done (s.issueCmd e (.drain c))

/-- VOP (R126, R127). -/
def execVop (e : Fin 6) (c : VopCmd) (s : State) : Host.Outcome State Fault Refusal := done (s.issueCmd e (.vop c))

/-- VLUT (R128, R129). -/
def execVlut (e : Fin 6) (c : VlutCmd) (s : State) : Host.Outcome State Fault Refusal := done (s.issueCmd e (.vlut c))

/-- VRED (R126, R127). -/
def execVred (e : Fin 6) (c : VredCmd) (s : State) : Host.Outcome State Fault Refusal := done (s.issueCmd e (.vred c))

/-- FFT (R88, R173). -/
def execFft (e : Fin 6) (c : FftCmd) (s : State) : Host.Outcome State Fault Refusal := done (s.issueCmd e (.fft c))

/-- MOVE (R160, R164, R167, R168, R176, R177). -/
def execMove (e : Fin 6) (c : MoveCmd) (s : State) : Host.Outcome State Fault Refusal := done (s.issueCmd e (.move c))

/-- PUT (R143, R144). -/
def execPut (e : Fin 6) (c : PutCmd) (s : State) : Host.Outcome State Fault Refusal := done (s.issueCmd e (.put c))

/-- TACK (R99, R100). -/
def execTack (e : Fin 6) (mask : Fin 8) (stripe : Bool) (s : State) : Host.Outcome State Fault Refusal :=
  done (s.issueTack e mask stripe)

/-- TACK_RELEASE (R99). -/
def execTackRelease (e : Fin 6) (s : State) : Host.Outcome State Fault Refusal := done (s.releaseTack e)

/-- SIGNAL (R94, R99). -/
def execSignal (e : Fin 6) (out hist : Option Place) (taps : List (Nat × Arr)) (parts : List (Nat × Nat × Place × Nat))
    (s : State) : Host.Outcome State Fault Refusal := done (s.issueSignal e out hist taps parts)

/-- SIGNAL_COMPLETE (R24, R73, R94, R187, R193, R213). -/
def execSignalComplete (e : Fin 6) (s : State) : Host.Outcome State Fault Refusal := done (s.completeSignal e)

/-- COMMAND_COMPLETE (R89). -/
def execCommandComplete (e : Fin 6) (u : EngUnit) (s : State) : Host.Outcome State Fault Refusal := done (s.completeCmd e u)

/-- KAT_COMPLETE (R103, R104, R106). -/
def execKatComplete (e : Fin 6) (colPass gussetPass : Bool) (s : State) : Host.Outcome State Fault Refusal :=
  done (s.katDone e colPass gussetPass)

/-- GUSSET_WINDOW_ADVANCE (R101). -/
def execGussetWindowAdvance (e : Fin 6) (kat mismatch : Bool) (s : State) : Host.Outcome State Fault Refusal :=
  done (s.windowNext e kat mismatch)

/-- CHECK_INJECT (R105). -/
def execCheckInject (e : Fin 6) (s : State) : Host.Outcome State Fault Refusal := done (s.injectMismatch e)

/-- STRIPE_REPLAY_START (R103, R149, R227). -/
def execStripeReplayStart (e : Fin 6) (s : State) : Host.Outcome State Fault Refusal := done (s.startReplay e)

/-- CANCEL_COMPLETE (R95, R142, R146). -/
def execCancelComplete (e : Fin 6) (s : State) : Host.Outcome State Fault Refusal := done ((s.finishCancel e).checkSelftest e)

/-- ENGINE_SELFTEST_REQUEST (R107, R108, R228). -/
def execEngineSelftestRequest (e : Fin 6) (w : Word) (s : State) : Host.Outcome State Fault Refusal := done (s.orderTest e w)

/-- ENGINE_SELFTEST_DONE (R107). -/
def execEngineSelftestDone (e : Fin 6) (failUnit : Fin 256) (pass : Bool) (s : State) : Host.Outcome State Fault Refusal :=
  done (s.testDone e failUnit pass)

/-- ENGINE_RUN (R111). -/
def execEngineRun (e : Fin 6) (run : Bool) (s : State) : Host.Outcome State Fault Refusal := done (s.engineRun e run)

/-- SOFT_RESET (R349). -/
def execSoftReset (e : Fin 6) (s : State) : Host.Outcome State Fault Refusal := done (s.softReset e)

/-- RESET_DONE (R343, R349). -/
def execResetDone (e : Fin 6) (s : State) : Host.Outcome State Fault Refusal := done (s.resetDone e)

/-- ENGINE_HANG (R110, R349, R350). -/
def execEngineHang (e : Fin 6) (s : State) : Host.Outcome State Fault Refusal := done (s.engineHang e)

/-- SOFT_RESET_TIMEOUT (R349). -/
def execSoftResetTimeout (e : Fin 6) (s : State) : Host.Outcome State Fault Refusal := done (s.softResetTimeout e)

/-- POWER_CYCLE_TIMEOUT (R349, R351). -/
def execPowerCycleTimeout (e : Fin 6) (s : State) : Host.Outcome State Fault Refusal := done (s.powerCycleTimeout e)

/-- SCALAR_CORE_MISMATCH (class 0x0B of Table 16-1). -/
def execScalarCoreMismatch (e : Fin 6) (s : State) : Host.Outcome State Fault Refusal := done (s.scalarMismatch e)

end Sys2Proof.Machine
end

