-- ==== Sys2Proof/Machine/PageOps.lean ====
section
/-! DEFINITION. Register pages by power domain, the event registers of a page (R400, R401), restarts that software asks for
(R354) and the progress check (R346, class 0x18). -/

namespace Sys2Proof.Machine

open Sys2Proof

/-- The power domain of the page at an index (Table 17-1). -/
def domainOf (i : Nat) : Nat :=
  if i < 0x10 then 1 else if i < 0x20 then 0 else if i < 0x30 then 1 else if i < 0x80 then 0
  else if i < 0x108 then 4 else if i < 0x110 then 5 else if i < 0x200 then 6
  else if i < 0x2C0 then 8 + (i - 0x200) / 0x20
  else if i < 0x360 then 14 + (i - 0x300) / 0x10
  else if i < 0x400 then 8 + (i - 0x380)
  else if i < 0x500 then 7 else if i < 0x700 then 3 else if i < 0x800 then 2 else 6

/-- A power domain answers: it is on, or retained. -/
def State.domainOn (s : State) (d : Nat) : Bool :=
  match s.pwr.dom.getD d .on with
  | .on => true
  | .retained => true
  | _ => false

/-- Bits of the event registers of a page; 0 for a page without the common header, or whose domain is off (R371). -/
def State.eventBits (s : State) (page : Nat) : Nat :=
  let k := (pageOf page).1
  if (idType k).isSome && s.domainOn (domainOf page) then eventCount k else 0

/-- EVENT_CLEAR: ones written to EVT_RAW clear those bits; no record is created. -/
def State.eventClear (s : State) (page : Nat) (w : Word) : State :=
  s.setReg page 0x10 (s.reg page 0x10 &&& ~~~ (w &&& BitVec.ofNat 32 (2 ^ s.eventBits page - 1)))

/-- EVENT_MASK_WRITE: a mask bit that is cleared over a raw bit creates one record. -/
def State.eventMask (s : State) (page : Nat) (w : Word) : State :=
  let n := s.eventBits page
  let s1 := if n = 0 then s else s.setReg page 0x14 (w &&& BitVec.ofNat 32 (2 ^ n - 1))
  forEach (List.range n) (fun b t => if bitAt (s1.pend page) b && !bitAt (s.pend page) b then t.blockRecord page b else t) s1

/-- EVENT_SET: ones written to EVT_SET set those bits as the events themselves do, with no cause and no action. -/
def State.eventSet (s : State) (page : Nat) (w : Word) : State :=
  forEach (List.range (s.eventBits page)) (fun b t => if bitAt w b then t.event page b else t) s

/-- HOST_JOB_RESTART: a write of FLT.RESTART. GO reads 1 until the job is ready (Regs.lean); a slot that holds no job restarts nothing. -/
def State.hostRestart (s : State) (w : Word) : State :=
  let j := fld w 0 3
  let s1 := s.setRfld pgFlt 0x108 0 3 j
  if bitAt w 31 && (s.job j).isSome then (s1.restartJob j 0 true) else s1

/-- What the progress check watches: rows placed at a port that are not committed and wait for no ring slot, and bands whose
stripes are complete but whose descriptor is not released. -/
def State.progressItems (s : State) : List (Nat × Nat × Nat × Nat) :=
  ((List.range 64).map fun i =>
    let t := s.strm i
    if t.job.isSome && !t.held then
      (if t.stalled then [] else ((s.slot i).store.map fun r => (0, i, r.frame, r.exp * 16384 + r.row))) ++
        (t.frames.map fun f => (f.bands.zipIdx.filter fun b => b.1.complete && !b.1.dropped && !b.1.released).map fun b =>
          (1, i, f.seq, b.2)).flatten
    else []).flatten

/-- PROGRESS_CHECK, every 1 ms: what the last check saw and this one still sees is more than 1 ms old (class 0x18). -/
def State.progressCheck (s : State) : State :=
  let l := s.progressItems
  if l.any fun x => s.sched.progress.contains x then
    (({ s with sched := { s.sched with progress := [] } } : State).fault 0x18 0 0).owe (.restartAll false 0x18)
  else { s with sched := { s.sched with progress := l } }

end Sys2Proof.Machine
end

