-- ==== Sys2Proof/Machine/LinkOps.lean ====
section
/-! DEFINITION. Kweal sessions and the sending of frames: sequence spaces, acknowledgements, resends, NAKs, keys of the ports and
the loss of a session (R306 to R322, R338, R339). -/

namespace Sys2Proof.Machine

open Sys2Proof

/-! Registers of a port and of a session. -/

/-- Offset of the block of port n (Table 14-13). -/
def portReg (n : Nat) : Nat := 0x200 + 0x40 * n

/-- Page and offset of the entry of session n (Table 14-15). -/
def State.bumpSess (s : State) (n off : Nat) : State := if n < 32 then s.bump 0x702 (0x20 * n + off) 0 16 1 else s

/-- Largest payload of a port (R307). -/
def State.payloadLimit (s : State) (n : Nat) : Nat := if s.rfld pgNet (portReg n) 6 1 = 1 then 8960 else 1408

/-- NET answers: out of PORST_N, and in bring-up from the end of step 4 or in network boot (Table 17-6, R331). -/
def State.netUp (s : State) : Bool := !s.pins.porstLow && (!s.pwr.booting || decide (5 ≤ s.pwr.step) || s.sec.netBoot)

/-! Links: a session by its number below 32, an exchange by its address above 65,536. -/

/-- The exchange of a source address. -/
def State.exchange (s : State) (src : Nat) : Option Exchange := s.net.exchanges.find? fun x => x.src == src

/-- The exchanges without that of a source address. -/
def State.dropExchange (s : State) (src : Nat) : State :=
  { s with net := { s.net with exchanges := s.net.exchanges.filter fun x => x.src != src } }

/-- An exchange put in the place of the one with its address. -/
def State.putExchange (s : State) (x : Exchange) : State :=
  let s1 := s.dropExchange x.src
  { s1 with net := { s1.net with exchanges := s1.net.exchanges ++ [x] } }

/-- The number of the link of an exchange. -/
def linkOf (src : Nat) : Nat := 65536 + src

/-- A link. -/
def State.link (s : State) (d : Nat) : Session :=
  if d < 32 then s.sess d else ((s.exchange (d - 65536)).map (·.link)).getD Session.init

/-- A link replaced. -/
def State.setLink (s : State) (d : Nat) (l : Session) : State :=
  if d < 32 then s.setSess d l
  else match s.exchange (d - 65536) with
    | some x => s.putExchange { x with link := l }
    | none => s

/-! Keys of a port (R338, R339). -/

/-- The largest packet number of a port's cipher suite (R306, R308). -/
def State.pnLimit (s : State) (n : Nat) : Nat := if s.rfld pgNet (portReg n) 7 1 = 1 then 2 ^ 64 else 2 ^ 32

/-- The port sends nothing until the switch: its packet number is within 2^16 of exhaustion (R339). -/
def State.pnSpent (s : State) (n : Nat) : Bool :=
  match (s.eth n).keys with
  | some k => decide (s.pnLimit n ≤ k.pn + 65536)
  | none => false

/-- A port may send a frame. -/
def State.sends (s : State) (n : Nat) : Bool := s.netUp && (s.eth n).link && !s.pnSpent n

/-- A frame sent on a port counts its packet number. -/
def State.countPn (s : State) (n : Nat) : State :=
  let p := s.eth n
  match p.keys with
  | some k => s.setEth n { p with keys := some { k with pn := k.pn + 1 } }
  | none => s

/-- Something put on a port, protected when it holds a key; a port that may not send drops it. -/
def State.onPort (s : State) (n : Nat) (w : Wire) : State := if s.sends n then (s.countPn n).emit w else s

/-- A session has a secure channel on a port. -/
def State.joined (s : State) (n p : Nat) : Bool := (s.eth p).scis.any fun x => x.2 == n

/-- The open sessions of a port. -/
def State.openOn (s : State) (p : Nat) : List Nat := (List.range 32).filter fun n => (s.sess n).state == 2 && s.joined n p

/-- Ports without an open session lose their SAKs and a rekey with them (R338, Table 15-7). -/
def State.dropKeys (s : State) : State :=
  forEach (List.range 4) (fun p s =>
    if (s.eth p).keys.isSome && (s.openOn p).isEmpty then s.setEth p { s.eth p with keys := none, scis := [] } else s) s

/-- The switch of a port's transmit SAK once every open session has answered (R339); packets count from 1 again. -/
def State.trySwitch (s : State) (p : Nat) : State :=
  let e := s.eth p
  match e.keys with
  | some k => match k.txNext with
    | some (sak, wait) =>
      if (wait.filter fun n => (s.sess n).state == 2).isEmpty then
        (s.setEth p { e with keys := some { k with tx := sak, txNext := none, pn := 1 } }).event pgSec 2
      else s
    | none => s
  | none => s

/-! Sending (R312, R314, R316). -/

/-- A frame for a link, before it has a sequence number. -/
def mkFrame (d type flags tag : Nat) (payload : List Byte) : KFrame :=
  ⟨type, if d < 32 then d else 0xFFFF, flags, 0, 0, tag, 0, payload⟩

/-- A frame put on the wire with the acknowledgement and the window of its link. -/
def State.wireFrame (s : State) (d : Nat) (f : KFrame) : State :=
  let l := s.link d
  if s.sends l.port then
    ((s.setLink d { l with ackOwed := false }).countPn l.port).emit
      (.kweal l.port d s.clk.ptp { f with ack := l.rxNext, window := 64 - l.heldRx.length })
  else s

/-- A frame that takes the next SEQ now. -/
def State.sendNow (s : State) (d : Nat) (f : KFrame) (push : Option (Nat × Nat)) : State :=
  let l := s.link d
  let f1 := { f with seq := l.txNext }
  (s.setLink d { l with txNext := (l.txNext + 1) % 2 ^ 32, unacked := l.unacked ++ [⟨l.txNext, f1, 0, push⟩] }).wireFrame d f1

/-- A frame that takes the next SEQ, sent while the other side's window has room and else kept in order. `push`: the PUSH or PEER
descriptor that it ends. -/
def State.sendFrame (s : State) (d : Nat) (f : KFrame) (push : Option (Nat × Nat)) : State :=
  let l := s.link d
  if l.queued.isEmpty && decide (l.unacked.length < l.window) then s.sendNow d f push
  else s.setLink d { l with queued := l.queued ++ [⟨0, f, 0, push⟩] }

/-- Waiting frames sent while the window has room; at most `k`. -/
def State.pumpLink : Nat → State → Nat → State
  | 0, s, _ => s
  | k + 1, s, d =>
    let l := s.link d
    match l.queued with
    | [] => s
    | u :: r =>
      if l.unacked.length < l.window then State.pumpLink k ((s.setLink d { l with queued := r }).sendNow d u.frame u.push) d else s

/-- An ACK frame; its SEQ is not given (a free value). -/
def State.sendAck (s : State) (d : Nat) : State :=
  (s.wireFrame d { mkFrame d 7 0 0 [] with seq := s.freeWord.toNat }).drawn

/-- A NAK (Table 14-3): NAK_SEQ, REASON, DETAIL, carrying the TAG of the frame. -/
def State.nak (s : State) (d : Nat) (f : KFrame) (reason detail : Nat) : State :=
  (s.bumpSess d 0x14).sendFrame d (mkFrame d 8 0 f.tag (leBytes 4 f.seq ++ leBytes 2 reason ++ leBytes 2 0 ++ leBytes 8 detail)) none

/-- A byte string cut into pieces of at most n bytes; at least one. -/
def pieces (n : Nat) (b : List Byte) : List (List Byte) :=
  (List.range (max 1 (cdiv b.length n))).map fun i => (b.drop (n * i)).take n

/-- Frames of one transfer or message, MORE on all but the last, which ends `push`. -/
def State.sendRun (s : State) (d type flags tag : Nat) (parts : List (List Byte)) (push : Option (Nat × Nat)) : State :=
  forEach parts.zipIdx (fun p s =>
    let last := decide (p.2 + 1 = parts.length)
    s.sendFrame d (mkFrame d type (flags + if last then 0 else 2) tag p.1) (if last then push else none)) s

/-- A bulk header (Table 14-4). -/
def bulkHeader (space status queue total addr off bytes : Nat) : List Byte :=
  leBytes 1 space ++ leBytes 1 status ++ leBytes 2 queue ++ leBytes 4 total ++ leBytes 8 addr ++ leBytes 4 off ++ leBytes 4 bytes

/-- A BULK_PUT of the device: fragments with their headers and a STATUS; its TAG is a free value. -/
def State.sendPutRun (s : State) (d space queue status : Nat) (data : List Byte) (push : Option (Nat × Nat)) : State :=
  let n := s.payloadLimit (s.link d).port - 24
  s.sendRun d 4 0 s.freeWord.toNat ((pieces n data).zipIdx.map fun p =>
    bulkHeader space status queue data.length 0 (n * p.2) 0 ++ p.1) push |>.drawn

/-! Loss and close of a session (R316, R318, R322). -/

/-- The records of an EVENT frame's payload. -/
def recordsOf (n : Nat) (b : List Byte) (session : Nat) : List EventRec :=
  (List.range n).map fun i => ⟨leAt b (16 * i) 2, leAt b (16 * i + 2) 2, leAt b (16 * i + 4) 4, leAt b (16 * i + 8) 4,
    leAt b (16 * i + 12) 4, session⟩

/-- The queue's next descriptor to send is again the first that is not returned. -/
def State.resend (s : State) (q : Nat) : State :=
  let x := s.queue q
  s.setQueue q { x with sent := x.ctx.cons }

/-- What unacknowledged and waiting frames held: event records go back to the store, descriptors are sent anew. -/
def State.recall (s : State) (d : Nat) : State :=
  let l := s.link d
  let back := ((l.unacked ++ l.queued).filter fun u => u.frame.type == 6).map fun u =>
    recordsOf (u.frame.payload.length / 16) u.frame.payload d
  let s1 : State := { s with net := { s.net with events := back.flatten ++ s.net.events } }
  forEach ((l.unacked ++ l.queued).filterMap fun u => u.push) (fun p s => s.resend p.1) s1

/-- A session becomes LOST: a host session with SESSION_LOST, a peer session with PEER_LOST. -/
def State.loseSession (s : State) (n : Nat) : State :=
  let l := s.sess n
  let s1 := (s.recall n).setSess n { l with state := 3, heldRx := [], bulk := [], unacked := [], queued := [], ackOwed := false }
  let s2 := (forEach (List.range 4) (fun p s => s.trySwitch p) s1.dropKeys)
  if l.peer then s2.fail pgNet 4 (3 + 256 * n + 65536 * l.port) 0 else s2.fail pgNet 3 (2 + 256 * n + 65536 * l.port) 0

/-- A session is closed: its records and secure channels go. -/
def State.closeSession (s : State) (n : Nat) : State :=
  let s1 := forEach (List.range 4) (fun p s =>
    let e := s.eth p
    s.setEth p { e with scis := e.scis.filter fun x => x.2 != n }) (s.setSess n Session.init)
  let s2 : State := { s1 with net := { s1.net with events := s1.net.events.filter fun r => r.session != n } }
  forEach (List.range 4) (fun p s => s.trySwitch p) s2.dropKeys

/-! Acknowledgements (R316, R319). -/

/-- A descriptor that NET sent counts as delivered and is returned; one of an INTERNAL queue is written back first (R288). -/
def State.delivered (s : State) (q n status : Nat) : State :=
  let c := (s.queue q).ctx
  if c.dir = 2 then
    let r := s.readDesc q n
    (r.1.blockWrite 0x93 (who 7 c.channel) (slotAddr c n) (descBytes { r.2 with own := false, status := status })).returnTo q ((n + 1) % 2 ^ 32)
  else s.returnTo q ((n + 1) % 2 ^ 32)

/-- The acknowledgement and window of a received frame: frames before ACK_SEQ are done, their descriptors delivered; the rest wait
anew, and frames that wait for the window go out. -/
def State.ackTo (s : State) (d ack window : Nat) : State :=
  let l := s.link d
  let ok := ack = l.txNext || seqAhead l.txNext ack
  let gone := if ok then l.unacked.filter fun u => seqAhead ack u.seq else []
  let left := if ok then l.unacked.filter fun u => !seqAhead ack u.seq else l.unacked
  let s1 := s.setLink d { l with window := window, unacked := if gone.isEmpty then left else left.map fun u => { u with resends := 0 } }
  let s2 := forEach (gone.filterMap fun u => u.push) (fun p s => s.delivered p.1 p.2 0) s1
  s2.pumpLink (s2.link d).queued.length d

/-- MAX_RETX; 0 acts as 1. -/
def State.maxRetx (s : State) : Nat := max 1 (s.rfld pgNet 0x104 16 4)

/-- The exchange of an address ended; a session that was opening is closed. Its sequence spaces go on. -/
def State.endExchange (s : State) (src : Nat) : State :=
  match s.exchange src with
  | some x =>
    let s1 := s.putExchange { x with stage := 0, kem := 0, transcript := [], quote := [], peerOwner := none }
    if x.session < 32 ∧ (s1.sess x.session).state = 1 then s1.setSess x.session Session.init else s1
  | none => s

/-- KWEAL_RETRANSMIT: the oldest unacknowledged frame is resent with RETX, or its session is LOST. -/
def State.retransmit (s : State) (d : Nat) : State :=
  let l := s.link d
  match l.unacked with
  | [] => s
  | u :: r =>
    if l.state ≠ 2 then s
    else if s.maxRetx ≤ u.resends then (if d < 32 then s.loseSession d else (s.endExchange (d - 65536)).dropExchange (d - 65536))
    else
      let f := { u.frame with flags := u.frame.flags ||| 8 }
      ((s.setLink d { l with unacked := { u with resends := u.resends + 1 } :: r }).bumpSess d 0x10).wireFrame d f

/-- DELAYED_ACK. -/
def State.delayedAck (s : State) (d : Nat) : State := if (s.link d).ackOwed then s.sendAck d else s

/-- SESSION_KEEPALIVE_EXPIRE, of a host session. -/
def State.keepaliveExpire (s : State) (n : Nat) : State :=
  if (s.sess n).state = 2 ∧ !(s.sess n).peer then s.loseSession n else s

/-- PEER_KEEPALIVE: an ACK on a peer session. -/
def State.peerKeepalive (s : State) (n : Nat) : State := if (s.sess n).state = 2 ∧ (s.sess n).peer then s.sendAck n else s

/-! ATTEST messages (Table 15-3). -/

/-- An ATTEST message: SUBTYPE, seven zero bytes and the body, in fragments of the port's payload limit. -/
def State.attest (s : State) (d flags tag sub : Nat) (body : List Byte) : State :=
  s.sendRun d 10 flags tag (pieces (s.payloadLimit (s.link d).port) (leBytes 8 sub ++ body)) none

end Sys2Proof.Machine
end

