-- ==== Sys2Proof/Machine/LoadOps.lean ====
section
/-! DEFINITION. The loader: the checks of Table 09-7 in their order, the commit of a job, and the start of a tensor step (R197 to
R217). -/

namespace Sys2Proof.Machine

open Sys2Proof

/-! What the checks read. -/

/-- The image that a command runs: the resident copy with the same DIGEST, else the one it brings (R212). -/
def State.residentImage (s : State) (m : Image) : Option Image := (s.images.find? fun r => r.img.digest == m.digest).map (·.img)

/-- Whether an image has a section. -/
def Image.has (m : Image) (id : Nat) : Bool := m.sections.any fun y => y.1 == id

/-- The section identifiers of Table 09-3. -/
def knownSection (id : Nat) : Bool := (decide (1 ≤ id) && decide (id ≤ 0x0E)) || id == 0x7F

/-- Two sections overlap. -/
def sectionsOverlap (a b : Nat × Bool × Nat × Nat) : Bool :=
  decide (a.2.2.1 < b.2.2.1 + b.2.2.2) && decide (b.2.2.1 < a.2.2.1 + a.2.2.2)

/-- No element of a list stands in a relation with a later one. -/
def apart {α : Type} (r : α → α → Bool) : List α → Bool
  | [] => true
  | a :: l => (l.all fun b => !r a b) && apart r l

/-- The section table is well formed (R197, R198): IDs at most once, aligned and apart, no unknown required one, SIGNATURE last,
and the sections that Table 09-3 makes present; SHAPES and SCHED5 have codes of their own. -/
def Image.tableOk (m : Image) (size : Nat) : Bool :=
  let ids := m.sections.map (·.1)
  decide ids.Nodup && (m.sections.all fun y => decide (y.2.2.1 % 128 = 0) && decide (0x80 + 32 * ids.length ≤ y.2.2.1) &&
      decide (y.2.2.1 + y.2.2.2 ≤ size) && (knownSection y.1 || !y.2.1)) &&
    apart sectionsOverlap m.sections && (m.sections.all fun y => y.1 == 0x7F ||
      decide (y.2.2.1 ≤ (((m.sections.find? fun z => z.1 == 0x7F).map fun z => z.2.2.1).getD 0))) &&
    ([2, 3, 4, 5, 9, 0x0A, 0x7F] : List Nat).all (fun id => m.has id) && (m.kind != 0 || m.has 1) && (!m.group || m.has 0x0E) &&
    (m.taps.isEmpty || m.has 0x0D) && (m.userTables == 0 || m.has 8) &&
    (!(m.tiling.any fun t => decide (t.path < 2)) || m.has 6) && (!(m.tiling.any fun t => t.path == 2) || m.has 7)

/-- BAD_FORMAT's conditions (R197 to R200). -/
def Image.formatOk (m : Image) (size : Nat) : Bool :=
  m.magicOk && m.format == 1 && decide (m.kind ≤ 1) && m.zeros && decide (size ≤ 0x40000000) && m.tableOk size &&
    (m.minRev == 0xB0 || m.minRev == 0xB1) && decide (1 ≤ m.basting) && decide (m.basting ≤ 4) &&
    (m.tiling.all fun t => decide (t.loops.Nodup) && decide (t.path ≤ 3)) && m.tiling.map (·.layer) == List.range m.layers.length &&
    m.accNeed == largest (m.tiling.map Tiling.accNeed) && m.sbNeed == largest m.fetchEntries && m.userTables == m.tables.length &&
    m.tileLines == largest (m.regions.map regionLines) && m.engines == m.sched6Engines &&
    (!m.has 0x0B || m.sched5Engines + 1 == m.engines)

/-- The operand pairs of Table 06-3, weights first; formats are numbered 0 INT4, 1 INT8, 2 FP8 E4M3, 3 FP8 E5M2, 4 FP16, 5 BF16,
6 FP32 and 7 to 12 the MX formats of Table 06-2 in order (MXFP4 is 11). -/
def pairListed (w a : Nat) : Bool :=
  (w == 1 && a == 1) || (w == 0 && decide (a ≤ 1)) || ((w == 2 || w == 3) && (a == 2 || a == 3)) || (w == 4 && a == 4) ||
    (w == 5 && a == 5) || (decide (7 ≤ w) && decide (w ≤ 12) && decide (7 ≤ a) && decide (a ≤ 12))

/-- A function code that Table 06-6 defines. -/
def fnListed (f : Nat) : Bool := decide (f ≤ 13) || (decide (16 ≤ f) && decide (f ≤ 19))

/-- The path that Table 08-5 gives a kernel. -/
def pathOf (k : Nat) : Nat := if k ≤ 11 then 0 else if k ≤ 31 then 1 else 2

/-- The first number of a list at which a condition holds. -/
def firstAt {α : Type} (l : List α) (p : α → Bool) : Option Nat := (l.zipIdx.find? fun x => p x.1).map (·.2)

/-- A layer that fails a check, with the section concerned. -/
def layerCheck (m : Image) (code sect : Nat) (p : Layer × Tiling → Bool) : Option Verdict :=
  (firstAt (m.layers.zip m.tiling) p).map (.at_ code sect)

/-- GEOMETRY's conditions on a STREAMS entry (Table 02-2, R210). -/
def ImgStream.ok (g : ImgStream) : Bool :=
  sizeOk g.maxW g.maxF && (g.bandRows == 16 || g.bandRows == 32 || g.bandRows == 64) && decide (256 ≤ g.stripeW) &&
    decide (g.stripeW ≤ 1024) && decide (g.stripeW % 64 = 0) && decide (g.halo ≤ 32) && decide (g.halo % 2 = 0) &&
    decide (1 ≤ g.exps) && decide (g.exps ≤ 3) && decide (2 ≤ g.bandsInFlight)

/-- Row pairs that a ring needs (R210). -/
def ImgStream.ringNeed (g : ImgStream) : Nat := (g.bandsInFlight * g.bandRows + 2 * g.halo) / 2 + 32

/-- Whether an engine is fenced. -/
def State.anyFenced (s : State) : Bool := (List.range 6).any fun e => (s.eng e).fenced

/-- Engines that the admission proof counts: in rotation and not fenced; at the commit also one under test (Table 09-9). -/
def State.proofEngines (s : State) (atCommit : Bool) : Nat :=
  ((List.range 6).filter fun e => let g := s.eng e
    g.open_ || (atCommit && g.testing && !g.fenced)).length

/-- Terms of U for the resident jobs and a new one; with an engine fenced each on its reduced schedule. -/
def State.proofItems (s : State) (b : Binding) (m : Image) : List LoadItem :=
  s.jobItems (fun _ _ _ => true) (fun x => x.variant) ++ s.bindItems b.job b m s.anyFenced

/-- Terms of U for the jobs of HA images on their reduced schedules, a new one included. -/
def State.haItems (s : State) (b : Binding) (m : Image) : List LoadItem :=
  s.jobItems (fun _ _ i => i.ha) (fun _ => true) ++ (if m.ha then s.bindItems b.job b m true else [])

/-- Pixels per second of a stream, live. -/
def State.pixelRate (s : State) (i : Nat) : Nat := psWidth s.live i * psHeight s.live i * 1000000000 / max 1 (s.periodOf i)

/-- The streams of running rendering jobs with their bytes per pixel, and those of a new binding. -/
def State.rateItems (s : State) (b : Binding) (m : Image) : List (Nat × Nat) :=
  ((List.range 64).filterMap fun i => let t := s.strm i
    if t.job.isSome && !t.held then some (i, (t.img.map (·.bytesPerPixel)).getD 0) else none) ++
    (if m.kind = 1 then [] else b.entries.filterMap fun e => (m.streams[e.imgStream]?).map fun g => (e.stream, g.bytesPerPixel))

/-- The held streams that a binding takes over or gives up: every one of its slot for START, those it names for REARM. -/
def State.takenOver (s : State) (b : Binding) : List Nat :=
  (List.range 64).filter fun i => let t := s.strm i
    t.held && t.job == some b.job && (b.mode == 0 || b.entries.any fun e => e.stream == i)

/-- The DRAM areas of an entry (R210): ring, history buffers, output area. -/
def entryAreas (e : BindEntry) (slot : Nat) (g : ImgStream) : List (Nat × Nat) :=
  [(e.ringBase, e.ringSlots * slot), (e.histBase, 3 * histStride g), (e.outBase, e.outSize)].filter fun r => decide (0 < r.2)

/-- The output areas of a tensor job's entries. -/
def Binding.outAreas (b : Binding) : List (Nat × Nat) :=
  (b.entries.map fun e => (e.outBase, e.outSize)).filter fun r => decide (0 < r.2)

/-- The DRAM areas that resident jobs, held streams and images keep, those in a list of streams left out. -/
def State.keptAreas (s : State) (without : List Nat) : List (Nat × Nat) :=
  (((List.range 64).filter fun i => !without.contains i).map fun i => match (s.strm i).entry, (s.strm i).img with
    | some e, some g => entryAreas e (s.strm i).slotBytes g
    | _, _ => []).flatten ++
    ((List.range 8).map fun j => match s.job j with
      | some x => if x.kind = 1 then x.bind.outAreas else []
      | none => []).flatten ++ s.images.map fun r => (r.addr, r.size)

/-- The DRAM areas of a new job, each with its entry; a new image's range is one of them. -/
def State.newAreas (s : State) (b : Binding) (m : Image) : List (Option Nat × Nat × Nat) :=
  (b.entries.zipIdx.map fun x =>
    (if m.kind = 1 then ({ b with entries := [x.1] } : Binding).outAreas else match m.streams[x.1.imgStream]? with
      | some g => entryAreas x.1 (slotBytesOf s.live x.1.stream) g
      | none => []).map fun a => (some x.2, a)).flatten ++ if (s.residentImage m).isSome then [] else [(none, b.imageAddr, b.imageSize)]

/-- Two ranges overlap. -/
def rangesMeet (a b : Nat × Nat) : Bool := decide (a.1 < b.1 + b.2) && decide (b.1 < a.1 + a.2)

/-- A range lies outside the DRAM that jobs may use: outside DRAM, in the supervisor area, or on a retired page (R265). -/
def State.outsideDram (s : State) (a : Nat × Nat) : Bool :=
  !inDram a.1 a.2 || decide (supArea < a.1 + a.2) || s.dram.retired.any fun p => rangesMeet a (pageAddr p, 1024)

/-- DRAM_SHORT (R210): the first area that lies outside DRAM, on an area already kept, or on a later one, with its entry. -/
def State.areaFault (s : State) (kept : List (Nat × Nat)) : List (Option Nat × Nat × Nat) → Option Verdict
  | [] => none
  | a :: l =>
    if s.outsideDram a.2 || kept.any (rangesMeet a.2) || l.any fun o => rangesMeet a.2 o.2 then
      some (match a.1 with | some i => .at_ 0x18 0 i | none => .bare 0x18 0)
    else s.areaFault kept l

/-- Queues that a binding takes; EVENT_Q may be 0xFFFF. -/
def Binding.allQueues (b : Binding) (kind : Nat) : List Nat := b.queues kind ++ if b.eventQ = 0xFFFF then [] else [b.eventQ]

/-- A queue may be taken (R285): it exists, it is enabled, and it is free or given up by a stream that the binding takes over. -/
def State.queueFree (s : State) (b : Binding) (q : Nat) : Bool :=
  decide (q < 16384) && (s.queue q).ctx.en && ((s.queue q).ctx.owner == 0xFF ||
    (s.takenOver b).any fun i => match (s.strm i).entry with | some e => e.queues.contains q | none => false)

/-- An optional queue field. -/
def optQ (q : Nat) : Bool := decide (q < 16384) || q == 0xFFFF

/-- The queues of an entry may be taken, and an AREA queue's area lies inside the entry's output area (R285). -/
def State.entryQueuesOk (s : State) (b : Binding) (e : BindEntry) : Bool :=
  e.queues.all fun q => s.queueFree b q && (let c := (s.queue q).ctx
    !c.area || (decide (e.outBase ≤ c.areaBase) && decide (c.areaBase + c.areaSize ≤ e.outBase + e.outSize)))

/-- BINDING's conditions on an entry of a rendering job (R203, R209, R213, R215, R216, R285). -/
def State.entryOk (s : State) (b : Binding) (m : Image) (e : BindEntry) : Bool :=
  let t := s.strm e.stream
  decide (e.stream < 64) && s.slotEn e.stream && (t.job.isNone || t.held) && (!t.held || t.job == some b.job) &&
    (b.mode == 0 || t.held) && decide (s.periodOf e.stream ≠ 0) && decide (e.totalRows ≠ 0) &&
    decide (psHeight s.live e.stream ≤ e.totalRows) && decide (e.imgStream < m.streams.length) &&
    decide (e.ringBase % 128 = 0) && decide (e.histBase % 4096 = 0) && e.reservedZero && s.entryQueuesOk b e &&
    decide (e.statusQ < 16384) && decide (e.statsQ < 16384) && optQ e.boxQ && optQ e.dispQ && optQ e.codeQ && optQ e.visQ &&
    optQ e.cropQ

/-- BINDING's conditions on an entry of a tensor job: it names a crop output of a rendering job. -/
def State.cropEntryOk (s : State) (e : BindEntry) : Bool :=
  match s.job e.imgStream with
  | some x => x.kind == 0 && decide (e.cropQ < 16384) && (x.bind.entries.any fun y => y.stream == e.stream && y.cropQ == e.cropQ) &&
      decide (s.periodOf e.stream ≠ 0) && e.reservedZero
  | none => false

/-- BINDING: the header, or the first entry that fails. -/
def State.bindingFault (s : State) (b : Binding) (m : Image) : Option Verdict :=
  let l := b.allQueues m.kind
  let own := ([b.outQ].filter fun _ => m.kind == 1) ++ [b.eventQ].filter fun q => q != 0xFFFF
  if b.entries.isEmpty ∨ 16 < b.entries.length ∨ !b.reservedZero ∨ 1 < b.mode ∨ 15 < b.groupId ∨ !optQ b.eventQ ∨
    (m.kind = 0 ∧ b.outQ ≠ 0) ∨ (m.kind = 1 ∧ (b.mode ≠ 0 ∨ 16384 ≤ b.outQ)) ∨ !decide l.Nodup ∨ !(own.all fun q => s.queueFree b q) ∨
    !decide (b.entries.map (·.stream)).Nodup ∧ m.kind = 0 then some (.bare 0x16 0)
  else (firstAt b.entries fun e => if m.kind = 1 then !s.cropEntryOk e else !s.entryOk b m e).map (.at_ 0x16 0)

/-- The geometry that a re-arm keeps (R216). -/
def sameGeometry (a b : ImgStream) : Bool :=
  a.maxW == b.maxW && a.maxF == b.maxF && a.bandRows == b.bandRows && a.stripeW == b.stripeW && a.halo == b.halo &&
    a.exps == b.exps && a.margin == b.margin

/-- GROUP_REFUSED: the group is not defined, has more members than the image's split or GROUP_MAX, another member runs an image with
another digest (log 103), or the image runs ALONE on a split of layers (R366). -/
def State.groupFault (s : State) (b : Binding) (m : Image) (peers : List Nat) : Bool :=
  (m.group && m.lossMode == 1 && m.splits) || (b.groupId != 0 && match s.group b.groupId with
    | some g => decide (4 < g.members.length) || (m.group && m.members != g.members.length) || !peers.all (· == m.digest)
    | none => true)

/-! The checks, in the order of Table 09-7. -/

/-- A check that fails under a condition, with its answer. -/
def failIf (c : Bool) (v : Verdict) : Option Verdict := if c then some v else none

/-- BAD_FORMAT, with the section that a header value disagrees with (R199). -/
def Image.formatCheck (m : Image) (size : Nat) : Option Verdict :=
  let loops := firstAt m.tiling fun t => !decide t.loops.Nodup
  failIf (!m.formatOk size) (match loops with
    | some i => .at_ 1 3 i
    | none => .bare 1 (if m.accNeed != largest (m.tiling.map Tiling.accNeed) then 3 else if m.sbNeed != largest m.fetchEntries then 5
        else if m.userTables != m.tables.length then 8 else 0))

/-- ENGINE_SHORT, SLACK_SHORT and FIVE_SHORT, which a fence during the checks has judged again (Table 09-9). -/
def State.engineCheck (s : State) (m : Image) : Option Verdict :=
  failIf (m.engines != 6 || decide (6 < m.sched6Engines) || (s.anyFenced && !m.has 0x0B)) (.bare 5 (if s.anyFenced then 0x0B else 0x0A))

/-- The answer of a load check that fails on `e` engines: U against 0.88 E; what is available when only a condition on one stream or job
fails is not given. -/
def loadVerdict (code sect e : Nat) (l : List LoadItem) : Verdict :=
  ⟨code, sect, 0, milli (loadOf l), if loadOf l ≤ 88 / 100 * (e : Rat) then Config.resultField code 2 else 880 * e⟩

def State.slackCheck (s : State) (b : Binding) (m : Image) (atCommit : Bool) : Option Verdict :=
  let n := s.proofEngines atCommit
  failIf (!fits n (s.proofItems b m)) (loadVerdict 0x1B 0x0A n (s.proofItems b m))

def State.fiveCheck (s : State) (b : Binding) (m : Image) : Option Verdict :=
  failIf (m.ha && !fits 5 (s.haItems b m)) (loadVerdict 0x1D 0x0B 5 (s.haItems b m))

/-- The checks that an image's resident copy has already passed (R212), before JOB_SLOTS. -/
def State.trustChecks (s : State) (m : Image) : List (Option Verdict) :=
  [failIf (!((s.sec.imageKeys.contains m.signature || m.signature == Config.releaseKey) && m.signature != 0 && m.digestOk)) (.bare 2 0x7F),
   failIf (decide (m.secVersion < s.fuse.img)) (.bare 3 0),
   failIf (decide (0xB0 < m.minRev) && (decide (0xB1 < m.minRev) || !Config.revB1)) (.bare 4 0)]

/-- The checks of an image's graph that its resident copy has already passed (R212): FORMAT_PAIR to FUSION. -/
def graphChecks (m : Image) : List (Option Verdict) :=
  let h := (m.streams.map (·.halo)).foldl min 32
  [layerCheck m 8 2 fun x => (decide (x.2.path < 2) && !pairListed x.1.wFmt x.1.aFmt) || !fnListed x.1.fn,
   layerCheck m 9 2 fun x => decide (x.2.path < 2) && ((x.1.wFmt == 1 && x.1.aFmt == 1 && decide (131071 < x.1.terms)) ||
      (x.1.wFmt == 0 && decide (x.1.aFmt ≤ 1) && decide (2097151 < x.1.terms))),
   layerCheck m 0x0A 2 fun x => x.1.isConv && (decide (128 ≤ x.1.kernel) || x.1.kernel == 0 || decide (64 < x.1.dilation) ||
      x.1.dilation == 0 || (x.2.path == 2 && x.1.dilation != 1) || x.2.path != pathOf x.1.kernel),
   layerCheck m 0x0B 3 fun x => x.2.path == 2 && (decide (fftPoints x.2.fftN < 2 * x.1.kernel) || decide (64 < x.1.filters)),
   layerCheck m 0x0C 2 fun x => m.kind == 0 && x.1.isGlobal,
   layerCheck m 0x0D 2 fun x => m.kind == 0 && decide (h < x.1.field),
   ((List.range m.layers.length).find? m.fusionBad).map (.at_ 0x0E 3)]

/-- The regions in use in a tile, by base and lines. -/
def State.usedLines (s : State) (t : Nat) : List (Nat × Nat) :=
  (((List.range 32).map (s.region t)).filter fun d => d.mode != 0).map fun d => (d.base, d.size)

/-- The lowest line of a gap of `n` lines among used ones (log 37). -/
def firstFit (used : List (Nat × Nat)) (n : Nat) : Option Nat :=
  ((0 :: used.map fun d => d.1 + d.2).filter fun b =>
    decide (b + n ≤ 262144) && used.all fun d => decide (b + n ≤ d.1) || decide (d.1 + d.2 ≤ b)).min?

/-- The base lines of regions placed one after the other, while each finds a gap. -/
def placing (used : List (Nat × Nat)) : List ImgRegion → List Nat
  | [] => []
  | x :: l => match firstFit used x.lines with
    | some b => b :: placing (used ++ [(b, x.lines)]) l
    | none => []

/-- The places of an image's regions in every tile. -/
def State.placesOf (s : State) (m : Image) (resident : Bool) : List (List Nat) :=
  (List.range 6).map fun t => placing (s.usedLines t) (m.placed resident t)

/-- REGION_COUNT and SMEM_SHORT (R139, R174): in the first tile concerned, more than 32 descriptors; more lines than the tile has;
weights and spectra that its PERSIST regions do not hold; or a region for which no gap is left. -/
def State.tileChecks (s : State) (m : Image) (resident : Bool) : List (Option Verdict) :=
  let count := fun (t : Nat) => (s.usedLines t).length + (m.placed resident t).length
  let lines := fun (t : Nat) => ((s.usedLines t).map (·.2)).sum + regionLines (m.placed resident t)
  let persist := fun (t : Nat) => regionLines ((m.regions.getD t []).filter (·.persist))
  let tiles := List.range 6
  [(tiles.find? fun t => decide (32 < count t)).map fun t => ⟨0x14, 9, t, count t, 32⟩,
   (tiles.find? fun t => decide (262144 < lines t)).map fun t => ⟨0x15, 9, t, lines t, 262144⟩,
   (tiles.find? fun t => decide (persist t < m.weightLines)).map fun t => ⟨0x15, 9, t, m.weightLines, persist t⟩,
   (tiles.find? fun t => decide ((placing (s.usedLines t) (m.placed resident t)).length < (m.placed resident t).length)).map fun t =>
     ⟨0x15, 9, t, lines t, 262144⟩]

/-- The sum of a count over the resident images and a new one. -/
def State.imageSum (s : State) (m : Image) (f : Image → Nat) : Nat :=
  (s.images.map fun r => f r.img).sum + if (s.residentImage m).isSome then 0 else f m

/-- The checks of Table 09-7 from GEOMETRY on. -/
def State.deviceChecks (s : State) (b : Binding) (m : Image) (resident : Bool) (peers : List Nat) : List (Option Verdict) :=
  let entries := if m.kind = 1 then [] else b.entries
  let tooBig := fun (e : BindEntry) => match m.streams[e.imgStream]? with
    | some g => decide (g.maxW < psWidth s.live e.stream) || decide (g.maxF < psHeight s.live e.stream)
    | none => false
  let prog := s.imageSum m (·.programBytes)
  let data := s.imageSum m (·.dataBytes)
  let tabs := s.imageSum m (·.userTables)
  let areas := s.newAreas b m
  let kept := s.keptAreas (s.takenOver b)
  let rates := s.rateItems b m
  let total := (rates.map fun r => s.pixelRate r.1).sum
  let ofPort := fun (p : Nat) => ((rates.filter fun r => r.1 / 4 == p).map fun r => s.pixelRate r.1).sum
  let bw := (rates.map fun r => r.2 * s.pixelRate r.1).sum
  [(firstAt (if m.kind = 1 then [] else m.streams) fun g => !g.ok).map (.at_ 0x0F 1),
   (firstAt entries tooBig).map (.at_ 0x0F 1),
   if resident || decide (m.accNeed ≤ 8) then none
     else some ⟨0x10, 3, (firstAt m.tiling fun x => decide (8 < x.accNeed)).getD 0, m.accNeed, 8⟩,
   failIf (!resident && decide (14 < largest m.fetchEntries)) (.short 0x11 5 (largest m.fetchEntries) 14),
   failIf (decide (65536 < prog) || decide (32768 < data)) (.bare 0x12 4),
   failIf (decide (4 < m.userTables)) (.short 0x13 8 m.userTables 4),
   failIf (decide (16 < tabs)) (.short 0x13 8 tabs 16)] ++ s.tileChecks m resident ++
  [s.bindingFault b m,
   (firstAt entries fun e => match m.streams[e.imgStream]? with
      | some g => decide (e.ringSlots < g.ringNeed)
      | none => false).map fun i => ⟨0x17, 0, i, (((entries[i]?).bind fun e => m.streams[e.imgStream]?).map ImgStream.ringNeed).getD 0,
        ((entries[i]?).map (·.ringSlots)).getD 0⟩,
   s.areaFault kept areas,
   failIf (decide (8000000000 < total) || (List.range 16).any fun p => decide (1600000000 < ofPort p)) (.bare 0x19 0),
   failIf (decide (1140000000000 < bw)) (.bare 0x1A 0),
   s.slackCheck b m false,
   failIf (m.ha && !m.has 0x0B) (.bare 0x1C 0x0B),
   s.fiveCheck b m,
   failIf (m.kind == 1 && (!m.has 0x0C || m.shapes.length != 4 || m.planned.length != 4 ||
      (m.shapes.zip m.planned).any fun x => x.1 == 0 || decide (x.2 < x.1))) (.bare 0x1E 0x0C),
   failIf (s.groupFault b m peers) (.bare 0x1F 0x0E),
   if b.mode = 1 then (firstAt entries fun e => match m.streams[e.imgStream]?, (s.strm e.stream).img with
      | some g, some h => !sameGeometry g h
      | _, _ => true).map (.at_ 0x20 1) else none]

/-- The image of a command: the resident copy with the DIGEST of the image it names, else that image. -/
def State.imageFor (s : State) (b : Binding) (c : StartCmd) : Image :=
  let m := s.readImage b.imageAddr c.body
  (s.residentImage m).getD m

/-- The first check that fails (R211). -/
def State.loadFault (s : State) (b : Binding) (c : StartCmd) : Option Verdict :=
  let m := s.imageFor b c
  let r := s.residentImage m
  let l := [m.formatCheck b.imageSize] ++ (if r.isSome then [] else s.trustChecks m) ++ [s.engineCheck m,
    failIf (decide (8 ≤ b.job) || (s.job b.job).isSome) (.bare 6 0),
    failIf (r.isNone && decide (4 ≤ s.images.length)) (.bare 7 0)] ++ (if r.isSome then [] else graphChecks m) ++
    s.deviceChecks b m r.isSome c.peers
  l.findSome? id

/-! Taking a command (R211, R217, R344, R359, R375). -/

/-- The loader is free for a command: the supervisor runs, no fuse burns, and no command is under way. -/
def State.loaderFree (s : State) : Bool := s.ready && !s.burns && s.load.isNone

/-- JOB_START and JOB_REARM: a START command, whose binding has MODE 1 for a re-arm, is the first of those that wait: the checks, on a
device in ACTIVE; outside it the device moves there first, and during a restart the command is to be answered BUSY. -/
def State.startJob (s : State) (rearm : Bool) (c : StartCmd) : State :=
  match s.startBlock c.tag.toNat with
  | none => s
  | some b =>
    if !s.loaderFree || s.bistRuns || (b.mode == 1) != rearm then s
    else if s.restarts then { s with sup := { s.sup with busy := s.sup.busy ++ [(1, b.job, c.tag.toNat)] } }
    else if s.pwr.state ≠ .active ∨ s.pwr.trans.isSome then s.toActive
    else match s.loadFault b c with
      | some v => s.complete 1 b.job c.tag.toNat v b.eventQ
      | none =>
        let m := s.imageFor b c
        { s with load := some ⟨c.tag.toNat, b, m, s.placesOf m (s.residentImage m).isSome⟩ }

/-! The commit (R139, R174, R211, R212, R215, R216). -/

/-- The regions of a job in every tile, at the lines that the checks found; each takes the first unused descriptor (log 37). -/
def State.placeRegions (s : State) (j : Nat) (m : Image) (resident : Bool) (places : List (List Nat)) : State :=
  forEach (List.range 6) (fun t s => forEach ((m.placed resident t).zip (places.getD t [])) (fun x s =>
    match (List.range 32).find? fun r => (s.region t r).mode == 0 with
    | some r => s.setRegion t r ⟨x.2, x.1.lines, x.1.mode, j, x.1.persist, 0, false, 0, false, []⟩
    | none => s) s) s

/-- The PERSIST lines of a job filled from its image copy. -/
def State.fillPersist (s : State) (j : Nat) : State :=
  forEach (List.range 6) (fun t s => forEach ((s.persistRanges t).filter fun r => r.2.job == j) (fun r s =>
    forEach (List.range r.2.size) (fun k s => s.restoreLine t r.1 (r.2.base + k)) s) s) s

/-- The engines' instruction and data memories: the code and then the data of every resident image, in order (log 38); their table
memories: the user tables of every resident image (R129). -/
def State.placePrograms (s : State) : State :=
  let part := fun (f : Resident → Nat × Nat) => (s.images.map fun r => let x := f r; s.bytes x.1 x.2).flatten
  let off := fun (r : Resident) => r.addr + ((r.img.sections.find? fun y => y.1 == 4).map fun y => y.2.2.1).getD 0
  let code := part fun r => (off r, r.img.programBytes)
  let data := part fun r => (off r + r.img.programBytes, r.img.dataBytes)
  let words := fun (l : List Byte) => (List.range (cdiv l.length 4)).foldl (fun (m : Sparse Word) k =>
    sset (fun _ => (0 : Word)) m k (BitVec.ofNat 32 (leAt l (4 * k) 4))) []
  let tables := s.images.map fun r => (r.img.digest, r.img.tables)
  forEach (List.range 6) (fun e s => s.setEng e { s.eng e with imem := words code, dmem := words data, tables := tables }) s

/-- A stream bound by a job: taken afresh by START, kept by REARM. -/
def State.bindStream (s : State) (j : Nat) (rearm : Bool) (m : Image) (e : BindEntry) : State :=
  let t := s.strm e.stream
  let n := slotBytesOf s.live e.stream
  let g := m.streams[e.imgStream]?
  let t1 : Strm := if rearm then
      { t with job := some j, held := false, entry := some e, img := g, restarted := true, frames := [], stalled := false,
               resetDue := if t.unverified then lowerCause t.resetDue 2 else t.resetDue, slotBytes := n, ringHead := 0 }
    else { Strm.init with job := some j, entry := some e, img := g, resetDue := 1, slotBytes := n }
  forEach e.queues (fun q s => s.setOwner q j) (s.setStrm e.stream t1)

/-- The checks that a fence during the loading has judged again. -/
def State.commitFault (s : State) (b : Binding) (m : Image) : Option Verdict :=
  [s.engineCheck m, s.slackCheck b m true, s.fiveCheck b m].findSome? id

/-- A job that starts on a group sends the rejoin barrier when the peer sessions are open (R367). -/
def State.joinDue (s : State) (g : Nat) : State :=
  match s.group g with
  | some p => s.setGroup g (some { p with rejoin := false, sent := [], got := p.got.filter fun x => x.2 == 0xFFFFFFFF })
  | none => s

/-- LOADER_COMMIT: the command commits in one step, or is refused on the engines that are left. A resident image's weights are not
placed again (R212). -/
def State.loaderCommit (s : State) : State :=
  match s.load with
  | none => s
  | some l =>
    if !s.ready then s
    else
      let b := l.bind
      let j := b.job
      let m := l.img
      let s0 : State := { s with load := none }
      match s0.commitFault b m with
      | some v => s0.complete 1 j l.tag v b.eventQ
      | none =>
        let new := (s.residentImage m).isNone
        let s1 : State := if new then { s0 with images := s0.images ++ [⟨b.imageAddr, b.imageSize, m⟩] } else s0
        let s2 := if b.mode = 1 then s1
          else forEach (List.range 64) (fun i s => if (s.strm i).job = some j then s.releaseHeld i else s) s1
        let entries := if m.kind = 1 then [] else b.entries
        let s3 := forEach entries (fun e s => s.bindStream j (b.mode == 1) m e) s2
        let s4 := forEach (b.allQueues m.kind) (fun q s => s.setOwner q j) s3
        let job : Job := {
          bind := b, digest := m.digest, kind := m.kind, phase := .running, variant := s.anyFenced, step := 0,
          due := [], open_ := none, stepUnits := [], stepBufs := [], stepDeadline := 0, stepVariant := false, shed := false,
          committed := s.clk.ptp, restartAt := 0, restartClass := 0 }
        let s5 := forEach (List.range 6) (fun t s => s.powerFor t) ((s4.setJob j (some job)).placeRegions j m (!new) l.places)
        let s6 := ((if new then (s5.fillPersist j).placePrograms else s5).judgeShed).joinDue b.groupId
        let first := if m.kind = 1 then 0 else (s6.strm job.lowest).nextSeq
        s6.complete 1 j l.tag (.at_ 0 0 first) b.eventQ

/-! STOP commands (R215, R323). -/

/-- A STOP command met by the loader: `act` when the slot allows it, else BINDING. -/
def State.stopCmd (s : State) (j tag : Nat) (ok : Bool) (evQ : Nat) (act : State → State) : State :=
  if !s.loaderFree then s
  else if s.restarts then { s with sup := { s.sup with busy := s.sup.busy ++ [(2, j, tag)] } }
  else if ok then (act s).complete 2 j tag (.bare 0 0) evQ
  else s.complete 2 j tag (.bare 0x16 0) evQ

/-- JOB_STOP and JOB_HOLD. -/
def State.hostStop (s : State) (j tag : Nat) (hold : Bool) : State :=
  s.stopCmd j tag (s.job j).isSome (((s.job j).map fun x => x.bind.eventQ).getD 0xFFFF) fun s => s.stopJob j 0 hold

/-- STREAM_RELEASE: the held streams of a slot that a mask names. -/
def State.hostRelease (s : State) (j mask tag : Nat) : State :=
  let l := bitsOf 64 mask
  s.stopCmd j tag (l.all fun i => (s.strm i).held && (s.strm i).job == some j) 0xFFFF fun s =>
    forEach l (fun i s => s.releaseHeld i) s

/-! Tensor steps (R213, R214, R219). -/

/-- Buffers for the outputs of a step in its output queue; none when one has no room; a zero-sized output takes none (R214). -/
def State.stepBuffers (s : State) (q : Nat) : List Nat → Option (State × List (Nat × Nat))
  | [] => some (s, [])
  | n :: l => match if n = 0 then (s, some (0, 0)) else s.takeBuffer q n with
    | (s1, some b) => (s1.stepBuffers q l).map fun r => (r.1, b :: r.2)
    | (_, none) => none

/-- A step whose shape exceeds a bound: one descriptor, the job's event, and nothing else (R213; the event is log 39). -/
def State.shapeOver (s : State) (j : Nat) (x : Job) (d : StepDue) : State :=
  let s1 := s.produce x.bind.outQ (stepDesc j x 1 d.flags d.seq 0 0 0) none
  (s1.endStep j { x with open_ := some d }).jobEvent x.bind.eventQ 0x102 (256 * j + 65536 * 0x40) x.step

/-- A step of a group's job waits until the barrier of the step before is passed, and while the group waits for a lost member. -/
def State.stepWaits (s : State) (j : Nat) : Bool :=
  s.groupHold j || (s.groupOf j != 0 && (match s.group (s.groupOf j) with | some p => !p.passed | none => false))

/-- TENSOR_STEP_START: the next step of a tensor job that is due. -/
def State.stepStart (s : State) (j : Nat) : State :=
  match s.job j, s.jobImage j with
  | some x0, some m =>
    match x0.due with
    | [] => s
    | d :: rest =>
      if x0.kind ≠ 1 ∨ x0.phase ≠ .running ∨ x0.open_.isSome ∨ s.pwr.state ≠ .active ∨ s.stepWaits j then s
      else
        let x : Job := { x0 with due := rest }
        let o : Job := { x with open_ := some d }
        let p := s.setJob j (some o)
        if d.void ≠ 0 then p.voidOpen j o d.void
        else if (d.shape.zip m.shapes).any fun z => decide (z.2 < z.1) then p.shapeOver j x d
        else if m.nothing d.shape then p.voidOpen j o 0
        else if x.shed then p.dropStepCode j { o with stepUnits := [.waiting] } 4 4 0
        else match p.stepBuffers x.bind.outQ (m.outBytes d.shape) with
          | none => (p.noSpace x.bind.outQ (stepDesc j x 7 d.flags d.seq 0 0 0)).endStep j o
          | some (s1, bufs) =>
            let dl := d.ready + s.periodOf ((x.bind.entries.head?.map (·.stream)).getD 0)
            let n := (m.unitsOf x.variant).length
            let y : Job := { o with
              stepUnits := List.replicate n .placed, stepBufs := bufs, stepDeadline := dl, stepVariant := x.variant }
            ((s1.setJob j (some y)).placeStep j).guard
  | _, _ => s

end Sys2Proof.Machine
end

