-- ==== Sys2Proof/Machine/GroupOps.lean ====
section
/-! DEFINITION. Job groups: barriers, the loss and the return of a member, transfers between members (R325, R326, R366, R367), and
the PUSH transfers that share their sending (R319). -/

namespace Sys2Proof.Machine

open Sys2Proof

/-! Barriers (R326, R367). -/

/-- The number that a rejoin barrier carries. -/
def rejoinStep : Nat := 0xFFFFFFFF

/-- The job slots whose job is split among the members of a group. -/
def State.groupJobs (s : State) (g : Nat) : List Nat := if g = 0 then [] else (List.range 8).filter fun j => s.groupOf j == g

/-- A peer session to every other member is open. -/
def State.groupOpen (s : State) (g : Nat) (p : PeerGroup) : Bool :=
  (List.range p.members.length).all fun m => m == p.self || (s.groupSessions g).any fun n => (s.sess n).member == m

/-- The rejoin barrier, sent once the group's job is resident and its peer sessions are open. -/
def State.checkJoin (s : State) (g : Nat) : State :=
  match s.group g with
  | some p =>
    if !(s.groupJobs g).isEmpty && !p.rejoin && s.groupOpen g p then
      forEach (s.groupSessions g) (fun n s => s.deviceEvent 0x105 (p.self + 16 * g) rejoinStep n)
        (s.setGroup g (some { p with rejoin := true }))
    else s
  | none => s

/-- The check for every group. -/
def State.checkJoins (s : State) : State := forEach ((List.range 15).map (· + 1)) (fun g s => s.checkJoin g) s

/-- BARRIER: a step's barrier from the member of an open peer session. -/
def State.barrierIn (s : State) (n k : Nat) : State :=
  let l := s.sess n
  if l.state = 2 ∧ l.peer then
    match s.group l.group with
    | some p => if p.got.contains (l.member, k) then s else s.setGroup l.group (some { p with got := p.got ++ [(l.member, k)] })
    | none => s
  else s

/-- The current step of a group's job aborted: its frames close with ABORTED on every output. -/
def State.abortStep (s : State) (j : Nat) : State :=
  match s.job j with
  | some x =>
    let s1 := (s.cancelJob j).abortFrames x false
    (match s1.job j with
      | some y => if y.open_.isSome then s1.voidOpen j y 3 else s1
      | none => s1).placeWaiting
  | none => s

/-- PEER_LOST (R325, R366; class 0x1D). -/
def State.peerLost (s : State) (n : Nat) : State :=
  let l := s.sess n
  if l.state = 2 ∧ l.peer then
    let jobs := s.groupJobs l.group
    let s1 := (s.loseSession n).fault 0x1D l.port (jobs.head?.getD 0)
    match s1.group l.group with
    | some p =>
      let lost := if p.lost.contains l.member then p.lost else p.lost ++ [l.member]
      forEach jobs (fun j s => s.abortStep j) (s1.setGroup l.group (some { p with lost := lost, rejoin := false }))
    | none => s1
  else s

/-- GROUP_REJOIN: the rejoin barrier was sent and received on every peer session; the group's job restarts at step 0, its frames
from 1 ms later. -/
def State.groupRejoin (s : State) (g : Nat) : State :=
  match s.group g with
  | some p =>
    if p.rejoin && s.groupOpen g p && (List.range p.members.length).all fun m => m == p.self || p.got.contains (m, rejoinStep) then
      let s1 := s.setGroup g (some { p with lost := [], sent := [], got := p.got.filter fun x => x.2 != rejoinStep })
      forEach (s1.groupJobs g) (fun j s =>
        let s2 := s.restartJob j 0x1D false
        match s2.job j with
        | some x => s2.setJob j (some { x with step := 0, restartAt := s.clk.ptp + 999000 })
        | none => s2) s1
    else s
  | none => s

/-! Transfers of descriptors (R319, R326). -/

/-- The group that AUX0 of a PEER descriptor names, and its destination queue. -/
def Desc.peerQueue (d : Desc) : Nat := d.aux0 / 65536 % 16384

/-- A PEER transfer received whole: its descriptor and then its buffer. A buffer of the destination queue's area takes the data and a
PEER descriptor naming the sender follows; false when the queue has no room. -/
def State.takePeer (s : State) (n : Nat) (b : List Byte) : State × Bool :=
  let d := descOf b
  let q := d.peerQueue
  let data := b.drop 32
  let x := s.queue q
  if x.ctx.en && x.ctx.area && x.held.isEmpty && slotFree x.ctx && x.pend.isNone then
    match s.takeBuffer q data.length with
    | (s1, some (a, _)) =>
      let s2 := s1.blockWrite 0x93 (who 7 x.ctx.channel) a data
      (s2.produce q { d with kind := 8, own := true, status := 0, addr := a, length := data.length, job := x.ctx.owner
                             aux0 := d.aux0 / 16 * 16 + (s.sess n).member } (some (a + data.length - 1)), true)
    | (_, none) => (s, false)
  else (s, false)

/-- PUSH_SEND: the next descriptor of a PUSH queue with LENGTH bytes of its buffer, or the next PEER descriptor of an INTERNAL queue
whose SESSION is a peer session, goes out as one transfer. -/
def State.pushSend (s : State) (q : Nat) : State :=
  let x := s.queue q
  let n := x.ctx.session
  if !x.ctx.en || decide (32 ≤ n) || (s.sess n).state != 2 || !seqAhead x.ctx.prod x.sent then s
  else
    let r := s.readDesc q x.sent
    let push := x.ctx.dir = 0 ∧ x.ctx.delivery = 1
    let peer := x.ctx.dir = 2 ∧ (s.sess n).peer ∧ r.2.kind = 8
    if push ∨ peer then
      let m := if r.2.length = 0 then (r.1, (⟨[], false, false⟩ : Moved)) else r.1.dmaRead (s.queue q).ctx.channel r.2.addr r.2.length
      let st := if m.2.poison || m.2.srcInvalid then 4 else 0
      let s1 := m.1.setQueue q { m.1.queue q with sent := (x.sent + 1) % 2 ^ 32 }
      s1.sendPutRun n (if push then 4 else 3) (if push then q else r.2.peerQueue) st (descBytes r.2 ++ m.2.data) (some (q, x.sent))
    else s

/-- KWEAL_NAK: the other side refused a frame of the device. WINDOW leaves it to be resent; any other NAK consumes it. A refused PEER
transfer restarts the job that sends it (R354); a refused PUSH transfer is sent again as a new one. -/
def State.nakIn (s : State) (d seq reason : Nat) : State :=
  let l := s.link d
  match l.unacked.find? fun u => u.seq == seq with
  | some u =>
    if reason = 2 ∨ l.state ≠ 2 then s
    else
      let s1 := s.setLink d { l with unacked := l.unacked.filter fun v => v.seq != seq }
      let s2 := match u.push with
        | some (q, k) =>
          if leAt u.frame.payload 0 1 = 3 then
            let o := (s1.queue q).ctx.owner
            (s1.delivered q k 5).when (s1.job o).isSome fun s => s.owe (.restart o 0)
          else s1.resend q
        | none => s1
      s2.pumpLink (s2.link d).queued.length d
  | none => s

end Sys2Proof.Machine
end

