-- ==== Sys2Proof/Machine/SecOps.lean ====
section
/-! DEFINITION. The security engine: quotes, the ATTEST exchange, keys of the ports, ownership, rollback counters and freezes (R329
to R345), and the definition of groups, whose peer sessions open by that exchange (R324). -/

namespace Sys2Proof.Machine

open Sys2Proof

/-! Quotes (R336, Table 15-4). -/

/-- The hash of the owner's key; 0 when the device is UNOWNED. -/
def State.ownerHash (s : State) : Nat := (s.ownerSlot.map fun o => o.1.keyHash).getD 0

/-- The quote's bytes. -/
def State.quoteBytes (s : State) (nonceH nonceD : Nat) : List Byte :=
  let mask := ((List.range 6).map fun e => if (s.eng e).fenced then 0 else 2 ^ e).sum
  let image := fun (i : Nat) => match s.images[i]? with
    | some r =>
      let jobs := ((List.range 8).map fun j => match s.job j with
        | some x => if x.digest = r.img.digest then 2 ^ j else 0
        | none => 0).sum
      leBytes 64 r.img.digest ++ leBytes 1 jobs ++ leBytes 3 0 ++ leBytes 4 r.img.secVersion
    | none => leBytes 72 0
  leBytes 32 nonceH ++ leBytes 32 nonceD ++ leBytes 32 Config.deviceId.toNat ++
    leBytes 1 (if Config.revB1 then 0xB1 else 0xB0) ++ leBytes 1 (b2n s.owned) ++ leBytes 1 ((s.ownerSlot.map (·.2)).getD 0) ++ leBytes 1 0 ++
    leBytes 4 s.sec.fwVersion ++ leBytes 1 s.fuse.fw ++ leBytes 1 s.fuse.img ++ leBytes 1 mask ++ leBytes 1 0 ++
    leBytes 8 s.clk.ptp ++ leBytes 4 0 ++ leBytes 8 0 ++ leBytes 32 s.ownerHash ++ leBytes 64 s.sec.sblDigest ++
    leBytes 64 s.sec.fwDigest ++ ((List.range 4).map image).flatten

/-- A QUOTE body: the quote, a key field and the AK's signature over both. -/
def State.quoteBody (s : State) (nonceH nonceD : Nat) (key : List Byte) : List Byte :=
  let b := s.quoteBytes nonceH nonceD ++ key
  b ++ Config.akSign b

/-- The key field of a QUOTE that carries no key. -/
def noKey : List Byte := leBytes 1184 0

/-! Failures. -/

/-- A FAIL frame: counted, with SEC's cause and event (Table 15-8); UNIT is the session, 0xFF before one is assigned. -/
def State.attestFail (s : State) (d reason : Nat) : State :=
  let unit := if d < 32 then d else 0xFF
  ((((s.bump pgSec 0x20 0 16 1).cause pgSec (reason + 256 * unit) 0).event pgSec 0).attest d 4 (s.link d).tag 0x1F
    (leBytes 8 reason))

/-- An exchange that fails: FAIL, and the exchange ends. -/
def State.failExchange (s : State) (src reason : Nat) : State := (s.attestFail (linkOf src) reason).endExchange src

/-- A frame of a session that its rights do not allow, answered NAK ACCESS after it was accepted. -/
def State.nakLast (s : State) (n reason detail : Nat) : State :=
  let l := s.sess n
  s.nak n { mkFrame n 0 0 l.tag [] with seq := (l.rxNext + 2 ^ 32 - 1) % 2 ^ 32 } reason detail

/-- A frame discarded for want of protection (R308). -/
def State.macsecDrop (s : State) (p : Nat) : State :=
  (s.bump pgNet (portReg p + 0x2C) 0 32 1).fail pgNet 6 (4 + 65536 * p) 0

/-! Keys (R337 to R339). -/

/-- The wrap key and the CONFIRM value of a shared secret and a transcript. -/
def sessionKeys (ss transcript : List Byte) : Nat × List Byte :=
  let th := Config.shake transcript 64
  let k := Config.shake (ss ++ th) 64
  (leNat (k.take 32), Config.shake (k.drop 32 ++ th) 32)

/-- Keys for a port that has none: both SAKs fresh, under association 0. -/
def State.makeKeys (s : State) (p : Nat) : PortKeys :=
  (s.eth p).keys.getD ⟨⟨0, Config.freeNat (s.free + 2 * p)⟩, ⟨0, Config.freeNat (s.free + 2 * p + 1)⟩, none, none, 1⟩

/-- The SCIs of a session installed on their ports. -/
def State.installScis (s : State) (n : Nat) (scis : List (Nat × Nat)) : State :=
  let s1 := forEach (List.range 4) (fun p s =>
    let e := s.eth p
    s.setEth p { e with scis := e.scis.filter fun x => x.2 != n }) s
  forEach scis (fun x s =>
    let e := s.eth x.2
    s.setEth x.2 { e with scis := (e.scis.filter fun y => y.1 != x.1) ++ [(x.1, n)] }) s1

/-- A port cannot take these SCIs beside those it has, a reopened session's own left out (R338). -/
def State.scFull (s : State) (n : Nat) (scis : List (Nat × Nat)) : Bool :=
  (List.range 4).any fun p =>
    let new := (scis.filter fun x => x.2 == p).map (·.1)
    let old := ((s.eth p).scis.filter fun x => x.2 != n && !new.contains x.1).map (·.1)
    decide (8 < old.length + new.length)

/-- A transmit SAK of a port offered to a session (R339). -/
def State.sendRekey (s : State) (n p : Nat) (k : Sak) : State :=
  s.attest n 0 s.freeWord.toNat 7 (leBytes 1 p ++ leBytes 1 k.an ++ leBytes 6 0 ++ Config.gcm (s.sess n).wrap (leBytes 32 k.key)) |>.drawn

/-- A rekey that waits on a port, offered to a session that has joined (Table 15-7). -/
def State.joinRekey (s : State) (n p : Nat) : State :=
  let e := s.eth p
  match e.keys with
  | some k => match k.txNext with
    | some (sak, wait) => (s.setEth p { e with keys := some { k with txNext := some (sak, wait ++ [n]) } }).sendRekey n p sak
    | none => s
  | none => s

/-- A session opens: its secure channels are installed, its sequence spaces start, waiting rekeys go to it. -/
def State.openSession (s : State) (n : Nat) (l : Session) (scis : List (Nat × Nat)) : State :=
  let s1 := ((s.installScis n scis).setSess n l).event pgNet 2
  (forEach ((scis.map (·.2)).eraseDups) (fun p s => s.joinRekey n p) s1).checkJoin l.group

/-! The exchange (R336, Table 15-3). -/

/-- The exchange of an address, with its link, on a port; a new one has sequence spaces that start at 1. -/
def State.exchangeAt (s : State) (src p : Nat) : Exchange :=
  match s.exchange src with
  | some x => { x with link := { x.link with port := p } }
  | none => ⟨src, false, false, 0, 0, 0xFFFF, false, 0, 0, [], [], [], none, 0, 0, Session.start p⟩

/-- The address of a member, as frames from it carry it. -/
def Member.src (m : Member) : Nat := m.ip * 65536 + m.udp

/-- The group and the member of an address. -/
def State.memberOf (s : State) (src : Nat) : Option (Nat × Nat) :=
  ((List.range 15).map (· + 1)).findSome? fun g => match s.group g with
    | some p => ((p.members.zipIdx.find? fun m => m.2 != p.self && m.1.src == src).map fun m => (g, m.2))
    | none => none

/-- The session number for a host's HELLO: the LOST one it names, or the lowest closed one. -/
def State.hostNumber (s : State) (req : Nat) : Option Nat :=
  if req = 0xFFFF then (List.range 16).find? fun n => (s.sess n).state == 0
  else if req < 16 ∧ (s.sess req).state = 3 then some req else none

/-- The session number for a member: the one it had, or the lowest closed one. -/
def State.peerNumber (s : State) (g m : Nat) : Option Nat :=
  let l := (List.range 16).map (· + 16)
  (l.find? fun n => (s.sess n).peer && (s.sess n).group == g && (s.sess n).member == m && (s.sess n).state != 2).orElse fun _ =>
    l.find? fun n => (s.sess n).state == 0

/-- A device that is in STANDBY starts its return to IDLE for an ATTEST frame (R377). -/
def State.attestWake (s : State) : State := if s.pwr.state = .standby then s.wake else s

/-- HELLO: a session number is set aside, and the answer is a QUOTE with an exchange key. -/
def State.hello (s0 : State) (p src : Nat) (m : HelloMsg) : State :=
  let s := s0.attestWake
  let scis := m.scis.map fun x => (x.1.toNat, x.2.val)
  let x0 := s.exchangeAt src p
  let s1 := s.putExchange x0
  let peer := m.role.val == 1
  let mine := x0.initiator && x0.stage != 0
  if !s.netUp then s0
  else if (s.eth p).keys.isSome && !m.verified then s0.macsecDrop p
  else if 1 < m.role.val ∨ scis.length < 1 ∨ 4 < scis.length ∨ (scis.any fun x => decide (4 ≤ x.2)) then s1.failExchange src 9
  else
    let who := if peer then s.memberOf src else some (0, 0)
    match who with
    | none => s1.failExchange src 3
    | some (g, k) =>
      if peer && mine && decide (((s.group g).map (·.self)).getD 0 < k) then s1
      else match if peer then s.peerNumber g k else s.hostNumber m.sessionReq.val with
        | none => s1.failExchange src 3
        | some n =>
          if s.scFull n scis then s1.failExchange src 4
          else
            let nd := Config.freeNat s.free
            let q := s.quoteBody m.nonce.toNat nd (Config.kemKey (s.free + 1))
            let reopen := (s.sess n).state == 3
            let x : Exchange := { x0 with
              initiator := false, peer := peer, group := g, member := k, session := n, reopen := reopen
              nonceH := m.nonce.toNat, nonceD := nd, scis := scis, transcript := m.body, quote := q, peerOwner := none, stage := 2
              kem := s.free + 1 }
            let s2 : State := { s1.putExchange x with free := s.free + 2, sec := { s.sec with nonceD := nd } }
            let s3 := if reopen then s2
              else s2.setSess n { Session.init with state := 1, port := p, peer := peer, group := g, member := k }
            s3.attest (linkOf src) 4 x0.link.tag 2 q

/-- QUOTE: of the device that answered this one's HELLO, which is answered with KEM_AUTH; or of an initiating peer. -/
def State.quoteIn (s : State) (src : Nat) (m : QuoteMsg) : State :=
  match s.exchange src with
  | some x =>
    if !x.peer ∨ (if x.initiator then x.stage ≠ 1 else x.stage ≠ 2) then s
    else if !m.genuine then s.failExchange src 1
    else if m.ownerHash.toNat ≠ s.ownerHash then s.failExchange src 8
    else if x.initiator then
      let t := x.transcript ++ m.body
      let c := Config.kemCipher s.free
      let full := t ++ c
      let s1 := ({ s with free := s.free + 1 } : State).putExchange { x with transcript := full, peerOwner := some m.ownerHash.toNat, stage := 3, kem := s.free }
      s1.attest (linkOf src) 0 s.freeWord.toNat 4 (c ++ Config.akSign (Config.shake full 64))
    else s.putExchange { x with transcript := x.transcript ++ m.body, peerOwner := some m.ownerHash.toNat }
  | none => s

/-- CERTS: the AK and DIK certificates. -/
def State.certs (s : State) (d : Nat) : State :=
  if (s.link d).state = 2 then s.attest d 4 (s.link d).tag 3 (Config.certificates s.sec.sblDigest s.sec.fwDigest) else s

/-- The FINISH body. -/
def finishBody (n wrap : Nat) (confirm : List Byte) (ports : List (Nat × PortKeys)) : List Byte :=
  leBytes 2 n ++ leBytes 6 0 ++ confirm ++ (ports.map fun x =>
    leBytes 1 x.1 ++ leBytes 1 x.2.tx.an ++ leBytes 6 0 ++ Config.gcm wrap (leBytes 32 x.2.tx.key ++ leBytes 32 x.2.host.key)).flatten

/-- The reason for which KEM_AUTH fails; 0 none. -/
def State.kemFault (s : State) (x : Exchange) (m : KemAuthMsg) : Nat :=
  if x.peer then
    match x.peerOwner with
    | none => 3
    | some h => if h ≠ s.ownerHash then 8 else if m.genuine then 0 else 1
  else if s.owned then (if m.zero then 2 else if m.genuine then 0 else 1)
  else if m.zero then 0 else 9

/-- KEM_AUTH: keys are derived, FINISH is sent, and the session opens. -/
def State.kemAuth (s : State) (src : Nat) (m : KemAuthMsg) : State :=
  match s.exchange src with
  | some x =>
    if x.initiator ∨ x.stage ≠ 2 then s
    else
      let f := s.kemFault x m
      if f ≠ 0 then s.failExchange src f
      else if s.scFull x.session x.scis then s.failExchange src 4
      else
        let c := m.body.take 1088
        let k := sessionKeys (Config.kemSecret x.kem c) (x.transcript ++ x.quote ++ c)
        let ports := (x.scis.map (·.2)).eraseDups.map fun p => (p, s.makeKeys p)
        let s1 := s.attest (linkOf src) 4 x.link.tag 5 (finishBody x.session k.1 k.2 ports)
        let s2 : State := forEach ports (fun y s => s.setEth y.1 { s.eth y.1 with keys := some y.2 }) { s1 with free := s1.free + 8 }
        let l : Session := { Session.start x.link.port with
          peer := x.peer, group := x.group, member := x.member, unowned := !x.peer && !s.owned, wrap := k.1 }
        (s2.openSession x.session l x.scis).endExchange src
  | none => s

/-- FINISH, received by the initiating device: the SAKs are installed and the peer session opens under the number given. -/
def State.finish (s : State) (src : Nat) (m : FinishMsg) : State :=
  match s.exchange src with
  | some x =>
    let n := m.session.val
    if !x.initiator ∨ x.stage ≠ 3 then s
    else if !m.genuine then s.failExchange src 1
    else if n < 16 ∨ 32 ≤ n ∨ (m.saks.any fun y => decide (4 ≤ y.1.val)) then s.failExchange src 9
    else
      let k := sessionKeys (Config.kemShared x.kem) x.transcript
      let s1 := forEach m.saks (fun y s =>
        let e := s.eth y.1.val
        let an := y.2.1.val % 4
        if e.keys.isSome then s
        else s.setEth y.1.val { e with keys := some ⟨⟨an, y.2.2.2⟩, ⟨an, y.2.2.1⟩, none, none, 1⟩ }) s
      let l : Session := { Session.start x.link.port with peer := true, group := x.group, member := x.member, wrap := k.1 }
      (s1.openSession n l (m.saks.map fun y => (src, y.1.val))).endExchange src
  | none => s

/-- The SCI of a port: its MAC address and port identifier 1. -/
def State.sciOf (s : State) (p : Nat) : Nat :=
  ((s.reg pgNet (portReg p + 8)).toNat + s.rfld pgNet (portReg p + 12) 0 16 * 2 ^ 32) * 65536 + 1

/-- A peer session's exchange begun by this device: HELLO, and its own QUOTE after it. -/
def State.startPeer (s : State) (g : Nat) (m : Member) (k : Nat) : State :=
  let p := m.port % 4
  let x0 := s.exchangeAt m.src p
  let n := s.peerNumber g k
  let req := match n with | some i => if (s.sess i).state = 3 then i else 0xFFFF | none => 0xFFFF
  let nh := Config.freeNat s.free
  let nd := Config.freeNat (s.free + 1)
  let sci := s.sciOf p
  let hello := leBytes 32 nh ++ leBytes 2 req ++ leBytes 1 1 ++ leBytes 1 1 ++ leBytes 4 0 ++ leBytes 8 sci ++ leBytes 1 p ++ leBytes 7 0
  let q := s.quoteBody nh nd noKey
  let x : Exchange := { x0 with
    initiator := true, peer := true, group := g, member := k, session := 0xFFFF, reopen := req != 0xFFFF
    nonceH := nh, nonceD := nd, scis := [(sci, p)], transcript := hello ++ q, quote := q, peerOwner := none, stage := 1, kem := 0 }
  let s1 : State := { s.putExchange x with free := s.free + 2 }
  (s1.attest (linkOf m.src) 0 s.freeWord.toNat 1 hello).attest (linkOf m.src) 0 s.freeWord.toNat 2 q

/-! Groups (R324). -/

/-- The conditions under which GROUP_DEFINE is refused. -/
def State.groupRefusedDef (s : State) (g : Nat) (d : GroupDef) : Bool :=
  g == 0 || decide (15 < g) || decide (d.count < 2) || decide (4 < d.count) || decide (d.count ≤ d.self) || d.members.length != d.count ||
    (List.range 8).any fun j => match s.job j with | some x => x.bind.groupId == g | none => false

/-- The peer sessions of a group closed, and its exchanges ended. -/
def State.closeGroup (s : State) (g : Nat) : State :=
  let s1 := forEach ((List.range 16).map (· + 16)) (fun n s => if (s.sess n).peer && (s.sess n).group == g then s.closeSession n else s) s
  forEach (s1.net.exchanges.filter fun x => x.peer && x.group == g) (fun x s => s.endExchange x.src) s1

/-- GROUP_DEFINE: the group has its members, and an exchange starts with each other one. -/
def State.groupDefine (s : State) (g : Nat) (d : GroupDef) (tag : Nat) : State :=
  if !s.loaderFree then s
  else if s.restarts then { s with sup := { s.sup with busy := s.sup.busy ++ [(3, 0, tag)] } }
  else if s.groupRefusedDef g d then s.complete 3 0 tag (.bare 0x1F 0) 0xFFFF
  else
    let s1 := (s.closeGroup g).setGroup g (some ⟨d.members, d.self, [], [], [], false⟩)
    (forEach (d.members.zipIdx.filter fun m => m.2 != d.self) (fun m s => s.startPeer g m.1 m.2) s1).complete 3 0 tag (.bare 0 0) 0xFFFF

/-- GROUP_CLEAR. -/
def State.groupClear (s : State) (g tag : Nat) : State :=
  if !s.loaderFree then s
  else if s.restarts then { s with sup := { s.sup with busy := s.sup.busy ++ [(4, 0, tag)] } }
  else if (List.range 8).any fun j => match s.job j with | some x => x.bind.groupId == g && g != 0 | none => false then
    s.complete 4 0 tag (.bare 0x1F 0) 0xFFFF
  else ((s.closeGroup g).setGroup g none).complete 4 0 tag (.bare 0 0) 0xFFFF

/-! Messages of an open session (R336, R338, R339). -/

/-- QUOTE_REQ: a fresh quote whose key field is zero. -/
def State.quoteReq (s0 : State) (n tag nonce : Nat) : State :=
  let s := s0.attestWake
  if (s.sess n).state ≠ 2 then s0
  else
    let nd := Config.freeNat s.free
    ({ s with free := s.free + 1, sec := { s.sec with nonceD := nd } } : State).attest n 4 tag 2 (s.quoteBody nonce nd noKey)

/-- REKEY from the other side: a new host SAK, both associations accepted until the first frame under the new one; REKEY_ACK. -/
def State.rekeyIn (s0 : State) (n : Nat) (m : RekeyMsg) : State :=
  let s := s0.attestWake
  let p := m.port.val
  let l := s.sess n
  if l.state ≠ 2 then s0
  else if l.unowned then s.nakLast n 3 0
  else if 4 ≤ p ∨ m.dir.val ≠ 1 then s.attestFail n 9
  else if !m.genuine then s.attestFail n 1
  else match (s.eth p).keys with
    | none => s.attestFail n 3
    | some k =>
      (s.setEth p { s.eth p with keys := some { k with host := ⟨m.an.val % 4, m.sak⟩, hostOld := some k.host } }).attest n 4 l.tag 8
        (leBytes 1 p ++ leBytes 1 m.an.val ++ leBytes 6 0)

/-- REKEY_ACK: the switch comes once every open session has answered. -/
def State.rekeyAck (s : State) (n p an : Nat) : State :=
  let e := s.eth p
  match e.keys with
  | some k => match k.txNext with
    | some (sak, wait) =>
      if (s.sess n).state = 2 ∧ sak.an = an then
        (s.setEth p { e with keys := some { k with txNext := some (sak, wait.filter (· != n)) } }).trySwitch p
      else s
    | none => s
  | none => s

/-- Packet number at which a rekey begins (R339). -/
def State.pnThreshold (s : State) (p : Nat) : Nat := if s.rfld pgNet (portReg p) 7 1 = 1 then 2 ^ 62 else 0xC0000000

/-- PN_THRESHOLD: a new transmit SAK under the next association is offered to every open session of the port. -/
def State.startRekey (s : State) (p : Nat) : State :=
  let e := s.eth p
  match e.keys with
  | some k =>
    if k.txNext.isSome then s
    else
      let sak : Sak := ⟨(k.tx.an + 1) % 4, s.freeNat⟩
      let l := s.openOn p
      let s1 := s.drawn.setEth p { e with keys := some { k with txNext := some (sak, l), pn := max k.pn (s.pnThreshold p) } }
      (forEach l (fun n s => s.sendRekey n p sak) s1).trySwitch p
  | none => s

/-- SCI_ADD. -/
def State.sciAdd (s0 : State) (n sci p : Nat) : State :=
  let s := s0.attestWake
  let l := s.sess n
  if l.state ≠ 2 ∨ l.peer then s0
  else if 4 ≤ p then s.attestFail n 9
  else if (s.eth p).keys.isNone then s.attestFail n 3
  else if (s.eth p).scis.any fun x => x.1 == sci then s
  else if 8 ≤ (s.eth p).scis.length then s.attestFail n 4
  else s.setEth p { s.eth p with scis := (s.eth p).scis ++ [(sci, n)] }

/-- KEYS: owner image public keys, by their hashes. -/
def State.keysIn (s0 : State) (n : Nat) (l : List Nat) : State :=
  let s := s0.attestWake
  if (s.sess n).state ≠ 2 ∨ (s.sess n).peer then s0 else if 5 < l.length then s.attestFail n 9 else s.takeKeys l

/-! Ownership (R334, R335). -/

/-- Ownership commands run: IDLE, no job, no burn. In STANDBY the command wakes the device first. -/
def State.ownable (s : State) : Bool :=
  (s.pwr.state == .idle || s.pwr.state == .standby) && !((List.range 8).any fun j => (s.job j).isSome) && s.load.isNone && !s.burns &&
    !s.pwr.booting

/-- ENROLL. -/
def State.enroll (s0 : State) (n : Nat) (m : EnrollMsg) : State :=
  let s := s0.attestWake
  let l := s.sess n
  if l.state ≠ 2 ∨ l.peer then s0
  else if l.unowned = s.owned then s.attestFail n 2
  else if !s0.ownable then s.attestFail n 3
  else if 8 ≤ s.fuse.slots.length then s.attestFail n 5
  else if s.owned ∧ !m.genuine then s.attestFail n 1
  else { s with sec := { s.sec with burn := some (.owner m.keyHash.toNat (m.imageKeys.map (·.toNat)) s.owned) } }

/-- RELEASE_OWNER. -/
def State.releaseOwner (s0 : State) (n : Nat) (genuine : Bool) : State :=
  let s := s0.attestWake
  let l := s.sess n
  if l.state ≠ 2 ∨ l.peer then s0
  else if l.unowned ∨ !s.owned then s.attestFail n 2
  else if !s0.ownable then s.attestFail n 3
  else if 8 ≤ s.fuse.slots.length then s.attestFail n 5
  else if !genuine then s.attestFail n 1
  else { s with sec := { s.sec with burn := some .release } }

/-- The current owner slot revoked. -/
def State.revokeOwner (s : State) : State :=
  match s.ownerSlot with
  | some (o, i) => { s with fuse := { s.fuse with slots := s.fuse.slots.set i { o with revoked := true } } }
  | none => s

/-- An owner change closes every session and deletes every SAK. -/
def State.ownerChanged (s : State) : State :=
  let s1 := forEach (List.range 32) (fun n s => s.closeSession n) s
  let s2 := forEach (List.range 4) (fun p s => s.setEth p { s.eth p with keys := none, scis := [] }) s1
  (({ s2 with net := { s2.net with exchanges := [] }, sec := { s2.sec with imageKeys := [], burn := none } } : State).log 0x0A 0
    (logBody 0 0 0)).event pgSec 3

/-- OWNER_BURN_DONE. -/
def State.ownerBurned (s : State) : State :=
  match s.sec.burn with
  | some (.owner h keys transfer) =>
    let s1 := if transfer then s.revokeOwner else s
    ({ s1 with fuse := { s1.fuse with slots := s1.fuse.slots ++ [⟨h, keys, false⟩] } } : State).ownerChanged
  | some .release => s.revokeOwner.ownerChanged
  | _ => s

/-! Network boot and rollback (R331, R333). -/

/-- BOOT_DATA: bytes for the boot ROM. -/
def State.bootBytes (s : State) (off total : Nat) (data : List Byte) : State :=
  if s.pwr.booting && s.sec.netBoot && decide (s.pwr.step < 4) then
    { s with sec := { s.sec with
      bootData := data.zipIdx.foldl (fun m b => sset (fun _ => (0 : Byte)) m (off + b.2) b.1) s.sec.bootData, bootTotal := total } }
  else s

/-- The reason for which a rollback advance is refused; 0 none. -/
def State.rollbackFault (s : State) (which target : Nat) : Nat :=
  if !(s.pwr.state == .idle || s.pwr.state == .standby) then 6
  else if 128 < target then 7
  else if which = 0 then (if s.sec.fwVersion < target then 7 else 0)
  else if s.images.any fun r => decide (r.img.secVersion < target) then 7 else 0

/-- ROLLBACK_ADVANCE: a write of SEC.ROLLBACK_ADV. -/
def State.rollbackAdvance (s0 : State) (w : Word) : State :=
  let s := (s0.setRfld pgSec 0x100 0 8 (fld w 0 8)).setRfld pgSec 0x100 8 1 (fld w 8 1)
  let which := fld w 8 1
  let target := fld w 0 8
  if !bitAt w 31 ∨ s.sec.burn.isSome then s
  else
    let f := s.rollbackFault which target
    if f ≠ 0 then s.fail pgSec 5 f 0
    else if target ≤ (if which = 0 then s.fuse.fw else s.fuse.img) then s
    else ({ s with sec := { s.sec with burn := some (.rollback which target s.clk.up) } } : State).attestWake

/-- ROLLBACK_DONE. -/
def State.rollbackDone (s : State) : State :=
  match s.sec.burn with
  | some (.rollback which target _) =>
    (({ s with sec := { s.sec with burn := none }
               fuse := if which = 0 then { s.fuse with fw := max s.fuse.fw target } else { s.fuse with img := max s.fuse.img target } } :
      State).log 0x0A 0 (logBody which 0 target)).event pgSec 4
  | _ => s

/-! Freezes (R342, R343). -/

/-- A release that waits is performed once the give-up is complete; RFE, OFM, CRS and QM wait for the restarts too. -/
def State.tryRelease (s : State) (id : Nat) : State :=
  if s.sec.relPending.contains id && s.sec.frozen.contains id && !s.sec.givingUp.contains id && !(decide (0x90 ≤ id) && s.restarts) then
    let s1 : State := { s with sec := { s.sec with frozen := s.sec.frozen.filter (· != id), relPending := s.sec.relPending.filter (· != id) } }
    if 0x10 ≤ id ∧ id < 0x90 then s1.chanRest (id - 0x10)
    else if id = 0x93 then forEach (s1.queues.map (·.1)) (fun q s => s.flushQueue q) s1
    else s1
  else s

/-- Every release that waits. -/
def State.tryReleases (s : State) : State := forEach s.sec.relPending (fun id s => s.tryRelease id) s

/-- FREEZE_RELEASE: a write of SEC.FREEZE_REL; engines are released by the fault manager, and a master that is not frozen is ignored. -/
def State.freezeRelease (s0 : State) (w : Word) : State :=
  let s := s0.setRfld pgSec 0x104 0 8 (fld w 0 8)
  let id := fld w 0 8
  if bitAt w 31 && decide (0x10 ≤ id) && s.sec.frozen.contains id && !s.sec.relPending.contains id then
    ({ s with sec := { s.sec with relPending := s.sec.relPending ++ [id] } } : State).tryRelease id
  else s

/-- GIVE_UP_COMPLETE. -/
def State.giveUpDone (s : State) (id : Nat) : State :=
  ({ s with sec := { s.sec with givingUp := s.sec.givingUp.filter (· != id) } } : State).tryRelease id

end Sys2Proof.Machine
end

