-- ==== Sys2Proof/Machine/FaultCmd.lean ====
section
/-! DEFINITION. The commands of the fault manager and of the event registers (R346, R354, R355, R400, R401). -/

namespace Sys2Proof.Machine

open Sys2Proof

/-- HOST_JOB_RESTART (R354). -/
def execHostJobRestart (w : Word) (s : State) : Host.Outcome State Fault Refusal := done (s.hostRestart w)

/-- JOB_RESTART_READY (R355, R356); releases that waited for the restart are performed (R343). -/
def execJobRestartReady (j : Fin 8) (s : State) : Host.Outcome State Fault Refusal := done (s.restartReady j).tryReleases

/-- PROGRESS_CHECK (R346, Table 16-1 class 0x18). -/
def execProgressCheck (s : State) : Host.Outcome State Fault Refusal := done s.progressCheck

/-- EVENT_CLEAR (R400). -/
def execEventClear (page : Fin 4096) (w : Word) (s : State) : Host.Outcome State Fault Refusal := done (s.eventClear page w)

/-- EVENT_MASK_WRITE (R401). -/
def execEventMaskWrite (page : Fin 4096) (w : Word) (s : State) : Host.Outcome State Fault Refusal := done (s.eventMask page w)

/-- EVENT_SET (R401). -/
def execEventSet (page : Fin 4096) (w : Word) (s : State) : Host.Outcome State Fault Refusal := done (s.eventSet page w)

end Sys2Proof.Machine
end

