-- ==== Sys2Proof/Machine/NetOps.lean ====
section
/-! DEFINITION. NET beside its sessions: reservations and RVF streams, the ports' links, network administration, 802.1AS time and
EVENT frames (R306 to R311, R322, R327). -/

namespace Sys2Proof.Machine

open Sys2Proof

/-! Reservations (R310). -/

/-- Offset of a word of stream-table entry n. -/
def entryReg (n k : Nat) : Nat := 0x20 * n + k

/-- Link rate of a speed code, in bits per 250 µs. -/
def rateOf (speed : Nat) : Nat :=
  match speed with
  | 1 => 250000
  | 2 => 625000
  | 3 => 1250000
  | 4 => 2500000
  | _ => 0

/-- The configured link rate of a port (R16). -/
def State.portRate (s : State) (p : Nat) : Nat := rateOf (s.rfld pgNet (portReg p) 0 3)

/-- An entry's reservation in bits per 250 µs. -/
def State.reservation (s : State) (n : Nat) (w : Word) : Nat :=
  (s.rfld 0x701 (entryReg n 0x14) 0 14 + 20) * 8 * s.rfld 0x701 (entryReg n 0x14) 16 8 * (if bitAt w 3 then 1 else 2)

/-- Reservation in force of entry n, 0 without one. -/
def State.reserved (s : State) (n : Nat) : Nat := sget (fun _ => 0) s.net.reserved n

/-- Reservation of an entry set. -/
def State.setReserved (s : State) (n v : Nat) : State := { s with net := { s.net with reserved := sset (fun _ => 0) s.net.reserved n v } }

/-- The enabled entries of a port. -/
def State.entriesOn (s : State) (p : Nat) : List Nat :=
  (List.range 128).filter fun n => s.rfld 0x701 (entryReg n 0) 0 1 == 1 && s.rfld 0x701 (entryReg n 0) 1 2 == p

/-- STREAM_RESERVE: a write of an entry's CFG. EN = 1 reserves, or is refused; EN = 0 gives the reservation back. -/
def State.streamReserve (s : State) (n : Nat) (w : Word) : State :=
  let p := fld w 1 2
  let cfg := w &&& 0x7FFFE
  let s0 := (s.setReg 0x701 (entryReg n 0) cfg).setReserved n 0
  if bitAt w 0 then
    let sum := ((s0.entriesOn p).map fun k => s0.reserved k).sum + s.reservation n w
    if s.portRate p < sum then
      (s0.setRfld 0x701 (entryReg n 0x1C) 1 1 1).fail pgNet 1 (1 + 256 * n + 65536 * p) 0
    else ((s0.setReg 0x701 (entryReg n 0) (cfg ||| 1)).setReserved n (s.reservation n w)).setRfld 0x701 (entryReg n 0x1C) 1 1 0
  else s0.setRfld 0x701 (entryReg n 0x1C) 1 1 0

/-- Every entry of a port disabled (Table 14-11). -/
def State.dropEntries (s : State) (p : Nat) : State :=
  forEach (s.entriesOn p) (fun n s => (s.setRfld 0x701 (entryReg n 0) 0 1 0).setReserved n 0) s

/-! Links (R306, class 0x15). -/

/-- A port's link is down. -/
def State.linkLost (s : State) (p : Nat) : State :=
  let e := s.eth p
  if e.link then
    let l := s.openOn p
    let s1 := (s.setEth p { e with link := false, gptpSlave := false }).event pgNet 0
    let masked := !l.isEmpty && l.all fun n => (List.range 4).any fun q => q != p && (s.eth q).link && s.joined n q
    if masked then s1 else s1.fault 0x15 p 0
  else s

/-- ETH_LINK_CHANGE: the link came up at a speed and PHY role, or went down; a port whose SPEED is 0 stays down. -/
def State.linkChange (s : State) (p : Nat) (up : Bool) (speed : Nat) (master : Bool) : State :=
  let e := s.eth p
  if !up then s.linkLost p
  else if s.rfld pgNet (portReg p) 0 3 = 0 ∨ speed = 0 ∨ 4 < speed ∨ e.link then s
  else
    let s1 := if e.speed = speed ∨ e.speed = 0 then s else s.dropEntries p
    (s1.setEth p { s1.eth p with link := true, speed := speed, master := master }).event pgNet 0

/-- ETH_PORT_CFG_WRITE: a change of SPEED takes the link down and disables every entry of the port. -/
def State.portCfg (s : State) (p : Nat) (w : Word) : State :=
  let s1 := s.setReg pgNet (portReg p) (w &&& 0xFF)
  if fld w 0 3 = s.rfld pgNet (portReg p) 0 3 then s1
  else
    let s2 := (s1.dropEntries p).linkLost p
    s2.setEth p { s2.eth p with speed := 0 }

/-! Administration and time (R306, R308, R309). -/

/-- NETWORK_ADMIN_FRAME: ARP and NDP are answered on any port, echo only where frames verify; what Table 14-1 does not support is
discarded and counted. -/
def State.adminFrame (s : State) (p : Nat) (kind : AdminKind) (verified : Bool) : State :=
  let v4 := bitAt (s.reg pgNet 8) 0 && s.reg pgNet (portReg p + 0x10) != 0
  let v6 := bitAt (s.reg pgNet 8) 1
  if !s.netUp || !(s.eth p).link then s
  else if (s.eth p).keys.isSome && !verified then s.macsecDrop p
  else match kind with
    | .arp => if v4 then s.onPort p (.admin p 0) else s
    | .ndp => if v6 then s.onPort p (.admin p 1) else s
    | .icmpEcho => if (s.eth p).keys.isNone then s.macsecDrop p else if v4 then s.onPort p (.admin p 2) else s
    | .icmpv6Echo => if (s.eth p).keys.isNone then s.macsecDrop p else if v6 then s.onPort p (.admin p 3) else s
    | .unsupported => s.bump pgNet (portReg p + 0x28) 0 32 1

/-- The clock moved by an offset; it does not fall below zero. -/
def State.moveClock (s : State) (d : Int) : State := { s with clk := { s.clk with ptp := ((s.clk.ptp : Int) + d).toNat } }

/-- GPTP_MESSAGE: an offset above 1 µs steps the clock, a smaller one is slewed out. -/
def State.gptp (s : State) (p : Nat) (m : GptpMsg) (verified : Bool) : State :=
  if !s.netUp || !(s.eth p).link then s
  else if (s.eth p).keys.isNone || !verified then s.macsecDrop p
  else
    let s1 := forEach (List.range 4) (fun q s => s.setEth q { s.eth q with gptpSlave := if q = p then m.slave else (s.eth q).gptpSlave && !m.slave }) s
    let s2 : State := { s1 with net := { s1.net with locked := m.synced, grandmaster := m.grandmaster } }
    let s3 := s2.moveClock m.offset
    if 1000 < m.offset.natAbs then (s3.fail pgNet 5 (5 + 65536 * p) 0).fsyncSkip else s3

/-! EVENT frames (R322). -/

/-- The first `k` elements with a property left out. -/
def dropSome {α : Type} (p : α → Bool) : Nat → List α → List α
  | _, [] => []
  | 0, l => l
  | k + 1, a :: l => if p a then dropSome p k l else a :: dropSome p (k + 1) l

/-- An event record's bytes (Table 14-7). -/
def recordBytes (r : EventRec) : List Byte := leBytes 2 r.code ++ leBytes 2 r.page ++ leBytes 4 r.arg0 ++ leBytes 4 r.arg1 ++ leBytes 4 r.time

/-- EVENT_SEND: the oldest record whose session is open goes out with what the session has besides; records lost are reported first. -/
def State.eventSend (s : State) : State :=
  match s.net.events.find? fun r => (s.sess r.session).state == 2 with
  | none => s
  | some r =>
    let n := r.session
    let room := if s.payloadLimit (s.sess n).port = 8960 then 560 else 88
    let head : List EventRec := if s.net.lostEvents = 0 then [] else [⟨0x106, 0xFFFF, s.net.lostEvents, 0, s.time32, n⟩]
    let k := room - head.length
    let l := head ++ (s.net.events.filter fun x => x.session == n).take k
    let s1 : State := { s with net := { s.net with events := dropSome (fun x => x.session == n) k s.net.events, lostEvents := 0 } }
    s1.sendFrame n (mkFrame n 6 0 0 (l.map recordBytes).flatten) none

/-! RVF streams (R311). -/

/-- Units of a plane of coding tiles that end in luma rows y0 to y1, as offsets; `span` luma rows per tile row. -/
def tileUnits (v : Video) (span base y0 y1 : Nat) : List Nat :=
  let tw := cdiv v.width 64
  (((List.range (cdiv v.height span)).filter fun t =>
    let last := min (span * (t + 1)) v.height
    decide (y0 < last) && decide (last ≤ y1)).map fun t => (List.range tw).map fun i => base + (t * tw + i) * 2048 * v.unit).flatten

/-- The units of a band with their bytes: rows of a display output, tiles of a coding output with the luma tiles first. -/
def Video.units (v : Video) (y0 y1 : Nat) : List (Nat × Nat) :=
  match v.out with
  | 0 => (List.range (y1 - y0)).map fun k => ((y0 + k) * alignUp (v.width * v.unit) 128, v.width * v.unit)
  | 1 =>
    let luma := cdiv v.width 64 * cdiv v.height 32 * 2048 * v.unit
    (tileUnits v 32 0 y0 y1 ++ tileUnits v 64 luma y0 y1).map fun o => (o, 2048 * v.unit)
  | _ => []

/-- Packets that carry a number of units: whole units as far as they fit, else segments of each. -/
def packetsOf (limit : Nat) (l : List (Nat × Nat)) : Nat :=
  match l.head? with
  | some (_, n) => if n ≤ limit then cdiv l.length (limit / max 1 n) else l.length * cdiv n limit
  | none => 0

/-- The packets of a band sent on an entry. -/
def State.sendBand (s : State) (n p : Nat) (d : Desc) (v : Video) : State :=
  let y0 := d.aux1 % 65536
  let y1 := y0 + d.aux1 / 65536
  let l := v.units y0 y1
  let r := l.foldl (fun (x : State × List Byte) u =>
    let m := x.1.dmaRead (s.queue v.queue).ctx.channel (d.addr + u.1) u.2
    (m.1, x.2 ++ m.2.data)) (s, [])
  let k := packetsOf (s.payloadLimit p) l
  let seq := sget (fun _ => 0) s.net.avtp n
  if k = 0 then s
  else
    let s1 : State := { r.1 with net := { r.1.net with avtp := sset (fun _ => 0) r.1.net.avtp n ((seq + k) % 256) } }
    let s2 := match (s1.eth p).keys with
      | some x => s1.setEth p { s1.eth p with keys := some { x with pn := x.pn + k } }
      | none => s1
    s2.emit (.rvf n seq k ((v.tStart + s.rfld 0x701 (entryReg n 0x18) 0 24) % 2 ^ 32) (decide (v.height ≤ y1)) r.2)

/-- A streamed frame forgotten. -/
def State.endVideo (s : State) (q seq : Nat) : State :=
  { s with net := { s.net with video := s.net.video.filter fun v => !(v.queue == q && v.seq == seq) } }

/-- RVF_SEND: the next descriptor of a STREAM queue: a band's packets leave and the descriptor is returned. While the link is down
the data is discarded and a frame with data is counted at its end; while the entry is not enabled, or the port holds no key (R308),
the descriptor waits. -/
def State.rvfSend (s : State) (q : Nat) : State :=
  let x := s.queue q
  let n := x.ctx.session % 128
  let p := s.rfld 0x701 (entryReg n 0) 1 2
  if !x.ctx.en || x.ctx.dir != 0 || x.ctx.delivery != 2 || !seqAhead x.ctx.prod x.ctx.cons then s
  else
    let r := s.readDesc q x.ctx.cons
    let d := r.2
    let out := fun (s : State) => (if d.kind = 1 then s.endVideo q d.frameSeq else s).returnTo q ((x.ctx.cons + 1) % 2 ^ 32)
    if !(s.eth p).link then
      out (if d.kind = 1 ∧ d.aux0 ≠ 0 then r.1.bump pgNet (portReg p + 0x30) 0 32 1 else r.1)
    else if s.rfld 0x701 (entryReg n 0) 0 1 = 0 ∨ !s.sends p ∨ (s.eth p).keys.isNone then s
    else if d.kind = 0 then
      match s.net.video.find? fun v => v.queue == q && v.seq == d.frameSeq with
      | some v => out (r.1.sendBand n p d v)
      | none => out r.1
    else out r.1

end Sys2Proof.Machine
end

