-- ==== Sys2Proof/Machine/RegRead.lean ====
section
/-! DEFINITION. What a register reads as: the stored word, with the fields that mirror other state computed from it (every
register table of the spec). -/

namespace Sys2Proof.Machine

open Sys2Proof

/-- The bits of a mask: bit i for each i below n with the property. -/
def bitsWhere (n : Nat) (p : Nat → Bool) : Nat := ((List.range n).map fun i => b2n (p i) * 2 ^ i).sum

/-- How many below n have a property. -/
def countWhere (n : Nat) (p : Nat → Bool) : Nat := ((List.range n).filter p).length

/-! Engines (Tables 05-10 to 05-16, 19-5). -/

/-- A tile of the accumulator memory has an MM or a DRAIN in progress. -/
def Engine.tileBusy (g : Engine) (t : Nat) : Bool :=
  (g.matrixQ ++ g.vectorQ).any fun i => i.started && (i.cmd.mmOf t || i.cmd.drainOf t)

/-- The scoreboard (ENGe page 1). -/
def State.sbMirror (s : State) (e o : Nat) : Nat :=
  let g := s.eng e
  if o < 0x100 ∨ 0x200 ≤ o then 0
  else
    let b := g.sb.getD ((o - 0x100) / 16) SbEntry.free
    match o % 16 / 4 with
    | 0 => b.base
    | 1 => b.len
    | 2 => b.kind + 4 * (match b.owner with
      | some w => (g.ready.findIdx? fun r => r.work == w).getD 0
      | none => 0)
    | _ => b.out

/-- The work queue and the ready queue (ENGe page 2). -/
def State.wqMirror (s : State) (e o : Nat) : Nat :=
  let g := s.eng e
  let at_ := fun (w : Option Work) (head : Nat) => match w with
    | none => 0
    | some w => match o % 16 / 4 with
      | 0 => jobWord w
      | 1 => w.seq
      | 2 => w.deadline % 2 ^ 32
      | _ => head
  if 0x100 ≤ o ∧ o < 0x180 then at_ (g.work[(o - 0x100) / 16]?) 0
  else if 0x200 ≤ o ∧ o < 0x240 then
    let r := g.ready[(o - 0x200) / 16]?
    at_ (r.map (·.work)) ((r.map (·.headPtr)).getD 0)
  else 0

/-! Stripe memory (Tables 07-9 to 07-14). -/

/-- The code that BG_PWR_STATE shows for a group: its state, 3 while in transition. -/
def State.groupCode (s : State) (t g : Nat) : Nat :=
  let x := s.bgroup t g
  if x.target.isSome then 3 else x.state

/-- Bits that tile t adds to a word of its page 0. -/
def State.smemMirror (s : State) (t o : Nat) : Nat :=
  if o = 0xC then
    bitsWhere 8 (fun g => s.groupCode t g == 0) + 2 ^ 8 * bitsWhere 8 (fun g => s.groupCode t g == 1)
      + 2 ^ 16 * b2n ((List.range 8).any fun g => s.groupCode t g == 3) + 2 ^ 17 * b2n (s.tile t).faulted
      + 2 ^ 24 * countWhere 32 (fun r => (s.region t r).mode != 0)
  else if o = 0x104 then ((List.range 8).map fun g => s.groupCode t g * 4 ^ g).sum
  else if o = 0x108 then ((List.range 8).map fun g => min 15 (s.outstanding t g) * 16 ^ g).sum
  else 0

/-- A region descriptor (SMEMt page 1). -/
def State.regionMirror (s : State) (t o : Nat) : Nat :=
  if o < 0x100 ∨ 0x300 ≤ o then 0
  else
    let r := s.region t ((o - 0x100) / 16)
    match o % 16 / 4 with
    | 0 => r.base
    | 1 => r.size + 2 ^ 23 * r.job + 2 ^ 29 * b2n r.persist + 2 ^ 30 * r.mode
    | 2 => r.head + 2 ^ 31 * b2n r.headWrap
    | _ => r.tail + 2 ^ 31 * b2n r.tailWrap

/-! Scheduler (Tables 10-7 to 10-10). -/

/-- U of R203 for the resident set, in milli-engines (log 26). -/
def State.residentLoad (s : State) : Nat := milli (loadOf (s.jobItems (fun _ _ _ => true) fun x => x.variant))

/-- Bits of the scheduler's page. -/
def State.schedMirror (s : State) (o : Nat) : Nat :=
  let streams := fun (f : Nat → Bool) => bitsWhere 32 f
  if o = 0xC then
    bitsWhere 6 (fun e => (s.eng e).serves) + 2 ^ 6 * b2n s.shedding + 2 ^ 7 * b2n ((List.range 6).any fun e => (s.eng e).selftest == 3)
  else if o = 0x100 then min s.residentLoad 65535 + 2 ^ 16 * (880 * s.rotation.length)
  else if o = 0x140 then s.sharedFree 0 + 2 ^ 16 * s.poolFloors 0
  else if o = 0x144 then s.sharedFree 1 + 2 ^ 16 * s.poolFloors 1
  else if o = 0x148 then streams fun i => s.poolWaits i
  else if o = 0x14C then streams fun i => s.poolWaits (32 + i)
  else 0

/-! DRAM (Tables 11-8 to 11-12). -/

/-- Entry k of the repair list (R263): hard repairs in ascending page index, soft repairs, retired pages. -/
def State.repairEntry (s : State) (k : Nat) : Nat :=
  let hard := s.fuse.hard.mergeSort (fun a b => decide (a ≤ b))
  let soft := s.dram.soft
  if k < hard.length then hard.getD k 0 + 2 ^ 30 + 2 ^ 31
  else if k < hard.length + soft.length then soft.getD (k - hard.length) 0 + 2 ^ 31
  else match s.dram.retired[k - hard.length - soft.length]? with
    | some p => if k < 262143 then p + 2 ^ 29 + 2 ^ 31 else 0
    | none => 0

/-- Bits of the DRC's page 0. -/
def State.drcMirror (s : State) (o : Nat) : Nat :=
  let d := s.dram
  if o = 0xC then
    b2n d.selfRefresh + 2 * b2n (!d.copies.isEmpty || d.locks.any fun l => l.copy) + 4 * b2n d.importing + 8 * b2n d.draining + 16 * b2n d.hot
  else if o = 0x124 then b2n d.burning.isSome + 2 ^ 16 * s.fuse.fieldLeft
  else if o = 0x12C then s.repairEntry (s.rfld pgDrc 0x128 0 18)
  else if o = 0x130 then min 65535 d.soft.length + 2 ^ 16 * min 65535 d.retired.length
  else if o = 0x134 then min 262143 (s.fuse.hard.length + d.soft.length + d.retired.length)
  else if o = 0x140 then b2n d.importing
  else 0

/-- Bits of channel c's block at offset k in it. -/
def State.chanMirror (s : State) (c k : Nat) : Nat :=
  let two := fun (f : Nat → Nat) (m : Nat) => f (16 * c + 2 * m) + 2 ^ 16 * f (16 * c + 2 * m + 1)
  if 0x10 ≤ k ∧ k < 0x30 then two (fun b => s.sparesUsed b) ((k - 0x10) / 4)
  else if 0x30 ≤ k ∧ k < 0x50 then
    two (fun b => ((s.dram.buckets.find? fun x => x.1 == b).map fun x => x.2.level).getD 0) ((k - 0x30) / 4)
  else 0

/-! Calibration (Tables 12-5, 12-6). -/

/-- Bits of the page CAL. -/
def State.calMirror (s : State) (o : Nat) : Nat :=
  let unit := s.rfld pgCal 0x110 0 7
  let lane := s.rfld pgCal 0x110 7 7
  let cam := s.rfld pgCal 0x110 14 1 == 1
  let there := if cam then decide (8 ≤ unit) && decide (unit < 16) && decide (lane < 4) else decide (lane < 74)
  if o = 0xC then b2n s.cal.save.isSome + 2 ^ 8 * min 255 (countWhere 128 fun c => s.exhausted c)
  else if o = 0x108 then b2n s.cal.save.isSome
  else if o = 0x114 ∧ there then (if cam then camWord (s.camLane unit lane) else laneWord (s.lane unit lane))
  else if o = 0x118 ∧ there then
    min 65535 ((s.clk.up - (if cam then (s.camLane unit lane).aged else (s.lane unit lane).aged)) / 1000000)
  else 0

/-! Queues and DMA (Tables 13-8 to 13-11). -/

/-- Bits of the page QM. -/
def State.qmMirror (s : State) (o : Nat) : Nat :=
  if o = 0xC then
    (s.queues.filter fun x => x.2.ctx.en).length + 2 ^ 15 * b2n (s.queues.any fun x => decide (0 < x.2.ctx.noSpacePend))
  else 0

/-- The code of a channel's state (Table 13-11). -/
def ChanState.code : ChanState → Nat
  | .idle => 0
  | .active => 1
  | .stopping => 2
  | .stopped => 3
  | .halted => 4
  | .frozen => 5

/-- Bits of the DMA's page 0; a channel that is stopping has a descriptor in progress. -/
def State.dmaMirror (s : State) (o : Nat) : Nat :=
  let n := fun (p : ChanState → Bool) => countWhere 128 fun d => p (s.chan d).state
  if o = 0xC then
    n (fun x => x == .active || x == .stopping) + 2 ^ 8 * n (fun x => x == .halted) + 2 ^ 16 * n (fun x => x == .frozen)
  else 0

/-- Bits of channel d's block at offset k in it. -/
def State.dmaChMirror (s : State) (d k : Nat) : Nat :=
  let x := s.chan d
  match k / 4 with
  | 0 => b2n (x.state == .stopping)
  | 1 => x.state.code + 16 * x.queue
  | 3 => x.done
  | 4 => x.lines
  | _ => 0

/-! Network (Tables 14-12 to 14-15). -/

/-- Bits of the NET's page 0. MBPS is rounded up. -/
def State.netMirror (s : State) (o : Nat) : Nat :=
  if o = 0xC then
    bitsWhere 4 (fun n => (s.eth n).link) + 2 ^ 4 * bitsWhere 4 (fun n => (s.eth n).keys.isSome) + 2 ^ 8 * b2n s.net.locked
      + 2 ^ 9 * b2n s.net.grandmaster + 2 ^ 10 * countWhere 32 (fun n => (s.sess n).state == 2)
  else if 0x200 ≤ o ∧ o < 0x300 then
    let n := (o - 0x200) / 0x40
    let e := s.eth n
    match o % 0x40 with
    | 4 => b2n e.link + 2 * (if e.link then e.speed else 0) + 16 * b2n e.master + 32 * b2n e.gptpSlave
    | 0x24 => cdiv (((s.entriesOn n).map fun k => s.reserved k).sum) 250
    | _ => 0
  else 0

/-- ACTIVE of entry n of the stream table. -/
def State.streamMirror (s : State) (o : Nat) : Nat := if o % 0x20 = 0x1C then s.rfld 0x701 (entryReg (o / 0x20) 0) 0 1 else 0

/-- The session table. -/
def State.sessionMirror (s : State) (o : Nat) : Nat :=
  if 0x400 ≤ o then 0
  else
    let l := s.sess (o / 0x20)
    match o % 0x20 with
    | 0 => l.state + 4 * l.port + 16 * b2n l.peer + 256 * l.group
    | 4 => l.rxNext
    | 8 => l.txNext
    | 0xC => (l.unacked.head?.map (·.seq)).getD l.txNext
    | _ => 0

/-! Security, faults, power (Tables 15-8, 16-8, 17-8). -/

/-- Bits of the page SEC. -/
def State.secMirror (s : State) (o : Nat) : Nat :=
  if o = 0xC then
    b2n s.owned + 2 * ((s.ownerSlot.map (·.2)).getD 0) + 16 * b2n s.sec.netBoot + 32 * b2n s.sec.bootCopy
      + 64 * b2n s.sec.burn.isSome + 2 ^ 8 * s.fuse.fw + 2 ^ 16 * s.fuse.img
  else if o = 0x100 then (match s.sec.burn with
    | some (.rollback _ _ _) => 2 ^ 31
    | _ => 0)
  else if o = 0x104 then 2 ^ 31 * b2n (s.sec.relPending.contains (s.rfld pgSec 0x104 0 8))
  else if 0x110 ≤ o ∧ o < 0x130 then bitsWhere 32 fun i => s.sec.frozen.contains (32 * ((o - 0x110) / 4) + i)
  else if 0x160 ≤ o ∧ o < 0x180 then s.ownerHash / 2 ^ (8 * (o - 0x160)) % 2 ^ 32
  else 0

/-- A job in restart. -/
def State.jobRestarting (s : State) (j : Nat) : Bool :=
  match s.job j with
  | some x => x.phase == .restarting
  | none => false

/-- Bits of the page FLT. -/
def State.fltMirror (s : State) (o : Nat) : Nat :=
  if o = 0xC then
    b2n s.flt.deviceFault + 2 * b2n s.sup.restarting + 4 * b2n s.flt.replaced + 2 ^ 8 * bitsWhere 8 (fun j => s.jobRestarting j)
  else if o = 0x100 then
    bitsWhere 6 (fun e => !(s.eng e).fenced) + 2 ^ 8 * bitsWhere 6 (fun t => !(s.tile t).faulted)
      + 2 ^ 16 * bitsWhere 6 (fun e => (s.eng e).check.state == 1) + 2 ^ 24 * bitsWhere 6 (fun e => (s.eng e).check.state == 2)
  else if o = 0x104 then
    min 255 (countWhere 128 fun c => s.exhausted c) + 2 ^ 8 * min 255 (countWhere 128 fun c => s.exhausted c && s.hasFailedLane c)
      + 2 ^ 16 * min 65535 s.dram.retired.length
  else if o = 0x108 then 2 ^ 31 * b2n (s.jobRestarting (s.rfld pgFlt 0x108 0 3))
  else if o = 0x110 then s.flt.head
  else if o = 0x114 then s.flt.seq
  else if o = 0x118 then standingBytes s.flt.standing
  else if o = 0x11C then s.flt.lastReset + 2 ^ 16 * min 65535 s.flt.warmCount
  else 0

/-- Bits of the page PMU. -/
def State.pmuMirror (s : State) (o : Nat) : Nat :=
  let p := s.pwr
  if o = 0xC then
    p.state.code + 4 * b2n p.trans.isSome + 8 * b2n (!p.heatShed.isEmpty) + 16 * b2n p.tripped + 32 * b2n s.bistRuns
  else if o = 0x100 then 2 ^ 31 * b2n (p.trans.any fun t => t.byHost)
  else if o = 0x104 then bitsWhere 20 fun d => p.dom.getD d .on == .on
  else if o = 0x108 then bitsWhere 20 fun d => p.dom.getD d .on == .retained
  else if o = 0x118 then (match s.tempMax with
    | some m => (m.1 % 256).toNat + 2 ^ 8 * m.2
    | none => 0)
  else if 0x120 ≤ o ∧ o < 0x144 then
    let m := (o - 0x120) / 4
    p.temps.getD (2 * m) 0x80 + 2 ^ 16 * p.temps.getD (2 * m + 1) 0x80
  else if o = 0x144 then min 255 p.heatShed.length
  else if o = 0x150 then b2n s.bistRuns
  else if o = 0x160 then
    min 15 p.step + 16 * b2n p.restored + 32 * b2n p.failed + 64 * b2n p.warm + 2 ^ 16 * min 65535 p.bootMs
  else 0

/-- The firmware's counts on SUP page 0 (Table 19-5); all count from the rise of READY. -/
def State.supMirror (s : State) (o : Nat) : Nat :=
  if o = 0x114 then s.sec.fwVersion
  else if !s.sup.running then 0
  else if o = 0x118 then (s.clk.up - s.clk.readyAt) / 1000000000
  else if o = 0x11C then (s.clk.up - s.clk.readyAt) / 1000000 % 2 ^ 32
  else 0

/-- A word of the log window (R362): the standing records from offset 0, the journal by its offsets. -/
def State.logWord (s : State) (x : Nat) : Nat :=
  if x < 0x8000 then leAt (s.flt.standing.map recBytes).flatten x 4
  else leNat ((List.range 4).map fun i => sget (fun _ => 0) s.flt.journal (x + i))

/-- The pages of the pair PSET_SEQ, PSET_COMMIT (R403). -/
def psetPage (k : PageKind) : Bool := k == .cam || k == .rfe || k == .stat || k == .ofm || k == .crs

/-- Words that read entirely from other state, their reset values in the tables being what they mirror at reset. -/
def mirrored (k : PageKind) (o : Nat) : Bool :=
  match k with
  | .smem0 => o == 0xC
  | .drc => o == 0x124
  | .sup4 => o == 0x140 || o == 0x144
  | .flt => o == 0x100 || o == 0x110
  | .pmu => o == 0x104 || (decide (0x120 ≤ o) && decide (o < 0x144))
  | _ => false

/-- The bits that other state adds to the stored word at offset o of a page. -/
def State.mirror (s : State) (k : PageKind) (n o : Nat) : Nat :=
  match k with
  | .sup0 => s.supMirror o
  | .sup4 => s.schedMirror o
  | .pmu => s.pmuMirror o
  | .sec => s.secMirror o
  | .flt => s.fltMirror o
  | .logWindow => s.logWord (4096 * n + o)
  | .cam =>
    if o = 0xC then 2 ^ 12 * bitsWhere 4 (fun i => (s.slot (4 * n + i)).rx.isSome)
    else if o = 0x200 then 2 ^ 31 * b2n (s.port n).cciBusy
    else if o = 0x208 then b2n (s.port n).cciBusy
    else 0
  | .rfe =>
    if o = 0x108 then bitsWhere 32 fun i => s.pendingSet i
    else if o = 0x10C then bitsWhere 32 fun i => s.pendingSet (32 + i)
    else 0
  | .eng0 => s.engMirror n o
  | .eng1 => s.sbMirror n o
  | .eng2 => s.wqMirror n o
  | .dmem => (sget (fun _ => (0 : Word)) (s.eng (n / 8)).dmem (n % 8 * 1024 + o / 4)).toNat
  | .imem => (sget (fun _ => (0 : Word)) (s.eng (n / 16)).imem (n % 16 * 1024 + o / 4)).toNat
  | .smem0 => s.smemMirror n o
  | .smem1 => s.regionMirror n o
  | .acc => if o = 0xC then bitsWhere 8 fun t => (s.eng n).tileBusy t else 0
  | .drc => s.drcMirror o
  | .drcCh => if o < 0x100 ∨ 0x500 ≤ o then 0 else s.chanMirror (4 * n + (o / 0x100 - 1)) (o % 0x100)
  | .cal => s.calMirror o
  | .qm => s.qmMirror o
  | .dma => s.dmaMirror o
  | .dmaCh => s.dmaChMirror (64 * n + o / 0x40) (o % 0x40)
  | .net => s.netMirror o
  | .netStream => s.streamMirror o
  | .netSession => s.sessionMirror o
  | .crs => if o = 0x108 then s.admitted % 2 ^ 14 else 0
  | _ => 0

/-- What the word at a device address of the register pages reads as. -/
def State.pageWord (s : State) (a : Nat) : Word :=
  let p := pageOf (pageIndex a)
  let o := a % 4096
  let page := pageIndex a
  if (idType p.1).isSome ∧ o = 0x18 then s.pend page
  else if (idType p.1).isSome ∧ o = 0x1C then s.reg page 0x10
  else if (idType p.1).isSome ∧ o = 0x30 then (if psetPage p.1 then s.reg pgRfe 0x30 else 0)
  else if mirrored p.1 o then BitVec.ofNat 32 (s.mirror p.1 p.2 o)
  else sget resetWord s.regs a ||| BitVec.ofNat 32 (s.mirror p.1 p.2 o)

/-- The first address of the queue contexts. -/
def ctxBase : Nat := 0x80000000

/-- What a word of the register pages or of the queue contexts reads as (R284, R404). -/
def State.wordAt (s : State) (a : Nat) : Word :=
  if a < ctxBase then s.pageWord a
  else if (a - ctxBase) / 64 < 16384 then BitVec.ofNat 32 (ctxWord (s.queue ((a - ctxBase) / 64)).ctx ((a - ctxBase) % 64 / 4))
  else 0

/-- A read clears the RC fields of a word (R405). -/
def State.clearRc (s : State) (a : Nat) : State :=
  let rc := (rowAt a).rc
  if ctxBase ≤ a ∨ rc = 0 then s
  else { s with regs := sset resetWord s.regs a (sget resetWord s.regs a &&& ~~~ BitVec.ofNat 32 rc) }

/-- A 4-byte-aligned run of words lies in one page, mapped and powered, or in the queue contexts (R371, R404, R408). -/
def State.runOk (s : State) (a n : Nat) : Bool :=
  decide (1 ≤ n) && decide (n ≤ 64) &&
  (if a < ctxBase then
    decide (a / 4096 = (a + 4 * n - 1) / 4096) && (pageOf (pageIndex a)).1 != .unmapped && s.domainOn (domainOf (pageIndex a))
  else decide (a + 4 * n ≤ 0x80100000) && s.domainOn 3)

/-- The words of a run as one snapshot, and the state with their RC fields cleared (R405). -/
def State.readRun (s : State) (a n : Nat) : List Word × State :=
  let l := (List.range n).map fun i => a + 4 * i
  (l.map fun a => s.wordAt a, forEach l (fun a s => s.clearRc a) s)

end Sys2Proof.Machine
end

