-- ==== Sys2Proof/Machine/RegOps.lean ====
section
/-! DEFINITION. What a write of a register word does, and the check of a REG_WR frame (R5, R111, R403, R406 to R409). -/

namespace Sys2Proof.Machine

open Sys2Proof

/-- The number that stands for the supervisor as the writer of a register. -/
def supWriter : Nat := 32

/-! Plain words and pairs. -/

/-- A word written under its access types: RW bits take the value, W1C bits clear where a 1 is written, others keep theirs. -/
def State.putPlain (s : State) (a : Nat) (w : Word) : State :=
  let r := rowAt a
  let v := sget resetWord s.regs a
  let rw := BitVec.ofNat 32 r.rw
  { s with regs := sset resetWord s.regs a ((v &&& ~~~ (rw ||| (BitVec.ofNat 32 r.w1c &&& w))) ||| (w &&& rw)) }

/-- The LO words of RW pairs (R406): FSYNC_START, PSET_MASK, IMPORT_ADDR, SAVE_ADDR, MAC, STREAM_ID and DEST. -/
def loWord (k : PageKind) (o : Nat) : Bool :=
  match k with
  | .cam => o == 0x1D0
  | .rfe => o == 0x100
  | .drc => o == 0x138
  | .cal => o == 0x100
  | .net => decide (0x200 ≤ o) && decide (o < 0x300) && o % 0x40 == 8
  | .netStream => o % 0x20 == 4 || o % 0x20 == 12
  | _ => false

/-- A LO word held for the session that wrote it. -/
def State.holdLo (s : State) (session a : Nat) (w : Word) : State :=
  { s with holds := (s.holds.filter fun h => !(h.1 == session && h.2.1 == a)) ++ [(session, a, w)] }

/-- A HI word written: the LO word that its session holds takes effect with it. -/
def State.putHi (s : State) (session a : Nat) (w : Word) : State :=
  match s.holds.find? fun h => h.1 == session && h.2.1 == a - 4 with
  | some h =>
    ((({ s with holds := s.holds.filter fun h => !(h.1 == session && h.2.1 == a - 4) } : State).putPlain (a - 4) h.2.2)).putPlain a w
  | none => s.putPlain a w

/-- A word with no behaviour of its own. -/
def State.putWord (s : State) (session a : Nat) (w : Word) : State :=
  let k := (pageOf (pageIndex a)).1
  if loWord k (a % 4096) then s.holdLo session a w
  else if 4 ≤ a % 4096 && loWord k (a % 4096 - 4) then s.putHi session a w
  else s.putPlain a w

/-! Words with behaviour. -/

/-- A write of PSTATE_REQ (Table 17-8); the reserved code requests nothing. -/
def State.writePstate (s : State) (w : Word) : State :=
  if !bitAt w 31 then s.setRfld pgPmu 0x100 0 2 (fld w 0 2)
  else match fld w 0 2 with
    | 0 => s.requestState .active
    | 1 => s.requestState .idle
    | 2 => s.requestState .standby
    | _ => s.setRfld pgPmu 0x100 0 2 3

/-- A write of FLT.WARM: the key starts a warm reset (R360). -/
def State.writeWarm (s : State) (w : Word) : State := if w.toNat = 0x5741524D then s.warmReset 2 0 0 else s

/-- A write of a DMA channel's CTRL (Table 13-11). -/
def State.writeChan (s : State) (d : Nat) (w : Word) : State :=
  let s1 := if bitAt w 1 then s.chanResume d else s
  if bitAt w 0 then s1.chanStop d none else s1

/-- A write of ENGe.CTRL by the supervisor (Table 05-10, R111). -/
def State.writeEngCtrl (s : State) (e : Nat) (w : Word) : State :=
  let s1 := (s.setRfld (pgEng e) 8 4 4 (fld w 4 4)).engineRun e (bitAt w 0)
  if bitAt w 1 then s1.softReset e else s1

/-- A refused write of ENGe.CTRL is reported by its engine (R111). -/
def State.refusedWrite (s : State) (a : Nat) : State :=
  let p := pageOf (pageIndex a)
  if a < ctxBase ∧ p.1 = .eng0 ∧ a % 4096 = 8 then s.cause (pgEng p.2) 7 0 else s

/-- A word written at offset o of a page, by a session or the supervisor. -/
def State.writePage (s : State) (session a : Nat) (k : PageKind) (n o : Nat) (w : Word) : State :=
  let plain := s.putWord session a w
  if (idType k).isSome ∧ o = 0x10 then s.eventClear (pageIndex a) w
  else if (idType k).isSome ∧ o = 0x14 then s.eventMask (pageIndex a) w
  else if (idType k).isSome ∧ o = 0x1C then s.eventSet (pageIndex a) w
  else if (idType k).isSome ∧ o = 0x34 then (if psetPage k then s.commit (fld w 0 16) else s)
  else match k with
  | .cam =>
    if o = 8 then (if bitAt w 0 then s.portEnable n else s.portDisable n)
    else if o = 0x100 then
      if s.rfld (pgCam n) 8 0 1 = 1 then s
      else s.putPlain a (if n < 8 then putFld w 0 2 0 else w)
    else if 0x120 ≤ o ∧ o < 0x1A0 then
      match o % 0x20 with
      | 0 => s.writeSlotCfg (4 * n + (o - 0x120) / 0x20) w
      | 4 | 8 => s.stage (4 * n + (o - 0x120) / 0x20) a w
      | _ => plain
    else if o = 0x1C0 then s.fsyncMode n w
    else if o = 0x1C4 then s.fsyncPeriodWrite n w
    else if o = 0x200 then s.cciWrite n w
    else plain
  | .rfeStream | .ofmStream | .crsStream =>
    match stageStream a with
    | some i => s.stage i a w
    | none => s
  | .rfeCurve => if o % 0x800 ≤ 0x400 then s.curveWrite (2 * n + o / 0x800) (o % 0x800 / 4) w else s
  | .eng0 =>
    if o = 8 then (if session < supWriter then s.refusedWrite a else s.writeEngCtrl n w)
    else if o = 0x11C then (if bitAt w 0 then s.injectMismatch n else s)
    else if o = 0x120 then s.orderTest n w
    else plain
  | .smem0 => if o = 0x100 then s.requestPower n w else plain
  | .sup4 => if o = 0x120 then s.arbSelect w else plain
  | .drc =>
    if o = 0x120 then s.repairAdd w
    else if o = 0x124 then (if session < supWriter then s.repairBurn session w else s)
    else if o = 0x140 then s.importGo w
    else plain
  | .cal => if o = 0x108 then s.orderSave w else plain
  | .dbWindow => s.doorbell (1024 * n + o / 4) w
  | .dmaCh => if o % 0x40 = 0 then s.writeChan (64 * n + o / 0x40) w else plain
  | .net => if 0x200 ≤ o ∧ o < 0x300 ∧ o % 0x40 = 0 then s.portCfg ((o - 0x200) / 0x40) w else plain
  | .netStream => if o % 0x20 = 0 then s.streamReserve (o / 0x20) w else plain
  | .sec => if o = 0x100 then s.rollbackAdvance w else if o = 0x104 then s.freezeRelease w else plain
  | .flt => if o = 0x108 then s.hostRestart w else if o = 0x10C then s.writeWarm w else plain
  | .pmu =>
    if o = 0x100 then s.writePstate w
    else if o = 0x110 then s.thermCfg w
    else if o = 0x150 then s.startBist w
    else plain
  | _ => plain

/-- A word written at an address of the register pages or of the queue contexts. -/
def State.writeWord (s : State) (session a : Nat) (w : Word) : State :=
  if a < ctxBase then
    let p := pageOf (pageIndex a)
    s.writePage session a p.1 p.2 (a % 4096) w
  else s.queueWrite ((a - ctxBase) / 64) ((a - ctxBase) % 64 / 4) w

/-- REGISTER_WRITE: a word written by a session or the supervisor, where the page is mapped and its domain is on. -/
def State.registerWrite (s : State) (session a : Nat) (w : Word) : State :=
  if a % 4 = 0 ∧ s.runOk a 1 then s.writeWord session a w else s

/-! The check of a REG_WR (R407). -/

/-- The registers that host software writes, on a page whose chapter lists them; none where the chapter gives no list. -/
def hostList : PageKind → Nat → Option Bool
  | .smem0, o => some (o == 8 || o == 0x100)
  | .smem1, _ => some false
  | .drc, o => some ([8, 0x100, 0x108, 0x110, 0x120, 0x124, 0x128, 0x138, 0x13C, 0x140].contains o)
  | .drcCh, _ => some false
  | .cal, o => some ([8, 0x100, 0x104, 0x108, 0x110].contains o)
  | .dma, _ => some false
  | .dmaCh, o => some (o % 0x40 == 0)
  | .net, o => some ([8, 0x100, 0x104, 0x108, 0x10C].contains o ||
      (decide (0x200 ≤ o) && decide (o < 0x300) && [0, 8, 0xC, 0x10, 0x14, 0x18, 0x1C, 0x20].contains (o % 0x40)))
  | .netStream, _ => some true
  | .netSession, _ => some false
  | .sec, o => some (o == 0x100 || o == 0x104)
  | .flt, o => some (o == 8 || o == 0x108 || o == 0x10C)
  | .pmu, o => some (o == 0x100 || o == 0x110 || o == 0x114 || o == 0x150)
  | .sup0, o => if 0x110 ≤ o then some false else none
  | .stat, o => if o = 4 ∨ 0x100 ≤ o then some false else none
  | .eng0, o => if o = 8 then some false else none
  | .eng1, o => if 0x100 ≤ o then some false else none
  | .eng2, o => if 0x100 ≤ o then some false else none
  | .dmem, _ => some false
  | .imem, _ => some false
  | .logWindow, _ => some false
  | _, _ => none

/-- A register lies at an offset of a page, as against a reserved offset. -/
def registerAt (k : PageKind) (o : Nat) : Bool :=
  (findRow o (regRows k)).isSome || ((idType k).isSome && decide (o < 0x38)) ||
  (match k with
    | .eng1 => decide (0x100 ≤ o) && decide (o < 0x200)
    | .eng2 => (decide (0x100 ≤ o) && decide (o < 0x180)) || (decide (0x200 ≤ o) && decide (o < 0x240))
    | .dmem | .imem | .logWindow => true
    | _ => false)

/-- A session may write the word at an address: event registers, reserved offsets and PSET_COMMIT everywhere, else as the page's
chapter says. -/
def hostMayWrite (a : Nat) : Bool :=
  let p := pageOf (pageIndex a)
  let o := a % 4096
  decide (ctxBase ≤ a) || !registerAt p.1 o || ((idType p.1).isSome && (o == 0x10 || o == 0x14 || o == 0x1C || o == 0x34)) ||
  (match hostList p.1 o with
    | some b => b
    | none => true)

/-- The addresses of a run of words. -/
def runAddrs (a n : Nat) : List Nat := (List.range n).map fun i => a + 4 * i

/-- The words of a frame written in ascending order. -/
def State.writeRun (s : State) (session a : Nat) (ws : List Word) : State :=
  forEach ((runAddrs a ws.length).zip ws) (fun x s => s.writeWord session x.1 x.2) s

end Sys2Proof.Machine
end

