-- ==== Sys2Proof/Machine/FrameOps.lean ====
section
/-! DEFINITION. Kweal frames received: verification, order, holding, and what each type does when its turn comes (R308, R312 to R320,
R377, Tables 14-3 to 14-6). -/

namespace Sys2Proof.Machine

open Sys2Proof

/-- The frame that a NAK answers: a type with a sequence number and a tag. -/
def asked (n type seq tag : Nat) : KFrame := ⟨type, n, 0, seq, 0, tag, 0, []⟩

/-- A session is open. -/
def State.isOpen (s : State) (n : Nat) : Bool := (s.sess n).state == 2

/-! Registers (R404, R405, R407). -/

/-- REG_RD. -/
def State.regRd (s : State) (n seq tag addr count : Nat) : State :=
  if !s.isOpen n then s
  else if (s.sess n).peer then s.nak n (asked n 1 seq tag) 3 addr
  else if addr % 4 ≠ 0 then s.nak n (asked n 1 seq tag) 4 addr
  else if !s.runOk addr count then s.nak n (asked n 1 seq tag) 5 addr
  else
    let r := s.readRun addr count
    r.2.sendFrame n (mkFrame n 1 4 tag (leBytes 8 addr ++ leBytes 2 count ++ leBytes 6 0 ++
      (r.1.map fun w => leBytes 4 w.toNat).flatten)) none

/-- REG_WR. -/
def State.regWr (s : State) (n seq tag addr : Nat) (ws : List Word) : State :=
  if !s.isOpen n then s
  else if (s.sess n).peer || (s.sess n).unowned then s.nak n (asked n 2 seq tag) 3 addr
  else if addr % 4 ≠ 0 then s.nak n (asked n 2 seq tag) 4 addr
  else if !s.runOk addr ws.length then s.nak n (asked n 2 seq tag) 5 addr
  else match (runAddrs addr ws.length).find? fun a => !hostMayWrite a with
    | some a => (s.refusedWrite a).nak n (asked n 2 seq tag) 3 a
    | none => s.writeRun n addr ws

/-- DOORBELL_FRAME; an entry that names no queue is ignored. -/
def State.doorbells (s : State) (n seq tag : Nat) (l : List (Nat × Word)) : State :=
  if !s.isOpen n then s
  else if (s.sess n).peer || (s.sess n).unowned then s.nak n (asked n 3 seq tag) 3 0
  else if l.length = 0 ∨ 176 < l.length then s.nak n (asked n 3 seq tag) 5 0
  else forEach l (fun x s => if x.1 < 16384 then s.doorbell x.1 x.2 else s) s

/-! Bulk transfers (R317, Tables 14-4 to 14-6). -/

/-- A range lies wholly in DRAM or in one tile. -/
def bulkRange (a n : Nat) : Bool := inDram a n || (tileOf a n).isSome

/-- A transfer forgotten. -/
def State.dropBulk (s : State) (n tag : Nat) : State :=
  let l := s.sess n
  s.setSess n { l with bulk := l.bulk.filter fun b => b.tag != tag }

/-- Bytes that host software writes to DRAM or a tile, through the DMA (Table 11-5); a bank group that is not ON takes none (R154). -/
def State.hostWrite (s : State) (a : Nat) (b : List Byte) : State :=
  match s.groupOff a b.length with
  | some g => s.groupRefused g.1 g.2 true
  | none => (s.dmaWrite 0 a b).1

/-- Bytes that host software reads, through the DMA (Table 11-5); a bank group that is not ON gives none (R154). -/
def State.hostRead (s : State) (a n : Nat) : State × Moved :=
  match s.groupOff a n with
  | some g => (s.groupRefused g.1 g.2 false, ⟨List.replicate n 0, true, false⟩)
  | none => s.dmaRead 0 a n

/-- What refuses a fragment before it has an effect: a NAK reason and its DETAIL. -/
def State.putFault (s : State) (n : Nat) (f : BulkFrag) : Option (Nat × Nat) :=
  let l := s.sess n
  let a := f.addr + f.off
  let m := f.data.length
  let cont := match l.bulk.find? fun b => b.tag == f.tag.toNat with
    | none => decide (f.off = 0)
    | some b => b.space == f.space && b.total == f.total && b.addr == f.addr && b.off == f.off
  if l.unowned then some (3, f.addr)
  else if l.peer && f.space != 3 then some (3, f.addr)
  else if !l.peer && decide (3 ≤ f.space) then some (6, f.addr)
  else if !cont then some (9, f.off)
  else if f.total < f.off + m then some (5, a)
  else match f.space with
    | 0 =>
      if !bulkRange f.addr f.total then some (5, f.addr)
      else if s.inProtected a m || (m != 0 && s.inRegions a m) then some (3, a)
      else none
    | 1 => if !f.more && (decide (4 ≤ s.sup.cmds.length) || s.pwr.booting) then some (7, 0) else none
    | 2 =>
      if !s.pwr.booting || decide (6 < s.pwr.step) then some (6, f.addr)
      else if 65536 < a + m then some (5, a)
      else none
    | _ => none

/-- BULK_PUT: a fragment. -/
def State.bulkPut (s : State) (n seq : Nat) (f : BulkFrag) : State :=
  let tag := f.tag.toNat
  let refuse := fun (s : State) (reason detail : Nat) => (s.dropBulk n tag).nak n (asked n 4 seq tag) reason detail
  if !s.isOpen n then s
  else match s.putFault n f with
    | some r => refuse s r.1 r.2
    | none =>
      let l := s.sess n
      let got := (match l.bulk.find? fun b => b.tag == tag with
        | some b => b.data
        | none => []) ++ (if f.space = 0 ∨ f.space = 2 then [] else f.data)
      let s1 := s.dropBulk n tag
      let s2 := if f.space = 0 then s1.hostWrite (f.addr + f.off) f.data
        else if f.space = 2 then
          s1.withCal fun c => { c with window := (f.data.zipIdx).foldl (fun m b => sset (fun _ => 0) m (f.addr + f.off + b.2) b.1) c.window }
        else s1
      if f.more then
        s2.setSess n { s2.sess n with
          bulk := (s2.sess n).bulk ++ [⟨tag, f.space, f.queue, f.total, f.addr, f.off + f.data.length, got⟩] }
      else match f.space with
        | 1 => { s2 with sup := { s2.sup with cmds := s2.sup.cmds ++ [(tag, got)] } }
        | 2 => s2.restoreWindow
        | 3 =>
          let r := s2.takePeer n got
          if r.2 then r.1 else refuse s2 5 f.addr
        | _ => s2

/-- BULK_GET: from DRAM and stripe memory, or the result of the last command. -/
def State.bulkGet (s : State) (n seq : Nat) (f : BulkFrag) : State :=
  let refuse := fun (reason : Nat) => s.nak n (asked n 5 seq f.tag.toNat) reason f.addr
  let room := s.payloadLimit (s.sess n).port - 24
  if !s.isOpen n then s
  else if (s.sess n).peer || (s.sess n).unowned then refuse 3
  else match f.space with
    | 0 =>
      if f.bytes = 0 ∨ 0x1000000 < f.bytes then refuse 5
      else if !bulkRange f.addr f.bytes then refuse 5
      else if s.inProtected f.addr f.bytes then refuse 3
      else
        let r := (List.range (cdiv f.bytes room)).foldl (fun (x : State × List (List Byte)) k =>
          let m := x.1.hostRead (f.addr + room * k) (min room (f.bytes - room * k))
          let bad := m.2.poison || m.2.srcInvalid
          (m.1, x.2 ++ [bulkHeader 0 (if bad then 4 else 0) 0 f.bytes f.addr (room * k) 0 ++ m.2.data])) (s, [])
        r.1.sendRun n 5 4 f.tag.toNat r.2 none
    | 1 =>
      if f.bytes = 0 ∨ 20 < f.addr + f.bytes then refuse 5
      else s.sendRun n 5 4 f.tag.toNat
        [bulkHeader 1 0 0 f.bytes f.addr 0 0 ++ (s.sup.result.drop f.addr).take f.bytes] none
    | _ => refuse 6

/-- The bulk header and data of a frame. -/
def fragOf (f : KFrame) : BulkFrag :=
  let b := f.payload
  ⟨BitVec.ofNat 32 f.tag, f.flags.testBit 1, leAt b 0 1, leAt b 2 2, leAt b 4 4, leAt b 8 8, leAt b 16 4, leAt b 20 4, b.drop 24⟩

/-! Resynchronisation (R320). -/

/-- The unacknowledged frames dropped: event records are lost and counted, PUSH and PEER transfers start anew. -/
def State.discardTx (s : State) (n : Nat) : State :=
  let l := s.sess n
  let cut := fun (u : Unacked) => l.unacked.any fun v =>
    (v.frame.type == 4 || v.frame.type == 5) && v.frame.type == u.frame.type && v.frame.tag == u.frame.tag
  let lost := ((l.unacked.filter fun u => u.frame.type == 6).map fun u => u.frame.payload.length / 16).sum
  let again := (l.unacked ++ l.queued.filter cut).filterMap (·.push)
  let s1 := s.setSess n { l with unacked := [], queued := l.queued.filter fun u => !cut u }
  let s2 : State := { s1 with net := { s1.net with lostEvents := s1.net.lostEvents + lost } }
  let s3 := forEach again (fun p s => s.resend p.1) s2
  s3.pumpLink (s3.sess n).queued.length n

/-- An entry of a RESYNC response. -/
def resyncEntry (q : Nat) (c : QCtx) : List Byte := leBytes 2 q ++ leBytes 2 0 ++ leBytes 4 c.prod ++ leBytes 4 c.cons ++ leBytes 4 c.avail

/-- RESYNC: answered on arrival, with every queue whose SESSION names the session; SESSION of a STREAM queue names none. An UNOWNED
session does not accept it (R336). -/
def State.resync (s : State) (n seq tag mode : Nat) : State :=
  let l := s.sess n
  if !s.isOpen n then s
  else if l.unowned then s.nak n (asked n 9 seq tag) 3 0
  else
    let s1 := if mode.testBit 0 then s.setSess n { l with rxNext := (seq + 1) % 2 ^ 32, heldRx := [] } else s
    let s2 := if mode.testBit 1 then s1.discardTx n else s1
    let m := s2.sess n
    let room := (s2.payloadLimit m.port - 16) / 16
    let es := (s2.queues.filter fun x => x.2.ctx.session == n && x.2.ctx.delivery != 2).map fun x => resyncEntry x.1 x.2.ctx
    let k := max 1 (cdiv es.length room)
    forEach (List.range k) (fun i s =>
      let part := (es.drop (room * i)).take room
      s.wireFrame n (mkFrame n 9 (if i + 1 = k then 4 else 6) tag (leBytes 4 m.rxNext ++ leBytes 4 m.txNext ++
        leBytes 4 ((m.unacked.head?.map (·.seq)).getD m.txNext) ++ leBytes 2 part.length ++ leBytes 2 0 ++ part.flatten))) s2

/-! Performing (R313, R315, R336). -/

/-- BARRIER records of an EVENT frame from a peer (R326, Table 14-8). -/
def State.peerEvents (s : State) (n : Nat) (b : List Byte) : State :=
  forEach (recordsOf (b.length / 16) b n) (fun r s => if r.code = 0x105 then s.barrierIn n r.arg1 else s) s

/-- A frame performed at its turn. Of an ATTEST frame only the tag is noted: its message is performed by its own command. -/
def State.performFrame (s : State) (d p : Nat) (f : KFrame) : State :=
  let b := f.payload
  if s.payloadLimit p < b.length then s.nak d f 8 b.length
  else if f.type = 8 then s.nakIn d (leAt b 0 4) (leAt b 4 2)
  else if f.type = 10 then s.setLink d { s.link d with tag := f.tag }
  else if 32 ≤ d then s.nak d f 1 0
  else if (s.sess d).unowned && f.type != 1 then s.nak d f 3 0
  else if (s.sess d).peer then
    match f.type with
    | 4 => s.bulkPut d f.seq (fragOf f)
    | 6 => s.peerEvents d b
    | _ => s.nak d f 3 0
  else match f.type with
    | 1 => s.regRd d f.seq f.tag (leAt b 0 8) (leAt b 8 2)
    | 2 =>
      if b.length = 16 + 4 * leAt b 8 2 then
        s.regWr d f.seq f.tag (leAt b 0 8) ((List.range (leAt b 8 2)).map fun i => BitVec.ofNat 32 (leAt b (16 + 4 * i) 4))
      else s.nak d f 5 (leAt b 0 8)
    | 3 =>
      if b.length % 8 = 0 then
        s.doorbells d f.seq f.tag ((List.range (b.length / 8)).map fun i => (leAt b (8 * i) 2, BitVec.ofNat 32 (leAt b (8 * i + 4) 4)))
      else s.nak d f 5 0
    | 4 => s.bulkPut d f.seq (fragOf f)
    | 5 => s.bulkGet d f.seq (fragOf f)
    | _ => s.nak d f 1 0

/-! Order (R314). -/

/-- A frame accepted: RX_NEXT moves past it, an ACK is owed if it asks for one, and it is performed. -/
def State.accept (s : State) (d p : Nat) (f : KFrame) : State :=
  let l := s.link d
  (s.setLink d { l with rxNext := (f.seq + 1) % 2 ^ 32, port := p, ackOwed := l.ackOwed || f.flags.testBit 0 }).performFrame d p f

/-- The device sleeps, or is about to: frames that would be performed are held (R377). -/
def State.asleep (s : State) : Bool := s.pwr.state == .standby || s.pwr.trans.any fun t => t.target == .standby

/-- Held frames whose turn has come; at most `k`. -/
def State.drainLink : Nat → State → Nat → Nat → State
  | 0, s, _, _ => s
  | k + 1, s, d, p =>
    let l := s.link d
    if s.asleep then s
    else match l.heldRx.find? fun f => f.seq == l.rxNext with
      | some f => State.drainLink k ((s.setLink d { l with heldRx := l.heldRx.filter fun g => g.seq != l.rxNext }).accept d p f) d p
      | none => s

/-- Held frames of every link. -/
def State.drainLinks (s : State) : State :=
  let ds := (List.range 32).filter (fun n => s.isOpen n) ++ s.net.exchanges.map fun x => linkOf x.src
  forEach ds (fun d s => s.drainLink 65 d (s.link d).port) s

/-- A frame kept until its turn. -/
def State.holdFrame (s : State) (d : Nat) (f : KFrame) : State :=
  let l := s.link d
  let held := if l.heldRx.any fun g => g.seq == f.seq then l.heldRx else l.heldRx ++ [f]
  s.setLink d { l with heldRx := held, ackOwed := l.ackOwed || f.flags.testBit 0 }

/-- A frame with a SEQ of an open link: accepted, held, a duplicate, or too far ahead. -/
def State.sequence (s : State) (d p : Nat) (f : KFrame) : State :=
  let l := s.link d
  let ahead := seqDist f.seq l.rxNext
  if s.asleep ∧ ahead ≤ 64 then (s.holdFrame d f).wake
  else if ahead = 0 then (s.accept d p f).drainLink 65 d p
  else if ahead ≤ 64 then s.holdFrame d f
  else if seqAhead l.rxNext f.seq then s.sendAck d
  else s.nak d f 2 0

/-- A frame of a link. A LOST session accepts only ATTEST frames, a closed one none. -/
def State.linkFrame (s : State) (d p : Nat) (f : KFrame) : State :=
  let l := s.link d
  if l.state = 3 then (if f.type = 10 then s.sequence d p f else s)
  else if l.state ≠ 2 then s
  else
    let s1 := s.ackTo d f.ack f.window
    if f.type = 7 then s1
    else if f.type = 9 then (if d < 32 then s1.resync d f.seq f.tag (leAt f.payload 0 1) else s1)
    else s1.sequence d p f

/-- The frame verified under a key that the port accepts (R308, R339). -/
def EthPort.verifies (e : EthPort) (a : Arrival) : Bool :=
  match e.keys with
  | some k => a.verified && (k.host.an == a.an.val || k.hostOld.any fun o => o.an == a.an.val)
  | none => true

/-- The first frame under the new host SAK: the old one is accepted no longer (R339). -/
def State.newKeySeen (s : State) (p : Nat) (a : Arrival) : State :=
  let e := s.eth p
  match e.keys with
  | some k =>
    if k.hostOld.isSome && k.host.an == a.an.val then (s.setEth p { e with keys := some { k with hostOld := none } }).event pgSec 2 else s
  | none => s

/-- A datagram for NET: over a version of IP that it accepts, to the Kweal port (R306, Tables 14-12, 14-13); the
others are ignored (DEDUCED, log 99). -/
def State.hears (s : State) (a : Arrival) : Bool :=
  (if a.v6 then bitAt (s.reg pgNet 8) 1 else bitAt (s.reg pgNet 8) 0 && s.reg pgNet (portReg a.port + 0x10) != 0) &&
    a.udp == s.rfld pgNet 8 16 16

/-- KWEAL_FRAME_RECEIVE. -/
def State.receive (s : State) (a : Arrival) : State :=
  let p := a.port.val
  let f := a.frame
  let keyed := (s.eth p).keys.isSome
  if !s.netUp || !(s.eth p).link then s
  else if 9216 < a.wire then s.bump pgNet (portReg p + 0x28) 0 32 1
  else if !(s.eth p).verifies a then s.macsecDrop p
  else
    let s1 := s.newKeySeen p a
    if !s1.hears a then s1
    else if a.magic ≠ 0x574B ∨ a.version ≠ 1 ∨ a.length ≠ f.payload.length then s1.bump pgNet (portReg p + 0x28) 0 32 1
    else if f.session = 0xFFFF then
      let known := (s1.exchange a.src).isSome
      if f.type = 10 then (s1.putExchange (s1.exchangeAt a.src p)).linkFrame (linkOf a.src) p f
      else if known && (f.type == 7 || f.type == 8) then s1.linkFrame (linkOf a.src) p f
      else if keyed then s1 else s1.macsecDrop p
    else if f.session < 32 ∧ (keyed ∨ (f.type = 10 ∧ (s1.sess f.session).state = 3)) then s1.linkFrame f.session p f
    else if !keyed then s1.macsecDrop p
    else s1

end Sys2Proof.Machine
end

