-- ==== Sys2Proof/Machine/Link.lean ====
section
/-! DEFINITION. The commands of the host link and of the network (R306 to R328, R366, R367, R405 to R409). -/

namespace Sys2Proof.Machine

open Sys2Proof

/-- KWEAL_FRAME_RECEIVE (R308, R312, R314). -/
def execKwealFrameReceive (a : Arrival) (s : State) : Host.Outcome State Fault Refusal := done (s.receive a)

/-- REG_RD: the performing of a frame at its turn (R404, R405). -/
def execRegRd (session : Fin 32) (seq tag : Word) (addr count : Nat) (s : State) : Host.Outcome State Fault Refusal :=
  done (s.regRd session seq.toNat tag.toNat addr count)

/-- REG_WR: the performing of a frame at its turn (R404, R407). -/
def execRegWr (session : Fin 32) (seq tag : Word) (addr : Nat) (words : List Word) (s : State) : Host.Outcome State Fault Refusal :=
  done (s.regWr session seq.toNat tag.toNat addr words)

/-- REGISTER_WRITE: by a session, or by the supervisor as writer 32 (R5, R409). -/
def execRegisterWrite (writer : Fin 33) (addr : Nat) (w : Word) (s : State) : Host.Outcome State Fault Refusal :=
  done (s.registerWrite writer addr w)

/-- DOORBELL_FRAME (R290, R313). -/
def execDoorbellFrame (session : Fin 32) (seq tag : Word) (entries : List (Fin 65536 × Word)) (s : State) : Host.Outcome State Fault Refusal :=
  done (s.doorbells session seq.toNat tag.toNat (entries.map fun x => (x.1.val, x.2)))

/-- BULK_PUT (R317). -/
def execBulkPut (session : Fin 32) (seq : Word) (f : BulkFrag) (s : State) : Host.Outcome State Fault Refusal :=
  done (s.bulkPut session seq.toNat f)

/-- BULK_GET (R317). -/
def execBulkGet (session : Fin 32) (seq : Word) (f : BulkFrag) (s : State) : Host.Outcome State Fault Refusal :=
  done (s.bulkGet session seq.toNat f)

/-- KWEAL_ACK: on an open session or an exchange under way (R316). -/
def execKwealAck (link : Nat) (ack : Word) (window : Fin 65536) (s : State) : Host.Outcome State Fault Refusal :=
  done (s.when ((s.link link).state == 2) fun s => s.ackTo link ack.toNat window)

/-- KWEAL_NAK (R313). -/
def execKwealNak (link : Nat) (seq : Word) (reason : Fin 65536) (s : State) : Host.Outcome State Fault Refusal :=
  done (s.nakIn link seq.toNat reason)

/-- RESYNC (R320). -/
def execResync (session : Fin 32) (seq tag : Word) (mode : Byte) (s : State) : Host.Outcome State Fault Refusal :=
  done (s.resync session seq.toNat tag.toNat mode.toNat)

/-- DELAYED_ACK (R316). -/
def execDelayedAck (link : Nat) (s : State) : Host.Outcome State Fault Refusal := done (s.delayedAck link)

/-- KWEAL_RETRANSMIT (R316). -/
def execKwealRetransmit (link : Nat) (s : State) : Host.Outcome State Fault Refusal := done (s.retransmit link)

/-- SESSION_KEEPALIVE_EXPIRE (R318). -/
def execSessionKeepaliveExpire (session : Fin 32) (s : State) : Host.Outcome State Fault Refusal :=
  done (s.keepaliveExpire session)

/-- EVENT_SEND (R321, R322). -/
def execEventSend (s : State) : Host.Outcome State Fault Refusal := done s.eventSend

/-- STREAM_RESERVE: a write of an entry's CFG (R310). -/
def execStreamReserve (n : Fin 128) (w : Word) (s : State) : Host.Outcome State Fault Refusal := done (s.streamReserve n w)

/-- RVF_SEND (R311). -/
def execRvfSend (q : Fin 16384) (s : State) : Host.Outcome State Fault Refusal := done (s.rvfSend q)

/-- PUSH_SEND: the next transfer of a PUSH queue, or of PEER descriptors (R319, R326). -/
def execPushSend (q : Fin 16384) (s : State) : Host.Outcome State Fault Refusal := done (s.pushSend q)

/-- PEER_PUT: a fragment of a transfer in space PEER (R326). -/
def execPeerPut (session : Fin 32) (seq : Word) (f : BulkFrag) (s : State) : Host.Outcome State Fault Refusal :=
  done (s.bulkPut session seq.toNat { f with space := 3 })

/-- BARRIER (R326). -/
def execBarrier (session : Fin 32) (step : Word) (s : State) : Host.Outcome State Fault Refusal :=
  done (s.barrierIn session step.toNat)

/-- PEER_KEEPALIVE (R325). -/
def execPeerKeepalive (session : Fin 32) (s : State) : Host.Outcome State Fault Refusal := done (s.peerKeepalive session)

/-- PEER_LOST (R325, R366). -/
def execPeerLost (session : Fin 32) (s : State) : Host.Outcome State Fault Refusal := done (s.peerLost session)

/-- GROUP_REJOIN (R367). -/
def execGroupRejoin (g : Fin 16) (s : State) : Host.Outcome State Fault Refusal := done (s.groupRejoin g)

/-- ETH_LINK_CHANGE (R306). -/
def execEthLinkChange (n : Fin 4) (up : Bool) (speed : Fin 8) (master : Bool) (s : State) : Host.Outcome State Fault Refusal :=
  done (s.linkChange n up speed master)

/-- NETWORK_ADMIN_FRAME (R306, R308). -/
def execNetworkAdminFrame (n : Fin 4) (kind : AdminKind) (verified : Bool) (s : State) : Host.Outcome State Fault Refusal :=
  done (s.adminFrame n kind verified)

/-- GPTP_MESSAGE (R309). -/
def execGptpMessage (n : Fin 4) (m : GptpMsg) (verified : Bool) (s : State) : Host.Outcome State Fault Refusal :=
  done (s.gptp n m verified)

/-- ETH_PORT_CFG_WRITE (R306, R327). -/
def execEthPortCfgWrite (n : Fin 4) (w : Word) (s : State) : Host.Outcome State Fault Refusal := done (s.portCfg n w)

end Sys2Proof.Machine
end

