-- ==== Sys2Proof/Machine/Loader.lean ====
section
/-! DEFINITION. The commands of the loader, and the start of a tensor step (R197 to R219, R323, R344). -/

namespace Sys2Proof.Machine

open Sys2Proof

/-- JOB_START: a START command reaches the loader; its binding's MODE is not RE-ARM (R211, R212, Table 09-7). -/
def execJobStart (c : StartCmd) (s : State) : Host.Outcome State Fault Refusal := done (s.startJob false c)

/-- JOB_REARM: a START command reaches the loader with MODE 1, RE-ARM (R216). -/
def execJobRearm (c : StartCmd) (s : State) : Host.Outcome State Fault Refusal := done (s.startJob true c)

/-- JOB_STOP: STOP with HOW 0 (R215, R323). -/
def execJobStop (j : Fin 256) (tag : Word) (s : State) : Host.Outcome State Fault Refusal := 
  done (s.when (s.stopBlock tag.toNat j 0) fun s => s.hostStop j tag.toNat false)

/-- JOB_HOLD: STOP with HOW 1 (R215). -/
def execJobHold (j : Fin 256) (tag : Word) (s : State) : Host.Outcome State Fault Refusal := 
  done (s.when (s.stopBlock tag.toNat j 1) fun s => s.hostStop j tag.toNat true)

/-- STREAM_RELEASE: STOP with HOW 2 (R215, R323). -/
def execStreamRelease (j : Fin 256) (mask : BitVec 64) (tag : Word) (s : State) : Host.Outcome State Fault Refusal :=
  done (s.when (s.stopBlock tag.toNat j 2 && s.releaseMask tag.toNat == mask.toNat) fun s => s.hostRelease j mask.toNat tag.toNat)

/-- LOADER_COMMIT (R212, R216); a group's job that is now resident sends its rejoin barrier (R367). -/
def execLoaderCommit (s : State) : Host.Outcome State Fault Refusal := done s.loaderCommit.checkJoins

/-- TENSOR_STEP_START (R213, R214). -/
def execTensorStepStart (j : Fin 8) (s : State) : Host.Outcome State Fault Refusal := done (s.stepStart j)

/-- GROUP_DEFINE (R324). -/
def execGroupDefine (g : Fin 256) (d : GroupDef) (tag : Word) (s : State) : Host.Outcome State Fault Refusal :=
  done (s.when (s.defineBlock tag.toNat g d) fun s => s.groupDefine g d tag.toNat)

/-- GROUP_CLEAR (R324). -/
def execGroupClear (g : Fin 256) (tag : Word) (s : State) : Host.Outcome State Fault Refusal :=
  done (s.when (s.clearBlock tag.toNat g) fun s => s.groupClear g tag.toNat)

end Sys2Proof.Machine
end

