-- ==== Sys2Proof/Machine/Output.lean ====
section
/-! DEFINITION. The commands of output, crops and scheduling (R25, R182, R183, R225, R233, R235). -/

namespace Sys2Proof.Machine

open Sys2Proof

/-- BOX_LIST_ARRIVE (R181 to R183). -/
def execBoxListArrive (q : Fin 16384) (s : State) : Host.Outcome State Fault Refusal := done (s.boxListArrive q)

/-- BAND_RELEASE (R25, R35, R37). -/
def execBandRelease (i : Fin 64) (s : State) : Host.Outcome State Fault Refusal := done (s.releaseBand i)

/-- GUARD_EVALUATE (R225). -/
def execGuardEvaluate (s : State) : Host.Outcome State Fault Refusal := done s.guard

/-- BAND_DEADLINE (R225, R226). -/
def execBandDeadline (v : Victim) (seq band : Nat) (s : State) : Host.Outcome State Fault Refusal := done (s.bandDeadline v seq band)

/-- POOL_WATCHDOG (R235). -/
def execPoolWatchdog (users : List (Fin 72)) (s : State) : Host.Outcome State Fault Refusal :=
  done (s.poolWatchdog (users.map (·.val)))

/-- ARB_SELECT (R233). -/
def execArbSelect (w : Word) (s : State) : Host.Outcome State Fault Refusal := done (s.arbSelect w)

end Sys2Proof.Machine
end

