-- ==== Sys2Proof/Machine/Power.lean ====
section
/-! DEFINITION. The commands of power, clocks, resets and bring-up (R359 to R361, R370 to R386, R418 to R420). -/

namespace Sys2Proof.Machine

open Sys2Proof

/-- POWER_ON_RESET (R382). -/
def execPowerOnReset (s : State) : Host.Outcome State Fault Refusal := done s.powerOn

/-- BRINGUP_STEP_DONE (R330, R382 to R385). -/
def execBringupStepDone (r : StepResult) (s : State) : Host.Outcome State Fault Refusal := done (s.stepDone r)

/-- RESTORE_WAIT_EXPIRE (R383). -/
def execRestoreWaitExpire (s : State) : Host.Outcome State Fault Refusal := done s.restoreExpire

/-- WARM_N_ASSERT (R360). -/
def execWarmNAssert (s : State) : Host.Outcome State Fault Refusal := done s.warmAssert

/-- FLT_WARM_WRITE: a write of FLT.WARM (R360). -/
def execFltWarmWrite (w : Word) (s : State) : Host.Outcome State Fault Refusal := done (s.writeWarm w)

/-- HEARTBEAT_LOSS (R361). -/
def execHeartbeatLoss (s : State) : Host.Outcome State Fault Refusal := done s.heartbeatLoss

/-- CLOCK_OUT_OF_RANGE (R373). -/
def execClockOutOfRange (c : Fin 6) (s : State) : Host.Outcome State Fault Refusal := done (s.clockBad c)

/-- CRYSTAL_STOP (R373). -/
def execCrystalStop (s : State) : Host.Outcome State Fault Refusal := done (s.aon true)

/-- LOCKSTEP_MISMATCH (R359). -/
def execLockstepMismatch (s : State) : Host.Outcome State Fault Refusal := done s.lockstep

/-- SUP_RESTART_DONE (R359). -/
def execSupRestartDone (ok : Bool) (s : State) : Host.Outcome State Fault Refusal := done (s.supRestarted ok)

/-- PSTATE_REQ_ACTIVE (R375). -/
def execPstateReqActive (s : State) : Host.Outcome State Fault Refusal := done (s.requestState .active)

/-- PSTATE_REQ_IDLE (R375). -/
def execPstateReqIdle (s : State) : Host.Outcome State Fault Refusal := done (s.requestState .idle)

/-- PSTATE_REQ_STANDBY (R375, R378). -/
def execPstateReqStandby (s : State) : Host.Outcome State Fault Refusal := done (s.requestState .standby)

/-- PSTATE_TRANSITION_DONE: frames held since the device slept are then performed (R375, R377, R378). -/
def execPstateTransitionDone (s : State) : Host.Outcome State Fault Refusal := done s.transitionDone.drainLinks

/-- DOMAIN_SWITCH_ACK (R370). -/
def execDomainSwitchAck (d : Fin 20) (s : State) : Host.Outcome State Fault Refusal := done (s.switchAck d)

/-- SWITCH_TIMEOUT (R371). -/
def execSwitchTimeout (d : Fin 20) (s : State) : Host.Outcome State Fault Refusal := done (s.switchTimeout d)

/-- THERMAL_SAMPLE: one reading of each sensor (R379 to R381). -/
def execThermalSample (temps : List Byte) (s : State) : Host.Outcome State Fault Refusal :=
  if temps.length = 18 then done (s.sample (temps.map (·.toNat))) else .refused (.illFormed "THERMAL_SAMPLE")

/-- HEAT_SHED_STEP (R380). -/
def execHeatShedStep (s : State) : Host.Outcome State Fault Refusal := done s.heatShedStep

/-- HEAT_UNSHED_STEP (R380). -/
def execHeatUnshedStep (s : State) : Host.Outcome State Fault Refusal := done s.heatUnshedStep

/-- THERM_CFG_WRITE (R381). -/
def execThermCfgWrite (w : Word) (s : State) : Host.Outcome State Fault Refusal := done (s.thermCfg w)

/-- DEVICE_SELFTEST: a write of PMU.BIST (R386). -/
def execDeviceSelftest (w : Word) (s : State) : Host.Outcome State Fault Refusal := done (s.startBist w)

/-- BIST_DONE (R386). -/
def execBistDone (r : BistResult) (s : State) : Host.Outcome State Fault Refusal := done (s.bistDone r)

/-- PPS_PULSE (R419). -/
def execPpsPulse (s : State) : Host.Outcome State Fault Refusal := done s.ppsPulse

/-- PORST_N_ASSERT (R419). -/
def execPorstNAssert (s : State) : Host.Outcome State Fault Refusal := done s.powerOff

/-- WARM_N_RELEASE (R420). -/
def execWarmNRelease (s : State) : Host.Outcome State Fault Refusal := done { s with pins := { s.pins with warmLow := false } }

/-- CRYSTAL_START (R418). -/
def execCrystalStart (s : State) : Host.Outcome State Fault Refusal := done (s.aon false)

end Sys2Proof.Machine
end

