-- ==== Sys2Proof/Machine/Raw.lean ====
section
/-! DEFINITION. The commands of the raw front end (R62 to R80). -/

namespace Sys2Proof.Machine

open Sys2Proof

/-- ROW_PAIR_COMMIT (R17, R23, R62 to R72). -/
def execRowPairCommit (i : Fin 64) (s : State) : Host.Outcome State Fault Refusal := done (s.commitPair i)

/-- RING_SLOT_RESUME (R70). -/
def execRingSlotResume (i : Fin 64) (s : State) : Host.Outcome State Fault Refusal := done (s.ringResume i)

/-- PSET_COMMIT: a write of PSET_COMMIT (R77 to R80). -/
def execPsetCommit (w : Word) (s : State) : Host.Outcome State Fault Refusal := done (s.commit (fld w 0 16))

/-- A write to a staging register of a stream (R42, R76, R78). -/
def State.stageAt (s : State) (i a : Nat) (w : Word) : State := if a = camA i then s.writeSlotCfg i w else s.stage i a w

/-- STAGE_WRITE (R42, R56, R76, R78); a word that no staging register holds is no event of this row. -/
def execStageWrite (a : Nat) (w : Word) (s : State) : Host.Outcome State Fault Refusal :=
  match stageStream a with
  | some i => done (s.stageAt i a w)
  | none => .refused (.illFormed "STAGE_WRITE")

/-- CURVE_TABLE_WRITE (R67). -/
def execCurveTableWrite (c : Fin 4) (i : Fin 257) (w : Word) (s : State) : Host.Outcome State Fault Refusal :=
  done (s.curveWrite c i w)

end Sys2Proof.Machine
end

