-- ==== Sys2Proof/Machine/Security.lean ====
section
/-! DEFINITION. The commands of the security engine (R329 to R345). -/

namespace Sys2Proof.Machine

open Sys2Proof

/-- HELLO (R336, R338). -/
def execHello (n : Fin 4) (src : Nat) (m : HelloMsg) (s : State) : Host.Outcome State Fault Refusal := done (s.hello n src m)

/-- QUOTE (R336). -/
def execQuote (src : Nat) (m : QuoteMsg) (s : State) : Host.Outcome State Fault Refusal := done (s.quoteIn src m)

/-- CERTS (R335, R336). -/
def execCerts (link : Nat) (s : State) : Host.Outcome State Fault Refusal := done (s.certs link)

/-- KEM_AUTH (R336, R337). -/
def execKemAuth (src : Nat) (m : KemAuthMsg) (s : State) : Host.Outcome State Fault Refusal := done (s.kemAuth src m)

/-- QUOTE_REQ (R336). -/
def execQuoteReq (session : Fin 32) (tag : Word) (nonce : BitVec 256) (s : State) : Host.Outcome State Fault Refusal :=
  done (s.quoteReq session tag.toNat nonce.toNat)

/-- REKEY (R339). -/
def execRekey (session : Fin 32) (m : RekeyMsg) (s : State) : Host.Outcome State Fault Refusal := done (s.rekeyIn session m)

/-- REKEY_ACK (R339). -/
def execRekeyAck (session : Fin 32) (port an : Fin 256) (s : State) : Host.Outcome State Fault Refusal :=
  done (s.rekeyAck session port an)

/-- PN_THRESHOLD (R339). -/
def execPnThreshold (n : Fin 4) (s : State) : Host.Outcome State Fault Refusal := done (s.startRekey n)

/-- SCI_ADD (R338). -/
def execSciAdd (session : Fin 32) (sci : BitVec 64) (port : Fin 256) (s : State) : Host.Outcome State Fault Refusal :=
  done (s.sciAdd session sci.toNat port)

/-- ENROLL (R334). -/
def execEnroll (session : Fin 32) (m : EnrollMsg) (s : State) : Host.Outcome State Fault Refusal := done (s.enroll session m)

/-- RELEASE_OWNER (R334). -/
def execReleaseOwner (session : Fin 32) (genuine : Bool) (s : State) : Host.Outcome State Fault Refusal :=
  done (s.releaseOwner session genuine)

/-- OWNER_BURN_DONE (R334). -/
def execOwnerBurnDone (s : State) : Host.Outcome State Fault Refusal := done s.ownerBurned

/-- KEYS (R332). -/
def execKeys (session : Fin 32) (hashes : List Nat) (s : State) : Host.Outcome State Fault Refusal :=
  done (s.keysIn session hashes)

/-- BOOT_DATA (R331). -/
def execBootData (off total : Word) (data : List Byte) (s : State) : Host.Outcome State Fault Refusal :=
  done (s.bootBytes off.toNat total.toNat data)

/-- ROLLBACK_ADVANCE (R333). -/
def execRollbackAdvance (w : Word) (s : State) : Host.Outcome State Fault Refusal := done (s.rollbackAdvance w)

/-- ROLLBACK_DONE (R333). -/
def execRollbackDone (s : State) : Host.Outcome State Fault Refusal := done s.rollbackDone

/-- FREEZE_RELEASE (R343). -/
def execFreezeRelease (w : Word) (s : State) : Host.Outcome State Fault Refusal := done (s.freezeRelease w)

/-- FINISH (R336, R337). -/
def execFinish (src : Nat) (m : FinishMsg) (s : State) : Host.Outcome State Fault Refusal := done (s.finish src m)

/-- GIVE_UP_COMPLETE (R342, R343). -/
def execGiveUpComplete (master : Fin 256) (s : State) : Host.Outcome State Fault Refusal := done (s.giveUpDone master)

end Sys2Proof.Machine
end

