-- ==== Sys2Proof/Machine/Smem.lean ====
section
/-! DEFINITION. The commands of stripe memory (R134 to R158). -/

namespace Sys2Proof.Machine

open Sys2Proof

/-- PARITY_REREAD (R147 to R150). -/
def execParityReread (t : Fin 6) (port : Fin 8) (behalf : Bool) (line : Fin 262144) (stored : List (Fin 32)) (passed : Fin 33)
    (s : State) : Host.Outcome State Fault Refusal := done (s.parityReread t port behalf line passed (stored.map (·.val)))

/-- REGION_ALLOCATE (R141, R142). -/
def execRegionAllocate (t : Fin 6) (r : Fin 32) (lines : Nat) (release : Bool) (s : State) : Host.Outcome State Fault Refusal :=
  done (s.allocRegion t r lines release)

/-- CREDIT_GRANT (R144, R146). -/
def execCreditGrant (e sender : Fin 6) (r : Fin 32) (lines : Nat) (s : State) : Host.Outcome State Fault Refusal :=
  done (s.grantCredits e sender r lines)

/-- RING_LINE_ARRIVE (R143 to R145, R154). -/
def execRingLineArrive (t : Fin 6) (s : State) : Host.Outcome State Fault Refusal := done (s.ringArrive t)

/-- CREDIT_ACK (R144). -/
def execCreditAck (t sender : Fin 6) (lines : Fin 9) (s : State) : Host.Outcome State Fault Refusal :=
  done (s.ackCredits t sender lines)

/-- CREDIT_RELEASE (R146). -/
def execCreditRelease (e receiver : Fin 6) (r : Fin 32) (s : State) : Host.Outcome State Fault Refusal :=
  done (s.releaseCredits e receiver r)

/-- PATROL_READ (R151). -/
def execPatrolRead (t : Fin 6) (stored : List (Fin 32)) (s : State) : Host.Outcome State Fault Refusal :=
  done (s.patrol t (stored.map (·.val)))

/-- BANK_GROUP_POWER_REQUEST (R153). -/
def execBankGroupPowerRequest (t : Fin 6) (w : Word) (s : State) : Host.Outcome State Fault Refusal := done (s.requestPower t w)

/-- BANK_GROUP_POWER_DONE (R152, R153, R155). -/
def execBankGroupPowerDone (t : Fin 6) (g : Fin 8) (timeout : Bool) (s : State) : Host.Outcome State Fault Refusal :=
  done (s.powerDone t g timeout)

end Sys2Proof.Machine
end

