-- ==== Sys2Proof/Machine/Dispatch.lean ====
section
/-! DEFINITION. The meaning of each command: one arm per constructor of Instr, each a direct call of its meaning. -/

namespace Sys2Proof.Machine

open Sys2Proof

def exec (i : Instr) (s : State) : Host.Outcome State Fault Refusal :=
  match i with
  -- Power, reset and bring-up
  | .powerOnReset => Sys2Proof.Machine.execPowerOnReset s
  | .bringupStepDone r => Sys2Proof.Machine.execBringupStepDone r s
  | .restoreWaitExpire => Sys2Proof.Machine.execRestoreWaitExpire s
  | .warmNAssert => Sys2Proof.Machine.execWarmNAssert s
  | .fltWarmWrite w => Sys2Proof.Machine.execFltWarmWrite w s
  | .heartbeatLoss => Sys2Proof.Machine.execHeartbeatLoss s
  | .clockOutOfRange c => Sys2Proof.Machine.execClockOutOfRange c s
  | .crystalStop => Sys2Proof.Machine.execCrystalStop s
  | .lockstepMismatch => Sys2Proof.Machine.execLockstepMismatch s
  | .supRestartDone ok => Sys2Proof.Machine.execSupRestartDone ok s
  | .pstateReqActive => Sys2Proof.Machine.execPstateReqActive s
  | .pstateReqIdle => Sys2Proof.Machine.execPstateReqIdle s
  | .pstateReqStandby => Sys2Proof.Machine.execPstateReqStandby s
  | .pstateTransitionDone => Sys2Proof.Machine.execPstateTransitionDone s
  | .domainSwitchAck d => Sys2Proof.Machine.execDomainSwitchAck d s
  | .switchTimeout d => Sys2Proof.Machine.execSwitchTimeout d s
  | .thermalSample temps => Sys2Proof.Machine.execThermalSample temps s
  | .heatShedStep => Sys2Proof.Machine.execHeatShedStep s
  | .heatUnshedStep => Sys2Proof.Machine.execHeatUnshedStep s
  | .thermCfgWrite w => Sys2Proof.Machine.execThermCfgWrite w s
  | .deviceSelftest w => Sys2Proof.Machine.execDeviceSelftest w s
  | .bistDone r => Sys2Proof.Machine.execBistDone r s
  | .ppsPulse => Sys2Proof.Machine.execPpsPulse s
  -- Camera ports
  | .portEnable p => Sys2Proof.Machine.execPortEnable p s
  | .portDisable p => Sys2Proof.Machine.execPortDisable p s
  | .streamEnable p n w => Sys2Proof.Machine.execStreamEnable p n w s
  | .streamDisable p n w => Sys2Proof.Machine.execStreamDisable p n w s
  | .linkUp p gear => Sys2Proof.Machine.execLinkUp p gear s
  | .linkDown p => Sys2Proof.Machine.execLinkDown p s
  | .gearChange p gear => Sys2Proof.Machine.execGearChange p gear s
  | .frameStartPacket p vc corrected => Sys2Proof.Machine.execFrameStartPacket p vc corrected s
  | .frameEndPacket p vc corrected => Sys2Proof.Machine.execFrameEndPacket p vc corrected s
  | .lineStartPacket p vc line corrected => Sys2Proof.Machine.execLineStartPacket p vc line corrected s
  | .lineEndPacket p vc line corrected => Sys2Proof.Machine.execLineEndPacket p vc line corrected s
  | .longPacket p vc dt data crcOk corrected => Sys2Proof.Machine.execLongPacket p vc dt data crcOk corrected s
  | .discardedShortPacket p vc dt corrected => Sys2Proof.Machine.execDiscardedShortPacket p vc dt corrected s
  | .uncorrectableHeader p => Sys2Proof.Machine.execUncorrectableHeader p s
  | .feMissing p n => Sys2Proof.Machine.execFeMissing p n s
  | .frameTimeout p n => Sys2Proof.Machine.execFrameTimeout p n s
  | .streamAbsent p n => Sys2Proof.Machine.execStreamAbsent p n s
  | .cciGo p w => Sys2Proof.Machine.execCciGo p w s
  | .cciDone p nack data => Sys2Proof.Machine.execCciDone p nack data s
  | .cciTimeout p => Sys2Proof.Machine.execCciTimeout p s
  | .fsyncModeWrite p w => Sys2Proof.Machine.execFsyncModeWrite p w s
  | .fsyncPeriodWrite p w => Sys2Proof.Machine.execFsyncPeriodWrite p w s
  | .fsyncEdge p => Sys2Proof.Machine.execFsyncEdge p s
  | .fsyncUplinkMessage p => Sys2Proof.Machine.execFsyncUplinkMessage p s
  -- Raw front end
  | .rowPairCommit i0 => Sys2Proof.Machine.execRowPairCommit i0 s
  | .ringSlotResume i0 => Sys2Proof.Machine.execRingSlotResume i0 s
  | .psetCommit w => Sys2Proof.Machine.execPsetCommit w s
  | .stageWrite a w => Sys2Proof.Machine.execStageWrite a w s
  | .curveTableWrite c i0 w => Sys2Proof.Machine.execCurveTableWrite c i0 w s
  -- Stripe engines
  | .fetchStart e plan => Sys2Proof.Machine.execFetchStart e plan s
  | .fetchLineLand e l => Sys2Proof.Machine.execFetchLineLand e l s
  | .stripeExecuteStart e => Sys2Proof.Machine.execStripeExecuteStart e s
  | .wset e c => Sys2Proof.Machine.execWset e c s
  | .mm e c => Sys2Proof.Machine.execMm e c s
  | .drain e c => Sys2Proof.Machine.execDrain e c s
  | .vop e c => Sys2Proof.Machine.execVop e c s
  | .vlut e c => Sys2Proof.Machine.execVlut e c s
  | .vred e c => Sys2Proof.Machine.execVred e c s
  | .fft e c => Sys2Proof.Machine.execFft e c s
  | .move e c => Sys2Proof.Machine.execMove e c s
  | .put e c => Sys2Proof.Machine.execPut e c s
  | .tack e mask stripe => Sys2Proof.Machine.execTack e mask stripe s
  | .tackRelease e => Sys2Proof.Machine.execTackRelease e s
  | .signal e out hist taps parts => Sys2Proof.Machine.execSignal e out hist taps parts s
  | .signalComplete e => Sys2Proof.Machine.execSignalComplete e s
  | .commandComplete e u => Sys2Proof.Machine.execCommandComplete e u s
  | .katComplete e colPass gussetPass => Sys2Proof.Machine.execKatComplete e colPass gussetPass s
  | .gussetWindowAdvance e kat mismatch => Sys2Proof.Machine.execGussetWindowAdvance e kat mismatch s
  | .checkInject e => Sys2Proof.Machine.execCheckInject e s
  | .stripeReplayStart e => Sys2Proof.Machine.execStripeReplayStart e s
  | .cancelComplete e => Sys2Proof.Machine.execCancelComplete e s
  | .engineSelftestRequest e w => Sys2Proof.Machine.execEngineSelftestRequest e w s
  | .engineSelftestDone e failUnit pass => Sys2Proof.Machine.execEngineSelftestDone e failUnit pass s
  | .engineRun e run => Sys2Proof.Machine.execEngineRun e run s
  | .softReset e => Sys2Proof.Machine.execSoftReset e s
  | .resetDone e => Sys2Proof.Machine.execResetDone e s
  | .engineHang e => Sys2Proof.Machine.execEngineHang e s
  | .softResetTimeout e => Sys2Proof.Machine.execSoftResetTimeout e s
  | .powerCycleTimeout e => Sys2Proof.Machine.execPowerCycleTimeout e s
  -- Stripe memory
  | .parityReread t port behalf line stored passed => Sys2Proof.Machine.execParityReread t port behalf line stored passed s
  | .regionAllocate t r lines release => Sys2Proof.Machine.execRegionAllocate t r lines release s
  | .creditGrant e sender r lines => Sys2Proof.Machine.execCreditGrant e sender r lines s
  | .ringLineArrive t => Sys2Proof.Machine.execRingLineArrive t s
  | .creditAck t sender lines => Sys2Proof.Machine.execCreditAck t sender lines s
  | .creditRelease e receiver r => Sys2Proof.Machine.execCreditRelease e receiver r s
  | .patrolRead t stored => Sys2Proof.Machine.execPatrolRead t stored s
  | .bankGroupPowerRequest t w => Sys2Proof.Machine.execBankGroupPowerRequest t w s
  | .bankGroupPowerDone t g timeout => Sys2Proof.Machine.execBankGroupPowerDone t g timeout s
  -- Output and crops
  | .boxListArrive q => Sys2Proof.Machine.execBoxListArrive q s
  | .bandRelease i0 => Sys2Proof.Machine.execBandRelease i0 s
  -- Loader and jobs
  | .jobStart c => Sys2Proof.Machine.execJobStart c s
  | .jobRearm c => Sys2Proof.Machine.execJobRearm c s
  | .jobStop j tag => Sys2Proof.Machine.execJobStop j tag s
  | .jobHold j tag => Sys2Proof.Machine.execJobHold j tag s
  | .streamRelease j mask tag => Sys2Proof.Machine.execStreamRelease j mask tag s
  | .loaderCommit => Sys2Proof.Machine.execLoaderCommit s
  | .groupDefine g d tag => Sys2Proof.Machine.execGroupDefine g d tag s
  | .groupClear g tag => Sys2Proof.Machine.execGroupClear g tag s
  | .tensorStepStart j => Sys2Proof.Machine.execTensorStepStart j s
  -- Scheduling
  | .guardEvaluate => Sys2Proof.Machine.execGuardEvaluate s
  | .bandDeadline v seq band => Sys2Proof.Machine.execBandDeadline v seq band s
  | .poolWatchdog users => Sys2Proof.Machine.execPoolWatchdog users s
  | .arbSelect w => Sys2Proof.Machine.execArbSelect w s
  -- Stacked DRAM
  | .dramRead req leaf addr upsets => Sys2Proof.Machine.execDramRead req leaf addr upsets s
  | .dramWrite req leaf addr bytes => Sys2Proof.Machine.execDramWrite req leaf addr bytes s
  | .dramInvalidate req addr len => Sys2Proof.Machine.execDramInvalidate req addr len s
  | .mergeDrain page found => Sys2Proof.Machine.execMergeDrain page found s
  | .reconstructDone page => Sys2Proof.Machine.execReconstructDone page s
  | .bucketLeak => Sys2Proof.Machine.execBucketLeak s
  | .spareCopyDone page => Sys2Proof.Machine.execSpareCopyDone page s
  | .scrubVisit upsets => Sys2Proof.Machine.execScrubVisit upsets s
  | .repairAdd w => Sys2Proof.Machine.execRepairAdd w s
  | .repairBurn session w => Sys2Proof.Machine.execRepairBurn session w s
  | .burnDone => Sys2Proof.Machine.execBurnDone s
  | .importGo w => Sys2Proof.Machine.execImportGo w s
  | .importDone => Sys2Proof.Machine.execImportDone s
  -- Calibration
  | .laneVisitStart c g => Sys2Proof.Machine.execLaneVisitStart c g s
  | .calPassDone c g m => Sys2Proof.Machine.execCalPassDone c g m s
  | .camLaneMeasure p l fine thr => Sys2Proof.Machine.execCamLaneMeasure p l fine thr s
  | .camLaneApply p l => Sys2Proof.Machine.execCamLaneApply p l s
  | .calSave w => Sys2Proof.Machine.execCalSave w s
  | .saveDone => Sys2Proof.Machine.execSaveDone s
  -- Queues and DMA
  | .queueEnable q w => Sys2Proof.Machine.execQueueEnable q w s
  | .queueDisable q w => Sys2Proof.Machine.execQueueDisable q w s
  | .queueContextWrite q i0 w => Sys2Proof.Machine.execQueueContextWrite q i0 w s
  | .doorbell q v => Sys2Proof.Machine.execDoorbell q v s
  | .dmaDescriptorStart d ecc => Sys2Proof.Machine.execDmaDescriptorStart d ecc s
  | .descriptorComplete d => Sys2Proof.Machine.execDescriptorComplete d s
  | .descHalf d => Sys2Proof.Machine.execDescHalf d s
  | .dmaAccessTimeout d addr => Sys2Proof.Machine.execDmaAccessTimeout d addr s
  | .dmaRetry d ok => Sys2Proof.Machine.execDmaRetry d ok s
  | .dmaStop d => Sys2Proof.Machine.execDmaStop d s
  | .dmaResume d => Sys2Proof.Machine.execDmaResume d s
  -- Host link and Kweal
  | .kwealFrameReceive a => Sys2Proof.Machine.execKwealFrameReceive a s
  | .regRd session seq tag addr count => Sys2Proof.Machine.execRegRd session seq tag addr count s
  | .regWr session seq tag addr words => Sys2Proof.Machine.execRegWr session seq tag addr words s
  | .registerWrite writer addr w => Sys2Proof.Machine.execRegisterWrite writer addr w s
  | .doorbellFrame session seq tag entries => Sys2Proof.Machine.execDoorbellFrame session seq tag entries s
  | .bulkPut session seq f => Sys2Proof.Machine.execBulkPut session seq f s
  | .bulkGet session seq f => Sys2Proof.Machine.execBulkGet session seq f s
  | .kwealAck link ack window => Sys2Proof.Machine.execKwealAck link ack window s
  | .kwealNak link seq reason => Sys2Proof.Machine.execKwealNak link seq reason s
  | .resync session seq tag mode => Sys2Proof.Machine.execResync session seq tag mode s
  | .delayedAck link => Sys2Proof.Machine.execDelayedAck link s
  | .kwealRetransmit link => Sys2Proof.Machine.execKwealRetransmit link s
  | .sessionKeepaliveExpire session => Sys2Proof.Machine.execSessionKeepaliveExpire session s
  | .eventSend => Sys2Proof.Machine.execEventSend s
  | .streamReserve n w => Sys2Proof.Machine.execStreamReserve n w s
  | .rvfSend q => Sys2Proof.Machine.execRvfSend q s
  | .pushSend q => Sys2Proof.Machine.execPushSend q s
  | .peerPut session seq f => Sys2Proof.Machine.execPeerPut session seq f s
  | .barrier session step => Sys2Proof.Machine.execBarrier session step s
  | .peerKeepalive session => Sys2Proof.Machine.execPeerKeepalive session s
  | .peerLost session => Sys2Proof.Machine.execPeerLost session s
  | .groupRejoin g => Sys2Proof.Machine.execGroupRejoin g s
  | .ethLinkChange n up speed master => Sys2Proof.Machine.execEthLinkChange n up speed master s
  | .networkAdminFrame n kind verified => Sys2Proof.Machine.execNetworkAdminFrame n kind verified s
  | .gptpMessage n m verified => Sys2Proof.Machine.execGptpMessage n m verified s
  -- Security
  | .hello n src m => Sys2Proof.Machine.execHello n src m s
  | .quote src m => Sys2Proof.Machine.execQuote src m s
  | .certs link => Sys2Proof.Machine.execCerts link s
  | .kemAuth src m => Sys2Proof.Machine.execKemAuth src m s
  | .quoteReq session tag nonce => Sys2Proof.Machine.execQuoteReq session tag nonce s
  | .rekey session m => Sys2Proof.Machine.execRekey session m s
  | .rekeyAck session port an => Sys2Proof.Machine.execRekeyAck session port an s
  | .pnThreshold n => Sys2Proof.Machine.execPnThreshold n s
  | .sciAdd session sci port => Sys2Proof.Machine.execSciAdd session sci port s
  | .enroll session m => Sys2Proof.Machine.execEnroll session m s
  | .releaseOwner session genuine => Sys2Proof.Machine.execReleaseOwner session genuine s
  | .ownerBurnDone => Sys2Proof.Machine.execOwnerBurnDone s
  | .keys session hashes => Sys2Proof.Machine.execKeys session hashes s
  | .bootData off total data => Sys2Proof.Machine.execBootData off total data s
  | .rollbackAdvance w => Sys2Proof.Machine.execRollbackAdvance w s
  | .rollbackDone => Sys2Proof.Machine.execRollbackDone s
  | .freezeRelease w => Sys2Proof.Machine.execFreezeRelease w s
  -- Faults and events
  | .hostJobRestart w => Sys2Proof.Machine.execHostJobRestart w s
  | .jobRestartReady j => Sys2Proof.Machine.execJobRestartReady j s
  | .progressCheck => Sys2Proof.Machine.execProgressCheck s
  | .eventClear page w => Sys2Proof.Machine.execEventClear page w s
  | .eventMaskWrite page w => Sys2Proof.Machine.execEventMaskWrite page w s
  | .eventSet page w => Sys2Proof.Machine.execEventSet page w s
  -- Rows added at the end of the table
  | .porstNAssert => Sys2Proof.Machine.execPorstNAssert s
  | .warmNRelease => Sys2Proof.Machine.execWarmNRelease s
  | .crystalStart => Sys2Proof.Machine.execCrystalStart s
  | .linkTransferError d addr => Sys2Proof.Machine.execLinkTransferError d addr s
  | .scalarCoreMismatch e => Sys2Proof.Machine.execScalarCoreMismatch e s
  | .finish src m => Sys2Proof.Machine.execFinish src m s
  | .giveUpComplete master => Sys2Proof.Machine.execGiveUpComplete master s
  | .ethPortCfgWrite n w => Sys2Proof.Machine.execEthPortCfgWrite n w s

end Sys2Proof.Machine
end

