-- ==== Sys2Proof/Safety.lean ====
section
/-! DEFINITION. The words in which statements speak of a run: a device between commands, and what a command leaves alone. -/

namespace Sys2Proof.Machine

open Sys2Proof

/-- The device between commands: nothing waits for the fault manager, and REPLACE_N shows its conditions (R353). -/
def State.settled (s : State) : Prop := s.flt.due = [] ∧ s.flt.replaced = s.replaceDue

/-- Every byte of stripe memory and DRAM reads as before. -/
def State.sameMemory (s t : State) : Prop := ∀ a, t.byte a = s.byte a

/-- Every byte outside a range of addresses reads as before. -/
def State.sameMemoryBut (s t : State) (a n : Nat) : Prop := ∀ x, ¬ (a ≤ x ∧ x < a + n) → t.byte x = s.byte x

/-- Every stored register word outside one page reads as before. -/
def State.sameRegsBut (s t : State) (page : Nat) : Prop := ∀ p o, p ≠ page → o < 4096 → t.reg p o = s.reg p o

/-- Stripe x executes on engine e with nothing queued and no tack, and command c may run at once: its operands have landed, hold no word
known to be bad, and they and its result lie in what the job may reach (R89, R96, R99, R109, R140, R147); it is not an MM that R169
leaves out. -/
def State.idleFor (s : State) (e : Nat) (x : Exec) (c : UnitCmd) : Prop :=
  (s.eng e).running = some x ∧ x.signalled = false ∧ x.slipFrom = none ∧ (s.eng e).tack = none ∧
  (∀ u, (s.eng e).queue u = []) ∧ c.needless = false ∧ s.landed e c = true ∧ s.badWords e (c.reads (s.eng e)) = none ∧
  (∀ r ∈ c.reads (s.eng e), s.spanFault e x.work.job false r = none) ∧
  (∀ r ∈ c.writes, s.spanFault e x.work.job true r = none)

/-- The state once engine e has issued and started command c, with `n` lines of a PUT to send. -/
def State.starting (s : State) (e : Nat) (x : Exec) (c : UnitCmd) (n : Nat) : State :=
  let g := s.eng e
  s.setEng e { g.setQueue c.unit [⟨g.issue, c, true, n⟩] with issue := g.issue + 1, exec := some { x with stripeTack := false } }

/-- The bytes of one position of a converted result in one channel block, with the zero bytes that fill it (R114, R116, R122 to
R125, R159). -/
def posBytes (c : Conv) (r : Rounding) (pitch : Nat) (l : List Fl) : List Byte :=
  let codes := packCodes c.fmt.bits (convert c r l).1
  codes ++ List.replicate (c.fmt.extent pitch l.length - codes.length) 0

/-- `l` lies at an address of the second state, and every byte beside it reads as in the first. -/
def State.stores (s t : State) (a : Nat) (l : List Byte) : Prop := t.bytes a l.length = l ∧ s.sameMemoryBut t a l.length

/-- A command's outcome is a next state. -/
def completes (o : Host.Outcome State Fault Refusal) : Prop := ∃ t, o = .next t

end Sys2Proof.Machine
end

