-- ==== Sys2Proof/WellFormed.lean ====
section
/-! DEFINITION. The forms of command that the spec gives: bounds that the types of Syntax.lean do not already hold. A command outside
them is no event of the device, and its meaning refuses it. -/

namespace Sys2Proof

open Sys2Proof.Machine

/-- Whether a command has a form that the spec gives its event: a DRAM access lies in DRAM (Table 19-1) and a masked write in one
64-byte sector (R248), a failed access has a 48-bit address (R402), a staging write names a staging register (R76), and a sample reads
every one of the 18 sensors (R379). -/
def Instr.wf : Instr → Bool
  | .dramRead _ _ a _ => inDram a 1
  | .dramWrite _ _ a b => inDram a 1 && decide (1 ≤ b.length) && decide (a % 64 + b.length ≤ 64)
  | .dramInvalidate _ a n => inDram a n
  | .dmaAccessTimeout _ a => decide (a < 2 ^ 48)
  | .linkTransferError _ a => decide (a < 2 ^ 48)
  | .stageWrite a _ => (stageStream a).isSome
  | .thermalSample t => decide (t.length = 18)
  | _ => true

end Sys2Proof
end

