-- ==== Sys2Proof/Certificates/Slice0/Obligations.lean ====
section
/-! DEFINITION. The statements for the provers: what each command does, family by family, the invariant that every step keeps, and the
state after reset. `u.settle` is the state once the fault manager has done what the command left it to do (R346). -/

open Sys2Proof Sys2Proof.Machine

/-- The front command of the queue runs, with the queue's rest behind it. -/
def Obligations.StepRunsFrontCommand : Prop :=
  ∀ (c : Instr) (rest : List Instr) (s : State), step { s with pending := c :: rest } = exec c { s with pending := rest }

/-- Power-on, power-off, the release of WARM_N, the two crystal events and the PPS pulse (R359 to R361, R373, R382, R418 to R420):
what each leaves, with no fuse burn under way for the two that cut one short. With no command waiting, the model's clocks advance by one
nanosecond and nothing else changes: the model's choice (log 4). -/
def Obligations.PinsAndClocks : Prop :=
  (∀ s : State, s.pending = [] → step s = .next { s with clk := { s.clk with ptp := s.clk.ptp + 1, up := s.clk.up + 1 } }) ∧
  (∀ s : State, s.dram.burning = none → s.sec.burn = none →
    exec .powerOnReset s = .next ({ State.reset with
      pending := s.pending, free := s.free, out := s.out, fuse := s.fuse
      pins := { s.pins with porstLow := false } } : State).applyFuses) ∧
  (∀ s : State, s.dram.burning = none → s.sec.burn = none →
    exec .porstNAssert s = .next { State.reset with
      pending := s.pending, free := s.free, out := s.out, fuse := s.fuse, pins := { s.pins with porstLow := true }
      pwr := { Pwr.reset with state := .off } }) ∧
  (∀ s : State, s.settled → exec .warmNRelease s = .next { s with pins := { s.pins with warmLow := false } }) ∧
  (∀ s : State, s.settled → exec .crystalStart s = .next { s with clk := { s.clk with aonInternal := false } }) ∧
  (∀ s : State, s.settled → exec .crystalStop s = .next { s with clk := { s.clk with aonInternal := true } }) ∧
  (∀ s : State, s.settled → exec .ppsPulse s = .next { s with clk := { s.clk with
    pps := if s.net.locked = true ∧ s.clk.ptp % 1000000000 = 0 then some s.clk.ptp else s.clk.pps } })

/-- Bring-up goes from step to step, the wait for a restore record ends with step 7, and after step 10 READY is high, the device is
ACTIVE and every engine that is not fenced runs and is in rotation. Step 0 ends the drain of a warm reset, with the DRAM in self-refresh
(R255, R361, R382, R383, R385). -/
def Obligations.BringUp : Prop :=
  (∀ (s : State) (r : StepResult), s.settled → s.pwr.booting = true → s.pins.porstLow = false → s.pwr.held = false →
    s.pwr.failed = false → s.pwr.waiting = false →
    (s.pwr.step = 0 → s.dram.draining = false → exec (.bringupStepDone r) s =
      .next (if s.pins.warmLow ∨ s.pins.testEn then s else { s with pwr := { s.pwr with step := 1 } })) ∧
    (s.pwr.step = 0 → s.dram.draining = true → s.pins.warmLow = false → s.pins.testEn = false →
      ∃ u : State, exec (.bringupStepDone r) s = .next u.settle ∧ u.pwr.step = 1 ∧ u.dram.draining = false ∧
        u.dram.selfRefresh = true ∧ u.dram.merge = []) ∧
    (s.pwr.step = 1 → exec (.bringupStepDone r) s = .next { s with pwr := { s.pwr with step := 2 } }) ∧
    (s.pwr.step = 5 → s.pwr.warm = false → exec (.bringupStepDone r) s = .next { s with pwr := { s.pwr with step := 6 } }) ∧
    (s.pwr.step = 5 → s.pwr.warm = true → exec (.bringupStepDone r) s =
      .next { s with pwr := { s.pwr with step := 8 }, dram := { s.dram with selfRefresh := false } }) ∧
    (s.pwr.step = 10 → s.sup.restarting = false → ∃ t, exec (.bringupStepDone r) s = .next t ∧ t.ready = true ∧
      t.pwr.state = .active ∧ t.pwr.step = 11 ∧
      (∀ e < 6, (s.eng e).fenced = false → (t.eng e).inRotation = true ∧ t.rfld (pgEng e) 8 0 1 = 1) ∧ s.sameMemory t)) ∧
  (∀ s : State, s.settled → s.pwr.booting = true → s.pwr.waiting = true →
    exec .restoreWaitExpire s = .next { s with pwr := { s.pwr with step := 7, waiting := false } })

/-- A warm reset by WARM_N, by FLT.WARM, by the watchdog, by a clock out of its range and by a second lockstep mismatch within 1 s: the
cause in the reset history, bring-up from step 0 in its warm form, no job, queue, channel or session left, the supervisor's firmware
stopped and, with no page locked, the merge buffers kept and draining. A first mismatch restarts the supervisor alone, and the restart ends as its digest check says (R255, R359 to R361,
R373, R385). -/
def Obligations.WarmResets : Prop :=
  let after := fun (s t : State) (cause : Nat) => t.flt.lastReset = cause ∧ t.pwr.step = 0 ∧ t.pwr.booting = true ∧
    t.pwr.warm = true ∧ t.jobs = [] ∧ t.images = [] ∧ t.queues = [] ∧ t.channels = [] ∧ t.net.sessions = [] ∧
    t.sup.running = false ∧ t.flt.deviceFault = false ∧ t.pending = s.pending ∧ t.clk = s.clk ∧
    (s.dram.locks = [] → t.dram.merge = s.dram.merge ∧ t.dram.draining = !s.dram.merge.isEmpty)
  (∀ s : State, s.pins.porstLow = false →
    ∃ t, exec .warmNAssert s = .next t ∧ after s t 1 ∧ t.pins = { s.pins with warmLow := true }) ∧
  (∀ s : State, ∃ t, exec (.fltWarmWrite 0x5741524D) s = .next t ∧ after s t 2 ∧ t.pins = s.pins) ∧
  (∀ (s : State) (w : Word), s.settled → w ≠ 0x5741524D → exec (.fltWarmWrite w) s = .next s) ∧
  (∀ s : State, s.pwr.booting = false → s.pins.porstLow = false → bitAt (s.reg pgFlt 8) 0 = true →
    ∃ t, exec .heartbeatLoss s = .next t ∧ after s t 3) ∧
  (∀ s : State, s.settled → s.pwr.booting = false → s.pins.porstLow = false → bitAt (s.reg pgFlt 8) 0 = false →
    ∃ t, exec .heartbeatLoss s = .next t ∧ t.flt.deviceFault = true ∧ t.sup.running = false ∧ t.ready = false ∧ s.sameMemory t) ∧
  (∀ (s : State) (c : Fin 6), s.gated c = false → s.pins.porstLow = false →
    ∃ t, exec (.clockOutOfRange c) s = .next t ∧ after s t 4) ∧
  (∀ s : State, s.settled → s.pwr.booting = false → s.pins.porstLow = false → s.sup.lastMismatch = none →
    ∃ t, exec .lockstepMismatch s = .next t ∧ t.sup.restarting = true ∧ t.sup.running = false ∧
      t.sup.lastMismatch = some s.clk.up ∧ s.sameMemory t) ∧
  (∀ (s : State) (m : Nat), s.pwr.booting = false → s.pins.porstLow = false → s.sup.lastMismatch = some m →
    s.clk.up < m + 1000000000 → ∃ t, exec .lockstepMismatch s = .next t ∧ after s t 5) ∧
  (∀ s : State, s.settled → s.sup.restarting = true →
    exec (.supRestartDone true) s = .next { s with
      sup := { s.sup with restarting := false, running := true }, clk := { s.clk with readyAt := s.clk.up } } ∧
    exec (.supRestartDone false) s = .next { s with
      sup := { s.sup with restarting := false }, flt := { s.flt with deviceFault := true } })

/-- Requests for a power state: a request for the state that the device is in completes at once with PSTATE_DONE; IDLE and STANDBY are
reached from ACTIVE, ACTIVE and STANDBY from IDLE, and ACTIVE and IDLE from STANDBY, each by a transition with the switch commands of
Table 17-4 to the domains that they change; a request that the table refuses raises PSTATE_REFUSED with its cause and changes nothing
else (R374, R375, R378). -/
def Obligations.PowerStateRequests : Prop :=
  let quiet := fun s : State => s.settled ∧ s.pwr.booting = false ∧ s.pwr.trans = none
  let goes := fun (s : State) (o : Host.Outcome State Fault Refusal) (p : PState) (plan : List (Nat × Bool)) =>
    let l := plan.filter fun x => s.pwr.dom.getD x.1 .on != (if x.2 then .on else .off)
    ∃ t, o = .next t ∧ t.pwr.trans = some ⟨p, false, true, l⟩ ∧ t.pwr.switching = l.head? ∧ t.pwr.state = s.pwr.state ∧
      t.rfld pgPmu 0x100 0 2 = p.code ∧ t.jobs = s.jobs ∧ t.queues = s.queues ∧ s.sameMemory t
  (∀ s : State, quiet s → s.pwr.state = .active → s.bistRuns = false → s.renders = false →
    goes s (exec .pstateReqIdle s) .idle []) ∧
  (∀ s : State, quiet s → s.pwr.state = .standby → s.bistRuns = false → s.tooHot = false →
    goes s (exec .pstateReqIdle s) .idle onPlan) ∧
  (∀ s : State, quiet s → s.pwr.state = .idle → s.bistRuns = false → s.pwr.tripped = false →
    goes s (exec .pstateReqActive s) .active []) ∧
  (∀ s : State, quiet s → s.pwr.state = .standby → s.bistRuns = false → s.pwr.tripped = false →
    goes s (exec .pstateReqActive s) .active onPlan) ∧
  (∀ s : State, quiet s → (s.pwr.state = .active ∨ s.pwr.state = .idle) → s.bistRuns = false → s.renders = false →
    s.holdsStream = false → s.burns = false → (∀ e < 6, (s.eng e).testing = false) →
    goes s (exec .pstateReqStandby s) .standby offPlan) ∧
  (∀ s : State, quiet s →
    (s.pwr.state = .active → exec .pstateReqActive s = .next ((s.setRfld pgPmu 0x100 0 2 0).event pgPmu 0)) ∧
    (s.pwr.state = .idle → exec .pstateReqIdle s = .next ((s.setRfld pgPmu 0x100 0 2 1).event pgPmu 0)) ∧
    (s.pwr.state = .standby → exec .pstateReqStandby s = .next ((s.setRfld pgPmu 0x100 0 2 2).event pgPmu 0))) ∧
  (∀ s : State, quiet s → s.pwr.state = .active → s.bistRuns = false → s.renders = true →
    exec .pstateReqIdle s = .next ((s.setRfld pgPmu 0x100 0 2 1).fail pgPmu 1 1 0) ∧
    exec .pstateReqStandby s = .next ((s.setRfld pgPmu 0x100 0 2 2).fail pgPmu 1 1 0)) ∧
  (∀ s : State, quiet s → s.pwr.state = .idle → s.bistRuns = false → s.renders = false → s.holdsStream = true →
    exec .pstateReqStandby s = .next ((s.setRfld pgPmu 0x100 0 2 2).fail pgPmu 1 2 0)) ∧
  (∀ s : State, quiet s → s.pwr.state ≠ .active → s.pwr.state ≠ .off → s.bistRuns = false → s.pwr.tripped = true →
    exec .pstateReqActive s = .next ((s.setRfld pgPmu 0x100 0 2 0).fail pgPmu 1 (4 + 256 * ((s.tempMax.map (·.2)).getD 0)) 0))

/-- A transition whose switches have all been given ends in its state, with TRANSITION_DONE for a host's request; entering STANDBY puts
the DRAM in self-refresh and PD3 in retention. A switch that acknowledges sets its domain and the next one is commanded; one that times
out isolates its domain (R370, R371, R375, R378). -/
def Obligations.PowerTransitions : Prop :=
  (∀ (s : State) (x : Trans), s.settled → s.pwr.trans = some x → x.plan = [] → x.target = .idle → s.pwr.state = .active →
    (∀ d, (s.link d).heldRx = []) →
    ∃ t, exec .pstateTransitionDone s = .next t ∧ t.pwr.state = .idle ∧ t.pwr.trans = none ∧ t.jobs = s.jobs ∧
      (x.byHost = true → bitAt (t.reg pgPmu 0x10) 0 = true) ∧ s.sameMemory t) ∧
  (∀ (s : State) (x : Trans), s.settled → s.pwr.trans = some x → x.plan = [] → x.target = .standby → s.dram.merge = [] →
    s.dram.locks = [] → s.cal.visits = [] → s.pwr.wakeDue = false →
    ∃ t, exec .pstateTransitionDone s = .next t ∧ t.pwr.state = .standby ∧ t.pwr.trans = none ∧ t.dram.selfRefresh = true ∧
      t.pwr.dom = s.pwr.dom.set 3 .retained ∧ s.sameMemory t) ∧
  (∀ (s : State) (d : Fin 20) (on : Bool) (x : Trans), s.settled → s.pwr.switching = some (d.val, on) → s.pwr.trans = some x →
    (on = true ∧ d.val < 14 ∨ d.val = 6) →
    exec (.domainSwitchAck d) s = .next { s with pwr := { s.pwr with dom := s.pwr.dom.set d.val (if on then .on else .off)
                                                                     trans := some { x with plan := x.plan.tail }
                                                                     switching := x.plan.tail.head? } }) ∧
  (∀ (s : State) (d : Fin 20) (on : Bool) (x : Trans), s.settled → s.pwr.switching = some (d.val, on) → s.pwr.trans = some x →
    14 ≤ d.val → ∃ t, exec (.domainSwitchAck d) s = .next t ∧ t.pwr.dom = s.pwr.dom.set d.val (if on then .on else .off) ∧
      (∀ a, tileBase (d.val - 14) ≤ a → a < tileBase (d.val - 14) + 0x2000000 → t.byte a = 0) ∧
      s.sameMemoryBut t (tileBase (d.val - 14)) 0x2000000) ∧
  (∀ (s : State) (d : Fin 20) (on : Bool) (x : Trans), s.settled → s.pwr.switching = some (d.val, on) → s.pwr.trans = some x →
    d.val < 8 → ∃ t, exec (.switchTimeout d) s = .next t ∧ t.pwr.dom = s.pwr.dom.set d.val .isolated ∧
      t.reg pgFlt 0x24 = BitVec.ofNat 32 (0x1C + 256 * d.val) ∧ t.reg pgPmu 0x24 = BitVec.ofNat 32 (6 + 256 * d.val) ∧
      bitAt (t.reg pgFlt 0x10) 0 = true ∧ bitAt (t.reg pgPmu 0x10) 8 = true ∧ s.sameMemory t)

/-- A sample with every reading below WARN records the readings and ends the warning and a trip; a write of THERM_CFG with its limits in
order and range takes effect and any other write only reports its cause; shedding for heat takes one more stream or job while SHED is
met, and gives back the stream shed last once TEMP_MAX is HYST below SHED (R379 to R381). -/
def Obligations.Thermal : Prop :=
  (∀ (s : State) (l : List Byte), s.settled → l.length = 18 → (∀ i < 20, s.pwr.dom.getD i .on = .on) → l ≠ List.replicate 18 0x80 →
    (∀ b ∈ l, degrees b.toNat < (s.warn : Int)) → s.warn ≤ s.shedAt → s.warn ≤ s.tripAt → s.pwr.wakeDue = false →
    ∃ t, exec (.thermalSample l) s = .next t ∧ t.pwr.temps = l.map (·.toNat) ∧ t.pwr.warned = false ∧ t.pwr.tripped = false ∧
      t.pwr.heatShed = s.pwr.heatShed ∧ s.sameMemory t) ∧
  (∀ (s : State) (w : Word), s.settled →
    exec (.thermCfgWrite w) s = .next (
      if fld w 0 8 < fld w 8 8 ∧ fld w 8 8 + 4 ≤ fld w 16 8 ∧ 100 ≤ fld w 16 8 ∧ fld w 16 8 ≤ 115
      then s.setReg pgPmu 0x110 (w &&& 0x0FFFFFFF) else s.cause pgPmu 7 0)) ∧
  (∀ s : State, s.settled → s.hotAt s.shedAt = false → exec .heatShedStep s = .next s) ∧
  (∀ s : State, s.settled → s.hotAt s.shedAt = true → s.heatItems ≠ [] →
    ∃ t v, exec .heatShedStep s = .next t ∧ t.pwr.heatShed = s.pwr.heatShed ++ [v] ∧
      (∀ i, v = .stream i → (t.strm i).shedHeat = true) ∧ s.sameMemory t) ∧
  (∀ (s : State) (i : Nat) (m : Int × Nat), s.settled → s.pwr.heatShed.getLast? = some (.stream i) → s.tempMax = some m →
    m.1 < (s.shedAt : Int) - s.hyst →
    ∃ t, exec .heatUnshedStep s = .next t ∧ t.pwr.heatShed = s.pwr.heatShed.dropLast ∧ (t.strm i).shedHeat = false ∧ s.sameMemory t)

/-- The device self-test starts in IDLE and is refused in ACTIVE with RESULT 4 and cause BIST_STATE; when it finds nothing wrong, RESULT
is 2, the tiles hold zero and the event is raised (R386). -/
def Obligations.DeviceSelfTest : Prop :=
  (∀ (s : State) (w : Word), s.settled → bitAt w 0 = true → bitAt w 1 = false → s.bistRuns = false → s.pwr.state = .idle →
    s.pwr.trans = none →
    exec (.deviceSelftest w) s = .next (({ s.setRfld pgPmu 0x150 1 1 0 with pwr := { s.pwr with bist := some false } } :
      State).setRfld pgPmu 0x150 2 3 1)) ∧
  (∀ (s : State) (w : Word), s.settled → bitAt w 0 = true → s.bistRuns = false → s.pwr.state = .active →
    exec (.deviceSelftest w) s = .next (((s.setRfld pgPmu 0x150 1 1 (fld w 1 1)).setRfld pgPmu 0x150 2 3 4).fail pgPmu 7 5 0)) ∧
  (∀ s : State, s.settled → s.pwr.bist = some false → (∀ t < 6, s.persistRanges t = []) →
    ∃ t, exec (.bistDone ⟨[], [], [], none⟩) s = .next t ∧ t.pwr.bist = none ∧ t.rfld pgPmu 0x150 2 3 = 2 ∧
      bitAt (t.reg pgPmu 0x10) 7 = true ∧ (∀ a, 0x40000000 ≤ a → a < 0x4C000000 → t.byte a = 0) ∧
      s.sameMemoryBut t 0x40000000 0xC000000)

/-- Enabling, disabling, link and gear of a camera port (R41, R54, R55): PORT_EN = 1 takes effect or sets CFG_ERR, and clears CFG_ERR on an
enabled port; PORT_EN = 0 and a lost link take the port down and end a control transaction over an A-PHY link; a link comes up with its
gear while the port's domain is on, and a gear change is recorded. Frames that are open when a port goes down
close; the last two clauses are over a port that has none open. -/
def Obligations.CameraPortControl : Prop :=
  (∀ (s : State) (p : Fin 16), s.settled → bitAt (s.reg (pgCam p) 8) 0 = false → phyOk p (s.reg (pgCam p) 0x100) = true →
    ∃ t, exec (.portEnable p) s = .next t ∧ bitAt (t.reg (pgCam p) 8) 0 = true ∧ bitAt (t.reg (pgCam p) 0xC) 16 = false ∧
      (∀ n < 4, (t.slot (4 * p + n)).store = [] ∧ (t.slot (4 * p + n)).idle = .discard) ∧ s.sameMemory t) ∧
  (∀ (s : State) (p : Fin 16), s.settled → bitAt (s.reg (pgCam p) 8) 0 = false → phyOk p (s.reg (pgCam p) 0x100) = false →
    exec (.portEnable p) s = .next (s.setRfld (pgCam p) 0xC 16 1 1)) ∧
  (∀ (s : State) (p : Fin 16), s.settled → bitAt (s.reg (pgCam p) 8) 0 = true →
    exec (.portEnable p) s = .next (s.setRfld (pgCam p) 0xC 16 1 0)) ∧
  (∀ (s : State) (p : Fin 16) (g : Fin 8), s.settled →
    exec (.linkUp p g) s = .next (if bitAt (s.reg (pgCam p) 8) 0 = true ∧ bitAt (s.reg (pgCam p) 0xC) 0 = false ∧ s.portPowered p = true then
        ((s.setRfld (pgCam p) 0xC 0 1 1).setRfld (pgCam p) 0xC 1 3
          (if p.val < 8 then min (max g.val 1) (s.rfld (pgCam p) 0x100 8 8) else 0)).event (pgCam p) 1
      else s)) ∧
  (∀ (s : State) (p : Fin 16) (g : Fin 8), s.settled →
    exec (.gearChange p g) s = .next (if p.val < 8 ∧ s.receives p = true then
      s.setRfld (pgCam p) 0xC 1 3 (min (max g.val 1) (s.rfld (pgCam p) 0x100 8 8)) else s)) ∧
  (∀ (s : State) (p : Fin 16), s.settled → bitAt (s.reg (pgCam p) 8) 0 = true → (∀ n < 4, (s.slot (4 * p + n)).rx = none) →
    ∃ t, exec (.portDisable p) s = .next t ∧ bitAt (t.reg (pgCam p) 8) 0 = false ∧ bitAt (t.reg (pgCam p) 0xC) 0 = false ∧
      t.rfld (pgCam p) 0xC 1 3 = 0 ∧ (p.val < 8 → (t.port p).cciBusy = false) ∧ s.sameMemory t) ∧
  (∀ (s : State) (p : Fin 16), s.settled → s.receives p = true → (∀ n < 4, (s.slot (4 * p + n)).rx = none) →
    ∃ t, exec (.linkDown p) s = .next t ∧ bitAt (t.reg (pgCam p) 0xC) 0 = false ∧ t.rfld (pgCam p) 0xC 1 3 = 0 ∧
      bitAt (t.reg (pgCam p) 0x10) 0 = true ∧
      t.reg pgFlt 0x24 = BitVec.ofNat 32 (0x14 + 256 * p.val + 65536 * (s.portJob p % 8)) ∧
      (p.val < 8 → (t.port p).cciBusy = false) ∧ s.sameMemory t)

/-- Setting EN of a slot takes effect when its live values allow it and sets CFG_ERR otherwise; clearing it takes effect; the time limits
of a slot close its frame, or mark its stream absent (R42, R50, R53, R56). The closing clauses are over a slot whose stream has no frame
in the pipeline. -/
def Obligations.StreamSlots : Prop :=
  (∀ (s : State) (p : Fin 16) (n : Fin 4) (w : Word), s.settled →
    let i := 4 * p.val + n.val
    let s1 := s.stage i (camA i) (putFld (putFld w 0 1 1) 0 1 (b2n (s.slotEn i)))
    ∃ t, exec (.streamEnable p n w) s = .next t ∧ t.slotEn i = (s.slotEn i || s1.slotOk i) ∧
      bitAt (t.reg (pgCam p) 0xC) 16 = !s1.slotOk i ∧ s.sameMemory t) ∧
  (∀ (s : State) (p : Fin 16) (n : Fin 4) (w : Word), s.settled → (s.slot (4 * p + n)).rx = none →
    ∃ t, exec (.streamDisable p n w) s = .next t ∧ t.slotEn (4 * p + n) = false ∧ (t.slot (4 * p + n)).idle = .discard ∧
      s.sameMemory t) ∧
  (∀ (s : State) (p : Fin 16) (n : Fin 4) (r : RxFrame), s.settled → (s.slot (4 * p + n)).rx = some r → r.full = true →
    (s.strm (4 * p + n)).frames = [] →
    ∃ t, exec (.feMissing p n) s = .next t ∧ (t.slot (4 * p + n)).rx = none ∧ (t.slot (4 * p + n)).idle = .reopen ∧ s.sameMemory t) ∧
  (∀ (s : State) (p : Fin 16) (n : Fin 4) (r : RxFrame), s.settled → (s.slot (4 * p + n)).rx = some r →
    psPeriod s.live (4 * p + n) ≠ 0 → (s.strm (4 * p + n)).frames = [] →
    ∃ t, exec (.frameTimeout p n) s = .next t ∧ (t.slot (4 * p + n)).rx = none ∧ (t.slot (4 * p + n)).idle = .reopen ∧
      bitAt (t.reg (pgCam p) 0x10) 5 = true ∧ s.sameMemory t) ∧
  (∀ (s : State) (p : Fin 16) (n : Fin 4), s.settled →
    exec (.streamAbsent p n) s = .next (
      if s.slotEn (4 * p + n) = true ∧ psPeriod s.live (4 * p + n) ≠ 0 ∧ (s.slot (4 * p + n)).absent = false then
        (s.setSlot (4 * p + n) { s.slot (4 * p + n) with absent := true, causeFive := true }).event (pgCam p) 6
      else s))

/-- Packets of frames and lines: a port that does not receive takes nothing; a packet on a channel that no slot claims is counted
with its event; a frame start opens a frame at the time of its arrival once the port's lanes are measured, and the last frame end closes
it. The opening clause is over a stream without a job, the closing one over a slot whose stream has no frame in the pipeline (R44 to R47, R50 to R52, R279). -/
def Obligations.FramePackets : Prop :=
  (∀ (s : State) (p : Fin 16) (vc : Fin 32) (line : Fin 65536) (c : Bool), s.settled → s.receives p = false →
    exec (.frameStartPacket p vc c) s = .next s ∧ exec (.frameEndPacket p vc c) s = .next s ∧
    exec (.lineStartPacket p vc line c) s = .next s ∧ exec (.lineEndPacket p vc line c) s = .next s) ∧
  (∀ (s : State) (p : Fin 16) (vc : Fin 32) (line : Fin 65536) (c : Bool), s.settled → s.receives p = true →
    (s.header p c).claim p vc = none →
    let t := ((s.header p c).bump (pgCam p) 0x108 0 16 1).event (pgCam p) 7
    exec (.frameStartPacket p vc c) s = .next t ∧ exec (.frameEndPacket p vc c) s = .next t ∧
    exec (.lineStartPacket p vc line c) s = .next t ∧ exec (.lineEndPacket p vc line c) s = .next t) ∧
  (∀ (s : State) (p : Fin 16) (vc : Fin 32) (c : Bool) (i e : Nat), s.settled → s.receives p = true →
    (s.header p c).claim p vc = some (i, e) → (s.slot i).rx = none → (s.strm i).job = none → s.pendingSet i = false →
    s.lanesReady p = true →
    ∃ t r, exec (.frameStartPacket p vc c) s = .next t ∧ (t.slot i).rx = some r ∧ r.tStart = s.clk.ptp ∧ r.starts = [e] ∧
      r.width = psWidth s.live i ∧ r.height = psHeight s.live i ∧ r.exps = psExps s.live i ∧
      (t.slot i).count = (s.slot i).count + 1 ∧ (t.slot i).absent = false ∧ s.sameMemory t) ∧
  (∀ (s : State) (p : Fin 16) (vc : Fin 32) (c : Bool) (i e : Nat), s.settled → s.receives p = true →
    (s.header p c).claim p vc = some (i, e) → (s.slot i).rx = none → s.lanesReady p = false →
    ∃ t, exec (.frameStartPacket p vc c) s = .next t ∧ (t.slot i).rx = none ∧ (t.slot i).absent = false ∧ s.sameMemory t) ∧
  (∀ (s : State) (p : Fin 16) (vc : Fin 32) (c : Bool) (i e : Nat) (r : RxFrame), s.settled → s.receives p = true →
    (s.header p c).claim p vc = some (i, e) → (s.slot i).rx = some r → r.exps ≤ (if r.ends.contains e then r.ends else r.ends ++ [e]).length →
    (s.strm i).frames = [] →
    ∃ t, exec (.frameEndPacket p vc c) s = .next t ∧ (t.slot i).rx = none ∧ (t.slot i).idle = .orphan ∧ s.sameMemory t) ∧
  (∀ (s : State) (p : Fin 16) (vc : Fin 32) (line : Fin 65536) (c : Bool) (i e : Nat), s.settled → s.receives p = true →
    (s.header p c).claim p vc = some (i, e) → exec (.lineEndPacket p vc line c) s = .next (s.header p c)) ∧
  (∀ (s : State) (p : Fin 16) (vc : Fin 32) (line : Fin 65536) (c : Bool) (i e : Nat) (r : RxFrame), s.settled →
    s.receives p = true → (s.header p c).claim p vc = some (i, e) → (s.slot i).rx = some r → r.lineNum = true → r.base = none →
    r.next = List.replicate r.exps 0 →
    exec (.lineStartPacket p vc line c) s = .next ((s.header p c).setSlot i { s.slot i with rx := some { r with
      base := some line.val, pendLine := sset (fun _ => 0) r.pendLine e (line.val + 1) } }))

/-- Long and discarded packets: the retransmissions of a long packet and a corrected header are counted; blanking and embedded data have no
other effect, a channel that no slot claims and a wrong data type are counted with their events, a row of the frame's width is placed at
the next index, a row whose CRC fails is a fault of class 0x13, and a row that finds its slot's part of the line store full closes the
frame; an uncorrectable header marks every open frame of its port (R44 to R49, R54). The clauses on rows are over a slot whose stream has no frame in the pipeline. -/
def Obligations.RowPackets : Prop :=
  let blank := fun dt : Fin 64 => dt.val = 0x10 ∨ dt.val = 0x11 ∨ dt.val = 0x12
  let head := fun (s : State) (p : Fin 16) (c : Bool) (x : Fin 65536) => (s.retransmitted p x).header p c
  (∀ (s : State) (p : Fin 16) (vc : Fin 32) (dt : Fin 64) (data : List Byte) (ok c : Bool) (x : Fin 65536), s.settled →
    s.receives p = false →
    exec (.longPacket p vc dt ⟨data, x⟩ ok c) s = .next s ∧ exec (.discardedShortPacket p vc dt c) s = .next s ∧
    exec (.uncorrectableHeader p) s = .next s) ∧
  (∀ (s : State) (p : Fin 16) (vc : Fin 32) (dt : Fin 64) (data : List Byte) (ok c : Bool) (x : Fin 65536), s.settled →
    s.receives p = true →
    exec (.discardedShortPacket p vc dt c) s = .next (s.header p c) ∧
    (blank dt → exec (.longPacket p vc dt ⟨data, x⟩ ok c) s = .next (head s p c x)) ∧
    (¬ blank dt → (head s p c x).claim p vc = none → exec (.longPacket p vc dt ⟨data, x⟩ ok c) s =
      .next (((head s p c x).bump (pgCam p) 0x108 0 16 1).event (pgCam p) 7))) ∧
  (∀ (s : State) (p : Fin 16) (vc : Fin 32) (dt : Fin 64) (data : List Byte) (ok c : Bool) (x : Fin 65536) (i e : Nat) (r : RxFrame),
    s.settled → s.receives p = true → ¬ blank dt → (head s p c x).claim p vc = some (i, e) → (s.slot i).rx = some r → dt.val ≠ r.dt →
    exec (.longPacket p vc dt ⟨data, x⟩ ok c) s = .next (((head s p c x).bump (pgCam p) 0x108 16 16 1).event (pgCam p) 8)) ∧
  (∀ (s : State) (p : Fin 16) (vc : Fin 32) (dt : Fin 64) (data : List Byte) (ok c : Bool) (x : Fin 65536) (i e : Nat) (r : RxFrame)
    (n : Nat), s.settled → s.receives p = true → ¬ blank dt → (head s p c x).claim p vc = some (i, e) → (s.slot i).rx = some r →
    dt.val = r.dt → r.lineNum = false → (s.strm i).frames = [] → r.next.getD e 0 = n → n < r.height →
    ((s.slot i).fullFor r.dt (r.width * dtBits r.dt) = false → ok = true → (unpack dt data).length = r.width → 0 < r.width →
      ∃ t r', exec (.longPacket p vc dt ⟨data, x⟩ ok c) s = .next t ∧ (t.slot i).rx = some r' ∧ r'.next = r.next.set e (n + 1) ∧
        r'.recent.head? = some ⟨(s.slot i).count, e, n, unpack dt data, false, false⟩ ∧ r'.flags = r.flags ∧ s.sameMemory t) ∧
    ((s.slot i).fullFor r.dt (r.width * dtBits r.dt) = false → ok = false →
      ∃ t r', exec (.longPacket p vc dt ⟨data, x⟩ ok c) s = .next t ∧ (t.slot i).rx = some r' ∧ r'.next = r.next.set e (n + 1) ∧
        r'.crcs = r.crcs + 1 ∧ bitAt (t.reg (pgCam p) 0x10) 3 = true ∧ bitAt (t.reg pgFlt 0x10) 0 = true ∧ s.sameMemory t) ∧
    ((s.slot i).fullFor r.dt (r.width * dtBits r.dt) = true →
      ∃ t, exec (.longPacket p vc dt ⟨data, x⟩ ok c) s = .next t ∧ (t.slot i).rx = none ∧ (t.slot i).idle = .discard ∧
        bitAt (t.reg (pgCam p) 0x10) 4 = true ∧ s.sameMemory t)) ∧
  (∀ (s : State) (p : Fin 16), s.settled → s.receives p = true →
    ∃ t, exec (.uncorrectableHeader p) s = .next t ∧
      (∀ n < 4, ∀ r, (s.slot (4 * p + n)).rx = some r →
        (t.slot (4 * p + n)).rx = some { r with crcs := r.crcs + 1, flags := r.flags ||| 0x10 }) ∧
      bitAt (t.reg (pgCam p) 0x10) 2 = true ∧
      t.reg pgFlt 0x24 = BitVec.ofNat 32 (0x13 + 256 * p.val + 65536 * (s.portJob p % 8)) ∧ s.sameMemory t)

/-- The camera control interface (R57): a write keeps the fields of CCI_CMD; with GO a transaction starts on the wires, or ends at once
with LINK on an A-PHY link that is down, or is ignored with its status bit while one is busy; it ends with DONE, NACK or the 10 ms
limit. -/
def Obligations.CameraControl : Prop :=
  (∀ (s : State) (p : Fin 16) (w : Word), s.settled →
    let keep := s.setReg (pgCam p) 0x200 (w &&& 0x601F1FFF)
    (bitAt w 31 = false → exec (.cciGo p w) s = .next keep) ∧
    (bitAt w 31 = true → (s.port p).cciBusy = true → exec (.cciGo p w) s = .next (keep.setRfld (pgCam p) 0x208 5 1 1))) ∧
  (∀ (s : State) (p : Fin 16) (w : Word), s.settled → bitAt w 31 = true → (s.port p).cciBusy = false → p.val < 8 →
    bitAt (s.reg (pgCam p) 0xC) 0 = false →
    ∃ t, exec (.cciGo p w) s = .next t ∧ t.out = s.out ∧ (t.port p).cciBusy = false ∧ bitAt (t.reg (pgCam p) 0x208) 1 = true ∧
      bitAt (t.reg (pgCam p) 0x208) 4 = true ∧ bitAt (t.reg (pgCam p) 0x10) 9 = true ∧ s.sameMemory t) ∧
  (∀ (s : State) (p : Fin 16) (w : Word), s.settled → bitAt w 31 = true → (s.port p).cciBusy = false →
    (p.val < 8 → bitAt (s.reg (pgCam p) 0xC) 0 = true) →
    ∃ t data, exec (.cciGo p w) s = .next t ∧ t.out = s.out ++ [.cci p.val w.toNat (s.rfld (pgCam p) 0x204 0 7) data] ∧
      data.length = min (fld w 8 5) 16 ∧ (t.port p).cciBusy = true ∧ t.reg (pgCam p) 0x200 = w &&& 0x601F1FFF ∧
      s.sameMemory t) ∧
  (∀ (s : State) (p : Fin 16) (nack : Bool) (data : List Byte), s.settled → (s.port p).cciBusy = false →
    exec (.cciDone p nack data) s = .next s ∧ exec (.cciTimeout p) s = .next s) ∧
  (∀ (s : State) (p : Fin 16) (nack : Bool) (data : List Byte), s.settled → (s.port p).cciBusy = true →
    ∃ t, exec (.cciDone p nack data) s = .next t ∧ (t.port p).cciBusy = false ∧ bitAt (t.reg (pgCam p) 0x208) 1 = true ∧
      (nack = true → bitAt (t.reg (pgCam p) 0x208) 2 = true) ∧ bitAt (t.reg (pgCam p) 0x10) 9 = true ∧ s.sameMemory t) ∧
  (∀ (s : State) (p : Fin 16), s.settled → (s.port p).cciBusy = true →
    ∃ t, exec (.cciTimeout p) s = .next t ∧ (t.port p).cciBusy = false ∧ bitAt (t.reg (pgCam p) 0x208) 1 = true ∧
      bitAt (t.reg (pgCam p) 0x208) 3 = true ∧ bitAt (t.reg (pgCam p) 0x10) 9 = true ∧ s.sameMemory t)

/-- Frame sync (R58 to R60): a mode arms the series of FSYNC_START and FSYNC_PERIOD from its first time at least 1 µs ahead, another mode
leaves a series that runs (the model's choice, log 95), mode 0 stops it, a new period waits for the next edge while the series runs, an
edge drives a pulse of FSYNC_WIDTH with its polarity, the pin staying inactive while the port's domain is off, and moves the series on, and each edge has one uplink message, sent FSYNC_COMP
before it. -/
def Obligations.FrameSync : Prop :=
  (∀ (s : State) (p : Fin 16) (w : Word), s.settled → fld w 0 2 = 0 →
    exec (.fsyncModeWrite p w) s = .next ((s.setReg (pgCam p) 0x1C0 (BitVec.ofNat 32 (4 * fld w 2 1))).setPort p
      { s.port p with fsyncArmed := false, fsyncNew := none })) ∧
  (∀ (s : State) (p : Fin 16) (w : Word), s.settled → fld w 0 2 ≠ 0 → (s.port p).fsyncArmed = true →
    exec (.fsyncModeWrite p w) s = .next (s.setReg (pgCam p) 0x1C0 (BitVec.ofNat 32
      ((if 8 ≤ p.val ∧ 2 ≤ fld w 0 2 then 1 else fld w 0 2) + 4 * fld w 2 1)))) ∧
  (∀ (s : State) (p : Fin 16) (w : Word), s.settled → fld w 0 2 ≠ 0 → (s.port p).fsyncArmed = false →
    ∃ t k, exec (.fsyncModeWrite p w) s = .next t ∧ (t.port p).fsyncArmed = true ∧ (t.port p).fsyncPeriod = s.fsyncPeriodOf p ∧
      (t.port p).fsyncNext = s.fsyncStart p + k * s.fsyncPeriodOf p ∧ s.clk.ptp + 1000 ≤ (t.port p).fsyncNext ∧
      t.rfld (pgCam p) 0x1C0 0 2 = (if 8 ≤ p.val ∧ 2 ≤ fld w 0 2 then 1 else fld w 0 2) ∧ s.sameMemory t) ∧
  (∀ (s : State) (p : Fin 16) (w : Word), s.settled →
    exec (.fsyncPeriodWrite p w) s = .next (if (s.port p).fsyncArmed then
        (s.setReg (pgCam p) 0x1C4 w).setPort p { s.port p with fsyncNew := some (max w.toNat 100000) }
      else s.setReg (pgCam p) 0x1C4 w)) ∧
  (∀ (s : State) (p : Fin 16), s.settled → (s.port p).fsyncArmed = true →
    ∃ t, exec (.fsyncEdge p) s = .next t ∧
      t.out = s.out ++ (if s.rfld (pgCam p) 0x1C0 0 1 = 1 ∧ s.portPowered p = true then
        [.fsync p (s.port p).fsyncNext (s.rfld (pgCam p) 0x1C8 0 16) (!bitAt (s.reg (pgCam p) 0x1C0) 2)] else []) ∧
      (t.port p).fsyncLast = some (s.port p).fsyncNext ∧
      (t.port p).fsyncPeriod = (s.port p).fsyncNew.getD (s.port p).fsyncPeriod ∧
      (t.port p).fsyncNext = (s.port p).fsyncNext + (t.port p).fsyncPeriod ∧ s.sameMemory t) ∧
  (∀ (s : State) (p : Fin 8), s.settled → (s.port p).fsyncArmed = true → s.rfld (pgCam p) 0x1C0 1 1 = 1 →
    (s.port p).fsyncSent = false → s.portPowered p = true →
    exec (.fsyncUplinkMessage p) s = .next ((s.emit (.uplink p ((s.port p).fsyncNext - s.rfld (pgCam p) 0x1CC 0 20)
      (s.port p).fsyncNext)).setPort p
      { s.port p with fsyncSent := true }))

/-- A row pair goes into the band ring: the ring's head moves on, the frame has one pair more and the pair's rows leave the line store;
a waiting pair resumed does the same; with its ring slot still busy the pair waits and RING_STALL is raised. The first clause is over
frames of which no band falls due with the pair (R17, R69, R70). -/
def Obligations.RowPairs : Prop :=
  (∀ (s : State) (i : Fin 64) (f : Frame) (en : BindEntry) (rows : List (Row × Row) × Bool),
    (s.slot i).store.head?.bind (fun w => (s.strm i).frames.find? fun g => g.rxCount == w.frame) = some f →
    (s.strm i).entry = some en → pairRows (s.slot i) f = some rows →
    (s.strm i).slotBusy en.ringSlots (s.strm i).ringHead = false →
    (∀ g ∈ (s.strm i).frames, g.ended = false ∧ ∀ b, b + 1 < g.bandCount → 2 * (g.pairs + 1) ≤ g.trigger b) →
    ∃ u : State, exec (.rowPairCommit i) s = .next u.settle ∧
      ((s.strm i).stalled = true → exec (.ringSlotResume i) s = .next u.settle) ∧
      (u.strm i).ringHead = ((s.strm i).ringHead + 1) % max en.ringSlots 1 ∧ (u.strm i).stalled = false ∧
      (∃ g ∈ (u.strm i).frames, g.seq = f.seq ∧ g.pairs = f.pairs + 1) ∧
      (u.slot i).store = (s.slot i).store.filter (fun w => !(w.frame == f.rxCount && decide (w.row ≤ 2 * f.pairs + 1)))) ∧
  (∀ (s : State) (i : Fin 64) (f : Frame) (en : BindEntry) (rows : List (Row × Row) × Bool), s.settled →
    (s.slot i).store.head?.bind (fun w => (s.strm i).frames.find? fun g => g.rxCount == w.frame) = some f →
    (s.strm i).entry = some en → pairRows (s.slot i) f = some rows →
    (s.strm i).slotBusy en.ringSlots (s.strm i).ringHead = true → (s.strm i).stalled = false →
    exec (.rowPairCommit i) s = .next ((s.setStrm i { s.strm i with stalled := true }).event pgRfe 2)) ∧
  (∀ (s : State) (i : Fin 64), s.settled → (s.strm i).stalled = false → exec (.ringSlotResume i) s = .next s)

/-- Parameter sets (R67, R76 to R79): a commit that names no stream or whose first failing stream fails a case of R79 reports it; an
accepted commit waits for the enabled streams it names and goes live at once for a disabled one; a staging word is written unless its
stream has a pending commit; a curve table is written unless an enabled stream uses it. -/
def Obligations.ParameterSets : Prop :=
  (∀ (s : State) (w : Word), s.settled → s.named = [] →
    exec (.psetCommit w) s = .next (s.fail pgRfe 1 (1 + 256 * 0xFF) 0)) ∧
  (∀ (s : State) (w : Word) (i : Nat), s.settled → s.named.find? (fun i => s.stageCase s.named i != 0) = some i →
    exec (.psetCommit w) s = .next (s.fail pgRfe 1 (s.stageCase s.named i + 256 * i) 0)) ∧
  (∀ (s : State) (w : Word), s.settled → s.named ≠ [] → (∀ i ∈ s.named, s.stageCase s.named i = 0 ∧ s.slotEn i = true) →
    exec (.psetCommit w) s = .next { s with pset := { s.pset with
      count := s.pset.count + 1
      commits := s.pset.commits ++ [⟨s.pset.count + 1, fld w 0 16, s.clk.ptp, s.named⟩] } }) ∧
  (∀ (s : State) (w : Word) (i : Nat), s.settled → s.named = [i] → s.stageCase [i] i = 0 → s.slotEn i = false →
    ∃ t, exec (.psetCommit w) s = .next t ∧ (∀ a ∈ psetAddrs i, psWord t.live a = psWord s.regs a) ∧ s.sameMemory t) ∧
  (∀ (s : State) (a i : Nat) (w : Word), s.settled → stageStream a = some i → a ≠ camA i →
    let mask := BitVec.ofNat 32 (rowAt a).rw
    let v := (sget resetWord s.regs a &&& ~~~ mask) ||| (w &&& mask)
    exec (.stageWrite a w) s = .next (if s.pendingSet i then s.fail pgRfe 1 (4 + 256 * i) 0
      else { s with regs := sset resetWord s.regs a v })) ∧
  (∀ (s : State) (c : Fin 4) (k : Fin 257) (w : Word), s.settled →
    let v := BitVec.ofNat 32 (fld w 0 15 + 65536 * (if k.val = 256 then 0 else fld w 16 15))
    exec (.curveTableWrite c k w) s = .next (
      if (List.range 64).any (fun i => s.slotEn i && psCurve s.live i == 4 + c.val) then s.fail pgRfe 1 (5 + 256 * 0xFF) 0
      else { s with regs := sset resetWord s.regs (0x143000 + 0x800 * c.val + 4 * k.val) v }))

/-- A unit command issued by the stripe of an idle engine starts at once and has its data effect; a PUT sends as many lines as it holds
credits for and keeps the rest; an MM over selvedge zeros alone is not issued (R83, R84, R87 to R89, R126 to R129, R144, R169). -/
def Obligations.UnitCommandsStart : Prop :=
  (∀ (s : State) (e : Fin 6) (x : Exec) (c : WsetCmd), s.idleFor e x (.wset c) →
    exec (.wset e c) s = .next ((s.starting e x (.wset c) 0).runWset e c).settle) ∧
  (∀ (s : State) (e : Fin 6) (x : Exec) (c : MmCmd), s.idleFor e x (.mm c) → c.upset = .clean → (s.eng e).check.inject = false →
    ((s.starting e x (.mm c) 0).runMm e c).gussetDiffers e c = false →
    exec (.mm e c) s = .next ((s.starting e x (.mm c) 0).runMm e c).settle) ∧
  (∀ (s : State) (e : Fin 6) (c : MmCmd), s.settled → c.selvedgeZero = true → exec (.mm e c) s = .next s) ∧
  (∀ (s : State) (e : Fin 6) (x : Exec) (c : DrainCmd), s.idleFor e x (.drain c) → c.upset = .clean →
    exec (.drain e c) s = .next ((s.starting e x (.drain c) 0).runDrain e c).settle) ∧
  (∀ (s : State) (e : Fin 6) (x : Exec) (c : VopCmd), s.idleFor e x (.vop c) → c.upset = .clean →
    exec (.vop e c) s = .next ((s.starting e x (.vop c) 0).runVop e c).settle) ∧
  (∀ (s : State) (e : Fin 6) (x : Exec) (c : VlutCmd), s.idleFor e x (.vlut c) →
    exec (.vlut e c) s = .next ((s.starting e x (.vlut c) 0).runVlut e c).settle) ∧
  (∀ (s : State) (e : Fin 6) (x : Exec) (c : VredCmd), s.idleFor e x (.vred c) →
    exec (.vred e c) s = .next ((s.starting e x (.vred c) 0).runVred e c).settle) ∧
  (∀ (s : State) (e : Fin 6) (x : Exec) (c : FftCmd), s.idleFor e x (.fft c) →
    exec (.fft e c) s = .next ((s.starting e x (.fft c) 0).runFft e c).settle) ∧
  (∀ (s : State) (e : Fin 6) (x : Exec) (c : MoveCmd), s.idleFor e x (.move c) →
    exec (.move e c) s = .next ((s.starting e x (.move c) 0).runMove e c).settle) ∧
  (∀ (s : State) (e : Fin 6) (x : Exec) (c : PutCmd), s.idleFor e x (.put c) →
    let key := 32 * c.tile.val + c.region.val
    let n := min c.lines (sget (fun _ => 0) (s.eng e).credits key)
    ∃ u : State, exec (.put e c) s = .next u.settle ∧
      (u.tile c.tile).incoming = (s.tile c.tile).incoming ++ (List.range n).map (fun i =>
        (⟨e.val, x.run, c.region, (s.region c.tile c.region).base, c.line + i, s.bytes (s.addrOf e c.src + 128 * i) 128⟩ :
          RingLine)) ∧
      sget (fun _ => 0) (u.eng e).credits key = sget (fun _ => 0) (s.eng e).credits key - n ∧ s.sameMemory u)

/-- What the unit commands leave (R83, R84, R87, R117 to R128): WSET fills the inactive weight buffer, MM writes one accumulator row per
activation row, and DRAIN, VOP, VLUT, VRED, MOVE and FFT store their result at its destination and nowhere else; the storing clauses are
over one position of one channel block in a format without block scales, one element moved and one transform of adjacent points. -/
def Obligations.UnitCommandResults : Prop :=
  (∀ (s : State) (e : Fin 6) (x : Exec) (c : WsetCmd), s.idleFor e x (.wset c) →
    ∃ u : State, exec (.wset e c) s = .next u.settle ∧ (u.eng e).active = (s.eng e).active ∧
      (if (s.eng e).activeBuf then (u.eng e).buf0 else (u.eng e).buf1) =
        ⟨s.bytes (s.addrOf e c.src) (weightBytes c.wFmt c.aFmt), c.wFmt, c.aFmt⟩ ∧ s.sameMemory u) ∧
  (∀ (s : State) (e : Fin 6) (x : Exec) (c : MmCmd), s.idleFor e x (.mm c) → c.upset = .clean →
    let g := s.eng e
    let b := if c.swap then (if g.activeBuf then g.buf0 else g.buf1) else g.active
    ∃ u : State, exec (.mm e c) s = .next u.settle ∧
      (∀ p, p < c.rows → c.row0 + p < 128 → (u.eng e).accRow c.tile (c.row0 + p) =
        s.mmRow e s.free b c (g.accRow c.tile (c.row0 + p)) p) ∧
      (∀ r, r < 128 → ¬ (c.row0 ≤ r ∧ r < c.row0 + c.rows) → (u.eng e).accRow c.tile r = g.accRow c.tile r) ∧ s.sameMemory u) ∧
  (∀ (s : State) (e : Fin 6) (x : Exec) (c : DrainCmd), s.idleFor e x (.drain c) → c.upset = .clean → c.rows = 1 → c.core = none →
    c.conv.fmt.mx = false → 0 < c.chans → c.chans ≤ c.conv.fmt.chans →
    ∃ u : State, exec (.drain e c) s = .next u.settle ∧ s.stores u (s.addrOf e c.dst) (posBytes c.conv .nearest c.pitch
      ((List.range c.chans).map fun n => s.drainWord e s.free (s.userTables e) c (((s.eng e).accRow c.tile c.row0).getD n 0) 0 n))) ∧
  (∀ (s : State) (e : Fin 6) (x : Exec) (c : VopCmd) (a b : Arr), s.idleFor e x (.vop c) → c.upset = .clean → c.op = .add →
    c.srcs = [a, b] → c.positions = 1 → c.core = none → c.weight = none → c.resize = none → c.conv.fmt.mx = false → 0 < c.elems →
    c.elems ≤ c.conv.fmt.chans →
    ∃ u : State, exec (.vop e c) s = .next u.settle ∧ s.stores u (s.addrOf e c.dst) (posBytes c.conv .nearest c.pitch
      ((List.range c.elems).map fun k => flAdd (s.elem e a 0 k) (s.elem e b 0 k)))) ∧
  (∀ (s : State) (e : Fin 6) (x : Exec) (c : VlutCmd), s.idleFor e x (.vlut c) → c.positions = 1 → c.conv.fmt.mx = false → 0 < c.elems →
    c.elems ≤ c.conv.fmt.chans →
    ∃ u : State, exec (.vlut e c) s = .next u.settle ∧ s.stores u (s.addrOf e c.dst) (posBytes c.conv .nearest c.pitch
      ((List.range c.elems).map fun k =>
        applyFn s.free k c.fn.code (f32Of c.fn.a) (f32Of c.fn.b) c.conv.sat (s.userTables e) (s.elem e c.src 0 k)))) ∧
  (∀ (s : State) (e : Fin 6) (x : Exec) (c : VredCmd), s.idleFor e x (.vred c) → c.pool = none → c.alongLanes = true →
    c.positions = 1 → c.conv.fmt.mx = false →
    ∃ u : State, exec (.vred e c) s = .next u.settle ∧ s.stores u (s.addrOf e c.dst) (posBytes c.conv .nearest c.pitch
      [reduce c.op s.free 0 ((List.range c.elems).map fun k => s.elem e c.src 0 k)])) ∧
  (∀ (s : State) (e : Fin 6) (x : Exec) (c : MoveCmd) (n : Nat), s.idleFor e x (.move c) → c.kind = .copy → c.rows = 1 → c.elems = 1 →
    c.bits = 8 * n → c.core = none →
    ∃ u : State, exec (.move e c) s = .next u.settle ∧ s.stores u (s.addrOf e c.dst) (s.bytes (s.addrOf e c.src) n)) ∧
  (∀ (s : State) (e : Fin 6) (x : Exec) (c : FftCmd), s.idleFor e x (.fft c) → c.count = 1 → c.stride = 8 →
    ∃ u : State, exec (.fft e c) s = .next u.settle ∧ s.sameMemoryBut u (s.addrOf e c.src) (8 * c.points))

/-- Tacks, SIGNAL and completions (R89, R92 to R94, R99, R234, R258): a tack is held and released once its condition holds; SIGNAL right after a STRIPE
tack is accepted, when its places lie in the job's windows, and any other is ILLEGAL_OP; the unit's oldest started command completes; the
head of the ready queue starts, and is abandoned at once when a fetch of it was poisoned; and a signalled stripe ends, once the write
buffer has a line for it, with STRIPE_CNT counted. -/
def Obligations.TacksAndSignals : Prop :=
  (∀ (s : State) (e : Fin 6) (x : Exec) (m : Fin 8) (b : Bool), s.settled → (s.eng e).running = some x → (s.eng e).tack = none →
    x.signalled = false →
    exec (.tack e m b) s = .next (s.setEng e { s.eng e with
      tack := some ⟨m.val, b, (s.eng e).issue⟩, issue := (s.eng e).issue + 1, exec := some { x with stripeTack := b } })) ∧
  (∀ (s : State) (e : Fin 6) (k : Tack), s.settled → (s.eng e).tack = some k →
    exec (.tackRelease e) s = .next (if (s.eng e).tackHolds k then s.setEng e { s.eng e with tack := none } else s)) ∧
  (∀ (s : State) (e : Fin 6) (x : Exec) (o h : Option Place) (t : List (Nat × Arr)) (q : List (Nat × Nat × Place × Nat)),
    s.settled → (s.eng e).running = some x → (s.eng e).tack = none → x.signalled = false →
    (∀ r ∈ s.signalSpans x.work o h t q, s.spanFault e x.work.job false r = none) →
    exec (.signal e o h t q) s = .next (if x.stripeTack then s.setEng e { s.eng e with
        issue := (s.eng e).issue + 1
        exec := some { x with signalled := true, outPlace := o, hist := h, taps := t, parts := q
                              bufLines := min (s.bufferNeed x.work) (s.poolRoom 1 x.work.stream) } }
      else s.cause (pgEng e) (5 + 65536 * (s.eng e).jobSlot) 0)) ∧
  (∀ (s : State) (e : Fin 6) (u : EngUnit) (c : Issued), s.settled → (∀ v, (s.eng e).queue v = if v = u then [c] else []) →
    (∀ p, c.cmd ≠ .put p) →
    exec (.commandComplete e u) s = .next (if c.started then s.setEng e ((s.eng e).setQueue u []) else s)) ∧
  (∀ (s : State) (e : Fin 6) (r : ReadyEntry) (l : List ReadyEntry), s.settled → (s.eng e).exec = none → (s.eng e).ready = r :: l →
    r.gone = 0 → s.takes e = true →
    let g := s.eng e
    let slip := if g.slipBand = some r.work.bandKey then g.slip else 0
    (r.poisoned = false → exec (.stripeExecuteStart e) s = .next ((s.markDegraded r.work).setEng e { g with
      exec := some ⟨r.work, s.clk.up, false, [], false, false, 0, g.runs, slip, 0, none, s.zonesFor r.work, none, none, [], []⟩
      lastJob := some r.work.job, execCtx := if g.lastJob = some r.work.job then g.execCtx else s.jobContext e r.work.job
      runs := g.runs + 1, matrixQ := [], vectorQ := [], moverQ := [], tack := none, slip := slip
      slipBand := some r.work.bandKey })) ∧
    (r.poisoned = true → ∃ t, exec (.stripeExecuteStart e) s = .next t ∧ (t.eng e).exec.map (·.abandoned) = some true ∧
      (t.eng e).replayCause = 0x10 ∧ s.sameMemory t)) ∧
  (∀ (s : State) (e : Fin 6) (x : Exec), (s.eng e).exec = some x → x.signalled = true → (s.eng e).ready ≠ [] →
    (s.bufferNeed x.work = 0 ∨ 0 < x.bufLines ∨ 0 < s.poolRoom 1 x.work.stream) →
    s.badWords e (s.signalSpans x.work x.outPlace x.hist x.taps x.parts) = none →
    ∃ u : State, exec (.signalComplete e) s = .next u.settle ∧ (u.eng e).exec = none ∧
      u.reg (pgEng e) 0x100 = s.reg (pgEng e) 0x100 + 1)

/-- Fetching, cancelling and replaying (R91, R95 to R97, R103, R149): a stripe whose list is empty moves from the work queue to the ready
queue; the first entry of a list takes a scoreboard entry as a FILL; a line that lands is noted and the last one makes the entry a
HOLD; a cancel that completes empties the ready queue of what it named; an abandoned stripe starts again as a replay. -/
def Obligations.FetchCancelReplay : Prop :=
  (∀ (s : State) (e : Fin 6) (w : Work) (l : List Work), s.settled → (s.eng e).work = w :: l → s.takes e = true →
    s.sched.waiting = [] → (∀ r ∈ (s.eng e).ready, r.gone = 0 ∧ r.waiting = []) → (s.eng e).ready.length < s.basting e w →
    ∃ t r, exec (.fetchStart e []) s = .next t ∧ (t.eng e).work = l ∧ (t.eng e).ready = (s.eng e).ready ++ [r] ∧ r.work = w ∧
      r.gone = 0 ∧ s.sameMemory t) ∧
  (∀ (s : State) (e : Fin 6) (w : Work) (l : List Work) (f : FetchEntry) (k : Nat) (d : Region × Nat), (s.eng e).work = w :: l →
    s.takes e = true → s.sched.waiting = [] → (s.eng e).ready = [] → 0 < s.basting e w → f.gather = none → f.plane = none →
    f.writes ≠ 0 → s.fetchFault e w f = none → s.staging e w.job = some k → (s.region e k).alloc f.lines = some d →
    ((s.eng e).sb.getD 0 SbEntry.free).kind = 0 → (s.eng e).sb.length = 16 →
    ∃ u : State, exec (.fetchStart e [f]) s = .next u.settle ∧
      (u.eng e).sb.getD 0 SbEntry.free = ⟨1, d.2, f.lines, some w, f.writes, false, 0, k, some f, [], [], []⟩ ∧
      u.region e k = d.1 ∧ s.sameMemory u) ∧
  (∀ (s : State) (e : Fin 6) (n : Fin 16) (k : Nat) (f : FetchEntry) (w : Work) (b : SbEntry), (s.eng e).exec = none →
    (s.eng e).moverQ = [] → (s.eng e).sb.length = 16 → (s.eng e).sb.getD n SbEntry.free = b → b.kind = 1 → b.plan = some f →
    b.owner = some w → w.tensor = false → f.gather = none → f.plane = none → k < f.writes → b.landed.contains k = false →
    ∃ u : State, exec (.fetchLineLand e ⟨n, k, false⟩) s = .next u.settle ∧
      (u.eng e).sb.getD n SbEntry.free = { b with landed := b.landed ++ [k], out := b.out - 1, kind := if b.out ≤ 1 then 2 else 1 }) ∧
  (∀ (s : State) (e : Fin 6), ∃ u : State, exec (.cancelComplete e) s = .next u.settle ∧
    (u.eng e).ready = (s.eng e).ready.filter (fun r => r.gone == 0) ∧ s.sameMemory u) ∧
  (∀ (s : State) (e : Fin 6) (x : Exec) (r : ReadyEntry) (l : List ReadyEntry), s.settled → (s.eng e).exec = some x →
    (s.eng e).ready = r :: l → x.abandoned = true → (s.eng e).inFlight = false → (s.eng e).check.kat = none →
    (s.eng e).check.state ≠ 3 → r.gone = 0 → s.takes e = true →
    ∃ t y, exec (.stripeReplayStart e) s = .next t ∧ (t.eng e).exec = some y ∧ y.work = { x.work with replay := true } ∧
      y.abandoned = false ∧ bitAt (t.reg (pgEng e) 0x10) 4 = true ∧
      t.rfld (pgEng e) 0x118 8 8 = satAdd 8 (s.rfld (pgEng e) 0x118 8 8) 1 ∧ s.sameMemory t)

/-- CHECK_TEST.INJECT forces the next compare to report a mismatch, and its outcome is a transient whatever the tests find; without it an
MM of which a row differs in the check unit's window is a mismatch (R102, R103, R105). -/
def Obligations.InjectedMismatch : Prop :=
  (∀ (s : State) (e : Fin 6), s.settled → exec (.checkInject e) s = .next (s.setEng e { s.eng e with
    check := { (s.eng e).check with inject := true } })) ∧
  (∀ (s : State) (e : Fin 6) (k : Bool), s.settled → (s.eng e).check.inject = true → (s.eng e).check.compares = true →
    s.pwr.state = .active →
    ∃ t, exec (.gussetWindowAdvance e k false) s = .next t ∧ (t.eng e).check.kat = some (s.eng e).check.window ∧
      (t.eng e).check.forced = true ∧ (t.eng e).check.inject = false ∧ bitAt (t.reg (pgEng e) 0x10) 0 = true) ∧
  (∀ (s : State) (e : Fin 6) (x : Exec) (c : MmCmd), s.idleFor e x (.mm c) → c.upset = .clean → (s.eng e).check.inject = true →
    (s.eng e).check.compares = true →
    ∃ u : State, exec (.mm e c) s = .next u.settle ∧ (u.eng e).check.kat = some (s.eng e).check.window ∧
      (u.eng e).check.forced = true ∧ (u.eng e).check.inject = false ∧ (u.eng e).exec.map (·.abandoned) = some true) ∧
  (∀ (s : State) (e : Fin 6) (x : Exec) (c : MmCmd), s.idleFor e x (.mm c) → (∀ r k, c.upset ≠ .accParity r k) →
    (s.eng e).check.inject = false → (s.eng e).check.compares = true →
    ((s.starting e x (.mm c) 0).runMm e c).gussetDiffers e c = true →
    ∃ u : State, exec (.mm e c) s = .next u.settle ∧ (u.eng e).check.kat = some (s.eng e).check.window ∧
      (u.eng e).check.forced = false ∧ (u.eng e).exec.map (·.abandoned) = some true ∧ bitAt (u.reg (pgEng e) 0x10) 0 = true) ∧
  (∀ (s : State) (e : Fin 6) (col : Nat) (a b : Bool), s.settled → (s.eng e).check.kat = some col → (s.eng e).check.forced = true →
    ((s.eng e).check.transients.filter fun t => t.1 == col && decide (s.clk.up < t.2 + 1000000000)).length < 2 →
    bitAt (s.reg (pgEng e) 0x120) 0 = false →
    ∃ t, exec (.katComplete e a b) s = .next t ∧ (t.eng e).check.kat = none ∧ (t.eng e).check.state = (s.eng e).check.state ∧
      (col, s.clk.up) ∈ (t.eng e).check.transients ∧
      t.rfld (pgEng e) 0x118 0 8 = satAdd 8 (s.rfld (pgEng e) 0x118 0 8) 1)

/-- The check unit's rotation and the other outcomes of a mismatch (R101, R103, R104, Table 05-6): the window moves on and a rotation is
counted; a failed column alone is taken over, a failed gusset column alone is switched off, and when both fail the engine is handed to
the fault manager to be fenced. -/
def Obligations.CheckUnit : Prop :=
  (∀ (s : State) (e : Fin 6) (k : Bool), s.settled → (s.eng e).check.kat = none → (s.eng e).check.inject = false →
    s.pwr.state = .active → (s.eng e).check.window < 256 →
    exec (.gussetWindowAdvance e k false) s = .next (s.setEng e { s.eng e with
      check := { (s.eng e).check with window := (s.eng e).check.window + 1 } })) ∧
  (∀ (s : State) (e : Fin 6), s.settled → (s.eng e).check.kat = none → s.pwr.state = .active → (s.eng e).check.window = 256 →
    exec (.gussetWindowAdvance e true false) s = .next ((s.setEng e { s.eng e with
      check := { (s.eng e).check with window := 0 } }).bump (pgEng e) 0x114 0 16 1)) ∧
  (∀ (s : State) (e : Fin 6) (col : Nat), s.settled → (s.eng e).check.kat = some col → (s.eng e).check.forced = false →
    bitAt (s.reg (pgEng e) 0x120) 0 = false →
    (∃ t, exec (.katComplete e false true) s = .next t ∧ (t.eng e).check.state = 1 ∧ (t.eng e).check.spared = col ∧
      (t.eng e).check.kat = none ∧ bitAt (t.reg (pgEng e) 0x10) 1 = true) ∧
    (∃ t, exec (.katComplete e true false) s = .next t ∧ (t.eng e).check.state = 2 ∧ (t.eng e).check.kat = none ∧
      bitAt (t.reg (pgEng e) 0x10) 2 = true ∧ bitAt (t.reg pgFlt 0x10) 0 = true) ∧
    (∃ u : State, exec (.katComplete e false false) s = .next u.settle ∧ (u.eng e).check.state = 3 ∧
      u.flt.due = [.fence e.val false 9] ∧ bitAt (u.reg (pgEng e) 0x10) 3 = true))

/-- Self-tests of an engine (R106 to R108, R228, R392): a request during a test only writes FORCE; one to a fenced engine is answered FAIL; one
in IDLE to an empty engine, forced or with no band or step open, starts the test and takes the engine out of rotation; one that the
remaining engines cannot bear is refused; one in STANDBY wakes the device; and a test ends with PASS or with FAIL, which hands the engine to the fault manager. -/
def Obligations.EngineSelfTest : Prop :=
  let awake := fun s : State => s.pwr.state ≠ .standby ∧ s.pwr.trans = none
  (∀ (s : State) (e : Fin 6) (w : Word), s.settled → awake s → (s.eng e).testing = true →
    exec (.engineSelftestRequest e w) s = .next (s.setRfld (pgEng e) 0x120 1 1 (fld w 1 1))) ∧
  (∀ (s : State) (e : Fin 6) (w : Word), s.settled → awake s → bitAt w 0 = true → (s.eng e).testing = false →
    (s.eng e).check.kat = none → (s.eng e).fenced = true →
    ∃ t, exec (.engineSelftestRequest e w) s = .next t ∧ t.eng e = { s.eng e with selftest := 5 } ∧
      bitAt (t.reg (pgEng e) 0x10) 8 = true ∧ s.sameMemory t) ∧
  (∀ (s : State) (e : Fin 6) (w : Word), bitAt w 0 = true → (s.eng e).testing = false → (s.eng e).check.kat = none →
    (s.eng e).fenced = false → s.pwr.state = .idle → awake s → (s.eng e).work = [] → (s.eng e).ready = [] → (s.eng e).exec = none →
    (bitAt w 1 = true ∨ s.openItems = []) →
    ∃ u : State, exec (.engineSelftestRequest e w) s = .next u.settle ∧ (u.eng e).selftest = 3 ∧ (u.eng e).inRotation = false) ∧
  (∀ (s : State) (e : Fin 6) (w : Word), s.settled → bitAt w 0 = true → bitAt w 1 = false → (s.eng e).testing = false →
    (s.eng e).check.kat = none → (s.eng e).fenced = false → s.pwr.state = .active → awake s →
    fits (s.rotation.filter (· != e.val)).length s.activeItems = false →
    ∃ t, exec (.engineSelftestRequest e w) s = .next t ∧ t.eng e = { s.eng e with selftest := 2 } ∧ s.sameMemory t) ∧
  (∀ (s : State) (e : Fin 6) (w : Word), bitAt w 0 = true → (s.eng e).testing = false → (s.eng e).check.kat = none →
    (s.eng e).fenced = false → s.pwr.state = .standby → s.pwr.trans = none → s.tooHot = false → (s.eng e).work = [] →
    (s.eng e).ready = [] → (s.eng e).exec = none → (bitAt w 1 = true ∨ s.openItems = []) →
    ∃ u : State, exec (.engineSelftestRequest e w) s = .next u.settle ∧ (u.eng e).selftest = 3 ∧
      u.pwr.trans.map (·.target) = some .idle) ∧
  (∀ (s : State) (e : Fin 6) (f : Fin 256), (s.eng e).selftest = 3 →
    (∃ u : State, exec (.engineSelftestDone e f true) s = .next u.settle ∧ (u.eng e).selftest = 4 ∧
      bitAt (u.reg (pgEng e) 0x10) 8 = true) ∧
    (∃ u : State, exec (.engineSelftestDone e f false) s = .next u.settle ∧ (u.eng e).selftest = 5 ∧
      u.flt.due = s.flt.due ++ [.fence e.val false 0] ∧ u.rfld (pgEng e) 0x120 8 8 = f.val ∧
      bitAt (u.reg (pgEng e) 0x10) 8 = true))

/-- RUN, resets and the hang ladder of an engine (R110, R111, R349, Table 16-1): RUN takes a fit engine into rotation and out of it; a
soft reset takes it out of rotation and its end brings it back; a hang is reported to the fault manager; the ladder goes from the reset to
the power switch and to a fence; a scalar-core mismatch abandons the stripe. -/
def Obligations.EngineRunAndReset : Prop :=
  (∀ (s : State) (e : Fin 6) (r : Bool), ∃ u : State, exec (.engineRun e r) s = .next u.settle ∧
    bitAt (u.reg (pgEng e) 8) 0 = r ∧ ((u.eng e).inRotation = true ↔ r = true ∧ (s.eng e).fenced = false ∧
      (s.eng e).resetting = false ∧ (s.eng e).frozen = false ∧ (s.eng e).selftest ≠ 3)) ∧
  (∀ (s : State) (e : Fin 6), ∃ u : State, exec (.softReset e) s = .next u.settle ∧ (u.eng e).resetting = true ∧
    ((s.eng e).resetting = false → (u.eng e).inRotation = false ∧ (u.eng e).exec = none)) ∧
  (∀ (s : State) (e : Fin 6), (s.eng e).resetting = true → (s.eng e).hang < 2 →
    ∃ u : State, exec (.resetDone e) s = .next u.settle ∧ (u.eng e).resetting = false ∧ (u.eng e).frozen = false ∧
      (u.eng e).hang = 0 ∧ bitAt (u.reg (pgEng e) 0x10) 9 = true) ∧
  (∀ (s : State) (e : Fin 6), (s.eng e).exec.isSome = true → (s.eng e).resetting = false → (s.eng e).fenced = false →
    exec (.engineHang e) s = .next (((s.fail (pgEng e) 6 (4 + 65536 * (s.eng e).jobSlot) 0).fault 0x0C e (s.eng e).jobSlot).owe
      (.hang e)).settle) ∧
  (∀ (s : State) (e : Fin 6), s.settled → (s.eng e).resetting = true → (s.eng e).hang = 1 →
    exec (.softResetTimeout e) s = .next { s.setEng e { s.eng e with hang := 2 } with
      pwr := { s.pwr with dom := s.pwr.dom.set (8 + e.val) .off } }) ∧
  (∀ (s : State) (e : Fin 6), (s.eng e).hang = 2 ∨ (s.eng e).hang = 3 →
    exec (.powerCycleTimeout e) s = .next ((s.setEng e { s.eng e with hang := 0 }).owe (.fence e false 0x0C)).settle) ∧
  (∀ (s : State) (e : Fin 6) (x : Exec), s.settled → (s.eng e).exec = some x → (s.eng e).fenced = false →
    (s.eng e).scalarErrs = [] →
    ∃ t, exec (.scalarCoreMismatch e) s = .next t ∧ (t.eng e).exec.map (·.abandoned) = some true ∧
      (t.eng e).scalarErrs = [s.clk.up] ∧ (t.eng e).replayCause = 0x0B ∧ s.sameMemory t)

/-- Regions and credits (R141 to R146, R154, R157): an allocation moves the head of a CIRCULAR region, after the consumer's release when it
asks for one, and waits while it does not fit; a grant takes an INBOUND entry, gives its sender the credits, and the sender's waiting PUT
goes on with them; a line that arrives is written at the place it was sent to, also when its region has gone since, and one outside its
region or to a group that is not ON is not written and freezes its sender; an acknowledgement takes up to eight lines off what the run
that sent them waits for; a release returns the credits of a sender that executes nothing. -/
def Obligations.RegionsAndCredits : Prop :=
  let quiet := fun g : Engine => g.matrixQ = [] ∧ g.vectorQ = [] ∧ g.moverQ = []
  (∀ (s : State) (t : Fin 6) (r : Fin 32) (n : Nat) (b : Bool) (x : Region × Nat), s.settled → (s.tile t).waiting = [] → 0 < n →
    (s.region t r).mode = 2 → (if b then (s.region t r).free 0 else s.region t r).alloc n = some x →
    ∃ u, exec (.regionAllocate t r n b) s = .next u ∧ u.region t r = x.1 ∧ (∀ k, k ≠ r.val → u.region t k = s.region t k) ∧
      (u.tile t).waiting = [] ∧ s.sameMemory u) ∧
  (∀ (s : State) (t : Fin 6) (r : Fin 32) (n : Nat), s.settled → (s.tile t).waiting = [] → 0 < n → (s.region t r).mode = 2 →
    (s.region t r).alloc n = none →
    ∃ u, exec (.regionAllocate t r n false) s = .next u ∧ (∀ k, u.region t k = s.region t k) ∧
      (u.tile t).waiting = [(r.val, n)] ∧ s.sameMemory u) ∧
  (∀ (s : State) (e k : Fin 6) (r : Fin 32) (n : Nat) (x : Region × Nat), s.settled → e ≠ k →
    (∀ b ∈ (s.eng e).sb, b.isVoid = false) → (s.eng k).frozen = false → quiet (s.eng k) →
    ((s.eng e).sb.getD 14 SbEntry.free).kind = 0 → (s.eng e).sb.length = 16 → (s.region e r).alloc n = some x →
    ∃ t, exec (.creditGrant e k r n) s = .next t ∧ t.region e r = x.1 ∧
      (t.eng e).sb.getD 14 SbEntry.free = ⟨3, x.2, n, (s.eng e).exec.map (·.work), n, false, k.val, r.val, none, [], [], []⟩ ∧
      sget (fun _ => 0) (t.eng k).credits (32 * e.val + r.val) = sget (fun _ => 0) (s.eng k).credits (32 * e.val + r.val) + n ∧
      s.sameMemory t) ∧
  (∀ (s : State) (e k : Fin 6) (r : Fin 32) (n : Nat) (x : Region × Nat) (i w : Nat) (c : PutCmd), e ≠ k →
    (∀ b ∈ (s.eng e).sb, b.isVoid = false) → (s.eng k).frozen = false → (s.eng k).matrixQ = [] → (s.eng k).vectorQ = [] →
    (s.eng k).moverQ = [⟨i, .put c, true, w⟩] → c.tile = e → c.region = r.val →
    sget (fun _ => 0) (s.eng k).credits (32 * e.val + r.val) = 0 → 0 < w → 0 < n → w ≤ c.lines →
    ((s.eng e).sb.getD 14 SbEntry.free).kind = 0 → (s.eng e).sb.length = 16 → (s.region e r).alloc n = some x →
    ∃ u : State, exec (.creditGrant e k r n) s = .next u.settle ∧ (u.eng k).moverQ = [⟨i, .put c, true, w - min w n⟩] ∧
      (u.tile e).incoming.length = (s.tile e).incoming.length + min w n ∧ s.sameMemory u) ∧
  (∀ (s : State) (t : Fin 6) (l : RingLine) (q : List RingLine), (s.tile t).incoming = l :: q → l.data.length = 128 →
    ((s.region t l.region).mode = 0 ∨ (s.region t l.region).base ≠ l.base ∨ l.line < (s.region t l.region).size) →
    l.base + l.line < 262144 → (∀ g, s.bgroup t g = ⟨0, none⟩) → quiet (s.eng t) →
    ∃ u : State, exec (.ringLineArrive t) s = .next u.settle ∧ (u.tile t).incoming = q ∧
      s.stores u (tileBase t + 128 * (l.base + l.line)) l.data ∧
      u.reg (pgSmem t) 0x110 = BitVec.ofNat 32 (satAdd 32 (s.reg (pgSmem t) 0x110).toNat 1)) ∧
  (∀ (s : State) (t : Fin 6) (l : RingLine) (q : List RingLine), (s.tile t).incoming = l :: q → l.sender < 6 →
    (s.eng l.sender).frozen = false →
    ((s.region t l.region).mode ≠ 0 ∧ (s.region t l.region).base = l.base ∧ (s.region t l.region).size ≤ l.line ∨
      (s.bgroup t ((l.base + l.line) / 32768)).state ≠ 0) →
    ∃ u : State, exec (.ringLineArrive t) s = .next u.settle ∧ (u.eng l.sender).frozen = true ∧ s.sameMemory u) ∧
  (∀ (s : State) (t k : Fin 6) (n : Fin 9) (run d : Nat) (y : Exec), s.settled → (s.tile t).acks = [(k.val, run, d)] →
    quiet (s.eng k) → (s.eng k).exec = some y →
    let m := min (min n.val 8) d
    ∃ w, exec (.creditAck t k n) s = .next w ∧ (w.tile t).acks = (if d = m then [] else [(k.val, run, d - m)]) ∧
      (w.eng k).exec = some { y with unacked := y.unacked - (if y.run = run then m else 0) } ∧ s.sameMemory w) ∧
  (∀ (s : State) (e t : Fin 6) (r : Fin 32), s.settled → (s.eng e).running = none →
    ∃ w, exec (.creditRelease e t r) s = .next w ∧ sget (fun _ => 0) (w.eng e).credits (32 * t.val + r.val) = 0 ∧
      (∀ b ∈ (w.eng t).sb, b.kind = 3 → b.sender = e.val → b.region = r.val → b.isVoid = true) ∧ s.sameMemory w)

/-- Parity errors and the patrol (R147 to R151): words that pass the re-read are counted as transient and delay the engine by eight
cycles, words that fail are counted as stored with the lowest in the cause registers and abandon the stripe they were read for; the
patrol reads the next PERSIST line, wraps at the end with its pass counted, and does nothing while it is off. -/
def Obligations.ParityAndPatrol : Prop :=
  (∀ (s : State) (t : Fin 6) (p : Fin 8) (b : Bool) (l : Fin 262144) (n : Fin 33), s.settled → 0 < n.val → p.val ≠ 0 → p.val ≠ 1 →
    p.val ≠ 3 →
    exec (.parityReread t p b l [] n) s = .next ((s.bump (pgSmem t) 0x20 0 16 n).event (pgSmem t) 0)) ∧
  (∀ (s : State) (t : Fin 6) (p : Fin 8) (b : Bool) (l : Fin 262144) (n : Fin 33), s.settled → 0 < n.val →
    p.val = 0 ∨ p.val = 1 ∨ p.val = 3 →
    exec (.parityReread t p b l [] n) s = .next (((s.bump (pgSmem t) 0x20 0 16 n).event (pgSmem t) 0).addSlip t 8)) ∧
  (∀ (s : State) (t : Fin 6) (p : Fin 8) (b : Bool) (l : Fin 262144) (w : Fin 32) (x : Exec),
    p.val = 0 ∨ p.val = 1 ∨ p.val = 3 ∨ b = true → (s.eng t).exec = some x → x.work.replay = false → x.abandoned = false →
    (s.regionAt t l).all (fun r => !r.2.persist) = true →
    ∃ u : State, exec (.parityReread t p b l [w] 0) s = .next u.settle ∧
      u.reg (pgSmem t) 0x24 = BitVec.ofNat 32 (1 + 256 * p.val + 2048 * ((s.regionAt t l).map (·.1)).getD 0 + 65536 * 0xF) ∧
      u.reg (pgSmem t) 0x28 = BitVec.ofNat 32 (tileBase t + 128 * l.val + 4 * w.val) ∧
      u.rfld (pgSmem t) 0x20 16 16 = satAdd 16 (s.rfld (pgSmem t) 0x20 16 16) 1 ∧
      bitAt (u.reg (pgSmem t) 0x10) 1 = true ∧
      (u.eng t).exec = some { x with abandoned := true, signalled := false, bufLines := 0, failWords := x.failWords ++ [tileBase t + 128 * l.val + 4 * w.val] } ∧
      (u.eng t).replayCause = 1 ∧ s.sameMemory u) ∧
  (∀ (s : State) (t : Fin 6) (p : Fin 8) (l : Fin 262144) (w : Fin 32) (x : Exec), p.val = 0 ∨ p.val = 1 ∨ p.val = 3 →
    (s.eng t).exec = some x → x.work.replay = true → x.work.tensor = true → s.job x.work.job = none →
    (tileBase t + 128 * l.val + 4 * w.val) ∈ x.failWords →
    ∃ u : State, exec (.parityReread t p false l [w] 0) s = .next u.settle ∧ (u.tile t).faulted = true ∧
      u.flt.due = s.flt.due ++ [.fence t.val true 4]) ∧
  (∀ (s : State) (t : Fin 6) (l : List (Fin 32)), s.settled → bitAt (s.reg (pgSmem t) 8) 0 = false →
    exec (.patrolRead t l) s = .next s) ∧
  (∀ (s : State) (t : Fin 6) (r n : Nat), s.settled → bitAt (s.reg (pgSmem t) 8) 0 = true →
    (∀ w ∈ (s.tile t).storedErrs, (w - tileBase t) / 128 ≠ n) →
    s.patrolLine t (s.tile t).patrolPos = some (r, n) → s.patrolLine t (n + 1) ≠ none →
    exec (.patrolRead t []) s = .next ((s.setTile t { s.tile t with patrolPos := n + 1 }).setRfld (pgSmem t) 0x10C 0 18 n)) ∧
  (∀ (s : State) (t : Fin 6) (r n : Nat), s.settled → bitAt (s.reg (pgSmem t) 8) 0 = true →
    (∀ w ∈ (s.tile t).storedErrs, (w - tileBase t) / 128 ≠ n) →
    s.patrolLine t (s.tile t).patrolPos = some (r, n) → s.patrolLine t (n + 1) = none →
    ∃ u : State, exec (.patrolRead t []) s = .next u ∧ (u.tile t).patrolPos = 0 ∧
      u.rfld (pgSmem t) 0x10C 24 8 = satAdd 8 (s.rfld (pgSmem t) 0x10C 24 8) 1 ∧ s.sameMemory u)

/-- Power states of bank groups (R152, R153, R155): a request is recorded for the groups it changes, one that would take a group in use
out of ON is refused whole with its cause and event; a group changes state once no write to it is outstanding or its time is over; one
that goes to or comes from OFF holds zero, and one that goes to or from RETAIN keeps its contents. -/
def Obligations.BankGroups : Prop :=
  (∀ (s : State) (t : Fin 6) (w : Word) (g : Fin 8), s.settled → (∀ k, k < 8 → k ≠ g.val → fld w (2 * k) 2 = 3) →
    fld w (2 * g.val) 2 < 3 → (s.bgroup t g).target = none → (s.bgroup t g).state ≠ fld w (2 * g.val) 2 →
    s.groupUsed t g = false →
    exec (.bankGroupPowerRequest t w) s =
      .next ((s.setReg (pgSmem t) 0x100 (w &&& 0xFFFF)).setBgroup t g ⟨(s.bgroup t g).state, some (fld w (2 * g.val) 2)⟩)) ∧
  (∀ (s : State) (t : Fin 6) (w : Word) (g : Fin 8), s.settled → (∀ k, k < 8 → k ≠ g.val → fld w (2 * k) 2 = 3) →
    fld w (2 * g.val) 2 ≠ 0 → fld w (2 * g.val) 2 < 3 → (s.bgroup t g).target = none →
    (s.bgroup t g).state ≠ fld w (2 * g.val) 2 → s.groupUsed t g = true →
    exec (.bankGroupPowerRequest t w) s =
      .next ((s.smemCause t 6 0 0 0xF (tileBase t + 0x400000 * g.val)).event (pgSmem t) 9)) ∧
  (∀ (s : State) (t : Fin 6) (g : Fin 8) (b : Bool), s.settled → (s.bgroup t g).target = none →
    exec (.bankGroupPowerDone t g b) s = .next s) ∧
  (∀ (s : State) (t : Fin 6) (g : Fin 8) (r : Nat), s.settled → (s.bgroup t g).target = some r → (s.bgroup t g).state = 0 →
    0 < s.outstanding t g → exec (.bankGroupPowerDone t g false) s = .next s) ∧
  (∀ (s : State) (t : Fin 6) (g : Fin 8) (b : Bool) (r : Nat), s.settled → (s.bgroup t g).target = some r →
    ((s.bgroup t g).state ≠ 0 ∨ s.outstanding t g = 0 ∨ b = true) →
    ∃ u, exec (.bankGroupPowerDone t g b) s = .next u ∧ u.bgroup t g = ⟨r, none⟩ ∧
      bitAt (u.reg (pgSmem t) 0x10) 4 = true ∧
      (if r = 2 ∨ (s.bgroup t g).state = 2 then
        (∀ a, tileBase t + 0x400000 * g.val ≤ a → a < tileBase t + 0x400000 * g.val + 0x400000 → u.byte a = 0) ∧
          s.sameMemoryBut u (tileBase t + 0x400000 * g.val) 0x400000
      else s.sameMemory u))

/-- Box lists (R181 to R183, R288): nothing is taken from a queue that is disabled, empty or stopped; a LIST descriptor with a reserved
word set goes back with a format status; a list that is read goes back with its descriptor, and is kept for its frame, refused when it
names another stream or job than the one bound to its queue, or counted stale when its frame has opened. Bands (R25, R37): without an
open frame or a finished band nothing is released; otherwise the next band of the oldest frame is released, one descriptor goes to each
of its outputs in their order, and the last band closes the frame. -/
def Obligations.BoxListsAndBands : Prop :=
  (∀ (s : State) (q : Fin 16384), s.settled → ((s.queue q).ctx.en = false ∨ (s.queue q).ctx.dir ≠ 1 ∨
      seqAhead (s.queue q).ctx.avail (s.queue q).ctx.cons = false ∨ s.chanStopped q = true) →
    exec (.boxListArrive q) s = .next s) ∧
  (∀ (s : State) (q : Fin 16384) (d : Desc), (s.queue q).ctx.en = true → (s.queue q).ctx.dir = 1 →
    seqAhead (s.queue q).ctx.avail (s.queue q).ctx.cons = true → s.chanStopped q = false → s.sec.frozen.contains 0x92 = false →
    (s.readDesc q (s.queue q).ctx.cons).2 = d → d.kind = 6 → (d.aux0 ≠ 0 ∨ d.aux1 ≠ 0) →
    ∃ u : State, exec (.boxListArrive q) s = .next u.settle ∧ u.reg pgQm 0x24 = BitVec.ofNat 32 (5 + 256 * q.val) ∧
      bitAt (u.reg pgQm 0x10) 4 = true) ∧
  (∀ (s : State) (q : Fin 16384) (d : Desc) (r : State × RangeRead), (s.queue q).ctx.en = true → (s.queue q).ctx.dir = 1 →
    seqAhead (s.queue q).ctx.avail (s.queue q).ctx.cons = true → s.chanStopped q = false → s.sec.frozen.contains 0x92 = false →
    (s.readDesc q (s.queue q).ctx.cons).2 = d → d.kind = 6 → d.aux0 = 0 → d.aux1 = 0 →
    s.blockOk 0x92 d.addr (max d.length 1) = true →
    s.blockRead 0x92 (who 9 (((s.boxBinding q).map (·.1)).getD 0)) d.addr d.length = r → r.2.valid = true → r.2.poison = false →
    r.2.error = false →
    exec (.boxListArrive q) s = .next ((r.1.judgeList q r.2.data).backDesc q 0 { d with srcInvalid := false }).settle) ∧
  (∀ (s : State) (q i j : Nat) (b : List Byte), s.boxBinding q = some (i, j) →
    let l := boxListOf (b.take (32 + 24 * 1024)) s.clk.ptp
    leAt b 6 2 ≤ 1024 → 32 + 24 * leAt b 6 2 ≤ b.length →
    (l.stream = i → l.job = j → (l.frameSeq = 0xFFFFFFFF ∨ seqAhead (s.strm i).nextSeq l.frameSeq = false) →
      s.judgeList q b = s.setStrm i { s.strm i with lists := (s.strm i).lists ++ [l] }) ∧
    (l.stream = i → l.job = j → l.frameSeq ≠ 0xFFFFFFFF → seqAhead (s.strm i).nextSeq l.frameSeq = true →
      s.judgeList q b = (s.bump pgCrs 0x104 0 16 1).fail pgCrs 1 (2 + 256 * i) 0) ∧
    ((l.stream ≠ i ∨ l.job ≠ j) → s.judgeList q b = (s.bump pgCrs 0x104 16 16 1).fail pgCrs 0 (1 + 256 * l.stream) 0)) ∧
  (∀ (s : State) (i : Fin 64), s.settled → (s.strm i).frames = [] → exec (.bandRelease i) s = .next s) ∧
  (∀ (s : State) (i : Fin 64) (f : Frame) (l : List Frame), s.settled → (s.strm i).frames = f :: l → f.nextBand = none →
    exec (.bandRelease i) s = .next s) ∧
  (∀ (s : State) (i : Fin 64) (f : Frame) (l : List Frame) (b j : Nat), (s.strm i).frames = f :: l → f.nextBand = some b →
    (s.strm i).job = some j → b < f.bands.length →
    ∃ g : Frame, ((g.bands.map (·.released)).getD b false = true) ∧ g.seq = f.seq ∧ g.outs = f.outs ∧
      g.bands.length = f.bands.length ∧
      let u := forEach f.outs (fun o s => s.bandDesc i j g b o) (s.setFrame i { g with extra := f.extra, widthLines := f.widthLines
                                                                                       crcs := f.crcs, rows := f.rows })
      exec (.bandRelease i) s = .next (if g.released = g.bandCount then
        (match u.frameOf i f.seq with
        | some x => u.closeFrame i x false false
        | none => u)
        else u).settle)

/-- The deadline guard, deadlines and the pool watchdog (R225, R226, R233, R235): the guard drops nothing while every open item is
projected to finish in time, drops an item that only its engine's slip makes late with cause SLIP, and otherwise a victim with cause
OVERLOAD; a band or step unfinished at its deadline is dropped with cause DEADLINE; the watchdog hands one waiting job to the fault
manager for a restart; SCHED_ARB_SEL starts its counts anew. -/
def Obligations.DeadlinesAndWatchdog : Prop :=
  (∀ s : State, s.settled → (∀ x ∈ s.openItems, s.project x true ≤ x.deadline) → exec .guardEvaluate s = .next s) ∧
  (∀ (s : State) (x : Item), s.openItems = [x] → x.deadline < s.project x true → s.project x false ≤ x.deadline →
    exec .guardEvaluate s = .next (s.dropItem x 1).settle) ∧
  (∀ (s : State) (x : Item), s.openItems = [x] → x.deadline < s.project x true → x.deadline < s.project x false →
    exec .guardEvaluate s = .next (s.dropItem x 2).settle) ∧
  (∀ (s : State) (i j q b : Nat) (f : Frame) (x : Band), s.frameOf i q = some f → f.bands[b]? = some x → x.ready.isSome = true →
    x.complete = false → (s.strm i).job = some j →
    ∃ u : State, exec (.bandDeadline (.stream i) q b) s = .next u.settle ∧ u = s.dropBand i f b 3 0 ∧
      bitAt (u.reg pgSched 0x10) 0 = true) ∧
  (∀ (s : State) (i q b : Nat) (f : Frame) (x : Band), s.settled → s.frameOf i q = some f → f.bands[b]? = some x →
    (x.ready = none ∨ x.complete = true) → exec (.bandDeadline (.stream i) q b) s = .next s) ∧
  (∀ (s : State) (j q b : Nat) (x : Job), s.job j = some x → x.stepUnits ≠ [] →
    ∃ u : State, exec (.bandDeadline (.job j) q b) s = .next u.settle ∧
      u.reg pgSched 0x24 = BitVec.ofNat 32 (schedCause 3 (64 + j) j 0) ∧ bitAt (u.reg pgSched 0x10) 0 = true) ∧
  (∀ (s : State) (l : List (Fin 72)), s.settled → s.watchdogJob (l.map (·.val)) = none → exec (.poolWatchdog l) s = .next s) ∧
  (∀ (s : State) (l : List (Fin 72)) (j : Nat), s.watchdogJob (l.map (·.val)) = some j → j < 8 →
    ∃ u : State, exec (.poolWatchdog l) s = .next u.settle ∧ u.flt.due = s.flt.due ++ [.restart j 0x1E] ∧
      u.rfld pgSched 0x104 0 8 = satAdd 8 (s.rfld pgSched 0x104 0 8) 1 ∧ u.rfld pgSched 0x104 8 3 = j ∧
      bitAt (u.reg pgSched 0x10) 3 = true ∧ bitAt (u.reg pgFlt 0x10) 0 = true ∧
      u.reg pgFlt 0x24 = BitVec.ofNat 32 (0x1E + 65536 * j) ∧ s.sameMemory u) ∧
  (∀ (s : State) (w : Word), s.settled →
    exec (.arbSelect w) s = .next (((s.setReg pgSched 0x120 (w &&& 0xFFFFF)).setReg pgSched 0x124 0).setReg pgSched 0x128 0))

/-- START and REARM (R211, R216, R217, R375): a command takes effect for the binding that its command block holds, and one without a
block, or with the other MODE, has none; the loader takes no command while it is busy or the device self-test runs; a job restart in
progress keeps the command for a BUSY answer; a device outside ACTIVE first moves there; the first check of Table 09-7 that fails answers
the command with its result; a command that passes them all is under way. -/
def Obligations.StartCommands : Prop :=
  (∀ (s : State) (c : StartCmd), s.settled → (s.startBlock c.tag.toNat = none ∨ s.loaderFree = false ∨ s.bistRuns = true) →
    exec (.jobStart c) s = .next s ∧ exec (.jobRearm c) s = .next s) ∧
  (∀ (s : State) (c : StartCmd) (b : Binding), s.settled → s.startBlock c.tag.toNat = some b →
    (b.mode = 1 → exec (.jobStart c) s = .next s) ∧ (b.mode ≠ 1 → exec (.jobRearm c) s = .next s)) ∧
  (∀ (s : State) (c : StartCmd) (b : Binding), s.settled → s.startBlock c.tag.toNat = some b → s.loaderFree = true →
    s.bistRuns = false → s.restarts = true →
    let t : State := { s with sup := { s.sup with busy := s.sup.busy ++ [(1, b.job, c.tag.toNat)] } }
    (b.mode ≠ 1 → exec (.jobStart c) s = .next t) ∧ (b.mode = 1 → exec (.jobRearm c) s = .next t)) ∧
  (∀ (s : State) (c : StartCmd) (b : Binding), s.startBlock c.tag.toNat = some b → s.loaderFree = true → s.bistRuns = false →
    s.restarts = false → (s.pwr.state ≠ .active ∨ s.pwr.trans.isSome = true) →
    (b.mode ≠ 1 → exec (.jobStart c) s = .next s.toActive.settle) ∧ (b.mode = 1 → exec (.jobRearm c) s = .next s.toActive.settle)) ∧
  (∀ (s : State) (c : StartCmd) (b : Binding) (v : Verdict), s.startBlock c.tag.toNat = some b → s.loaderFree = true →
    s.bistRuns = false → s.restarts = false → s.pwr.state = .active → s.pwr.trans = none → s.loadFault b c = some v →
    (b.mode ≠ 1 → exec (.jobStart c) s = .next (s.complete 1 b.job c.tag.toNat v b.eventQ).settle) ∧
    (b.mode = 1 → exec (.jobRearm c) s = .next (s.complete 1 b.job c.tag.toNat v b.eventQ).settle)) ∧
  (∀ (s : State) (c : StartCmd) (b : Binding), s.settled → s.startBlock c.tag.toNat = some b → s.loaderFree = true →
    s.bistRuns = false → s.restarts = false → s.pwr.state = .active → s.pwr.trans = none → s.loadFault b c = none →
    let m := s.imageFor b c
    let t : State := { s with load := some ⟨c.tag.toNat, b, m, s.placesOf m (s.residentImage m).isSome⟩ }
    (b.mode ≠ 1 → exec (.jobStart c) s = .next t) ∧ (b.mode = 1 → exec (.jobRearm c) s = .next t)) ∧
  (∀ (s : State) (c j tag q : Nat) (v : Verdict), (s.queue q).ctx.en = false → bitAt (s.reg pgNet 0x100) 31 = false →
    s.sup.cmds.all (fun x => x.1 != tag) = true →
    let r := leBytes 2 v.code ++ leBytes 2 v.section_ ++ leBytes 4 v.index ++ leBytes 4 v.need ++ leBytes 4 v.have_ ++ leBytes 4 tag
    s.complete c j tag v q = { s with sup := { s.sup with result := r } })

/-- The commit (R139, R211, R212, R216): it waits for the supervisor, is refused on the engines that a fence has left, and otherwise
takes the image, the streams, the queues and the job in one step before memory is filled and the command answered. -/
def Obligations.LoaderCommits : Prop :=
  (∀ s : State, s.load = none → exec .loaderCommit s = .next s.checkJoins.settle) ∧
  (∀ (s : State) (l : Load) (v : Verdict), s.load = some l → s.ready = true →
    ({ s with load := none } : State).commitFault l.bind l.img = some v →
    exec .loaderCommit s =
      .next ((({ s with load := none } : State).complete 1 l.bind.job l.tag v l.bind.eventQ).checkJoins).settle) ∧
  (∀ (s : State) (l : Load) (e : BindEntry), s.load = some l → s.ready = true → l.bind.mode ≠ 1 → l.img.kind = 0 →
    s.residentImage l.img = none → ({ s with load := none } : State).commitFault l.bind l.img = none →
    l.bind.entries = [e] → (∀ i, (s.strm i).job ≠ some l.bind.job) →
    let j := l.bind.job
    ∃ (p : State) (r : Job), p.job j = some r ∧ r.bind = l.bind ∧ r.digest = l.img.digest ∧ r.phase = .running ∧ r.due = [] ∧
      p.load = none ∧ p.images = s.images ++ [⟨l.bind.imageAddr, l.bind.imageSize, l.img⟩] ∧
      (p.strm e.stream).job = some j ∧ (p.strm e.stream).entry = some e ∧ (p.strm e.stream).resetDue = 1 ∧
      (p.strm e.stream).nextSeq = Strm.init.nextSeq ∧ (∀ q ∈ e.queues, (p.queue q).ctx.owner = j) ∧ s.sameMemory p ∧
      let w := forEach (List.range 6) (fun t s => s.powerFor t) (p.placeRegions j l.img false l.places)
      let u := (((w.fillPersist j).placePrograms).judgeShed).joinDue l.bind.groupId
      exec .loaderCommit s = .next (((u.complete 1 j l.tag (.at_ 0 0 (u.strm r.lowest).nextSeq)
        l.bind.eventQ).checkJoins).settle)) ∧
  (∀ (s : State) (l : Load), s.settled → s.load = some l → s.ready = false → exec .loaderCommit s = .next s.checkJoins.settle)

/-- STOP commands and group commands (R215, R217, R323, R324): a command takes effect as its command block says, and has none without
one; a stop of a slot without a job is answered BINDING, another stops the job and
is answered DONE; held streams are released only when the slot holds all of them; a group is defined or cleared when no rule refuses
it, and a group that a job uses is not cleared. -/
def Obligations.StopsAndGroups : Prop :=
  (∀ (s : State) (j g : Fin 256) (m : BitVec 64) (d : GroupDef) (w : Word), s.settled → s.nextBlock w.toNat = none →
    exec (.jobStop j w) s = .next s ∧ exec (.jobHold j w) s = .next s ∧ exec (.streamRelease j m w) s = .next s ∧
    exec (.groupDefine g d w) s = .next s ∧ exec (.groupClear g w) s = .next s) ∧
  (∀ (s : State) (j : Fin 256) (w : Word), s.loaderFree = true → s.restarts = false → s.job j = none →
    (s.stopBlock w.toNat j 0 = true → exec (.jobStop j w) s = .next (s.complete 2 j w.toNat (.bare 0x16 0) 0xFFFF).settle) ∧
    (s.stopBlock w.toNat j 1 = true → exec (.jobHold j w) s = .next (s.complete 2 j w.toNat (.bare 0x16 0) 0xFFFF).settle)) ∧
  (∀ (s : State) (j : Fin 256) (w : Word) (x : Job), s.loaderFree = true → s.restarts = false → s.job j = some x →
    (s.stopBlock w.toNat j 0 = true →
      exec (.jobStop j w) s = .next ((s.stopJob j 0 false).complete 2 j w.toNat (.bare 0 0) x.bind.eventQ).settle) ∧
    (s.stopBlock w.toNat j 1 = true →
      exec (.jobHold j w) s = .next ((s.stopJob j 0 true).complete 2 j w.toNat (.bare 0 0) x.bind.eventQ).settle)) ∧
  (∀ (s : State) (j : Nat) (e : BindEntry), (s.letGo j e true).strm e.stream = { s.strm e.stream with
    held := true, job := some j, frames := [], stalled := false, shedTest := false, shedHeat := false }) ∧
  (∀ (s : State) (j : Nat) (e : BindEntry), e.stream < 64 → (s.letGo j e false).strm e.stream = Strm.init ∧
    ∀ q ∈ e.queues, ((s.letGo j e false).queue q).ctx.owner = 0xFF) ∧
  (∀ (s : State) (j : Fin 256) (m : BitVec 64) (w : Word), s.stopBlock w.toNat j 2 = true → s.releaseMask w.toNat = m.toNat →
    s.loaderFree = true → s.restarts = false →
    ((bitsOf 64 m.toNat).all fun i => (s.strm i).held && (s.strm i).job == some j.val) = false →
    exec (.streamRelease j m w) s = .next (s.complete 2 j w.toNat (.bare 0x16 0) 0xFFFF).settle) ∧
  (∀ (s : State) (j : Fin 256) (m : BitVec 64) (w : Word), s.stopBlock w.toNat j 2 = true → s.releaseMask w.toNat = m.toNat →
    s.loaderFree = true → s.restarts = false →
    (∀ i ∈ bitsOf 64 m.toNat, (s.strm i).held = true ∧ (s.strm i).job = some j.val) →
    exec (.streamRelease j m w) s =
      .next ((forEach (bitsOf 64 m.toNat) (fun i s => s.releaseHeld i) s).complete 2 j w.toNat (.bare 0 0) 0xFFFF).settle) ∧
  (∀ (s : State) (g : Fin 256) (d : GroupDef) (w : Word), s.defineBlock w.toNat g d = true → s.loaderFree = true →
    s.restarts = false → s.groupRefusedDef g d = true →
    exec (.groupDefine g d w) s = .next (s.complete 3 0 w.toNat (.bare 0x1F 0) 0xFFFF).settle) ∧
  (∀ (s : State) (g : Fin 256) (d : GroupDef) (w : Word), s.defineBlock w.toNat g d = true → s.loaderFree = true →
    s.restarts = false → s.groupRefusedDef g d = false →
    ∃ p : State, p.group g = some ⟨d.members, d.self, [], [], [], false⟩ ∧ p = (s.closeGroup g).setGroup g (p.group g) ∧
      exec (.groupDefine g d w) s = .next ((forEach (d.members.zipIdx.filter fun m => m.2 != d.self)
        (fun m s => s.startPeer g m.1 m.2) p).complete 3 0 w.toNat (.bare 0 0) 0xFFFF).settle) ∧
  (∀ (s : State) (g : Fin 256) (w : Word) (j : Nat) (x : Job), s.clearBlock w.toNat g = true → s.loaderFree = true →
    s.restarts = false → j < 8 → s.job j = some x →
    x.bind.groupId = g.val → g.val ≠ 0 →
    exec (.groupClear g w) s = .next (s.complete 4 0 w.toNat (.bare 0x1F 0) 0xFFFF).settle) ∧
  (∀ (s : State) (g : Fin 256) (w : Word), s.clearBlock w.toNat g = true → s.loaderFree = true → s.restarts = false →
    (∀ j x, s.job j = some x → x.bind.groupId ≠ g.val) →
    exec (.groupClear g w) s = .next (((s.closeGroup g).setGroup g none).complete 4 0 w.toNat (.bare 0 0) 0xFFFF).settle)

/-- Tensor steps (R213, R214): a step starts only for a running tensor job in ACTIVE with nothing open; one that its source voided or whose
shape gives no output is voided with its number kept; one whose shape exceeds a bound is answered with SHAPE_OVER; any other gets its
buffers, and its units are placed. -/
def Obligations.TensorSteps : Prop :=
  (∀ (s : State) (j : Fin 8), s.settled → ((s.job j).all fun x => x.due.isEmpty || x.kind != 1 || x.phase != .running ||
      x.open_.isSome || s.pwr.state != .active || s.stepWaits j) = true → exec (.tensorStepStart j) s = .next s) ∧
  (∀ (s : State) (j : Fin 8) (x : Job) (m : Image) (d : StepDue) (l : List StepDue), s.job j = some x → s.jobImage j = some m →
    x.due = d :: l → x.kind = 1 → x.phase = .running → x.open_ = none → s.pwr.state = .active → s.stepWaits j = false →
    let o : Job := { x with due := l, open_ := some d }
    let p := s.setJob j (some o)
    (d.void ≠ 0 → exec (.tensorStepStart j) s = .next (p.voidOpen j o d.void).settle) ∧
    (d.void = 0 → (d.shape.zip m.shapes).any (fun z => decide (z.2 < z.1)) = true →
      exec (.tensorStepStart j) s = .next (p.shapeOver j { x with due := l } d).settle) ∧
    (d.void = 0 → (d.shape.zip m.shapes).any (fun z => decide (z.2 < z.1)) = false → m.nothing d.shape = true →
      exec (.tensorStepStart j) s = .next (p.voidOpen j o 0).settle) ∧
    (0 ∈ d.shape → m.nothing d.shape = true) ∧
    (d.void = 0 → (d.shape.zip m.shapes).any (fun z => decide (z.2 < z.1)) = false → m.nothing d.shape = false → x.shed = false →
      p.stepBuffers x.bind.outQ (m.outBytes d.shape) = none →
      exec (.tensorStepStart j) s = .next ((p.noSpace x.bind.outQ (stepDesc j x 7 d.flags d.seq 0 0 0)).endStep j o).settle) ∧
    (∀ (u : State) (b : List (Nat × Nat)), d.void = 0 → (d.shape.zip m.shapes).any (fun z => decide (z.2 < z.1)) = false →
      m.nothing d.shape = false → x.shed = false → p.stepBuffers x.bind.outQ (m.outBytes d.shape) = some (u, b) →
      let n := (m.unitsOf x.variant).length
      ∃ y : Job, y.open_ = some d ∧ y.due = l ∧ y.stepBufs = b ∧ y.step = x.step ∧ y.stepVariant = x.variant ∧
        y.stepUnits = List.replicate n .placed ∧
        exec (.tensorStepStart j) s = .next (((u.setJob j (some y)).placeStep j).guard.settle)))

/-- A read of a RETIRED page returns zero with valid indication 0 and the error indication; a write to it is discarded; either raises
RETIRED_ACCESS and records the requester in ERR_CAUSE (R266). -/
def Obligations.RetiredPages : Prop :=
  (∀ (s : State) (r : Fin 11) (f : Fin 128) (a : Nat) (up : List (Nat × Nat)), s.settled → inDram a 1 = true →
    s.dram.draining = false → s.pageState (pageNum a) = 3 → lockOf s.dram (pageNum a) = none →
    ∃ t, exec (.dramRead r f a up) s = .next t ∧
      (∃ x, t.dram.resp = [x] ∧ x.req = r.val ∧ x.data = List.replicate 64 0 ∧ x.valid = false ∧ x.error = true) ∧
      bitAt (t.reg pgDrc 0x10) 4 = true ∧ t.rfld pgDrc 0x24 8 4 = r.val ∧ s.sameMemory t) ∧
  (∀ (s : State) (r : Fin 11) (f : Fin 128) (a : Nat) (b : List (Option Byte)), s.settled → inDram a 1 = true →
    s.dram.draining = false → 1 ≤ b.length → a % 64 + b.length ≤ 64 → s.pageState (pageNum a) = 3 → lockOf s.dram (pageNum a) = none →
    ∃ t, exec (.dramWrite r f a b) s = .next t ∧ t.dram = { s.dram with resp := [] } ∧
      bitAt (t.reg pgDrc 0x10) 4 = true ∧ t.rfld pgDrc 0x24 8 4 = r.val ∧ s.sameMemory t)

/-- Reads and writes (R246 to R248, R251, R254 to R256): no access is accepted while a reset drains; an access to a locked page waits at
its lock in order; an INVALID page reads as zero
without its valid indication; a sector without errors reads as its stored bytes with the merge entry over them; a read that needs a
reconstruction takes the lock; a write merges into the entry of its page, later bytes over earlier ones. -/
def Obligations.DramAccesses : Prop :=
  (∀ (s : State) (r : Fin 11) (f : Fin 128) (a n : Nat) (b : List (Option Byte)) (up : List (Nat × Nat)), s.settled →
    inDram a 1 = true → s.dram.draining = true →
    let t : State := { s with dram := { s.dram with resp := [] } }
    exec (.dramRead r f a up) s = .next t ∧ (1 ≤ b.length → a % 64 + b.length ≤ 64 → exec (.dramWrite r f a b) s = .next t) ∧
    (inDram a n = true → exec (.dramInvalidate r a n) s = .next t)) ∧
  (∀ (s : State) (r : Fin 11) (f : Fin 128) (a : Nat) (b : List (Option Byte)) (l : PageLock), s.settled → inDram a 1 = true →
    s.dram.draining = false → 1 ≤ b.length → a % 64 + b.length ≤ 64 → s.dram.locks = [l] → l.page = pageNum a → l.copy = false →
    (∃ t, exec (.dramWrite r f a b) s = .next t ∧ t.dram.locks = [{ l with waits := l.waits ++ [.write r a b s.clk.up] }] ∧
      t.dram.merge = s.dram.merge ∧ s.sameMemory t) ∧
    (∀ up, ∃ t, exec (.dramRead r f a up) s = .next t ∧ t.dram.locks = [{ l with waits := l.waits ++ [.read r a s.clk.up] }] ∧
      t.dram.resp = [] ∧ s.sameMemory t)) ∧
  (∀ (s : State) (r : Fin 11) (f : Fin 128) (a : Nat) (up : List (Nat × Nat)), s.settled → inDram a 1 = true →
    s.dram.draining = false → s.pageState (pageNum a) = 0 → lockOf s.dram (pageNum a) = none → s.mergeOf (pageNum a) = none →
    ∃ t, exec (.dramRead r f a up) s = .next t ∧
      t.dram.resp = [⟨r, 64 * (a / 64), List.replicate 64 0, false, false, false⟩] ∧ s.sameMemory t) ∧
  (∀ (s : State) (r : Fin 11) (f : Fin 128) (a : Nat), inDram a 1 = true →
    s.dram.draining = false → s.pageState (pageNum a) = 1 → lockOf s.dram (pageNum a) = none → s.failedLanes (chanOf (pageNum a)) = 0 →
    (∀ w, w < 146 → s.flip (pageNum a) w = 0) →
    ∃ u : State, exec (.dramRead r f a []) s = .next u.settle ∧ s.sameMemory u ∧
      u.dram.resp = [⟨r, 64 * (a / 64), (List.range 64).map (fun i =>
        ((s.mergeOf (pageNum a)).bind fun m => mergeByte m (64 * ((a - dramBase) % 1024 / 64) + i)).getD (s.byte (64 * (a / 64) + i))),
        true, false, false⟩]) ∧
  (∀ (s : State) (r : Fin 11) (f : Fin 128) (a : Nat), s.settled → inDram a 1 = true → s.dram.draining = false →
    lockOf s.dram (pageNum a) = none → s.needsRecon (pageNum a) ((a - dramBase) % 1024 / 64) = true →
    ∃ t, exec (.dramRead r f a []) s = .next t ∧ t.dram.resp = [] ∧ s.sameMemory t ∧
      t.dram.locks = s.dram.locks ++ [⟨pageNum a, false, r, s.clk.up, [.read r a s.clk.up]⟩]) ∧
  (∀ (s : State) (r : Fin 11) (f : Fin 128) (a : Nat) (b : List (Option Byte)), s.settled → inDram a 1 = true →
    s.dram.draining = false → 1 ≤ b.length → a % 64 + b.length ≤ 64 → s.pageState (pageNum a) ≠ 3 → lockOf s.dram (pageNum a) = none →
    let e := (s.mergeOf (pageNum a)).getD ⟨pageNum a, [], s.clk.up⟩
    let m := mergeBytes e.bytes ((a - dramBase) % 1024) b
    m.length ≠ 1024 → s.mergeCount (chanOf (pageNum a)) < 23 →
    ∃ t, exec (.dramWrite r f a b) s = .next t ∧ t.mergeOf (pageNum a) = some { e with bytes := m } ∧
      (∀ q, q ≠ pageNum a → t.mergeOf q = s.mergeOf q) ∧ s.sameMemory t)

/-- Drains, reconstructions and invalidations (R248 to R257, R259): a drain stores the written bytes and makes their
sectors valid; the last drain of a reset ends it and the DRAM enters self-refresh; a page-check entry that fails its parity is
discarded; a reconstruction removes the page's errors or loses sectors with UE, and frees the lock; whole pages in a range become
INVALID and the sectors of the others lose their valid indication, without a change of data; a misaligned range is refused with ALIGN;
a leak lowers every bucket by one. -/
def Obligations.DrainsAndErrors : Prop :=
  (∀ (s : State) (p : Nat), s.settled → s.mergeOf p = none → s.dram.draining = false →
    exec (.mergeDrain p ⟨[], false⟩) s = .next { s with dram := { s.dram with resp := [] } } ∧
    exec (.mergeDrain p ⟨[], true⟩) s = .next (({ s with dram := { s.dram with resp := [] } } : State).dropCached p)) ∧
  (∀ (s : State) (p : Nat), s.settled → s.dram.merge = [] → s.dram.draining = true →
    exec (.mergeDrain p ⟨[], false⟩) s = .next { s with dram := { s.dram with resp := [], draining := false, selfRefresh := true } }) ∧
  (∀ (s : State) (p : Nat), (s.dropCached p).cachedChecks p = none ∧
    ∀ q, q ≠ p → (s.dropCached p).cachedChecks q = s.cachedChecks q) ∧
  (∀ (s : State) (p : Nat) (m : Merge), s.mergeOf p = some m → lockOf s.dram p = none → s.pageState p ≠ 3 →
    s.failedLanes (chanOf p) = 0 → (∀ w, w < 146 → s.flip p w = 0) →
    ∃ u : State, exec (.mergeDrain p ⟨[], false⟩) s = .next u.settle ∧ u.mergeOf p = none ∧
      u.validMask p = s.validMask p ||| mergeSectors m ∧
      (∀ o b, o < 1024 → mergeByte m o = some b → u.byte (pageAddr p + o) = b) ∧
      (∀ o, o < 1024 → mergeByte m o = none → (s.validMask p).testBit (o / 64) = true →
        u.byte (pageAddr p + o) = s.byte (pageAddr p + o)) ∧ s.sameMemoryBut u (pageAddr p) 1024) ∧
  (∀ (s : State) (p : Nat), s.settled → (∀ l ∈ s.dram.locks, l.page = p → l.copy = true) →
    exec (.reconstructDone p) s = .next { s with dram := { s.dram with resp := [] } }) ∧
  (∀ (s : State) (p : Nat) (l : PageLock), s.dram.locks = [l] → l.page = p → l.copy = false → l.waits = [] →
    s.recovers p = true → s.metaLost p = false →
    ∃ u : State, exec (.reconstructDone p) s = .next u.settle ∧ (∀ w, w < 146 → u.flip p w = 0) ∧ s.sameMemory u) ∧
  (∀ (s : State) (p : Nat) (l : PageLock), s.dram.locks = [l] → l.page = p → l.copy = false → l.waits = [] →
    s.recovers p = false → s.metaLost p = false →
    ∃ u : State, exec (.reconstructDone p) s = .next u.settle ∧ u.validMask p &&& s.badSectors p = 0 ∧
      bitAt (u.reg pgDrc 0x10) 1 = true ∧ .ue p ∈ u.flt.due ∧ s.sameMemoryBut u (pageAddr p) 1024) ∧
  (∀ (s : State) (r : Fin 11) (a n : Nat), s.settled → inDram a n = true → s.dram.draining = false → (a % 64 ≠ 0 ∨ n % 64 ≠ 0) →
    exec (.dramInvalidate r a n) s = .next (({ s with dram := { s.dram with resp := [] } } : State).cause pgDrc
      (drcCause 4 r (pageNum a)) (pageAddr (pageNum a)))) ∧
  (∀ (s : State) (r : Fin 11) (a n : Nat), s.settled → inDram a n = true → a % 64 = 0 → n % 64 = 0 → 0 < n →
    s.dram.draining = false → s.dram.locks = [] → s.dram.merge = [] →
    ∃ t, exec (.dramInvalidate r a n) s = .next t ∧ s.sameMemory t ∧
      (∀ p, a ≤ pageAddr p → pageAddr p + 1024 ≤ a + n → s.pageState p ≠ 3 → t.validMask p = 0) ∧
      (∀ p, p < 0x800000 → s.validMask p < 65536 → t.validMask p = s.validMask p - (s.validMask p &&& coverMask p a n))) ∧
  (∀ s : State, s.settled → exec .bucketLeak s = .next { s with dram := { s.dram with
    resp := [], buckets := (s.dram.buckets.map fun e => (e.1, leak s.thresh e.2)).filter fun e => e.2 != ⟨0, false⟩ } })

/-- Scrubbing, repairs and imports (R260 to R267): the scrubber does nothing while it is off, and raises SCRUB_PASS when no page is left to
visit; REPAIR_ADD asks for a copy of the row, or retires the page when its bank has no spare; the copy makes the repair soft and raises
SPARED; PERMIT starts a burn in IDLE and is refused in ACTIVE; a second import is refused while one runs; an import ends with its
copies. -/
def Obligations.ScrubsAndRepairs : Prop :=
  (∀ (s : State), s.settled → (bitAt (s.reg pgDrc 8) 0 = false ∨ s.dram.selfRefresh = true) →
    exec (.scrubVisit []) s = .next { s with dram := { s.dram with resp := [] } }) ∧
  (∀ (s : State), s.settled → bitAt (s.reg pgDrc 8) 0 = true → s.dram.selfRefresh = false → s.dram.state = [] →
    s.dram.scrubSkip = [] → s.dram.scrubPage ≠ 0 →
    ∃ t, exec (.scrubVisit []) s = .next t ∧ t.dram.scrubPage = 0 ∧ bitAt (t.reg pgDrc 0x10) 5 = true ∧
      t.rfld pgDrc 0x104 24 8 = satAdd 8 (s.rfld pgDrc 0x104 24 8) 1 ∧ s.sameMemory t) ∧
  (∀ (s : State) (p : Nat) (l : List Nat), bitAt (s.reg pgDrc 8) 0 = true → s.dram.selfRefresh = false →
    s.dram.scrubSkip = [] → s.scrubList s.dram.scrubPage = p :: l → s.scrubBusy p = false → s.scrubList (p + 1) ≠ [] →
    s.failedLanes (chanOf p) = 0 → (∀ w, w < 146 → s.flip p w = 0) →
    ∃ u : State, exec (.scrubVisit []) s = .next u.settle ∧ u.dram.scrubPage = p + 1 ∧ u.dram.locks = s.dram.locks ∧ s.sameMemory u) ∧
  (∀ (s : State) (w : Word), s.settled → (s.dram.copies.map (·.1)).contains (fld w 0 23) = false → s.pageState (fld w 0 23) ≠ 3 →
    s.sparesUsed (bankKey (fld w 0 23)) < 32 →
    exec (.repairAdd w) s = .next { s with dram := { s.dram with
      resp := [], copies := s.dram.copies ++ [(fld w 0 23, 12)]
      locks := s.dram.locks ++ [⟨fld w 0 23, true, 12, s.clk.up, []⟩] } }) ∧
  (∀ (s : State) (w : Word), (s.dram.copies.map (·.1)).contains (fld w 0 23) = false → s.pageState (fld w 0 23) ≠ 3 →
    32 ≤ s.sparesUsed (bankKey (fld w 0 23)) →
    ∃ u : State, exec (.repairAdd w) s = .next u.settle ∧ u.pageState (fld w 0 23) = 3 ∧ bitAt (u.reg pgDrc 0x10) 3 = true ∧
      u.rfld pgDrc 0x24 8 4 = 12 ∧ u.flt.due = s.flt.due ++ [.retired (fld w 0 23)] ∧ s.sameMemory u) ∧
  (∀ (s : State) (p k : Nat), s.dram.copies = [(p, k)] → s.dram.locks = [] → s.pageState p = 0 → s.mergeOf p = none →
    ∃ u : State, exec (.spareCopyDone p) s = .next u.settle ∧ u.dram.soft = s.dram.soft ++ [p] ∧ u.dram.copies = [] ∧
      u.pageState p = 0 ∧ bitAt (u.reg pgDrc 0x10) 2 = true ∧ s.sameMemory u) ∧
  (∀ (s : State) (n : Fin 32) (w : Word), s.settled → bitAt w 0 = true → s.owned = true → (s.sess n).peer = false →
    (s.sess n).unowned = false → s.dram.burning = none → s.pwr.state = .idle → s.pwr.trans = none → 0 < s.fuse.fieldLeft →
    exec (.repairBurn n w) s = .next { s with dram := { s.dram with resp := [], burning := some s.clk.up } }) ∧
  (∀ (s : State) (n : Fin 32) (w : Word), s.settled → bitAt w 0 = true → s.owned = true → (s.sess n).peer = false →
    (s.sess n).unowned = false → s.dram.burning = none → s.pwr.state = .active →
    exec (.repairBurn n w) s = .next (({ s with dram := { s.dram with resp := [] } } : State).cause pgDrc (drcCause 5 0 0) 0)) ∧
  (∀ s : State, s.dram.burning.isSome = true →
    ∃ u : State, exec .burnDone s = .next u.settle ∧ u.dram.burning = none ∧ bitAt (u.reg pgDrc 0x10) 6 = true ∧ s.sameMemory u) ∧
  (∀ (s : State) (w : Word), s.settled → bitAt w 0 = true → s.dram.importing = true →
    exec (.importGo w) s = .next (({ s with dram := { s.dram with resp := [] } } : State).cause pgDrc (drcCause 6 12 0) 0)) ∧
  (∀ (s : State) (w : Word) (r : State × RangeRead), bitAt w 0 = true → s.dram.importing = false →
    (let a := (s.reg pgDrc 0x138).toNat + 2 ^ 32 * s.rfld pgDrc 0x13C 0 16
     dramBase ≤ a ∧ a + 2048 ≤ dramEnd ∧ s.quiet.dramRead 12 a 2048 = r) → importList 256 r.2.data = [] →
    ∃ u : State, exec (.importGo w) s = .next u.settle ∧ u.dram.importing = true ∧ u.rfld pgDrc 0x140 16 8 = 0) ∧
  (∀ s : State, s.settled → s.dram.importing = true → (s.dram.copies.any fun c => c.2 == 12) = false →
    ∃ t, exec .importDone s = .next t ∧ t.dram.importing = false ∧ bitAt (t.reg pgDrc 0x10) 7 = true ∧ s.sameMemory t)

/-- Lane visits (R271 to R277): a visit starts at the next lane while calibration is on and none is under way; a swatch gives the lowest
tap at half of the transitions and the midpoint of the run of thresholds without a mismatch; a pass beyond the limits
takes the gusset lane out of service in step 2 and makes it keep the failed lane's traffic in step 4; the first pass of a direction is
kept; two passes within two steps give the direction their mean, with the coarse phase moved near an end of the range; three passes
without a pair count a disagreement and leave the lane's values. -/
def Obligations.LaneVisits : Prop :=
  (∀ (s : State) (c : Fin 128) (g : Fin 2), s.settled → (bitAt (s.reg pgCal 8) 0 = false ∨ s.dram.selfRefresh = true ∨
      s.visit c g ≠ none ∨ s.nextLane c g = none) → exec (.laneVisitStart c g) s = .next s) ∧
  (∀ (s : State) (c : Fin 128) (g : Fin 2) (k : Nat), s.settled → bitAt (s.reg pgCal 8) 0 = true → s.dram.selfRefresh = false →
    s.visit c g = none → s.nextLane c g = some k →
    exec (.laneVisitStart c g) s = .next (s.setVisit c g (some ⟨k, false, false, [], s.lane c k⟩))) ∧
  (∀ (s : State) (c : Fin 128) (g : Fin 2) (m : Swatch), s.settled → (s.visit c g = none ∨ m.complete = false) →
    exec (.calPassDone c g m) s = .next s) ∧
  (∀ (s : State) (c : Fin 128) (g : Fin 2) (m : Swatch) (v : Visit), s.visit c g = some v → m.complete = true →
    32 < m.spread ∨ m.run < 8 →
    ∃ u : State, exec (.calPassDone c g m) s = .next u.settle ∧ u.visit c g = none ∧ s.sameMemory u ∧
      (v.step4 = false → u.gusset c g = ⟨none, true⟩) ∧
      (v.step4 = true → v.lane < 72 → u.gusset c g = ⟨some v.lane, false⟩ ∧ bitAt (u.reg pgCal 0x10) 0 = true)) ∧
  (∀ (s : State) (c : Fin 128) (g : Fin 2) (m : Swatch) (v : Visit), s.settled → s.visit c g = some v → v.passes = [] →
    m.complete = true → m.spread ≤ 32 → 8 ≤ m.run →
    exec (.calPassDone c g m) s =
      .next ((s.swept m).setVisit c g (some { v with passes := [((s.passOf m).fine, (s.passOf m).thr)] }))) ∧
  (∀ (s : State) (c : Fin 128) (g : Fin 2) (m : Swatch) (v : Visit) (a : Nat × Nat), s.visit c g = some v → v.passes = [a] →
    m.complete = true → m.spread ≤ 32 → 8 ≤ m.run → passAgree a ((s.passOf m).fine, (s.passOf m).thr) = true →
    let i := if v.step4 then v.lane else 72 + g.val
    let n := ((a.1 + (s.passOf m).fine) / 2, (a.2 + (s.passOf m).thr) / 2)
    ∃ u : State, exec (.calPassDone c g m) s = .next u.settle ∧ (u.lane c i).valid = true ∧
      (if v.write then (u.lane c i).wr = (s.lane c i).wr.apply n ∧ (u.lane c i).rd = (s.lane c i).rd ∧ (u.lane c i).disagree = 0
      else (u.lane c i).rd = (s.lane c i).rd.apply n ∧ (u.lane c i).wr = (s.lane c i).wr ∧
        u.visit c g = some { v with write := true, passes := [] }) ∧ s.sameMemory u) ∧
  (∀ (s : State) (c : Fin 128) (g : Fin 2) (m : Swatch) (v : Visit) (a b : Nat × Nat), s.visit c g = some v → v.passes = [a, b] →
    m.complete = true → m.spread ≤ 32 → 8 ≤ m.run → passAgree a ((s.passOf m).fine, (s.passOf m).thr) = false →
    passAgree b ((s.passOf m).fine, (s.passOf m).thr) = false →
    let i := if v.step4 then v.lane else 72 + g.val
    (s.lane c i).disagree = 0 →
    ∃ u : State, exec (.calPassDone c g m) s = .next u.settle ∧ (u.lane c i).disagree = 1 ∧ (u.lane c i).rd = (s.lane c i).rd ∧
      (u.lane c i).wr = (s.lane c i).wr ∧ bitAt (u.reg pgCal 0x10) 2 = true ∧
      u.rfld pgCal 0x20 0 16 = satAdd 16 (s.rfld pgCal 0x20 0 16) 1 ∧ s.sameMemory u) ∧
  (∀ a b : Nat × Nat, passAgree a b = true ↔ a.1 ≤ b.1 + 2 ∧ b.1 ≤ a.1 + 2 ∧ a.2 ≤ b.2 + 2 ∧ b.2 ≤ a.2 + 2) ∧
  (∀ (s : State) (m : Swatch) (k : Fin 64), m.delays[k].2 ≤ 2 * m.delays[k].1 → (∀ j : Fin 64, j < k → 2 * m.delays[j].1 < m.delays[j].2) →
    (s.passOf m).fine = k) ∧
  (∀ (s : State) (m : Swatch) (a b : Fin 64), a ≤ b → (∀ t : Fin 64, m.checks[t].2 = 0 ↔ a ≤ t ∧ t ≤ b) →
    m.run = b - a + 1 ∧ (s.passOf m).thr = (a + b) / 2) ∧
  (∀ (d : LaneDir) (v : Nat × Nat), d.apply v =
    if v.1 < 8 then ⟨v.1 + 52, v.2, d.coarse - 1⟩ else if 55 < v.1 then ⟨v.1 - 52, v.2, min 7 (d.coarse + 1)⟩ else ⟨v.1, v.2, d.coarse⟩)

/-- Camera lanes and the record (R278 to R280): a D-PHY port or one that receives nothing is not measured; two agreeing passes make a value
pend, which goes into the main sampler when it is applied; three disagreements in a row raise the event; a save takes the record at
its GO, which wakes the device from STANDBY, a second one is refused while it lasts, and its end stores the record at its address and raises SAVED. -/
def Obligations.CameraLanesAndSaves : Prop :=
  (∀ (s : State) (p : Fin 16) (l : Fin 4) (m : Swatch), s.settled → (p.val < 8 ∨ s.receives p = false ∨ m.complete = false) →
    exec (.camLaneMeasure p l m.delays m.checks) s = .next s) ∧
  (∀ (s : State) (p : Fin 16) (l : Fin 4) (m : Swatch), s.settled → 8 ≤ p.val → s.receives p = true → m.complete = true →
    (s.camLane p l).passes = [] →
    exec (.camLaneMeasure p l m.delays m.checks) s =
      .next ((s.swept m).setCamLane p l { s.camLane p l with passes := [((s.passOf m).fine, (s.passOf m).thr)] })) ∧
  (∀ (s : State) (p : Fin 16) (l : Fin 4) (m : Swatch) (a : Nat × Nat), s.settled → 8 ≤ p.val → s.receives p = true →
    m.complete = true → (s.camLane p l).passes = [a] → passAgree a ((s.passOf m).fine, (s.passOf m).thr) = true →
    ∃ u, exec (.camLaneMeasure p l m.delays m.checks) s = .next u ∧ s.sameMemory u ∧ u.camLane p l = { s.camLane p l with
      passes := [], pending := some ((a.1 + (s.passOf m).fine) / 2, (a.2 + (s.passOf m).thr) / 2), disagree := 0
      aged := s.clk.up, due := false }) ∧
  (∀ (s : State) (p : Fin 16) (l : Fin 4) (m : Swatch) (a b : Nat × Nat), s.settled → 8 ≤ p.val → s.receives p = true →
    m.complete = true → (s.camLane p l).passes = [a, b] → passAgree a ((s.passOf m).fine, (s.passOf m).thr) = false →
    passAgree b ((s.passOf m).fine, (s.passOf m).thr) = false → (s.camLane p l).disagree = 2 →
    ∃ u, exec (.camLaneMeasure p l m.delays m.checks) s = .next u ∧ s.sameMemory u ∧
      u.camLane p l = { s.camLane p l with passes := [], disagree := 3, due := false } ∧ bitAt (u.reg pgCal 0x10) 3 = true ∧
      u.reg pgCal 0x24 = BitVec.ofNat 32 (calCause 4 p l)) ∧
  (∀ (s : State) (p : Fin 16) (l : Fin 4), s.settled → (s.camLane p l).pending = none → exec (.camLaneApply p l) s = .next s) ∧
  (∀ (s : State) (p : Fin 16) (l : Fin 4) (n : Nat × Nat), s.settled → (s.camLane p l).pending = some n →
    exec (.camLaneApply p l) s = .next (s.setCamLane p l { s.camLane p l with
      fine := n.1, thr := n.2, valid := true, pending := none })) ∧
  (∀ (s : State) (w : Word), s.settled → bitAt w 0 = false → exec (.calSave w) s = .next s) ∧
  (∀ (s : State) (w : Word), s.settled → s.pwr.state ≠ .standby → s.pwr.trans = none → bitAt w 0 = true → s.cal.save.isSome = true →
    exec (.calSave w) s = .next (s.cause pgCal (calCause 8 0 0) 0)) ∧
  (∀ (s : State) (w : Word), s.settled → s.pwr.state ≠ .standby → s.pwr.trans = none → bitAt w 0 = true → s.cal.save = none →
    let a := (s.reg pgCal 0x100).toNat + 2 ^ 32 * (s.reg pgCal 0x104).toNat
    a % 128 = 0 → inDram a 39104 = true →
    exec (.calSave w) s = .next { s with cal := { s.cal with
      save := some (a, s.calRecord (Config.keyedShake (s.calRecord (List.replicate 32 0)) 32)) } }) ∧
  (∀ (s : State) (w : Word), bitAt w 0 = true → s.pwr.state = .standby → s.pwr.trans = none → s.tooHot = false →
    exec (.calSave w) s = .next ((((s.calSave w).event pgPmu 2).startTrans .idle false false)).settle) ∧
  (∀ (s : State) (r : Nat × List Byte), s.cal.save = some r →
    ∃ u : State, exec .saveDone s = .next u.settle ∧ u.cal.save = none ∧ bitAt (u.reg pgCal 0x10) 4 = true)

/-- Queue contexts (R284 to R286, R300): a word written while EN is 0 takes effect, and one that would change an enabled context is refused
with CTX_BUSY; EN = 1 with START_LOAD empties the ring at START_SEQ, or is refused with CTX_INVALID when a check fails; EN = 0 brings
the channel to rest. Doorbells (R289, R290): they are ignored while the queue manager is off, counted as ignored for PUSH and STREAM
queues, counted without effect when the value is not ahead, refused with DB_INVALID beyond the ring, and move AVAIL_SEQ otherwise. -/
def Obligations.QueueContextsAndDoorbells : Prop :=
  (∀ (s : State) (q : Fin 16384) (i : Fin 16) (w : Word), s.settled → (s.queue q).ctx.en = false → i.val ≠ 2 →
    exec (.queueContextWrite q i w) s = .next (s.setQueue q { s.queue q with ctx := ctxPut (s.queue q).ctx i w })) ∧
  (∀ (s : State) (q : Fin 16384) (i : Fin 16) (w : Word), s.settled → (s.queue q).ctx.en = true → i.val ≠ 2 →
    exec (.queueContextWrite q i w) s =
      .next (if ctxPut (s.queue q).ctx i w = (s.queue q).ctx then s else s.qmFail 2 3 q)) ∧
  (∀ (s : State) (q : Fin 16384) (w : Word), s.settled → (s.queue q).ctx.en = false → (s.queue q).ctx.owner = 0xFF →
    let n := ctxPut (s.queue q).ctx 2 (putFld w 8 1 1)
    (ctxOk n = true → n.startLoad = true → (s.chan n.channel).stopQ ≠ some q.val →
      exec (.queueEnable q w) s = .next (s.setQueue q ⟨{ n with
        prod := n.start, cons := n.start, avail := n.start, areaHead := 0, areaTail := 0, noSpacePend := 0 }, [], none, [], n.start⟩)) ∧
    (ctxOk n = true → n.startLoad = false → (s.chan n.channel).stopQ ≠ some q.val → (s.queue q).held = [] → (s.queue q).pend = none →
      exec (.queueEnable q w) s = .next (s.setQueue q { s.queue q with ctx := n })) ∧
    (ctxOk n = false → ∃ t, exec (.queueEnable q w) s = .next t ∧ (t.queue q).ctx.en = false ∧ bitAt (t.reg pgQm 0x10) 1 = true ∧
      t.reg pgQm 0x24 = BitVec.ofNat 32 (2 + 256 * q.val) ∧ s.sameMemory t)) ∧
  (∀ (s : State) (q : Fin 16384) (w : Word), s.settled → (s.queue q).ctx.en = true →
    let n := ctxPut (s.queue q).ctx 2 (putFld w 8 1 0)
    n.mode / 2 = (s.queue q).ctx.mode / 2 → n.log2 = (s.queue q).ctx.log2 → n.channel = (s.queue q).ctx.channel →
    (s.queue q).ctx.owner = 0xFF →
    ∃ t, exec (.queueDisable q w) s = .next t ∧ (t.queue q).ctx.en = false ∧ s.sameMemory t ∧
      ((s.chan n.channel).state = .idle → (t.chan n.channel).state = .stopped ∧ bitAt (t.reg pgDma 0x10) 1 = true) ∧
      ((s.chan n.channel).state = .active → (t.chan n.channel).state = .stopping)) ∧
  (∀ (s : State) (q : Fin 16384) (v : Word), s.settled → bitAt (s.reg pgQm 8) 0 = false → exec (.doorbell q v) s = .next s) ∧
  (∀ (s : State) (q : Fin 16384) (v : Word), s.settled → bitAt (s.reg pgQm 8) 0 = true → (s.queue q).ctx.dir = 0 →
    ((s.queue q).ctx.delivery = 1 ∨ (s.queue q).ctx.delivery = 2) →
    exec (.doorbell q v) s = .next (s.bump pgQm 0x104 0 16 1)) ∧
  (∀ (s : State) (q : Fin 16384) (v : Word), s.settled → bitAt (s.reg pgQm 8) 0 = true →
    ((s.queue q).ctx.dir = 1 ∨ ((s.queue q).ctx.dir = 0 ∧ (s.queue q).ctx.delivery ≠ 1 ∧ (s.queue q).ctx.delivery ≠ 2 ∧
      (s.queue q).ctx.area = false ∧ (s.queue q).held = [] ∧ (s.queue q).pend = none)) →
    exec (.doorbell q v) s = .next (if seqAhead v.toNat (s.queue q).ctx.avail = false then s.bump pgQm 0x100 0 32 1
      else if (s.queue q).ctx.slots < seqDist v.toNat (s.queue q).ctx.cons then (s.bump pgQm 0x20 0 16 1).qmFail 0 1 q
      else (s.bump pgQm 0x100 0 32 1).setQueue q { s.queue q with ctx := { (s.queue q).ctx with avail := v.toNat } })) ∧
  (∀ (s : State) (q : Fin 16384) (v : Word), s.settled → bitAt (s.reg pgQm 8) 0 = true → (s.queue q).ctx.dir = 0 →
    (s.queue q).ctx.delivery ≠ 1 → (s.queue q).ctx.delivery ≠ 2 → (s.queue q).ctx.area = true →
    seqAhead v.toNat (s.queue q).ctx.cons = true → seqDist v.toNat (s.queue q).ctx.cons ≤ (s.queue q).ctx.slots →
    seqAhead v.toNat (s.queue q).ctx.prod = false → (s.queue q).held = [] → (s.queue q).pend = none →
    ∃ t, exec (.doorbell q v) s = .next t ∧ (t.queue q).ctx.cons = v.toNat ∧
      (t.queue q).allocs = freeAllocs v.toNat (s.queue q).allocs ∧ s.sameMemory t)

/-- DMA channels (R293, R296 to R302): an idle channel takes the next descriptor of its queues; a descriptor with a reserved kind goes back
with a format status, one outside its owner's windows freezes the channel, and so does one that reads a bank group that is not ON; a failed access is noted and retried, and the third failed
retry halts the channel; a completed descriptor goes back and frees the channel; STOP acts at the next descriptor boundary and RESUME
lets a channel at rest or halted go on. -/
def Obligations.DmaChannels : Prop :=
  (∀ (s : State) (d : Fin 128) (b : Bool), s.settled → ((s.chan d).state ≠ .idle ∨ s.dmaQueue d = none) →
    exec (.dmaDescriptorStart d b) s = .next s) ∧
  (∀ (s : State) (d : Fin 128) (q : Nat) (k : Desc), s.settled → (s.chan d).state = .idle → s.dmaQueue d = some q →
    s.dmaNext q = some k → refusedDesc k = false → 0 < k.length → s.dmaWindow q k.addr k.length false = true →
    s.dmaWindow q k.dest k.length true = true → s.groupOff k.addr k.length = none → s.groupOff k.dest k.length = none →
    0 < s.poolRoom 0 (s.poolUser q) →
    ∃ t, exec (.dmaDescriptorStart d false) s = .next t ∧ (t.chan d).state = .active ∧ (t.chan d).queue = q ∧
      (t.chan d).desc = some k ∧ (t.chan d).done = 0 ∧
      (t.chan d).lines = min (min 64 (cdiv k.length 128)) (s.poolRoom 0 (s.poolUser q)) ∧ s.sameMemory t) ∧
  (∀ (s : State) (d : Fin 128) (q : Nat) (k : Desc), (s.chan d).state = .idle → s.dmaQueue d = some q → s.dmaNext q = some k →
    refusedDesc k = true → k.kind ≠ 7 →
    ∃ u : State, exec (.dmaDescriptorStart d false) s = .next u.settle ∧ (u.chan d).state = .idle ∧ (u.chan d).desc = none ∧
      u.reg pgQm 0x24 = BitVec.ofNat 32 (5 + 256 * q) ∧ bitAt (u.reg pgQm 0x10) 4 = true) ∧
  (∀ (s : State) (d : Fin 128) (q : Nat) (k : Desc), (s.chan d).state = .idle → s.dmaQueue d = some q → s.dmaNext q = some k →
    refusedDesc k = false → 0 < k.length → s.dmaWindow q k.addr k.length false = false →
    ∃ u : State, exec (.dmaDescriptorStart d false) s = .next u.settle ∧ (u.chan d).state = .frozen ∧ (u.chan d).desc = none ∧
      bitAt (u.reg pgDma 0x10) 3 = true) ∧
  (∀ (s : State) (d : Fin 128) (q : Nat) (k : Desc) (g : Nat × Nat), (s.chan d).state = .idle → s.dmaQueue d = some q →
    s.dmaNext q = some k → refusedDesc k = false → 0 < k.length → s.dmaWindow q k.addr k.length false = true →
    s.dmaWindow q k.dest k.length true = true → s.groupOff k.addr k.length = some g →
    ∃ u : State, exec (.dmaDescriptorStart d false) s = .next u.settle ∧ (u.chan d).state = .frozen ∧ (u.chan d).desc = none ∧
      bitAt (u.reg pgDma 0x10) 3 = true ∧ bitAt (u.reg (pgSmem g.1) 0x10) 6 = true) ∧
  (∀ (s : State) (d : Fin 128) (a : Nat), s.settled → a < 2 ^ 48 → (s.chan d).desc.isSome = true → (s.chan d).state = .active →
    (s.chan d).failed = 0 →
    exec (.dmaAccessTimeout d a) s =
      .next ((s.dmaCause d (s.chan d).queue 1 a).setChan d { s.chan d with failed := 1, addr := a }) ∧
    exec (.linkTransferError d a) s =
      .next ((s.dmaCause d (s.chan d).queue 2 a).setChan d { s.chan d with failed := 2, addr := a })) ∧
  (∀ (s : State) (d : Fin 128), s.settled → (s.chan d).failed ≠ 0 →
    ∃ t, exec (.dmaRetry d true) s = .next t ∧ t.chan d = { s.chan d with failed := 0, tries := 0 } ∧
      bitAt (t.reg pgDma 0x10) 2 = true ∧ s.sameMemory t) ∧
  (∀ (s : State) (d : Fin 128), s.settled → (s.chan d).failed ≠ 0 → (s.chan d).tries < 2 →
    ∃ t, exec (.dmaRetry d false) s = .next t ∧ t.chan d = { s.chan d with tries := (s.chan d).tries + 1 } ∧
      bitAt (t.reg pgDma 0x10) 2 = true ∧ s.sameMemory t) ∧
  (∀ (s : State) (d : Fin 128), (s.chan d).failed ≠ 0 → 2 ≤ (s.chan d).tries →
    ∃ u : State, exec (.dmaRetry d false) s = .next u.settle ∧ (u.chan d).state = .halted ∧ bitAt (u.reg pgDma 0x10) 0 = true) ∧
  (∀ (s : State) (d : Fin 128) (k : Desc), (s.chan d).desc = some k → (s.chan d).state = .active → (s.chan d).failed = 0 →
    k.length = 0 →
    ∃ u : State, exec (.descriptorComplete d) s = .next u.settle ∧ (u.chan d).state = .idle ∧ (u.chan d).desc = none) ∧
  (∀ (s : State) (d : Fin 128) (k : Desc), (s.chan d).desc = some k → (s.chan d).state = .active → (s.chan d).failed = 0 →
    k.evtHalf = true → 1 ≤ k.length → (s.chan d).half = false → s.groupOff k.addr k.length = none →
    s.groupOff k.dest k.length = none → (s.dmaMove d (cdiv k.length 2)).2 = none →
    ∃ u : State, exec (.descHalf d) s = .next u.settle ∧ (u.chan d).half = true ∧ (u.chan d).done = cdiv k.length 2) ∧
  (∀ (s : State) (d : Fin 128), s.settled → (s.chan d).state = .idle →
    exec (.dmaStop d) s = .next ((s.setChan d { s.chan d with state := .stopped, stopQ := none }).event pgDma 1)) ∧
  (∀ (s : State) (d : Fin 128), s.settled → (s.chan d).state = .active →
    exec (.dmaStop d) s = .next (s.setChan d { s.chan d with state := .stopping, stopQ := none })) ∧
  (∀ (s : State) (d : Fin 128), s.settled → (s.chan d).state = .stopped ∨ (s.chan d).state = .halted →
    (∀ q, (s.queue q).held = [] ∧ (s.queue q).pend = none) →
    exec (.dmaResume d) s = .next (s.setChan d { s.chan d with state := .idle, stopQ := none }))

/-- A transfer between tiles copies its bytes and nothing else (R294): from bank groups that are ON and with no stored parity error in either
tile, the destination
range holds the source range's bytes as they were, and every other byte is unchanged. -/
def Obligations.DmaCopiesBytes : Prop :=
  ∀ (s : State) (d : Fin 128) (k : Desc) (t v : Fin 6), (s.chan d).desc = some k → (s.chan d).done = 0 → 0 < k.length →
    tileBase t ≤ k.addr → k.addr + k.length ≤ tileBase t + 0x2000000 →
    tileBase v ≤ k.dest → k.dest + k.length ≤ tileBase v + 0x2000000 → s.groupOff k.addr k.length = none →
    (s.tile t).storedErrs = [] → (s.tile v).storedErrs = [] →
    (s.dmaMove d k.length).2 = none ∧ s.stores (s.dmaMove d k.length).1 k.dest (s.bytes k.addr k.length)

/-- Registers over Kweal (R404, R405, R407, R409, R313): a frame of a closed session has no effect; a misaligned address, a run outside
one page or a word that the session may not write is answered with a NAK and writes nothing; otherwise the words are written in
ascending order, or read as one snapshot and sent back; a single write of a session or of the supervisor writes its word. -/
def Obligations.RegistersOverKweal : Prop :=
  (∀ (s : State) (n : Fin 32) (q t : Word) (a c : Nat) (l : List Word), s.settled → s.isOpen n = false →
    exec (.regRd n q t a c) s = .next s ∧ exec (.regWr n q t a l) s = .next s) ∧
  (∀ (s : State) (n : Fin 32) (q t : Word) (a c : Nat), s.isOpen n = true → (s.sess n).peer = false → a % 4 = 0 →
    s.runOk a c = true →
    exec (.regRd n q t a c) s = .next ((s.readRun a c).2.sendFrame n (mkFrame n 1 4 t.toNat (leBytes 8 a ++ leBytes 2 c ++
      leBytes 6 0 ++ ((s.readRun a c).1.map fun w => leBytes 4 w.toNat).flatten)) none).settle) ∧
  (∀ (s : State) (n : Fin 32) (q t : Word) (a c : Nat), s.isOpen n = true → (s.sess n).peer = false →
    (a % 4 ≠ 0 ∨ s.runOk a c = false) →
    exec (.regRd n q t a c) s = .next (s.nak n (asked n 1 q.toNat t.toNat) (if a % 4 ≠ 0 then 4 else 5) a).settle) ∧
  (∀ (s : State) (n : Fin 32) (q t : Word) (a : Nat) (l : List Word), s.isOpen n = true →
    ((s.sess n).peer = true ∨ (s.sess n).unowned = true) →
    exec (.regWr n q t a l) s = .next (s.nak n (asked n 2 q.toNat t.toNat) 3 a).settle) ∧
  (∀ (s : State) (n : Fin 32) (q t : Word) (a : Nat) (l : List Word), s.isOpen n = true → (s.sess n).peer = false →
    (s.sess n).unowned = false → (a % 4 ≠ 0 ∨ s.runOk a l.length = false) →
    exec (.regWr n q t a l) s = .next (s.nak n (asked n 2 q.toNat t.toNat) (if a % 4 ≠ 0 then 4 else 5) a).settle) ∧
  (∀ (s : State) (n : Fin 32) (q t : Word) (a b : Nat) (l : List Word), s.isOpen n = true → (s.sess n).peer = false →
    (s.sess n).unowned = false → a % 4 = 0 → s.runOk a l.length = true →
    (runAddrs a l.length).find? (fun x => !hostMayWrite x) = some b →
    exec (.regWr n q t a l) s = .next ((s.refusedWrite b).nak n (asked n 2 q.toNat t.toNat) 3 b).settle) ∧
  (∀ (s : State) (n : Fin 32) (q t : Word) (a : Nat) (l : List Word), s.isOpen n = true → (s.sess n).peer = false →
    (s.sess n).unowned = false → a % 4 = 0 → s.runOk a l.length = true → (∀ x ∈ runAddrs a l.length, hostMayWrite x = true) →
    exec (.regWr n q t a l) s = .next (s.writeRun n a l).settle) ∧
  (∀ (s : State) (n : Fin 33) (a : Nat) (w : Word), s.settled → (a % 4 ≠ 0 ∨ s.runOk a 1 = false) →
    exec (.registerWrite n a w) s = .next s) ∧
  (∀ (s : State) (n : Fin 33) (a : Nat) (w : Word), a % 4 = 0 → s.runOk a 1 = true →
    exec (.registerWrite n a w) s = .next (s.writeWord n a w).settle)

/-- Frames received (R306, R308, R312, R314, R316, R339): a port without a link takes nothing, nor does one whose configuration accepts no
such datagram; a frame that does not verify under a key of its
port, or that comes for a session on a port without keys, is counted and discarded, but for an ATTEST frame of a LOST session; one with a wrong magic number, version or length
is counted; on an open session a frame in turn is accepted with those held behind it, one within the window is held, an old one is
acknowledged again, and one beyond the window is answered with a NAK. -/
def Obligations.FramesReceived : Prop :=
  (∀ (s : State) (a : Arrival), s.settled → (s.netUp = false ∨ (s.eth a.port).link = false) →
    exec (.kwealFrameReceive a) s = .next s) ∧
  (∀ (s : State) (a : Arrival), s.settled → s.netUp = true → (s.eth a.port).link = true → a.wire ≤ 9216 →
    (s.eth a.port).verifies a = false → exec (.kwealFrameReceive a) s = .next (s.macsecDrop a.port)) ∧
  (∀ (s : State) (a : Arrival), s.settled → s.netUp = true → (s.eth a.port).link = true → a.wire ≤ 9216 →
    (s.eth a.port).keys = none → s.hears a = true → a.magic = 0x574B → a.version = 1 → a.length = a.frame.payload.length →
    a.frame.session < 32 → (a.frame.type ≠ 10 ∨ (s.sess a.frame.session).state ≠ 3) →
    exec (.kwealFrameReceive a) s = .next (s.macsecDrop a.port)) ∧
  (∀ (s : State) (a : Arrival), s.netUp = true → (s.eth a.port).link = true → a.wire ≤ 9216 →
    (s.eth a.port).keys = none → s.hears a = true → a.magic = 0x574B → a.version = 1 → a.length = a.frame.payload.length →
    a.frame.session < 32 → a.frame.type = 10 → (s.sess a.frame.session).state = 3 →
    exec (.kwealFrameReceive a) s = .next (s.linkFrame a.frame.session a.port a.frame).settle) ∧
  (∀ (s : State) (a : Arrival), s.settled → s.netUp = true → (s.eth a.port).link = true →
    (9216 < a.wire ∨ ((s.eth a.port).keys = none ∧ s.hears a = true ∧ (a.magic ≠ 0x574B ∨ a.version ≠ 1 ∨ a.length ≠ a.frame.payload.length))) →
    exec (.kwealFrameReceive a) s = .next (s.bump pgNet (portReg a.port + 0x28) 0 32 1)) ∧
  (∀ (s : State) (a : Arrival), s.settled → s.netUp = true → (s.eth a.port).link = true → a.wire ≤ 9216 →
    (s.eth a.port).keys = none → s.hears a = false → exec (.kwealFrameReceive a) s = .next s) ∧
  (∀ (s : State) (a : Arrival) (k : PortKeys), s.netUp = true → (s.eth a.port).link = true → a.wire ≤ 9216 →
    (s.eth a.port).keys = some k → k.host.an = a.an.val → k.hostOld = none → a.verified = true → s.hears a = true →
    a.magic = 0x574B → a.version = 1 → a.length = a.frame.payload.length → a.frame.session < 32 → a.frame.type ≠ 7 → a.frame.type ≠ 9 →
    (s.sess a.frame.session).state = 2 →
    let n := a.frame.session
    let u := s.ackTo n a.frame.ack a.frame.window
    let ahead := seqDist a.frame.seq (u.link n).rxNext
    u.asleep = false →
    (ahead = 0 → exec (.kwealFrameReceive a) s = .next ((u.accept n a.port a.frame).drainLink 65 n a.port).settle) ∧
    (1 ≤ ahead → ahead ≤ 64 → exec (.kwealFrameReceive a) s = .next (u.holdFrame n a.frame).settle) ∧
    (64 < ahead → seqAhead (u.link n).rxNext a.frame.seq = true → exec (.kwealFrameReceive a) s = .next (u.sendAck n).settle) ∧
    (64 < ahead → seqAhead (u.link n).rxNext a.frame.seq = false →
      exec (.kwealFrameReceive a) s = .next (u.nak n a.frame 2 0).settle))

/-- Acknowledgements, resends and keepalives (R314, R316, R318, R320, R322, R325, R336): an acknowledgement removes the frames it covers; an owed one
is sent and no longer owed; the oldest unacknowledged frame is sent again with RETX until its resends are spent, and then its session
is LOST; a host session whose keepalive expires is LOST with SESSION_LOST; RESYNC sets the next sequence number expected, and is refused
on an UNOWNED session. -/
def Obligations.AcksAndResends : Prop :=
  (∀ (s : State) (n : Fin 32) (a : Word) (w : Fin 65536), s.settled → (s.sess n).state ≠ 2 →
    exec (.kwealAck n a w) s = .next s) ∧
  (∀ (s : State) (n : Fin 32) (w : Fin 65536), s.settled → (s.sess n).state = 2 → (s.sess n).queued = [] →
    (∀ u ∈ (s.sess n).unacked, u.push = none) → (s.sess n).txNext < 2 ^ 32 →
    exec (.kwealAck n (BitVec.ofNat 32 (s.sess n).txNext) w) s = .next (s.setSess n { s.sess n with
      window := w, unacked := ((s.sess n).unacked.filter fun u => !seqAhead (s.sess n).txNext u.seq).map fun u =>
        if (s.sess n).unacked.all (fun v => !seqAhead (s.sess n).txNext v.seq) then u else { u with resends := 0 } })) ∧
  (∀ (s : State) (d : Nat) (q : Word) (r : Fin 65536), s.settled → ((s.link d).state ≠ 2 ∨ r.val = 2) →
    exec (.kwealNak d q r) s = .next s) ∧
  (∀ (s : State) (n : Fin 32) (r : Fin 65536) (u : Unacked), s.settled → (s.sess n).state = 2 → r.val ≠ 2 →
    (s.sess n).unacked = [u] → u.push = none → (s.sess n).queued = [] → u.seq < 2 ^ 32 →
    exec (.kwealNak n (BitVec.ofNat 32 u.seq) r) s = .next (s.setSess n { s.sess n with unacked := [] })) ∧
  (∀ (s : State) (d : Nat), s.settled → (s.link d).ackOwed = false → exec (.delayedAck d) s = .next s) ∧
  (∀ (s : State) (n : Fin 32), s.settled → (s.sess n).ackOwed = true → s.sends (s.sess n).port = true →
    ∃ t f, exec (.delayedAck n) s = .next t ∧ t.out = s.out ++ [.kweal (s.sess n).port n s.clk.ptp f] ∧ f.type = 7 ∧
      f.ack = (s.sess n).rxNext ∧ (t.sess n).ackOwed = false ∧ s.sameMemory t) ∧
  (∀ (s : State) (d : Nat), s.settled → ((s.link d).unacked = [] ∨ (s.link d).state ≠ 2) →
    exec (.kwealRetransmit d) s = .next s) ∧
  (∀ (s : State) (n : Fin 32) (u : Unacked) (l : List Unacked), s.settled → (s.sess n).state = 2 → (s.sess n).unacked = u :: l →
    u.resends < s.maxRetx → s.sends (s.sess n).port = true →
    ∃ t f, exec (.kwealRetransmit n) s = .next t ∧ (t.sess n).unacked = { u with resends := u.resends + 1 } :: l ∧
      t.out = s.out ++ [.kweal (s.sess n).port n s.clk.ptp f] ∧ f.flags = u.frame.flags ||| 8 ∧ f.seq = u.frame.seq ∧
      f.payload = u.frame.payload ∧ s.sameMemory t) ∧
  (∀ (s : State) (n : Fin 32) (u : Unacked) (l : List Unacked), (s.sess n).state = 2 → (s.sess n).unacked = u :: l →
    s.maxRetx ≤ u.resends →
    ∃ t : State, exec (.kwealRetransmit n) s = .next t.settle ∧ (t.sess n).state = 3 ∧ (t.sess n).unacked = []) ∧
  (∀ (s : State) (n : Fin 32), (s.sess n).state = 2 → (s.sess n).peer = false →
    ∃ t : State, exec (.sessionKeepaliveExpire n) s = .next t.settle ∧ (t.sess n).state = 3 ∧ (t.sess n).heldRx = [] ∧
      (t.sess n).queued = [] ∧ bitAt (t.reg pgNet 0x10) 3 = true ∧ s.sameMemory t) ∧
  (∀ (s : State) (n : Fin 32), s.settled → ((s.sess n).state ≠ 2 ∨ (s.sess n).peer = false) →
    exec (.peerKeepalive n) s = .next s) ∧
  (∀ (s : State) (n : Fin 32), s.settled → (s.sess n).state = 2 → (s.sess n).peer = true → s.sends (s.sess n).port = true →
    ∃ t f, exec (.peerKeepalive n) s = .next t ∧ t.out = s.out ++ [.kweal (s.sess n).port n s.clk.ptp f] ∧ f.type = 7) ∧
  (∀ (s : State) (n : Fin 32) (q t : Word) (m : Byte), s.settled → (s.sess n).state ≠ 2 → exec (.resync n q t m) s = .next s) ∧
  (∀ (s : State) (n : Fin 32) (q t : Word) (m : Byte), (s.sess n).state = 2 → (s.sess n).unowned = true →
    exec (.resync n q t m) s = .next (s.nak n (asked n 9 q.toNat t.toNat) 3 0).settle) ∧
  (∀ (s : State) (n : Fin 32) (q t : Word), (s.sess n).state = 2 → (s.sess n).unowned = false →
    ∃ u : State, exec (.resync n q t 1) s = .next u.settle ∧ (u.sess n).rxNext = (q.toNat + 1) % 2 ^ 32 ∧ (u.sess n).heldRx = [] ∧
      s.sameMemory u)

/-- Transfers over a session (R290, R308, R310, R311, R313, R317, R319, R322, R326): doorbell entries take effect in order; a bulk fragment that a rule
refuses has no effect but its NAK; a fragment of space 0 writes its bytes and one of space 1 hands its command over; a read beyond 16
MiB is refused; the bands of a STREAM queue leave on its enabled entry, their packets numbered in turn, and its descriptors are returned;
event records wait while no session is open and leave their store when they are sent. -/
def Obligations.Transfers : Prop :=
  (∀ (s : State) (n : Fin 32) (q t : Word) (l : List (Fin 65536 × Word)), s.isOpen n = true → (s.sess n).peer = false →
    (s.sess n).unowned = false → 1 ≤ l.length → l.length ≤ 176 →
    exec (.doorbellFrame n q t l) s =
      .next (forEach l (fun x s => if x.1.val < 16384 then s.doorbell x.1 x.2 else s) s).settle) ∧
  (∀ (s : State) (n : Fin 32) (q : Word) (f : BulkFrag) (r : Nat × Nat), s.isOpen n = true → s.putFault n f = some r →
    exec (.bulkPut n q f) s = .next ((s.dropBulk n f.tag.toNat).nak n (asked n 4 q.toNat f.tag.toNat) r.1 r.2).settle) ∧
  (∀ (s : State) (n : Fin 32) (q : Word) (f : BulkFrag), s.isOpen n = true → s.putFault n f = none → f.space = 0 → f.more = false →
    exec (.bulkPut n q f) s = .next ((s.dropBulk n f.tag.toNat).hostWrite (f.addr + f.off) f.data).settle) ∧
  (∀ (s : State) (n : Fin 32) (q : Word) (f : BulkFrag), s.settled → s.isOpen n = true → s.putFault n f = none → f.space = 1 →
    f.more = false → (s.sess n).bulk = [] →
    ∃ t, exec (.bulkPut n q f) s = .next t ∧ t.sup.cmds = s.sup.cmds ++ [(f.tag.toNat, f.data)] ∧ (t.sess n).bulk = [] ∧
      s.sameMemory t) ∧
  (∀ (s : State) (n : Fin 32) (q : Word) (f : BulkFrag), s.settled → s.isOpen n = true → s.putFault n f = none → f.space = 1 →
    f.more = true → (s.sess n).bulk = [] →
    ∃ t, exec (.bulkPut n q f) s = .next t ∧ t.sup.cmds = s.sup.cmds ∧
      (t.sess n).bulk = [⟨f.tag.toNat, 1, f.queue, f.total, f.addr, f.off + f.data.length, f.data⟩] ∧ s.sameMemory t) ∧
  (∀ (s : State) (n : Fin 32) (q : Word) (f : BulkFrag), s.isOpen n = true → (s.sess n).peer = true →
    s.putFault n { f with space := 3 } = none → f.more = true →
    ∃ u : State, exec (.peerPut n q f) s = .next u.settle ∧
      (∃ b ∈ (u.sess n).bulk, b.tag = f.tag.toNat ∧ b.off = f.off + f.data.length) ∧ s.sameMemory u) ∧
  (∀ (s : State) (n : Fin 32) (q : Word) (f : BulkFrag), s.isOpen n = true → (s.sess n).peer = false → (s.sess n).unowned = false →
    f.space = 0 → (f.bytes = 0 ∨ 0x1000000 < f.bytes) →
    exec (.bulkGet n q f) s = .next (s.nak n (asked n 5 q.toNat f.tag.toNat) 5 f.addr).settle) ∧
  (∀ (s : State) (n : Fin 32) (q : Word) (f : BulkFrag), s.isOpen n = true → (s.sess n).peer = false → (s.sess n).unowned = false →
    f.space = 1 → 0 < f.bytes → f.addr + f.bytes ≤ 20 →
    exec (.bulkGet n q f) s = .next (s.sendRun n 5 4 f.tag.toNat
      [bulkHeader 1 0 0 f.bytes f.addr 0 0 ++ (s.sup.result.drop f.addr).take f.bytes] none).settle) ∧
  (∀ s : State, s.settled → (∀ r ∈ s.net.events, (s.sess r.session).state ≠ 2) → exec .eventSend s = .next s) ∧
  (∀ (s : State) (r : EventRec), s.net.events = [r] → (s.sess r.session).state = 2 → s.net.lostEvents = 0 →
    ∃ u : State, exec .eventSend s = .next (u.sendFrame r.session (mkFrame r.session 6 0 0 (recordBytes r)) none).settle ∧
      u = { s with net := { s.net with events := [] } }) ∧
  (∀ (s : State) (q : Fin 16384), s.settled → ((s.queue q).ctx.en = false ∨ (s.queue q).ctx.dir ≠ 0 ∨
      seqAhead (s.queue q).ctx.prod (s.queue q).ctx.cons = false) → exec (.rvfSend q) s = .next s) ∧
  (∀ (s : State) (q : Fin 16384), (s.queue q).ctx.en = true → (s.queue q).ctx.dir = 0 → (s.queue q).ctx.delivery = 2 →
    seqAhead (s.queue q).ctx.prod (s.queue q).ctx.cons = true →
    let n := (s.queue q).ctx.session % 128
    let p := s.rfld 0x701 (entryReg n 0) 1 2
    let r := s.readDesc q (s.queue q).ctx.cons
    (s.eth p).link = false → r.2.kind = 1 → r.2.aux0 ≠ 0 →
    exec (.rvfSend q) s = .next (((r.1.bump pgNet (portReg p + 0x30) 0 32 1).endVideo q r.2.frameSeq).returnTo q
      (((s.queue q).ctx.cons + 1) % 2 ^ 32)).settle) ∧
  (∀ (s : State) (q : Fin 16384), (s.queue q).ctx.en = true → (s.queue q).ctx.dir = 0 → (s.queue q).ctx.delivery = 2 →
    seqAhead (s.queue q).ctx.prod (s.queue q).ctx.cons = true →
    let n := (s.queue q).ctx.session % 128
    let p := s.rfld 0x701 (entryReg n 0) 1 2
    let r := s.readDesc q (s.queue q).ctx.cons
    let c := ((s.queue q).ctx.cons + 1) % 2 ^ 32
    (s.eth p).link = true →
    ((s.rfld 0x701 (entryReg n 0) 0 1 = 0 ∨ s.sends p = false ∨ (s.eth p).keys = none) → exec (.rvfSend q) s = .next s.settle) ∧
    (s.rfld 0x701 (entryReg n 0) 0 1 = 1 → s.sends p = true → (s.eth p).keys ≠ none →
      (r.2.kind = 1 → exec (.rvfSend q) s = .next ((r.1.endVideo q r.2.frameSeq).returnTo q c).settle) ∧
      (r.2.kind = 0 → (∀ v ∈ s.net.video, v.queue = q.val → v.seq ≠ r.2.frameSeq) →
        exec (.rvfSend q) s = .next (r.1.returnTo q c).settle) ∧
      (∀ (v : Video) (l : List Video), r.2.kind = 0 → s.net.video = v :: l → v.queue = q.val → v.seq = r.2.frameSeq →
        exec (.rvfSend q) s = .next ((r.1.sendBand n p r.2 v).returnTo q c).settle))) ∧
  (∀ (s : State) (n p : Nat) (d : Desc) (v : Video),
    let l := v.units (d.aux1 % 65536) (d.aux1 % 65536 + d.aux1 / 65536)
    let k := packetsOf (s.payloadLimit p) l
    0 < k → ∃ (b : List Byte), (s.sendBand n p d v).out = s.out ++ [.rvf n (sget (fun _ => 0) s.net.avtp n) k
        ((v.tStart + s.rfld 0x701 (entryReg n 0x18) 0 24) % 2 ^ 32)
        (decide (v.height ≤ d.aux1 % 65536 + d.aux1 / 65536)) b] ∧
      sget (fun _ => 0) (s.sendBand n p d v).net.avtp n = (sget (fun _ => 0) s.net.avtp n + k) % 256) ∧
  (∀ (s : State) (q : Fin 16384), s.settled → ((s.queue q).ctx.en = false ∨ 32 ≤ (s.queue q).ctx.session ∨
      (s.sess (s.queue q).ctx.session).state ≠ 2) → exec (.pushSend q) s = .next s) ∧
  (∀ (s : State) (q : Fin 16384), (s.queue q).ctx.en = true → (s.queue q).ctx.session < 32 →
    (s.sess (s.queue q).ctx.session).state = 2 → seqAhead (s.queue q).ctx.prod (s.queue q).sent = true →
    (s.queue q).ctx.dir = 0 → (s.queue q).ctx.delivery = 1 →
    let r := s.readDesc q (s.queue q).sent
    r.2.length = 0 →
    exec (.pushSend q) s = .next ((r.1.setQueue q { r.1.queue q with sent := ((s.queue q).sent + 1) % 2 ^ 32 }).sendPutRun
      (s.queue q).ctx.session 4 q 0 (descBytes r.2 ++ []) (some (q.val, (s.queue q).sent))).settle)

/-- Ports and reservations (R306, R308 to R310, R327, class 0x15): a reservation within the link rate is granted and one beyond it refused with
its event; a link that goes down raises its event and is a fault unless other ports mask it; a change of SPEED takes the link down; ARP
is answered when IPv4 is configured; a gPTP message that verifies moves the clock. -/
def Obligations.PortsAndReservations : Prop :=
  (∀ (s : State) (n : Fin 128) (w : Word), s.settled → bitAt w 0 = false →
    exec (.streamReserve n w) s = .next (((s.setReg 0x701 (entryReg n 0) (w &&& 0x7FFFE)).setReserved n 0).setRfld 0x701
      (entryReg n 0x1C) 1 1 0)) ∧
  (∀ (s : State) (n : Fin 128) (w : Word), s.settled → bitAt w 0 = true →
    let u := (s.setReg 0x701 (entryReg n 0) (w &&& 0x7FFFE)).setReserved n 0
    let sum := ((u.entriesOn (fld w 1 2)).map fun k => u.reserved k).sum + s.reservation n w
    exec (.streamReserve n w) s = .next (if s.portRate (fld w 1 2) < sum then
      (u.setRfld 0x701 (entryReg n 0x1C) 1 1 1).fail pgNet 1 (1 + 256 * n.val + 65536 * fld w 1 2) 0
      else ((u.setReg 0x701 (entryReg n 0) ((w &&& 0x7FFFE) ||| 1)).setReserved n (s.reservation n w)).setRfld 0x701
        (entryReg n 0x1C) 1 1 0)) ∧
  (∀ (s : State) (p : Fin 4) (v : Fin 8) (m : Bool), s.settled → (s.eth p).link = false →
    exec (.ethLinkChange p false v m) s = .next s) ∧
  (∀ (s : State) (p : Fin 4) (v : Fin 8) (m : Bool), s.settled → (s.eth p).link = true → s.openOn p = [] →
    exec (.ethLinkChange p false v m) s = .next (((s.setEth p { s.eth p with link := false, gptpSlave := false }).event pgNet 0).fault
      0x15 p 0)) ∧
  (∀ (s : State) (p : Fin 4) (v : Fin 8) (m : Bool), s.settled → (s.eth p).link = false → s.rfld pgNet (portReg p) 0 3 ≠ 0 →
    v.val ≠ 0 → v.val ≤ 4 → (s.eth p).speed = v.val →
    exec (.ethLinkChange p true v m) s = .next ((s.setEth p { s.eth p with link := true, speed := v, master := m }).event pgNet 0)) ∧
  (∀ (s : State) (p : Fin 4) (w : Word), s.settled → fld w 0 3 = s.rfld pgNet (portReg p) 0 3 →
    exec (.ethPortCfgWrite p w) s = .next (s.setReg pgNet (portReg p) (w &&& 0xFF))) ∧
  (∀ (s : State) (p : Fin 4) (w : Word), fld w 0 3 ≠ s.rfld pgNet (portReg p) 0 3 →
    ∃ u : State, exec (.ethPortCfgWrite p w) s = .next u.settle ∧ (u.eth p).link = false ∧ (u.eth p).speed = 0 ∧
      u.reg pgNet (portReg p) = w &&& 0xFF) ∧
  (∀ (s : State) (p : Fin 4) (v : Bool), s.settled → s.netUp = true → (s.eth p).link = true → (s.eth p).keys = none →
    bitAt (s.reg pgNet 8) 0 = true → s.reg pgNet (portReg p + 0x10) ≠ 0 →
    exec (.networkAdminFrame p .arp v) s = .next { s with out := s.out ++ [.admin p 0] } ∧
    exec (.networkAdminFrame p .icmpEcho v) s = .next (s.macsecDrop p)) ∧
  (∀ (s : State) (p : Fin 4) (m : GptpMsg) (v : Bool), s.settled → s.netUp = true → (s.eth p).link = true →
    ((s.eth p).keys = none ∨ v = false) → exec (.gptpMessage p m v) s = .next (s.macsecDrop p)) ∧
  (∀ (s : State) (p : Fin 4) (m : GptpMsg), s.settled → s.netUp = true → (s.eth p).link = true → (s.eth p).keys ≠ none →
    m.offset.natAbs ≤ 1000 →
    ∃ t, exec (.gptpMessage p m true) s = .next t ∧ t.clk.ptp = ((s.clk.ptp : Int) + m.offset).toNat ∧ t.net.locked = m.synced ∧
      t.net.grandmaster = m.grandmaster ∧ s.sameMemory t)

/-- Groups (R325, R326, R366, R367): a barrier of an open peer session is recorded once; a lost peer is a fault, its member is marked lost
and its group's jobs abort their step; a group whose rejoin barriers have all been exchanged starts its jobs again at step 0. -/
def Obligations.GroupMembers : Prop :=
  (∀ (s : State) (n : Fin 32) (w : Word) (g : PeerGroup), s.settled → (s.sess n).state = 2 → (s.sess n).peer = true →
    s.group (s.sess n).group = some g → g.got.contains ((s.sess n).member, w.toNat) = false →
    exec (.barrier n w) s = .next (s.setGroup (s.sess n).group (some { g with got := g.got ++ [((s.sess n).member, w.toNat)] }))) ∧
  (∀ (s : State) (n : Fin 32) (w : Word), s.settled → ((s.sess n).state ≠ 2 ∨ (s.sess n).peer = false) →
    exec (.barrier n w) s = .next s ∧ exec (.peerLost n) s = .next s) ∧
  (∀ (s : State) (n : Fin 32) (w : Word), (s.sess n).state = 2 → (s.sess n).peer = true →
    (s.group (s.sess n).group = none → exec (.barrier n w) s = .next s.settle) ∧
    (∀ g : PeerGroup, s.group (s.sess n).group = some g →
      ∃ (u : State) (h : PeerGroup), exec (.barrier n w) s = .next u.settle ∧ u.group (s.sess n).group = some h ∧
        ((s.sess n).member, w.toNat) ∈ h.got ∧ (∀ x ∈ g.got, x ∈ h.got) ∧
        (∀ x ∈ h.got, x ∈ g.got ∨ x = ((s.sess n).member, w.toNat)) ∧ h.members = g.members ∧ h.sent = g.sent ∧ h.lost = g.lost ∧
        (∀ k, k ≠ (s.sess n).group → u.group k = s.group k) ∧ u.jobs = s.jobs ∧ s.sameMemory u)) ∧
  (∀ (s : State) (n : Fin 32), (s.sess n).state = 2 → (s.sess n).peer = true →
    let k := (s.sess n).group
    let u := (s.loseSession n).fault 0x1D (s.sess n).port ((s.groupJobs k).head?.getD 0)
    (s.group k = none → exec (.peerLost n) s = .next u.settle) ∧
    (∀ g : PeerGroup, s.group k = some g → exec (.peerLost n) s =
      .next (forEach (s.groupJobs k) (fun j s => s.abortStep j) (u.setGroup k (some { g with
        lost := if g.lost.contains (s.sess n).member then g.lost else g.lost ++ [(s.sess n).member], rejoin := false }))).settle)) ∧
  (∀ (s : State) (j : Nat), s.job j = none → s.abortStep j = s) ∧
  (∀ (s : State) (j : Nat) (x y : Job) (d : StepDue), s.job j = some x → x.kind = 1 → (s.cancelJob j).job j = some y →
    y.open_ = some d →
    s.abortStep j =
      ((s.cancelJob j).voidStep j y 3 (d.flags + (if y.variant && !d.flags.testBit 9 then 0x200 else 0)) d.seq).placeWaiting) ∧
  (∀ (s : State) (n : Fin 32) (g : PeerGroup), (s.sess n).state = 2 → (s.sess n).peer = true → s.group (s.sess n).group = some g →
    s.groupJobs (s.sess n).group = [] → g.lost.contains (s.sess n).member = false →
    ∃ u : State, exec (.peerLost n) s = .next u.settle ∧ (u.sess n).state = 3 ∧ bitAt (u.reg pgFlt 0x10) 0 = true ∧
      bitAt (u.reg pgNet 0x10) 4 = true ∧
      u.group (s.sess n).group = some { g with lost := g.lost ++ [(s.sess n).member], rejoin := false } ∧ s.sameMemory u) ∧
  (∀ (s : State) (g : Fin 16), s.settled → (s.group g = none ∨ ∃ p, s.group g = some p ∧ p.rejoin = false) →
    exec (.groupRejoin g) s = .next s) ∧
  (∀ (s : State) (g : Fin 16) (p : PeerGroup), s.settled → s.group g = some p → p.rejoin = true → s.groupOpen g p = true →
    (∀ m, m < p.members.length → m ≠ p.self → (m, rejoinStep) ∈ p.got) → s.groupJobs g = [] →
    exec (.groupRejoin g) s = .next (s.setGroup g (some { p with
      lost := [], sent := [], got := p.got.filter fun x => x.2 != rejoinStep }))) ∧
  (∀ (s : State) (g : Fin 16) (p : PeerGroup), s.group g = some p → p.rejoin = true → s.groupOpen g p = true →
    (∀ m, m < p.members.length → m ≠ p.self → (m, rejoinStep) ∈ p.got) →
    let u := s.setGroup g (some { p with lost := [], sent := [], got := p.got.filter fun x => x.2 != rejoinStep })
    exec (.groupRejoin g) s = .next (forEach (s.groupJobs g) (fun j v =>
      let w := v.restartJob j 0x1D false
      match w.job j with
      | some x => w.setJob j (some { x with step := 0, restartAt := v.clk.ptp + 999000 })
      | none => w) u).settle) ∧
  (∀ (s : State) (g : Fin 16) (p : PeerGroup) (j : Nat) (x : Job), s.group g = some p → p.rejoin = true → s.groupOpen g p = true →
    (∀ m, m < p.members.length → m ≠ p.self → (m, rejoinStep) ∈ p.got) → s.groupJobs g = [j] → s.job j = some x → x.kind = 1 →
    x.open_ = none →
    ∃ u : State, exec (.groupRejoin g) s = .next u.settle ∧ u.job j = some { x with
      phase := .restarting, restartClass := 0x1D, step := 0, restartAt := s.clk.ptp + 999000 } ∧
      bitAt (u.reg pgFlt 0x10) 1 = true ∧ (∀ k, k ≠ j → u.job k = s.job k) ∧ s.sameMemory u) ∧
  (∀ (s : State) (g : Fin 16) (p : PeerGroup) (m : Nat), s.settled → s.group g = some p → m < p.members.length → m ≠ p.self →
    (m, rejoinStep) ∉ p.got → exec (.groupRejoin g) s = .next s)

/-- Attestation and sessions (R330, R336 to R338): a HELLO that is malformed or finds no session number is answered with FAIL, and another
sets a session number aside and is answered with a fresh quote and an exchange key; a QUOTE that is not genuine ends the exchange; a
KEM_AUTH that proves the owner opens the session under the derived wrap key with keys on its ports, and any other fails with its
reason; a FINISH opens the peer session of the initiating device. -/
def Obligations.SessionsEstablished : Prop :=
  (∀ (s : State) (p : Fin 4) (a : Nat) (m : HelloMsg), s.settled → s.netUp = false → exec (.hello p a m) s = .next s) ∧
  (∀ (s : State) (p : Fin 4) (a : Nat) (m : HelloMsg), s.settled → s.pwr.state ≠ .standby → s.netUp = true → (s.eth p).keys ≠ none →
    m.verified = false → exec (.hello p a m) s = .next (s.macsecDrop p)) ∧
  (∀ (s : State) (p : Fin 4) (a : Nat) (m : HelloMsg), s.pwr.state ≠ .standby → s.netUp = true → (s.eth p).keys = none →
    (1 < m.role.val ∨ m.scis = [] ∨ 4 < m.scis.length ∨ ∃ x ∈ m.scis, 4 ≤ x.2.val) →
    exec (.hello p a m) s = .next ((s.putExchange (s.exchangeAt a p)).failExchange a 9).settle) ∧
  (∀ (s : State) (p : Fin 4) (a n : Nat) (m : HelloMsg) (c : BitVec 64 × Fin 256), s.pwr.state ≠ .standby → s.netUp = true →
    (s.eth p).keys = none → m.role.val = 0 → m.scis = [c] → c.2.val < 4 → s.hostNumber m.sessionReq.val = some n →
    (s.sess n).state ≠ 3 → s.scFull n [(c.1.toNat, c.2.val)] = false →
    ∃ (u : State) (x : Exchange), u.exchange a = some x ∧ x.session = n ∧ x.stage = 2 ∧ x.peer = false ∧ x.nonceH = m.nonce.toNat ∧
      x.scis = [(c.1.toNat, c.2.val)] ∧ x.transcript = m.body ∧ (u.sess n).state = 1 ∧ (u.sess n).port = p.val ∧ s.sameMemory u ∧
      exec (.hello p a m) s = .next (u.attest (linkOf a) 4 (s.exchangeAt a p).link.tag 2 x.quote).settle) ∧
  (∀ (s : State) (a : Nat) (x : Exchange) (m : QuoteMsg), s.exchange a = some x → x.peer = true →
    (if x.initiator then x.stage = 1 else x.stage = 2) →
    (m.genuine = false → exec (.quote a m) s = .next (s.failExchange a 1).settle) ∧
    (m.genuine = true → m.ownerHash.toNat ≠ s.ownerHash → exec (.quote a m) s = .next (s.failExchange a 8).settle) ∧
    (m.genuine = true → m.ownerHash.toNat = s.ownerHash → x.initiator = false → s.settled →
      exec (.quote a m) s = .next (s.putExchange { x with
        transcript := x.transcript ++ m.body, peerOwner := some m.ownerHash.toNat }))) ∧
  (∀ (s : State) (d : Nat), s.settled → (s.link d).state ≠ 2 → exec (.certs d) s = .next s) ∧
  (∀ (s : State) (d : Nat), (s.link d).state = 2 →
    exec (.certs d) s = .next (s.attest d 4 (s.link d).tag 3 (Config.certificates s.sec.sblDigest s.sec.fwDigest)).settle) ∧
  (∀ (s : State) (a : Nat) (x : Exchange) (m : KemAuthMsg), s.exchange a = some x → x.initiator = false → x.stage = 2 →
    s.kemFault x m ≠ 0 → exec (.kemAuth a m) s = .next (s.failExchange a (s.kemFault x m)).settle) ∧
  (∀ (s : State) (x : Exchange) (m : KemAuthMsg), x.peer = false →
    s.kemFault x m = if s.owned then (if m.zero then 2 else if m.genuine then 0 else 1) else if m.zero then 0 else 9) ∧
  (∀ (s : State) (a : Nat) (x : Exchange) (m : KemAuthMsg), s.exchange a = some x → x.initiator = false → x.stage = 2 →
    s.kemFault x m = 0 → s.scFull x.session x.scis = false →
    ∃ (u : State) (l : Session), l.state = 2 ∧ l.peer = x.peer ∧ l.unowned = (!x.peer && !s.owned) ∧ l.port = x.link.port ∧
      l.wrap = (sessionKeys (Config.kemSecret x.kem (m.body.take 1088))
        (x.transcript ++ x.quote ++ m.body.take 1088)).1 ∧
      (∀ c ∈ x.scis, (u.eth c.2).keys ≠ none) ∧
      exec (.kemAuth a m) s = .next ((u.openSession x.session l x.scis).endExchange a).settle) ∧
  (∀ (s : State) (a : Nat) (x : Exchange) (m : FinishMsg), s.exchange a = some x → x.initiator = true → x.stage = 3 →
    m.genuine = false → exec (.finish a m) s = .next (s.failExchange a 1).settle) ∧
  (∀ (s : State) (a : Nat) (x : Exchange) (m : FinishMsg), s.exchange a = some x → x.initiator = true → x.stage = 3 →
    m.genuine = true → 16 ≤ m.session.val → m.session.val < 32 → (∀ y ∈ m.saks, y.1.val < 4) →
    ∃ (u : State) (l : Session), l.state = 2 ∧ l.peer = true ∧ l.group = x.group ∧ l.member = x.member ∧
      l.wrap = (sessionKeys (Config.kemShared x.kem) x.transcript).1 ∧ (∀ y ∈ m.saks, (u.eth y.1).keys ≠ none) ∧
      exec (.finish a m) s =
        .next ((u.openSession m.session l (m.saks.map fun y => (a, y.1.val))).endExchange a).settle)

/-- Keys of the ports (R336, R338, R339): a quote on an open session carries a fresh nonce; a rekey of the other side keeps both its keys
until the switch; near exhaustion a new transmit key under the next association is offered to every open session of the port, and the
switch comes once all have answered; a secure channel is added up to eight per port, and a ninth fails. -/
def Obligations.PortKeysChange : Prop :=
  (∀ (s : State) (n : Fin 32) (t : Word) (c : BitVec 256), s.settled → (s.sess n).state ≠ 2 → s.pwr.state ≠ .standby →
    exec (.quoteReq n t c) s = .next s) ∧
  (∀ (s : State) (n : Fin 32) (t : Word) (c : BitVec 256), (s.sess n).state = 2 → s.pwr.state ≠ .standby →
    exec (.quoteReq n t c) s = .next (({ s with free := s.free + 1, sec := { s.sec with nonceD := Config.freeNat s.free } } : State).attest
      n 4 t.toNat 2 (s.quoteBody c.toNat (Config.freeNat s.free) noKey)).settle) ∧
  (∀ (s : State) (n : Fin 32) (m : RekeyMsg) (k : PortKeys), s.pwr.state ≠ .standby → (s.sess n).state = 2 →
    (s.sess n).unowned = false → m.port.val < 4 → m.dir.val = 1 → m.genuine = true → (s.eth m.port).keys = some k →
    exec (.rekey n m) s = .next ((s.setEth m.port { s.eth m.port with
      keys := some { k with host := ⟨m.an.val % 4, m.sak⟩, hostOld := some k.host } }).attest n 4 (s.sess n).tag 8
        (leBytes 1 m.port ++ leBytes 1 m.an ++ leBytes 6 0)).settle) ∧
  (∀ (s : State) (n : Fin 32) (m : RekeyMsg), s.pwr.state ≠ .standby → (s.sess n).state = 2 → (s.sess n).unowned = false →
    (4 ≤ m.port.val ∨ m.dir.val ≠ 1) → exec (.rekey n m) s = .next (s.attestFail n 9).settle) ∧
  (∀ (s : State) (n : Fin 32) (p : Fin 4) (k : PortKeys) (a : Sak) (w : List Nat), s.settled → (s.sess n).state = 2 →
    (s.eth p).keys = some k → k.txNext = some (a, w) → w.filter (fun j => j != n.val && (s.sess j).state == 2) = [] → a.an < 256 →
    ∃ t, exec (.rekeyAck n (p.castLE (by decide)) (Fin.ofNat 256 a.an)) s = .next t ∧
      (t.eth p).keys = some { k with tx := a, txNext := none, pn := 1 } ∧ bitAt (t.reg pgSec 0x10) 2 = true ∧ s.sameMemory t) ∧
  (∀ (s : State) (p : Fin 4), s.settled → ((s.eth p).keys = none ∨ ∃ k, (s.eth p).keys = some k ∧ k.txNext.isSome = true) →
    exec (.pnThreshold p) s = .next s) ∧
  (∀ (s : State) (p : Fin 4) (k : PortKeys), (s.eth p).keys = some k → k.txNext = none →
    let a : Sak := ⟨(k.tx.an + 1) % 4, s.freeNat⟩
    exec (.pnThreshold p) s = .next ((forEach (s.openOn p) (fun n s => s.sendRekey n p a) (s.drawn.setEth p { s.eth p with
      keys := some { k with txNext := some (a, s.openOn p), pn := max k.pn (s.pnThreshold p) } })).trySwitch p).settle) ∧
  (∀ (s : State) (n : Fin 32) (c : BitVec 64) (p : Fin 4), s.pwr.state ≠ .standby → (s.sess n).state = 2 →
    (s.sess n).peer = false → (s.eth p).keys ≠ none → ((s.eth p).scis.any fun x => x.1 == c.toNat) = false →
    (8 ≤ (s.eth p).scis.length → exec (.sciAdd n c (p.castLE (by decide))) s = .next (s.attestFail n 4).settle) ∧
    ((s.eth p).scis.length < 8 → s.settled → exec (.sciAdd n c (p.castLE (by decide))) s =
      .next (s.setEth p { s.eth p with scis := (s.eth p).scis ++ [(c.toNat, n.val)] })))

/-- Ownership, network boot and rollback (R331 to R335): ENROLL starts a burn when the session and the device agree on its owner and
fails with its reason otherwise; the end of the burn makes the new owner current, revokes the old one, and closes every session; owner
keys are taken up to five; a rollback counter advances only in IDLE or STANDBY, never past what runs, and never back. -/
def Obligations.OwnershipAndRollback : Prop :=
  (∀ (s : State) (n : Fin 32) (m : EnrollMsg), s.settled → s.pwr.state ≠ .standby → (s.sess n).state = 2 → (s.sess n).peer = false →
    (s.sess n).unowned = !s.owned → s.ownable = true → s.fuse.slots.length < 8 → (s.owned = false ∨ m.genuine = true) →
    exec (.enroll n m) s = .next { s with sec := { s.sec with
      burn := some (.owner m.keyHash.toNat (m.imageKeys.map (·.toNat)) s.owned) } }) ∧
  (∀ (s : State) (n : Fin 32) (m : EnrollMsg), s.pwr.state ≠ .standby → (s.sess n).state = 2 → (s.sess n).peer = false →
    (s.sess n).unowned = s.owned → exec (.enroll n m) s = .next (s.attestFail n 2).settle) ∧
  (∀ (s : State) (n : Fin 32), s.settled → s.pwr.state ≠ .standby → (s.sess n).state = 2 → (s.sess n).peer = false →
    (s.sess n).unowned = false → s.owned = true → s.ownable = true → s.fuse.slots.length < 8 →
    exec (.releaseOwner n true) s = .next { s with sec := { s.sec with burn := some .release } }) ∧
  (∀ (s : State) (n : Fin 32) (g : Bool), s.pwr.state ≠ .standby → (s.sess n).state = 2 → (s.sess n).peer = false →
    ((s.sess n).unowned = true ∨ s.owned = false) → exec (.releaseOwner n g) s = .next (s.attestFail n 2).settle) ∧
  (∀ (s : State) (h : Nat) (k : List Nat), s.sec.burn = some (.owner h k false) →
    ∃ u : State, exec .ownerBurnDone s = .next u.settle ∧ u.fuse.slots = s.fuse.slots ++ [⟨h, k, false⟩] ∧ u.sec.burn = none ∧
      u.sec.imageKeys = [] ∧ u.net.exchanges = [] ∧ (∀ n, n < 32 → (u.sess n).state = 0) ∧
      (∀ p, p < 4 → (u.eth p).keys = none ∧ (u.eth p).scis = []) ∧ bitAt (u.reg pgSec 0x10) 3 = true ∧ s.sameMemory u) ∧
  (∀ (s : State) (n : Fin 32) (l : List Nat), s.settled → s.pwr.state ≠ .standby → ((s.sess n).state ≠ 2 ∨ (s.sess n).peer = true) →
    exec (.keys n l) s = .next s) ∧
  (∀ (s : State) (n : Fin 32) (l : List Nat), s.pwr.state ≠ .standby → (s.sess n).state = 2 → (s.sess n).peer = false →
    exec (.keys n l) s = .next (if 5 < l.length then s.attestFail n 9 else s.takeKeys l).settle) ∧
  (∀ (s : State) (o t : Word) (b : List Byte), s.settled → (s.pwr.booting = false ∨ s.sec.netBoot = false ∨ 4 ≤ s.pwr.step) →
    exec (.bootData o t b) s = .next s) ∧
  (∀ (s : State) (o t : Word) (b : Byte), s.settled → s.pwr.booting = true → s.sec.netBoot = true → s.pwr.step < 4 →
    exec (.bootData o t [b]) s = .next { s with sec := { s.sec with
      bootData := sset (fun _ => (0 : Byte)) s.sec.bootData o.toNat b, bootTotal := t.toNat } }) ∧
  (∀ (s : State) (w : Word), s.settled → bitAt w 31 = true → s.sec.burn = none → s.pwr.state ≠ .idle → s.pwr.state ≠ .standby →
    ∃ t, exec (.rollbackAdvance w) s = .next t ∧ t.sec.burn = none ∧ bitAt (t.reg pgSec 0x10) 5 = true ∧
      t.reg pgSec 0x24 = 6 ∧ t.fuse = s.fuse) ∧
  (∀ (s : State) (w : Word), s.settled → bitAt w 31 = true → s.sec.burn = none → s.pwr.state = .idle → fld w 0 8 ≤ 128 →
    fld w 8 1 = 0 → fld w 0 8 ≤ s.sec.fwVersion → s.fuse.fw < fld w 0 8 →
    ∃ t, exec (.rollbackAdvance w) s = .next t ∧ t.sec.burn = some (.rollback 0 (fld w 0 8) s.clk.up) ∧ t.fuse = s.fuse) ∧
  (∀ (s : State) (k v u : Nat), s.sec.burn = some (.rollback k v u) →
    ∃ t : State, exec .rollbackDone s = .next t.settle ∧ t.sec.burn = none ∧ bitAt (t.reg pgSec 0x10) 4 = true ∧
      t.fuse.fw = (if k = 0 then max s.fuse.fw v else s.fuse.fw) ∧ t.fuse.img = (if k = 0 then s.fuse.img else max s.fuse.img v))

/-- Releases of frozen masters (R342, R343): a release asked for while the master still gives up what it holds waits for it; one asked for
after that is performed at once; the end of the give-up performs a release that waits. -/
def Obligations.FreezeReleases : Prop :=
  (∀ (s : State) (w : Word), s.settled → bitAt w 31 = true → 0x10 ≤ fld w 0 8 → s.sec.frozen.contains (fld w 0 8) = true →
    s.sec.relPending = [] → s.sec.givingUp.contains (fld w 0 8) = true →
    exec (.freezeRelease w) s = .next { s.setRfld pgSec 0x104 0 8 (fld w 0 8) with sec := { s.sec with relPending := [fld w 0 8] } }) ∧
  (∀ (s : State) (w : Word), s.settled → bitAt w 31 = true → 0x10 ≤ fld w 0 8 → fld w 0 8 < 0x90 →
    s.sec.frozen.contains (fld w 0 8) = true → s.sec.relPending = [] → s.sec.givingUp.contains (fld w 0 8) = false →
    ∃ t, exec (.freezeRelease w) s = .next t ∧ t.sec.frozen = s.sec.frozen.filter (· != fld w 0 8) ∧ t.sec.relPending = [] ∧
      (t.chan (fld w 0 8 - 0x10)).state = .stopped ∧ s.sameMemory t) ∧
  (∀ (s : State) (w : Word), s.settled → (bitAt w 31 = false ∨ s.sec.frozen.contains (fld w 0 8) = false) →
    exec (.freezeRelease w) s = .next (s.setRfld pgSec 0x104 0 8 (fld w 0 8))) ∧
  (∀ (s : State) (m : Fin 256), s.settled → s.sec.relPending.contains m.val = false →
    exec (.giveUpComplete m) s = .next { s with sec := { s.sec with givingUp := s.sec.givingUp.filter (· != m.val) } }) ∧
  (∀ (s : State) (m : Fin 256), s.settled → s.sec.relPending = [m.val] → s.sec.frozen.contains m.val = true → 0x10 ≤ m.val →
    m.val < 0x90 →
    ∃ t, exec (.giveUpComplete m) s = .next t ∧ t.sec.frozen = s.sec.frozen.filter (· != m.val) ∧ t.sec.relPending = [] ∧
      (t.chan (m.val - 0x10)).state = .stopped ∧ s.sameMemory t)

/-- A frame has ceil(F / H) bands; band b covers rows b·H to min((b + 1)·H, F) − 1; only the last band can be shorter than H, and its
height is always even (R20), F and H being even (Table 02-2). -/
def Obligations.BandsOfAFrame : Prop :=
  ∀ f : Frame, 0 < f.bandRows → f.bandRows % 2 = 0 → f.height % 2 = 0 → 0 < f.height →
    f.bandCount = (f.height + f.bandRows - 1) / f.bandRows ∧
    ∀ b, b < f.bandCount →
      f.top b = b * f.bandRows ∧ f.bottom b = min ((b + 1) * f.bandRows) f.height ∧ f.top b < f.bottom b ∧
      (b + 1 < f.bandCount → f.bottom b - f.top b = f.bandRows) ∧
      (b + 1 = f.bandCount → f.bottom b = f.height ∧ (f.bottom b - f.top b) % 2 = 0)

/-- If W ≤ w, a band has one stripe of width W; otherwise it has n = ceil(W / w) stripes, stripe j before the last covers columns j·w to
(j + 1)·w − 1 and the last one columns (n − 1)·w to W − 1, and can be as narrow as 2 columns (R21), W and w being even (Table 02-2). -/
def Obligations.StripesOfABand : Prop :=
  (∀ f : Frame, 0 < f.stripeW → f.stripeW % 2 = 0 → f.width % 2 = 0 → 0 < f.width →
    (f.width ≤ f.stripeW → f.stripeCount = 1 ∧ f.columns 0 = (0, f.width)) ∧
    (f.stripeW < f.width → f.stripeCount = (f.width + f.stripeW - 1) / f.stripeW ∧
      (∀ j, j + 1 < f.stripeCount → f.columns j = (j * f.stripeW, (j + 1) * f.stripeW)) ∧
      f.columns (f.stripeCount - 1) = ((f.stripeCount - 1) * f.stripeW, f.width) ∧
      (f.stripeCount - 1) * f.stripeW + 2 ≤ f.width)) ∧
  (∀ f : Frame, 0 < f.stripeW → f.width = f.stripeW + 2 → f.stripeCount = 2 ∧ f.columns 1 = (f.stripeW, f.stripeW + 2))

/-- Every result format writes NaN as its canonical pattern, signed zeros are kept, and a zero sum of operands of opposite sign is
positive (R115). -/
def Obligations.CanonicalNaN : Prop :=
  (∀ b, encodeF fp32 b .nan = 0x7FC00000 ∧ encodeF fp16 b .nan = 0x7E00 ∧ encodeF bf16 b .nan = 0x7FC0 ∧
    encodeF e4m3 b .nan = 0x7F ∧ encodeF e5m2 b .nan = 0x7E) ∧
  (∀ (f : FFmt) (b s : Bool) (e : Int), f = fp32 ∨ f = fp16 ∨ f = bf16 ∨ f = e4m3 ∨ f = e5m2 →
    encodeF f b (.fin s 0 e) = if s then 2 ^ (f.eb + f.mb) else 0) ∧
  (∀ (m : Nat) (e : Int), ∃ q, flAdd (.fin false m e) (.fin true m e) = .fin false 0 q) ∧
  (∀ (m : Nat) (e : Int), ∃ q, flAdd (.fin true m e) (.fin false m e) = .fin false 0 q)

/-- Event registers (R400, R401): ones written to EVT_RAW clear those bits and no others; a mask takes its value within the bits that the
page has; EVT_SET sets the bits named; a page without the common header, or in a domain that is off, has no event bits. Restarts that
software asks for and the progress check (R346, R354, R355): a request for an empty slot restarts nothing; one for a job restarts it;
the end of a restart concerns only a job that restarts; work that two checks in a row find unfinished is a fault of class 0x18 and
restarts every rendering job. -/
def Obligations.EventsAndRestarts : Prop :=
  (∀ (s : State) (p : Fin 4096) (w : Word), s.settled → exec (.eventClear p w) s =
    .next (s.setReg p 0x10 (s.reg p 0x10 &&& ~~~ (w &&& BitVec.ofNat 32 (2 ^ s.eventBits p - 1))))) ∧
  (∀ (s : State) (p : Fin 4096) (w : Word), s.settled → s.eventBits p ≠ 0 →
    ∃ t, exec (.eventMaskWrite p w) s = .next t ∧ t.reg p 0x14 = w &&& BitVec.ofNat 32 (2 ^ s.eventBits p - 1) ∧
      t.reg p 0x10 = s.reg p 0x10 ∧ s.sameMemory t) ∧
  (∀ (s : State) (p : Fin 4096) (w : Word) (b : Nat), s.settled → b < s.eventBits p → bitAt w b = true →
    ∃ t, exec (.eventSet p w) s = .next t ∧ bitAt (t.reg p 0x10) b = true ∧ t.reg p 0x24 = s.reg p 0x24 ∧ s.sameMemory t) ∧
  (∀ (s : State) (p : Fin 4096) (w : Word), s.settled → s.eventBits p = 0 →
    exec (.eventSet p w) s = .next s ∧ exec (.eventMaskWrite p w) s = .next s) ∧
  (∀ (s : State) (w : Word), s.settled → (bitAt w 31 = false ∨ s.job (fld w 0 3) = none) →
    exec (.hostJobRestart w) s = .next (s.setRfld pgFlt 0x108 0 3 (fld w 0 3))) ∧
  (∀ (s : State) (w : Word) (x : Job), bitAt w 31 = true → s.job (fld w 0 3) = some x →
    exec (.hostJobRestart w) s = .next ((s.setRfld pgFlt 0x108 0 3 (fld w 0 3)).restartJob (fld w 0 3) 0 true).settle) ∧
  (∀ (s : State) (j : Fin 8), s.settled → s.sec.relPending = [] →
    ((s.job j).all fun x => x.phase != .restarting) = true → exec (.jobRestartReady j) s = .next s) ∧
  (∀ (s : State) (j : Fin 8) (x : Job), s.settled → s.sec.relPending = [] → s.job j = some x → x.phase = .restarting →
    x.kind = 1 → x.bind.queues 1 = [] → (∀ t, t < 6 → s.persistRanges t = []) → x.bind.eventQ = 0xFFFF →
    bitAt (s.reg pgNet 0x100) 31 = false → s.sup.busy = [] →
    exec (.jobRestartReady j) s = .next (s.setJob j (some { x with phase := .running, restartAt := max x.restartAt s.clk.ptp }))) ∧
  (∀ s : State, s.settled → (∀ x ∈ s.progressItems, x ∉ s.sched.progress) →
    exec .progressCheck s = .next { s with sched := { s.sched with progress := s.progressItems } }) ∧
  (∀ (s : State) (x : Nat × Nat × Nat × Nat), x ∈ s.progressItems → x ∈ s.sched.progress →
    ∃ u : State, exec .progressCheck s = .next u.settle ∧ u.flt.due = s.flt.due ++ [.restartAll false 0x18] ∧ u.sched.progress = [] ∧
      bitAt (u.reg pgFlt 0x10) 0 = true ∧ u.reg pgFlt 0x24 = 0x18 ∧ s.sameMemory u)

/-- Every command of a well-formed shape answers a next state, and every other one is refused as ill-formed, whatever the state. -/
def Obligations.EveryCommandCompletes : Prop :=
  ∀ (c : Instr) (s : State), if c.wf then completes (exec c s) else ∃ m, exec c s = .refused (.illFormed m)

/-- REPLACE_N shows exactly the conditions that assert it (R353) after every step that starts from a state in which it does: a fenced
engine or faulted tile, a retired page, or a failed lane on a channel without a free gusset lane. -/
def Obligations.ReplaceFollowsConditions : Prop :=
  ∀ s t : State, s.flt.replaced = s.replaceDue → step s = .next t → t.flt.replaced = t.replaceDue

/-- The state after reset (R246, R284, R382): between commands, with an empty queue and REPLACE_N showing no condition, memory canonical and
zero, every page INVALID, and every queue context zero but for OWNER, which reads 0xFF. -/
def Obligations.ResetState : Prop :=
  State.reset.settled ∧ State.reset.pending = [] ∧ State.reset.flt.replaced = false ∧ memoryWf State.reset.mem = true ∧
  (∀ a, State.reset.byte a = 0) ∧ (∀ p, State.reset.pageState p = 0) ∧
  (∀ q i, i < 16 → ctxWord (State.reset.queue q).ctx i = if i = 2 then 0xFF000000 else 0) ∧ State.reset.pwr.booting = true ∧
  (∀ n, (State.reset.sess n).state = 0) ∧ (∀ j, State.reset.job j = none)

/-- In the CAM, RFE, STAT, OFM and CRS header pages, PSET_SEQ and PSET_COMMIT access the single pair in the RFE page; in every other
header page, PSET_SEQ reads as zero and a write to PSET_COMMIT is ignored (R403). -/
def Obligations.ParameterSetPair : Prop :=
  ∀ (s : State) (a : Nat), a < ctxBase → (idType (pageOf (pageIndex a)).1).isSome = true →
    let shared := [PageKind.cam, .rfe, .stat, .ofm, .crs].contains (pageOf (pageIndex a)).1
    (a % 4096 = 0x30 → s.wordAt a = if shared then s.reg pgRfe 0x30 else 0) ∧
    (a % 4096 = 0x34 → s.runOk a 1 = true → ∀ (n : Fin 33) (w : Word),
      if shared then exec (.registerWrite n a w) s = exec (.psetCommit w) s
      else s.settled → exec (.registerWrite n a w) s = .next s)
end

