-- ==== Sys2Proof/Laws/Bits.lean ====
section
/-! SUPPORT. Laws of bit fields: reading a field after a field was put, and the lengths and values of little-endian bytes. -/

namespace Sys2Proof.Machine

open Sys2Proof

/-- A field's bits are the word's. -/
theorem fld_testBit (x : Word) (lo w i : Nat) : (fld x lo w).testBit i = (decide (i < w) && x.toNat.testBit (lo + i)) := by
  rw [fld, Nat.testBit_mod_two_pow, Nat.testBit_div_two_pow, Nat.add_comm]

/-- A field is below its bound. -/
theorem fld_lt (x : Word) (lo w : Nat) : fld x lo w < 2 ^ w := Nat.mod_lt _ (Nat.two_pow_pos w)

/-- What a put field makes of the number of a word. -/
theorem putFld_parts (n lo w v : Nat) :
    n - n / 2 ^ lo % 2 ^ w * 2 ^ lo + v % 2 ^ w * 2 ^ lo =
      2 ^ lo * (2 ^ w * (n / 2 ^ lo / 2 ^ w) + v % 2 ^ w) + n % 2 ^ lo := by
  have h1 := Nat.div_add_mod n (2 ^ lo)
  have h2 := Nat.div_add_mod (n / 2 ^ lo) (2 ^ w)
  set q := n / 2 ^ lo
  set r := n % 2 ^ lo
  have h3 : n = 2 ^ lo * (2 ^ w * (q / 2 ^ w)) + 2 ^ lo * (q % 2 ^ w) + r := by
    rw [← Nat.mul_add, h2, h1]
  rw [Nat.mul_add, Nat.mul_comm (q % 2 ^ w), Nat.mul_comm (v % 2 ^ w)]
  omega

/-- The bits of a word after a field within it was put. -/
theorem putFld_testBit (x : Word) (lo w v i : Nat) (h : lo + w ≤ 32) :
    (putFld x lo w v).toNat.testBit i = if lo ≤ i ∧ i < lo + w then v.testBit (i - lo) else x.toNat.testBit i := by
  have hx := x.isLt
  rw [putFld, fld, putFld_parts, BitVec.toNat_ofNat, Nat.testBit_mod_two_pow,
    Nat.testBit_two_pow_mul_add _ (Nat.mod_lt _ (Nat.two_pow_pos lo)),
    Nat.testBit_two_pow_mul_add _ (Nat.mod_lt _ (Nat.two_pow_pos w))]
  simp only [Nat.testBit_mod_two_pow, Nat.testBit_div_two_pow]
  by_cases h1 : i < lo
  · have h2 : i < 32 := by omega
    simp [h1, h2, show ¬ lo ≤ i by omega]
  · have h1' : lo ≤ i := by omega
    by_cases h2 : i < lo + w
    · simp [h1, h1', h2, show i - lo < w by omega, show i < 32 by omega]
    · by_cases h3 : i < 32
      · simp [h1, h2, h3, show ¬ i - lo < w by omega, show i - lo - w + w + lo = i by omega]
      · have h4 : x.toNat.testBit i = false :=
          Nat.testBit_lt_two_pow (lt_of_lt_of_le hx (Nat.pow_le_pow_right (by omega) (by omega)))
        simp [h2, h3, h4]

/-- A put field reads as put. -/
theorem fld_putFld_same (x : Word) (lo w v : Nat) (h : lo + w ≤ 32) : fld (putFld x lo w v) lo w = v % 2 ^ w := by
  apply Nat.eq_of_testBit_eq
  intro i
  rw [fld_testBit, putFld_testBit x lo w v _ h, Nat.testBit_mod_two_pow]
  by_cases hi : i < w <;> simp [hi]

/-- A put field leaves a field beside it. -/
theorem fld_putFld_other (x : Word) (lo w v lo' w' : Nat) (h : lo + w ≤ 32) (hd : lo' + w' ≤ lo ∨ lo + w ≤ lo') :
    fld (putFld x lo w v) lo' w' = fld x lo' w' := by
  apply Nat.eq_of_testBit_eq
  intro i
  rw [fld_testBit, fld_testBit, putFld_testBit x lo w v _ h]
  by_cases hi : i < w'
  · rw [if_neg (by omega)]
  · simp [hi]

/-- A bit after a field was put. -/
theorem bitAt_putFld (x : Word) (lo w v i : Nat) (h : lo + w ≤ 32) :
    bitAt (putFld x lo w v) i = if lo ≤ i ∧ i < lo + w then v.testBit (i - lo) else bitAt x i := putFld_testBit x lo w v i h

/-- A saturating count does not pass its bound. -/
theorem satAdd_lt (w a b : Nat) : satAdd w a b < 2 ^ w := by
  have := Nat.two_pow_pos w
  unfold satAdd
  omega

/-- `n` bytes are spelled. -/
@[simp] theorem leBytes_length (n v : Nat) : (leBytes n v).length = n := by
  induction n generalizing v with
  | zero => rfl
  | succ n ih => simp [leBytes, ih]

/-- Spelled bytes read back. -/
theorem leNat_leBytes (n v : Nat) : leNat (leBytes n v) = v % 256 ^ n := by
  induction n generalizing v with
  | zero => simp [leBytes, leNat, Nat.mod_one]
  | succ n ih =>
    have h : v % 256 ^ (n + 1) = v % 256 + 256 * (v / 256 % 256 ^ n) := by rw [Nat.pow_succ', Nat.mod_mul]
    rw [leBytes, leNat, ih, BitVec.toNat_ofNat, h]

end Sys2Proof.Machine
end

