-- ==== Sys2Proof/Laws/Sparse.lean ====
section
/-! SUPPORT. Laws of the sparse maps: reading after writing, and the canonical form that writing keeps. -/

namespace Sys2Proof.Machine

variable {α : Type}

/-- A dropped key reads as the default. -/
theorem sget_sdrop_same (d : Nat → α) (m : Sparse α) (k : Nat) : sget d (sdrop m k) k = d k := by
  induction m with
  | nil => rfl
  | cons e m ih =>
    obtain ⟨j, v⟩ := e
    by_cases h : j = k <;> simp [sdrop, sget, h, ih]

/-- Dropping a key leaves the others. -/
theorem sget_sdrop_other (d : Nat → α) (m : Sparse α) {k j : Nat} (hne : j ≠ k) : sget d (sdrop m k) j = sget d m j := by
  induction m with
  | nil => rfl
  | cons e m ih =>
    obtain ⟨i, v⟩ := e
    by_cases h : i = k
    · subst h
      simp [sdrop, sget, ih, hne.symm]
    · simp [sdrop, sget, h, ih]

/-- A put pair is read back where the key was not listed. -/
theorem sget_sput_same (d : Nat → α) (m : Sparse α) (k : Nat) (v : α) (h : ∀ e ∈ m, e.1 ≠ k) : sget d (sput m k v) k = v := by
  induction m with
  | nil => simp [sput, sget]
  | cons e m ih =>
    obtain ⟨j, w⟩ := e
    have hj : j ≠ k := h (j, w) (by simp)
    by_cases hlt : j < k
    · simp [sput, sget, hlt, hj, ih (fun e he => h e (by simp [he]))]
    · simp [sput, sget, hlt]

/-- A put pair leaves the other keys. -/
theorem sget_sput_other (d : Nat → α) (m : Sparse α) {k j : Nat} (v : α) (hne : j ≠ k) : sget d (sput m k v) j = sget d m j := by
  induction m with
  | nil => simp [sput, sget, hne.symm]
  | cons e m ih =>
    obtain ⟨i, w⟩ := e
    by_cases hlt : i < k <;> simp [sput, sget, hlt, hne.symm, ih]

/-- No listed key is one that was dropped. -/
theorem sdrop_ne (m : Sparse α) (k : Nat) : ∀ e ∈ sdrop m k, e.1 ≠ k := by
  induction m with
  | nil => simp [sdrop]
  | cons e m ih =>
    obtain ⟨j, v⟩ := e
    by_cases h : j = k
    · simpa [sdrop, h] using ih
    · intro x hx
      simp only [sdrop, h, if_false, List.mem_cons] at hx
      rcases hx with rfl | hx
      · exact h
      · exact ih x hx

variable [DecidableEq α]

/-- A written key reads as written. -/
@[simp] theorem sget_sset_same (d : Nat → α) (m : Sparse α) (k : Nat) (v : α) : sget d (sset d m k v) k = v := by
  unfold sset
  split
  · rename_i h
    rw [sget_sdrop_same, h]
  · exact sget_sput_same d _ k v (sdrop_ne m k)

/-- Writing a key leaves the others. -/
theorem sget_sset_other (d : Nat → α) (m : Sparse α) {k j : Nat} (v : α) (h : j ≠ k) : sget d (sset d m k v) j = sget d m j := by
  unfold sset
  split
  · exact sget_sdrop_other d m h
  · rw [sget_sput_other d _ v h, sget_sdrop_other d m h]

/-- Reading after writing, by cases. -/
theorem sget_sset (d : Nat → α) (m : Sparse α) (k j : Nat) (v : α) :
    sget d (sset d m k v) j = if j = k then v else sget d m j := by
  split
  · rename_i h
    rw [h, sget_sset_same]
  · rename_i h
    exact sget_sset_other d m v h

/-! The canonical form. -/

/-- A pair before a map whose keys are larger and which is in form. -/
def headOk (k : Nat) : Sparse α → Prop
  | [] => True
  | (j, _) :: _ => k < j

/-- The form of a map with a first pair. -/
theorem swf_cons (d : Nat → α) (k : Nat) (v : α) (m : Sparse α) :
    swf d ((k, v) :: m) = true ↔ v ≠ d k ∧ headOk k m ∧ swf d m = true := by
  cases m with
  | nil => simp [swf, headOk]
  | cons e m =>
    obtain ⟨j, w⟩ := e
    simp [swf, headOk, and_assoc]

/-- Every key of a map in form whose first key is above `k` is above `k`. -/
theorem keys_above (d : Nat → α) (m : Sparse α) (k : Nat) (h : swf d m = true) (hh : headOk k m) : ∀ e ∈ m, k < e.1 := by
  induction m generalizing k with
  | nil => simp
  | cons e m ih =>
    obtain ⟨j, v⟩ := e
    have hc := (swf_cons d j v m).1 h
    intro x hx
    rcases List.mem_cons.1 hx with rfl | hx
    · exact hh
    · exact lt_trans hh (ih j hc.2.2 hc.2.1 x hx)

omit [DecidableEq α] in
/-- A first key below every other. -/
theorem headOk_of_above (m : Sparse α) (k : Nat) (h : ∀ e ∈ m, k < e.1) : headOk k m := by
  cases m with
  | nil => trivial
  | cons e m => exact h e (by simp)

omit [DecidableEq α] in
/-- The keys of a map without one are keys of the map. -/
theorem mem_sdrop (m : Sparse α) (k : Nat) : ∀ e ∈ sdrop m k, e ∈ m := by
  induction m with
  | nil => simp [sdrop]
  | cons e m ih =>
    obtain ⟨j, v⟩ := e
    by_cases h : j = k
    · intro x hx
      simp only [sdrop, h, if_true] at hx
      exact List.mem_cons_of_mem _ (ih x hx)
    · intro x hx
      simp only [sdrop, h, if_false, List.mem_cons] at hx
      rcases hx with rfl | hx
      · simp
      · exact List.mem_cons_of_mem _ (ih x hx)

/-- Dropping a key keeps the form. -/
theorem swf_sdrop (d : Nat → α) (m : Sparse α) (k : Nat) (h : swf d m = true) : swf d (sdrop m k) = true := by
  induction m with
  | nil => exact h
  | cons e m ih =>
    obtain ⟨j, v⟩ := e
    have hc := (swf_cons d j v m).1 h
    by_cases hk : j = k
    · simpa [sdrop, hk] using ih hc.2.2
    · simp only [sdrop, hk, if_false]
      refine (swf_cons d j v _).2 ⟨hc.1, headOk_of_above _ _ fun e he => ?_, ih hc.2.2⟩
      exact keys_above d m j hc.2.2 hc.2.1 e (mem_sdrop m k e he)

omit [DecidableEq α] in
/-- A pair of a map after a put is the put one or an old one. -/
theorem mem_sput (m : Sparse α) (k : Nat) (v : α) : ∀ e ∈ sput m k v, e = (k, v) ∨ e ∈ m := by
  induction m with
  | nil => simp [sput]
  | cons e m ih =>
    obtain ⟨j, w⟩ := e
    intro x hx
    by_cases hlt : j < k
    · simp only [sput, hlt, if_true, List.mem_cons] at hx
      rcases hx with rfl | hx
      · simp
      · rcases ih x hx with h | h
        · exact Or.inl h
        · exact Or.inr (List.mem_cons_of_mem _ h)
    · simp only [sput, hlt, if_false, List.mem_cons] at hx
      rcases hx with rfl | hx | hx
      · simp
      · exact Or.inr (by simp [hx])
      · exact Or.inr (List.mem_cons_of_mem _ hx)

/-- Putting a pair that is no default, at a key that is not listed, keeps the form. -/
theorem swf_sput (d : Nat → α) (m : Sparse α) (k : Nat) (v : α) (hv : v ≠ d k) (hk : ∀ e ∈ m, e.1 ≠ k) (h : swf d m = true) :
    swf d (sput m k v) = true := by
  induction m with
  | nil => simp [sput, swf, hv]
  | cons e m ih =>
    obtain ⟨j, w⟩ := e
    have hc := (swf_cons d j w m).1 h
    have hj : j ≠ k := hk (j, w) (by simp)
    by_cases hlt : j < k
    · simp only [sput, hlt, if_true]
      refine (swf_cons d j w _).2 ⟨hc.1, headOk_of_above _ _ fun e he => ?_, ih (fun e he => hk e (by simp [he])) hc.2.2⟩
      rcases mem_sput m k v e he with rfl | he
      · exact hlt
      · exact keys_above d m j hc.2.2 hc.2.1 e he
    · simp only [sput, hlt, if_false]
      exact (swf_cons d k v _).2 ⟨hv, show k < j by omega, h⟩

/-- Writing a key keeps the form. -/
theorem swf_sset (d : Nat → α) (m : Sparse α) (k : Nat) (v : α) (h : swf d m = true) : swf d (sset d m k v) = true := by
  unfold sset
  split
  · exact swf_sdrop d m k h
  · rename_i hv
    exact swf_sput d _ k v hv (sdrop_ne m k) (swf_sdrop d m k h)

omit [DecidableEq α] in
/-- A pair of a filtered map is a pair of the map. -/
theorem mem_skeep (p : Nat × α → Bool) (m : Sparse α) : ∀ e ∈ m.filter p, e ∈ m := fun _ he => (List.mem_filter.1 he).1

/-- Keeping some pairs keeps the form. -/
theorem swf_filter (d : Nat → α) (p : Nat × α → Bool) (m : Sparse α) (h : swf d m = true) : swf d (m.filter p) = true := by
  induction m with
  | nil => exact h
  | cons e m ih =>
    obtain ⟨j, v⟩ := e
    have hc := (swf_cons d j v m).1 h
    by_cases hp : p (j, v) = true
    · rw [List.filter_cons_of_pos hp]
      refine (swf_cons d j v _).2 ⟨hc.1, headOk_of_above _ _ fun e he => ?_, ih hc.2.2⟩
      exact keys_above d m j hc.2.2 hc.2.1 e (mem_skeep p m e he)
    · rw [List.filter_cons_of_neg hp]
      exact ih hc.2.2

end Sys2Proof.Machine
end

