-- ==== Sys2Proof/Laws/State.lean ====
section
/-! SUPPORT. The fields of the state after each update of Machine/Ops.lean: one lemma per field and update, so that no later
proof unfolds a record update or a named operation. -/

namespace Sys2Proof.Machine

open Sys2Proof

/-! `setSlot`. -/

@[simp] theorem setSlot_pending (s : State) (i : Nat) (v : Slot) : (s.setSlot i v).pending = s.pending := rfl
@[simp] theorem setSlot_free (s : State) (i : Nat) (v : Slot) : (s.setSlot i v).free = s.free := rfl
@[simp] theorem setSlot_out (s : State) (i : Nat) (v : Slot) : (s.setSlot i v).out = s.out := rfl
@[simp] theorem setSlot_clk (s : State) (i : Nat) (v : Slot) : (s.setSlot i v).clk = s.clk := rfl
@[simp] theorem setSlot_pins (s : State) (i : Nat) (v : Slot) : (s.setSlot i v).pins = s.pins := rfl
@[simp] theorem setSlot_regs (s : State) (i : Nat) (v : Slot) : (s.setSlot i v).regs = s.regs := rfl
@[simp] theorem setSlot_holds (s : State) (i : Nat) (v : Slot) : (s.setSlot i v).holds = s.holds := rfl
@[simp] theorem setSlot_pwr (s : State) (i : Nat) (v : Slot) : (s.setSlot i v).pwr = s.pwr := rfl
@[simp] theorem setSlot_sup (s : State) (i : Nat) (v : Slot) : (s.setSlot i v).sup = s.sup := rfl
@[simp] theorem setSlot_fuse (s : State) (i : Nat) (v : Slot) : (s.setSlot i v).fuse = s.fuse := rfl
@[simp] theorem setSlot_cam (s : State) (i : Nat) (v : Slot) : (s.setSlot i v).cam = s.cam := rfl
@[simp] theorem setSlot_pset (s : State) (i : Nat) (v : Slot) : (s.setSlot i v).pset = s.pset := rfl
@[simp] theorem setSlot_live (s : State) (i : Nat) (v : Slot) : (s.setSlot i v).live = s.live := rfl
@[simp] theorem setSlot_strms (s : State) (i : Nat) (v : Slot) : (s.setSlot i v).strms = s.strms := rfl
@[simp] theorem setSlot_engines (s : State) (i : Nat) (v : Slot) : (s.setSlot i v).engines = s.engines := rfl
@[simp] theorem setSlot_tiles (s : State) (i : Nat) (v : Slot) : (s.setSlot i v).tiles = s.tiles := rfl
@[simp] theorem setSlot_sched (s : State) (i : Nat) (v : Slot) : (s.setSlot i v).sched = s.sched := rfl
@[simp] theorem setSlot_admits (s : State) (i : Nat) (v : Slot) : (s.setSlot i v).admits = s.admits := rfl
@[simp] theorem setSlot_jobs (s : State) (i : Nat) (v : Slot) : (s.setSlot i v).jobs = s.jobs := rfl
@[simp] theorem setSlot_images (s : State) (i : Nat) (v : Slot) : (s.setSlot i v).images = s.images := rfl
@[simp] theorem setSlot_load (s : State) (i : Nat) (v : Slot) : (s.setSlot i v).load = s.load := rfl
@[simp] theorem setSlot_mem (s : State) (i : Nat) (v : Slot) : (s.setSlot i v).mem = s.mem := rfl
@[simp] theorem setSlot_dram (s : State) (i : Nat) (v : Slot) : (s.setSlot i v).dram = s.dram := rfl
@[simp] theorem setSlot_cal (s : State) (i : Nat) (v : Slot) : (s.setSlot i v).cal = s.cal := rfl
@[simp] theorem setSlot_queues (s : State) (i : Nat) (v : Slot) : (s.setSlot i v).queues = s.queues := rfl
@[simp] theorem setSlot_channels (s : State) (i : Nat) (v : Slot) : (s.setSlot i v).channels = s.channels := rfl
@[simp] theorem setSlot_net (s : State) (i : Nat) (v : Slot) : (s.setSlot i v).net = s.net := rfl
@[simp] theorem setSlot_sec (s : State) (i : Nat) (v : Slot) : (s.setSlot i v).sec = s.sec := rfl
@[simp] theorem setSlot_flt (s : State) (i : Nat) (v : Slot) : (s.setSlot i v).flt = s.flt := rfl

/-! `setPort`. -/

@[simp] theorem setPort_pending (s : State) (i : Nat) (v : CamPort) : (s.setPort i v).pending = s.pending := rfl
@[simp] theorem setPort_free (s : State) (i : Nat) (v : CamPort) : (s.setPort i v).free = s.free := rfl
@[simp] theorem setPort_out (s : State) (i : Nat) (v : CamPort) : (s.setPort i v).out = s.out := rfl
@[simp] theorem setPort_clk (s : State) (i : Nat) (v : CamPort) : (s.setPort i v).clk = s.clk := rfl
@[simp] theorem setPort_pins (s : State) (i : Nat) (v : CamPort) : (s.setPort i v).pins = s.pins := rfl
@[simp] theorem setPort_regs (s : State) (i : Nat) (v : CamPort) : (s.setPort i v).regs = s.regs := rfl
@[simp] theorem setPort_holds (s : State) (i : Nat) (v : CamPort) : (s.setPort i v).holds = s.holds := rfl
@[simp] theorem setPort_pwr (s : State) (i : Nat) (v : CamPort) : (s.setPort i v).pwr = s.pwr := rfl
@[simp] theorem setPort_sup (s : State) (i : Nat) (v : CamPort) : (s.setPort i v).sup = s.sup := rfl
@[simp] theorem setPort_fuse (s : State) (i : Nat) (v : CamPort) : (s.setPort i v).fuse = s.fuse := rfl
@[simp] theorem setPort_slots (s : State) (i : Nat) (v : CamPort) : (s.setPort i v).slots = s.slots := rfl
@[simp] theorem setPort_pset (s : State) (i : Nat) (v : CamPort) : (s.setPort i v).pset = s.pset := rfl
@[simp] theorem setPort_live (s : State) (i : Nat) (v : CamPort) : (s.setPort i v).live = s.live := rfl
@[simp] theorem setPort_strms (s : State) (i : Nat) (v : CamPort) : (s.setPort i v).strms = s.strms := rfl
@[simp] theorem setPort_engines (s : State) (i : Nat) (v : CamPort) : (s.setPort i v).engines = s.engines := rfl
@[simp] theorem setPort_tiles (s : State) (i : Nat) (v : CamPort) : (s.setPort i v).tiles = s.tiles := rfl
@[simp] theorem setPort_sched (s : State) (i : Nat) (v : CamPort) : (s.setPort i v).sched = s.sched := rfl
@[simp] theorem setPort_admits (s : State) (i : Nat) (v : CamPort) : (s.setPort i v).admits = s.admits := rfl
@[simp] theorem setPort_jobs (s : State) (i : Nat) (v : CamPort) : (s.setPort i v).jobs = s.jobs := rfl
@[simp] theorem setPort_images (s : State) (i : Nat) (v : CamPort) : (s.setPort i v).images = s.images := rfl
@[simp] theorem setPort_load (s : State) (i : Nat) (v : CamPort) : (s.setPort i v).load = s.load := rfl
@[simp] theorem setPort_mem (s : State) (i : Nat) (v : CamPort) : (s.setPort i v).mem = s.mem := rfl
@[simp] theorem setPort_dram (s : State) (i : Nat) (v : CamPort) : (s.setPort i v).dram = s.dram := rfl
@[simp] theorem setPort_cal (s : State) (i : Nat) (v : CamPort) : (s.setPort i v).cal = s.cal := rfl
@[simp] theorem setPort_queues (s : State) (i : Nat) (v : CamPort) : (s.setPort i v).queues = s.queues := rfl
@[simp] theorem setPort_channels (s : State) (i : Nat) (v : CamPort) : (s.setPort i v).channels = s.channels := rfl
@[simp] theorem setPort_net (s : State) (i : Nat) (v : CamPort) : (s.setPort i v).net = s.net := rfl
@[simp] theorem setPort_sec (s : State) (i : Nat) (v : CamPort) : (s.setPort i v).sec = s.sec := rfl
@[simp] theorem setPort_flt (s : State) (i : Nat) (v : CamPort) : (s.setPort i v).flt = s.flt := rfl

/-! `setStrm`. -/

@[simp] theorem setStrm_pending (s : State) (i : Nat) (v : Strm) : (s.setStrm i v).pending = s.pending := rfl
@[simp] theorem setStrm_free (s : State) (i : Nat) (v : Strm) : (s.setStrm i v).free = s.free := rfl
@[simp] theorem setStrm_out (s : State) (i : Nat) (v : Strm) : (s.setStrm i v).out = s.out := rfl
@[simp] theorem setStrm_clk (s : State) (i : Nat) (v : Strm) : (s.setStrm i v).clk = s.clk := rfl
@[simp] theorem setStrm_pins (s : State) (i : Nat) (v : Strm) : (s.setStrm i v).pins = s.pins := rfl
@[simp] theorem setStrm_regs (s : State) (i : Nat) (v : Strm) : (s.setStrm i v).regs = s.regs := rfl
@[simp] theorem setStrm_holds (s : State) (i : Nat) (v : Strm) : (s.setStrm i v).holds = s.holds := rfl
@[simp] theorem setStrm_pwr (s : State) (i : Nat) (v : Strm) : (s.setStrm i v).pwr = s.pwr := rfl
@[simp] theorem setStrm_sup (s : State) (i : Nat) (v : Strm) : (s.setStrm i v).sup = s.sup := rfl
@[simp] theorem setStrm_fuse (s : State) (i : Nat) (v : Strm) : (s.setStrm i v).fuse = s.fuse := rfl
@[simp] theorem setStrm_cam (s : State) (i : Nat) (v : Strm) : (s.setStrm i v).cam = s.cam := rfl
@[simp] theorem setStrm_slots (s : State) (i : Nat) (v : Strm) : (s.setStrm i v).slots = s.slots := rfl
@[simp] theorem setStrm_pset (s : State) (i : Nat) (v : Strm) : (s.setStrm i v).pset = s.pset := rfl
@[simp] theorem setStrm_live (s : State) (i : Nat) (v : Strm) : (s.setStrm i v).live = s.live := rfl
@[simp] theorem setStrm_engines (s : State) (i : Nat) (v : Strm) : (s.setStrm i v).engines = s.engines := rfl
@[simp] theorem setStrm_tiles (s : State) (i : Nat) (v : Strm) : (s.setStrm i v).tiles = s.tiles := rfl
@[simp] theorem setStrm_sched (s : State) (i : Nat) (v : Strm) : (s.setStrm i v).sched = s.sched := rfl
@[simp] theorem setStrm_admits (s : State) (i : Nat) (v : Strm) : (s.setStrm i v).admits = s.admits := rfl
@[simp] theorem setStrm_jobs (s : State) (i : Nat) (v : Strm) : (s.setStrm i v).jobs = s.jobs := rfl
@[simp] theorem setStrm_images (s : State) (i : Nat) (v : Strm) : (s.setStrm i v).images = s.images := rfl
@[simp] theorem setStrm_load (s : State) (i : Nat) (v : Strm) : (s.setStrm i v).load = s.load := rfl
@[simp] theorem setStrm_mem (s : State) (i : Nat) (v : Strm) : (s.setStrm i v).mem = s.mem := rfl
@[simp] theorem setStrm_dram (s : State) (i : Nat) (v : Strm) : (s.setStrm i v).dram = s.dram := rfl
@[simp] theorem setStrm_cal (s : State) (i : Nat) (v : Strm) : (s.setStrm i v).cal = s.cal := rfl
@[simp] theorem setStrm_queues (s : State) (i : Nat) (v : Strm) : (s.setStrm i v).queues = s.queues := rfl
@[simp] theorem setStrm_channels (s : State) (i : Nat) (v : Strm) : (s.setStrm i v).channels = s.channels := rfl
@[simp] theorem setStrm_net (s : State) (i : Nat) (v : Strm) : (s.setStrm i v).net = s.net := rfl
@[simp] theorem setStrm_sec (s : State) (i : Nat) (v : Strm) : (s.setStrm i v).sec = s.sec := rfl
@[simp] theorem setStrm_flt (s : State) (i : Nat) (v : Strm) : (s.setStrm i v).flt = s.flt := rfl

/-! `setEng`. -/

@[simp] theorem setEng_pending (s : State) (i : Nat) (v : Engine) : (s.setEng i v).pending = s.pending := rfl
@[simp] theorem setEng_free (s : State) (i : Nat) (v : Engine) : (s.setEng i v).free = s.free := rfl
@[simp] theorem setEng_out (s : State) (i : Nat) (v : Engine) : (s.setEng i v).out = s.out := rfl
@[simp] theorem setEng_clk (s : State) (i : Nat) (v : Engine) : (s.setEng i v).clk = s.clk := rfl
@[simp] theorem setEng_pins (s : State) (i : Nat) (v : Engine) : (s.setEng i v).pins = s.pins := rfl
@[simp] theorem setEng_regs (s : State) (i : Nat) (v : Engine) : (s.setEng i v).regs = s.regs := rfl
@[simp] theorem setEng_holds (s : State) (i : Nat) (v : Engine) : (s.setEng i v).holds = s.holds := rfl
@[simp] theorem setEng_pwr (s : State) (i : Nat) (v : Engine) : (s.setEng i v).pwr = s.pwr := rfl
@[simp] theorem setEng_sup (s : State) (i : Nat) (v : Engine) : (s.setEng i v).sup = s.sup := rfl
@[simp] theorem setEng_fuse (s : State) (i : Nat) (v : Engine) : (s.setEng i v).fuse = s.fuse := rfl
@[simp] theorem setEng_cam (s : State) (i : Nat) (v : Engine) : (s.setEng i v).cam = s.cam := rfl
@[simp] theorem setEng_slots (s : State) (i : Nat) (v : Engine) : (s.setEng i v).slots = s.slots := rfl
@[simp] theorem setEng_pset (s : State) (i : Nat) (v : Engine) : (s.setEng i v).pset = s.pset := rfl
@[simp] theorem setEng_live (s : State) (i : Nat) (v : Engine) : (s.setEng i v).live = s.live := rfl
@[simp] theorem setEng_strms (s : State) (i : Nat) (v : Engine) : (s.setEng i v).strms = s.strms := rfl
@[simp] theorem setEng_tiles (s : State) (i : Nat) (v : Engine) : (s.setEng i v).tiles = s.tiles := rfl
@[simp] theorem setEng_sched (s : State) (i : Nat) (v : Engine) : (s.setEng i v).sched = s.sched := rfl
@[simp] theorem setEng_admits (s : State) (i : Nat) (v : Engine) : (s.setEng i v).admits = s.admits := rfl
@[simp] theorem setEng_jobs (s : State) (i : Nat) (v : Engine) : (s.setEng i v).jobs = s.jobs := rfl
@[simp] theorem setEng_images (s : State) (i : Nat) (v : Engine) : (s.setEng i v).images = s.images := rfl
@[simp] theorem setEng_load (s : State) (i : Nat) (v : Engine) : (s.setEng i v).load = s.load := rfl
@[simp] theorem setEng_mem (s : State) (i : Nat) (v : Engine) : (s.setEng i v).mem = s.mem := rfl
@[simp] theorem setEng_dram (s : State) (i : Nat) (v : Engine) : (s.setEng i v).dram = s.dram := rfl
@[simp] theorem setEng_cal (s : State) (i : Nat) (v : Engine) : (s.setEng i v).cal = s.cal := rfl
@[simp] theorem setEng_queues (s : State) (i : Nat) (v : Engine) : (s.setEng i v).queues = s.queues := rfl
@[simp] theorem setEng_channels (s : State) (i : Nat) (v : Engine) : (s.setEng i v).channels = s.channels := rfl
@[simp] theorem setEng_net (s : State) (i : Nat) (v : Engine) : (s.setEng i v).net = s.net := rfl
@[simp] theorem setEng_sec (s : State) (i : Nat) (v : Engine) : (s.setEng i v).sec = s.sec := rfl
@[simp] theorem setEng_flt (s : State) (i : Nat) (v : Engine) : (s.setEng i v).flt = s.flt := rfl

/-! `setTile`. -/

@[simp] theorem setTile_pending (s : State) (i : Nat) (v : Tile) : (s.setTile i v).pending = s.pending := rfl
@[simp] theorem setTile_free (s : State) (i : Nat) (v : Tile) : (s.setTile i v).free = s.free := rfl
@[simp] theorem setTile_out (s : State) (i : Nat) (v : Tile) : (s.setTile i v).out = s.out := rfl
@[simp] theorem setTile_clk (s : State) (i : Nat) (v : Tile) : (s.setTile i v).clk = s.clk := rfl
@[simp] theorem setTile_pins (s : State) (i : Nat) (v : Tile) : (s.setTile i v).pins = s.pins := rfl
@[simp] theorem setTile_regs (s : State) (i : Nat) (v : Tile) : (s.setTile i v).regs = s.regs := rfl
@[simp] theorem setTile_holds (s : State) (i : Nat) (v : Tile) : (s.setTile i v).holds = s.holds := rfl
@[simp] theorem setTile_pwr (s : State) (i : Nat) (v : Tile) : (s.setTile i v).pwr = s.pwr := rfl
@[simp] theorem setTile_sup (s : State) (i : Nat) (v : Tile) : (s.setTile i v).sup = s.sup := rfl
@[simp] theorem setTile_fuse (s : State) (i : Nat) (v : Tile) : (s.setTile i v).fuse = s.fuse := rfl
@[simp] theorem setTile_cam (s : State) (i : Nat) (v : Tile) : (s.setTile i v).cam = s.cam := rfl
@[simp] theorem setTile_slots (s : State) (i : Nat) (v : Tile) : (s.setTile i v).slots = s.slots := rfl
@[simp] theorem setTile_pset (s : State) (i : Nat) (v : Tile) : (s.setTile i v).pset = s.pset := rfl
@[simp] theorem setTile_live (s : State) (i : Nat) (v : Tile) : (s.setTile i v).live = s.live := rfl
@[simp] theorem setTile_strms (s : State) (i : Nat) (v : Tile) : (s.setTile i v).strms = s.strms := rfl
@[simp] theorem setTile_engines (s : State) (i : Nat) (v : Tile) : (s.setTile i v).engines = s.engines := rfl
@[simp] theorem setTile_sched (s : State) (i : Nat) (v : Tile) : (s.setTile i v).sched = s.sched := rfl
@[simp] theorem setTile_admits (s : State) (i : Nat) (v : Tile) : (s.setTile i v).admits = s.admits := rfl
@[simp] theorem setTile_jobs (s : State) (i : Nat) (v : Tile) : (s.setTile i v).jobs = s.jobs := rfl
@[simp] theorem setTile_images (s : State) (i : Nat) (v : Tile) : (s.setTile i v).images = s.images := rfl
@[simp] theorem setTile_load (s : State) (i : Nat) (v : Tile) : (s.setTile i v).load = s.load := rfl
@[simp] theorem setTile_mem (s : State) (i : Nat) (v : Tile) : (s.setTile i v).mem = s.mem := rfl
@[simp] theorem setTile_dram (s : State) (i : Nat) (v : Tile) : (s.setTile i v).dram = s.dram := rfl
@[simp] theorem setTile_cal (s : State) (i : Nat) (v : Tile) : (s.setTile i v).cal = s.cal := rfl
@[simp] theorem setTile_queues (s : State) (i : Nat) (v : Tile) : (s.setTile i v).queues = s.queues := rfl
@[simp] theorem setTile_channels (s : State) (i : Nat) (v : Tile) : (s.setTile i v).channels = s.channels := rfl
@[simp] theorem setTile_net (s : State) (i : Nat) (v : Tile) : (s.setTile i v).net = s.net := rfl
@[simp] theorem setTile_sec (s : State) (i : Nat) (v : Tile) : (s.setTile i v).sec = s.sec := rfl
@[simp] theorem setTile_flt (s : State) (i : Nat) (v : Tile) : (s.setTile i v).flt = s.flt := rfl

/-! `setJob`. -/

@[simp] theorem setJob_pending (s : State) (i : Nat) (v : Option Job) : (s.setJob i v).pending = s.pending := rfl
@[simp] theorem setJob_free (s : State) (i : Nat) (v : Option Job) : (s.setJob i v).free = s.free := rfl
@[simp] theorem setJob_out (s : State) (i : Nat) (v : Option Job) : (s.setJob i v).out = s.out := rfl
@[simp] theorem setJob_clk (s : State) (i : Nat) (v : Option Job) : (s.setJob i v).clk = s.clk := rfl
@[simp] theorem setJob_pins (s : State) (i : Nat) (v : Option Job) : (s.setJob i v).pins = s.pins := rfl
@[simp] theorem setJob_regs (s : State) (i : Nat) (v : Option Job) : (s.setJob i v).regs = s.regs := rfl
@[simp] theorem setJob_holds (s : State) (i : Nat) (v : Option Job) : (s.setJob i v).holds = s.holds := rfl
@[simp] theorem setJob_pwr (s : State) (i : Nat) (v : Option Job) : (s.setJob i v).pwr = s.pwr := rfl
@[simp] theorem setJob_sup (s : State) (i : Nat) (v : Option Job) : (s.setJob i v).sup = s.sup := rfl
@[simp] theorem setJob_fuse (s : State) (i : Nat) (v : Option Job) : (s.setJob i v).fuse = s.fuse := rfl
@[simp] theorem setJob_cam (s : State) (i : Nat) (v : Option Job) : (s.setJob i v).cam = s.cam := rfl
@[simp] theorem setJob_slots (s : State) (i : Nat) (v : Option Job) : (s.setJob i v).slots = s.slots := rfl
@[simp] theorem setJob_pset (s : State) (i : Nat) (v : Option Job) : (s.setJob i v).pset = s.pset := rfl
@[simp] theorem setJob_live (s : State) (i : Nat) (v : Option Job) : (s.setJob i v).live = s.live := rfl
@[simp] theorem setJob_strms (s : State) (i : Nat) (v : Option Job) : (s.setJob i v).strms = s.strms := rfl
@[simp] theorem setJob_engines (s : State) (i : Nat) (v : Option Job) : (s.setJob i v).engines = s.engines := rfl
@[simp] theorem setJob_tiles (s : State) (i : Nat) (v : Option Job) : (s.setJob i v).tiles = s.tiles := rfl
@[simp] theorem setJob_sched (s : State) (i : Nat) (v : Option Job) : (s.setJob i v).sched = s.sched := rfl
@[simp] theorem setJob_admits (s : State) (i : Nat) (v : Option Job) : (s.setJob i v).admits = s.admits := rfl
@[simp] theorem setJob_images (s : State) (i : Nat) (v : Option Job) : (s.setJob i v).images = s.images := rfl
@[simp] theorem setJob_load (s : State) (i : Nat) (v : Option Job) : (s.setJob i v).load = s.load := rfl
@[simp] theorem setJob_mem (s : State) (i : Nat) (v : Option Job) : (s.setJob i v).mem = s.mem := rfl
@[simp] theorem setJob_dram (s : State) (i : Nat) (v : Option Job) : (s.setJob i v).dram = s.dram := rfl
@[simp] theorem setJob_cal (s : State) (i : Nat) (v : Option Job) : (s.setJob i v).cal = s.cal := rfl
@[simp] theorem setJob_queues (s : State) (i : Nat) (v : Option Job) : (s.setJob i v).queues = s.queues := rfl
@[simp] theorem setJob_channels (s : State) (i : Nat) (v : Option Job) : (s.setJob i v).channels = s.channels := rfl
@[simp] theorem setJob_net (s : State) (i : Nat) (v : Option Job) : (s.setJob i v).net = s.net := rfl
@[simp] theorem setJob_sec (s : State) (i : Nat) (v : Option Job) : (s.setJob i v).sec = s.sec := rfl
@[simp] theorem setJob_flt (s : State) (i : Nat) (v : Option Job) : (s.setJob i v).flt = s.flt := rfl

/-! `setQueue`. -/

@[simp] theorem setQueue_pending (s : State) (i : Nat) (v : Queue) : (s.setQueue i v).pending = s.pending := rfl
@[simp] theorem setQueue_free (s : State) (i : Nat) (v : Queue) : (s.setQueue i v).free = s.free := rfl
@[simp] theorem setQueue_out (s : State) (i : Nat) (v : Queue) : (s.setQueue i v).out = s.out := rfl
@[simp] theorem setQueue_clk (s : State) (i : Nat) (v : Queue) : (s.setQueue i v).clk = s.clk := rfl
@[simp] theorem setQueue_pins (s : State) (i : Nat) (v : Queue) : (s.setQueue i v).pins = s.pins := rfl
@[simp] theorem setQueue_regs (s : State) (i : Nat) (v : Queue) : (s.setQueue i v).regs = s.regs := rfl
@[simp] theorem setQueue_holds (s : State) (i : Nat) (v : Queue) : (s.setQueue i v).holds = s.holds := rfl
@[simp] theorem setQueue_pwr (s : State) (i : Nat) (v : Queue) : (s.setQueue i v).pwr = s.pwr := rfl
@[simp] theorem setQueue_sup (s : State) (i : Nat) (v : Queue) : (s.setQueue i v).sup = s.sup := rfl
@[simp] theorem setQueue_fuse (s : State) (i : Nat) (v : Queue) : (s.setQueue i v).fuse = s.fuse := rfl
@[simp] theorem setQueue_cam (s : State) (i : Nat) (v : Queue) : (s.setQueue i v).cam = s.cam := rfl
@[simp] theorem setQueue_slots (s : State) (i : Nat) (v : Queue) : (s.setQueue i v).slots = s.slots := rfl
@[simp] theorem setQueue_pset (s : State) (i : Nat) (v : Queue) : (s.setQueue i v).pset = s.pset := rfl
@[simp] theorem setQueue_live (s : State) (i : Nat) (v : Queue) : (s.setQueue i v).live = s.live := rfl
@[simp] theorem setQueue_strms (s : State) (i : Nat) (v : Queue) : (s.setQueue i v).strms = s.strms := rfl
@[simp] theorem setQueue_engines (s : State) (i : Nat) (v : Queue) : (s.setQueue i v).engines = s.engines := rfl
@[simp] theorem setQueue_tiles (s : State) (i : Nat) (v : Queue) : (s.setQueue i v).tiles = s.tiles := rfl
@[simp] theorem setQueue_sched (s : State) (i : Nat) (v : Queue) : (s.setQueue i v).sched = s.sched := rfl
@[simp] theorem setQueue_admits (s : State) (i : Nat) (v : Queue) : (s.setQueue i v).admits = s.admits := rfl
@[simp] theorem setQueue_jobs (s : State) (i : Nat) (v : Queue) : (s.setQueue i v).jobs = s.jobs := rfl
@[simp] theorem setQueue_images (s : State) (i : Nat) (v : Queue) : (s.setQueue i v).images = s.images := rfl
@[simp] theorem setQueue_load (s : State) (i : Nat) (v : Queue) : (s.setQueue i v).load = s.load := rfl
@[simp] theorem setQueue_mem (s : State) (i : Nat) (v : Queue) : (s.setQueue i v).mem = s.mem := rfl
@[simp] theorem setQueue_dram (s : State) (i : Nat) (v : Queue) : (s.setQueue i v).dram = s.dram := rfl
@[simp] theorem setQueue_cal (s : State) (i : Nat) (v : Queue) : (s.setQueue i v).cal = s.cal := rfl
@[simp] theorem setQueue_channels (s : State) (i : Nat) (v : Queue) : (s.setQueue i v).channels = s.channels := rfl
@[simp] theorem setQueue_net (s : State) (i : Nat) (v : Queue) : (s.setQueue i v).net = s.net := rfl
@[simp] theorem setQueue_sec (s : State) (i : Nat) (v : Queue) : (s.setQueue i v).sec = s.sec := rfl
@[simp] theorem setQueue_flt (s : State) (i : Nat) (v : Queue) : (s.setQueue i v).flt = s.flt := rfl

/-! `setChan`. -/

@[simp] theorem setChan_pending (s : State) (i : Nat) (v : Channel) : (s.setChan i v).pending = s.pending := rfl
@[simp] theorem setChan_free (s : State) (i : Nat) (v : Channel) : (s.setChan i v).free = s.free := rfl
@[simp] theorem setChan_out (s : State) (i : Nat) (v : Channel) : (s.setChan i v).out = s.out := rfl
@[simp] theorem setChan_clk (s : State) (i : Nat) (v : Channel) : (s.setChan i v).clk = s.clk := rfl
@[simp] theorem setChan_pins (s : State) (i : Nat) (v : Channel) : (s.setChan i v).pins = s.pins := rfl
@[simp] theorem setChan_regs (s : State) (i : Nat) (v : Channel) : (s.setChan i v).regs = s.regs := rfl
@[simp] theorem setChan_holds (s : State) (i : Nat) (v : Channel) : (s.setChan i v).holds = s.holds := rfl
@[simp] theorem setChan_pwr (s : State) (i : Nat) (v : Channel) : (s.setChan i v).pwr = s.pwr := rfl
@[simp] theorem setChan_sup (s : State) (i : Nat) (v : Channel) : (s.setChan i v).sup = s.sup := rfl
@[simp] theorem setChan_fuse (s : State) (i : Nat) (v : Channel) : (s.setChan i v).fuse = s.fuse := rfl
@[simp] theorem setChan_cam (s : State) (i : Nat) (v : Channel) : (s.setChan i v).cam = s.cam := rfl
@[simp] theorem setChan_slots (s : State) (i : Nat) (v : Channel) : (s.setChan i v).slots = s.slots := rfl
@[simp] theorem setChan_pset (s : State) (i : Nat) (v : Channel) : (s.setChan i v).pset = s.pset := rfl
@[simp] theorem setChan_live (s : State) (i : Nat) (v : Channel) : (s.setChan i v).live = s.live := rfl
@[simp] theorem setChan_strms (s : State) (i : Nat) (v : Channel) : (s.setChan i v).strms = s.strms := rfl
@[simp] theorem setChan_engines (s : State) (i : Nat) (v : Channel) : (s.setChan i v).engines = s.engines := rfl
@[simp] theorem setChan_tiles (s : State) (i : Nat) (v : Channel) : (s.setChan i v).tiles = s.tiles := rfl
@[simp] theorem setChan_sched (s : State) (i : Nat) (v : Channel) : (s.setChan i v).sched = s.sched := rfl
@[simp] theorem setChan_admits (s : State) (i : Nat) (v : Channel) : (s.setChan i v).admits = s.admits := rfl
@[simp] theorem setChan_jobs (s : State) (i : Nat) (v : Channel) : (s.setChan i v).jobs = s.jobs := rfl
@[simp] theorem setChan_images (s : State) (i : Nat) (v : Channel) : (s.setChan i v).images = s.images := rfl
@[simp] theorem setChan_load (s : State) (i : Nat) (v : Channel) : (s.setChan i v).load = s.load := rfl
@[simp] theorem setChan_mem (s : State) (i : Nat) (v : Channel) : (s.setChan i v).mem = s.mem := rfl
@[simp] theorem setChan_dram (s : State) (i : Nat) (v : Channel) : (s.setChan i v).dram = s.dram := rfl
@[simp] theorem setChan_cal (s : State) (i : Nat) (v : Channel) : (s.setChan i v).cal = s.cal := rfl
@[simp] theorem setChan_queues (s : State) (i : Nat) (v : Channel) : (s.setChan i v).queues = s.queues := rfl
@[simp] theorem setChan_net (s : State) (i : Nat) (v : Channel) : (s.setChan i v).net = s.net := rfl
@[simp] theorem setChan_sec (s : State) (i : Nat) (v : Channel) : (s.setChan i v).sec = s.sec := rfl
@[simp] theorem setChan_flt (s : State) (i : Nat) (v : Channel) : (s.setChan i v).flt = s.flt := rfl

/-! `setSess`. -/

@[simp] theorem setSess_pending (s : State) (i : Nat) (v : Session) : (s.setSess i v).pending = s.pending := rfl
@[simp] theorem setSess_free (s : State) (i : Nat) (v : Session) : (s.setSess i v).free = s.free := rfl
@[simp] theorem setSess_out (s : State) (i : Nat) (v : Session) : (s.setSess i v).out = s.out := rfl
@[simp] theorem setSess_clk (s : State) (i : Nat) (v : Session) : (s.setSess i v).clk = s.clk := rfl
@[simp] theorem setSess_pins (s : State) (i : Nat) (v : Session) : (s.setSess i v).pins = s.pins := rfl
@[simp] theorem setSess_regs (s : State) (i : Nat) (v : Session) : (s.setSess i v).regs = s.regs := rfl
@[simp] theorem setSess_holds (s : State) (i : Nat) (v : Session) : (s.setSess i v).holds = s.holds := rfl
@[simp] theorem setSess_pwr (s : State) (i : Nat) (v : Session) : (s.setSess i v).pwr = s.pwr := rfl
@[simp] theorem setSess_sup (s : State) (i : Nat) (v : Session) : (s.setSess i v).sup = s.sup := rfl
@[simp] theorem setSess_fuse (s : State) (i : Nat) (v : Session) : (s.setSess i v).fuse = s.fuse := rfl
@[simp] theorem setSess_cam (s : State) (i : Nat) (v : Session) : (s.setSess i v).cam = s.cam := rfl
@[simp] theorem setSess_slots (s : State) (i : Nat) (v : Session) : (s.setSess i v).slots = s.slots := rfl
@[simp] theorem setSess_pset (s : State) (i : Nat) (v : Session) : (s.setSess i v).pset = s.pset := rfl
@[simp] theorem setSess_live (s : State) (i : Nat) (v : Session) : (s.setSess i v).live = s.live := rfl
@[simp] theorem setSess_strms (s : State) (i : Nat) (v : Session) : (s.setSess i v).strms = s.strms := rfl
@[simp] theorem setSess_engines (s : State) (i : Nat) (v : Session) : (s.setSess i v).engines = s.engines := rfl
@[simp] theorem setSess_tiles (s : State) (i : Nat) (v : Session) : (s.setSess i v).tiles = s.tiles := rfl
@[simp] theorem setSess_sched (s : State) (i : Nat) (v : Session) : (s.setSess i v).sched = s.sched := rfl
@[simp] theorem setSess_admits (s : State) (i : Nat) (v : Session) : (s.setSess i v).admits = s.admits := rfl
@[simp] theorem setSess_jobs (s : State) (i : Nat) (v : Session) : (s.setSess i v).jobs = s.jobs := rfl
@[simp] theorem setSess_images (s : State) (i : Nat) (v : Session) : (s.setSess i v).images = s.images := rfl
@[simp] theorem setSess_load (s : State) (i : Nat) (v : Session) : (s.setSess i v).load = s.load := rfl
@[simp] theorem setSess_mem (s : State) (i : Nat) (v : Session) : (s.setSess i v).mem = s.mem := rfl
@[simp] theorem setSess_dram (s : State) (i : Nat) (v : Session) : (s.setSess i v).dram = s.dram := rfl
@[simp] theorem setSess_cal (s : State) (i : Nat) (v : Session) : (s.setSess i v).cal = s.cal := rfl
@[simp] theorem setSess_queues (s : State) (i : Nat) (v : Session) : (s.setSess i v).queues = s.queues := rfl
@[simp] theorem setSess_channels (s : State) (i : Nat) (v : Session) : (s.setSess i v).channels = s.channels := rfl
@[simp] theorem setSess_sec (s : State) (i : Nat) (v : Session) : (s.setSess i v).sec = s.sec := rfl
@[simp] theorem setSess_flt (s : State) (i : Nat) (v : Session) : (s.setSess i v).flt = s.flt := rfl

/-! `setEth`. -/

@[simp] theorem setEth_pending (s : State) (i : Nat) (v : EthPort) : (s.setEth i v).pending = s.pending := rfl
@[simp] theorem setEth_free (s : State) (i : Nat) (v : EthPort) : (s.setEth i v).free = s.free := rfl
@[simp] theorem setEth_out (s : State) (i : Nat) (v : EthPort) : (s.setEth i v).out = s.out := rfl
@[simp] theorem setEth_clk (s : State) (i : Nat) (v : EthPort) : (s.setEth i v).clk = s.clk := rfl
@[simp] theorem setEth_pins (s : State) (i : Nat) (v : EthPort) : (s.setEth i v).pins = s.pins := rfl
@[simp] theorem setEth_regs (s : State) (i : Nat) (v : EthPort) : (s.setEth i v).regs = s.regs := rfl
@[simp] theorem setEth_holds (s : State) (i : Nat) (v : EthPort) : (s.setEth i v).holds = s.holds := rfl
@[simp] theorem setEth_pwr (s : State) (i : Nat) (v : EthPort) : (s.setEth i v).pwr = s.pwr := rfl
@[simp] theorem setEth_sup (s : State) (i : Nat) (v : EthPort) : (s.setEth i v).sup = s.sup := rfl
@[simp] theorem setEth_fuse (s : State) (i : Nat) (v : EthPort) : (s.setEth i v).fuse = s.fuse := rfl
@[simp] theorem setEth_cam (s : State) (i : Nat) (v : EthPort) : (s.setEth i v).cam = s.cam := rfl
@[simp] theorem setEth_slots (s : State) (i : Nat) (v : EthPort) : (s.setEth i v).slots = s.slots := rfl
@[simp] theorem setEth_pset (s : State) (i : Nat) (v : EthPort) : (s.setEth i v).pset = s.pset := rfl
@[simp] theorem setEth_live (s : State) (i : Nat) (v : EthPort) : (s.setEth i v).live = s.live := rfl
@[simp] theorem setEth_strms (s : State) (i : Nat) (v : EthPort) : (s.setEth i v).strms = s.strms := rfl
@[simp] theorem setEth_engines (s : State) (i : Nat) (v : EthPort) : (s.setEth i v).engines = s.engines := rfl
@[simp] theorem setEth_tiles (s : State) (i : Nat) (v : EthPort) : (s.setEth i v).tiles = s.tiles := rfl
@[simp] theorem setEth_sched (s : State) (i : Nat) (v : EthPort) : (s.setEth i v).sched = s.sched := rfl
@[simp] theorem setEth_admits (s : State) (i : Nat) (v : EthPort) : (s.setEth i v).admits = s.admits := rfl
@[simp] theorem setEth_jobs (s : State) (i : Nat) (v : EthPort) : (s.setEth i v).jobs = s.jobs := rfl
@[simp] theorem setEth_images (s : State) (i : Nat) (v : EthPort) : (s.setEth i v).images = s.images := rfl
@[simp] theorem setEth_load (s : State) (i : Nat) (v : EthPort) : (s.setEth i v).load = s.load := rfl
@[simp] theorem setEth_mem (s : State) (i : Nat) (v : EthPort) : (s.setEth i v).mem = s.mem := rfl
@[simp] theorem setEth_dram (s : State) (i : Nat) (v : EthPort) : (s.setEth i v).dram = s.dram := rfl
@[simp] theorem setEth_cal (s : State) (i : Nat) (v : EthPort) : (s.setEth i v).cal = s.cal := rfl
@[simp] theorem setEth_queues (s : State) (i : Nat) (v : EthPort) : (s.setEth i v).queues = s.queues := rfl
@[simp] theorem setEth_channels (s : State) (i : Nat) (v : EthPort) : (s.setEth i v).channels = s.channels := rfl
@[simp] theorem setEth_sec (s : State) (i : Nat) (v : EthPort) : (s.setEth i v).sec = s.sec := rfl
@[simp] theorem setEth_flt (s : State) (i : Nat) (v : EthPort) : (s.setEth i v).flt = s.flt := rfl

/-! `setGroup`. -/

@[simp] theorem setGroup_pending (s : State) (i : Nat) (v : Option PeerGroup) : (s.setGroup i v).pending = s.pending := rfl
@[simp] theorem setGroup_free (s : State) (i : Nat) (v : Option PeerGroup) : (s.setGroup i v).free = s.free := rfl
@[simp] theorem setGroup_out (s : State) (i : Nat) (v : Option PeerGroup) : (s.setGroup i v).out = s.out := rfl
@[simp] theorem setGroup_clk (s : State) (i : Nat) (v : Option PeerGroup) : (s.setGroup i v).clk = s.clk := rfl
@[simp] theorem setGroup_pins (s : State) (i : Nat) (v : Option PeerGroup) : (s.setGroup i v).pins = s.pins := rfl
@[simp] theorem setGroup_regs (s : State) (i : Nat) (v : Option PeerGroup) : (s.setGroup i v).regs = s.regs := rfl
@[simp] theorem setGroup_holds (s : State) (i : Nat) (v : Option PeerGroup) : (s.setGroup i v).holds = s.holds := rfl
@[simp] theorem setGroup_pwr (s : State) (i : Nat) (v : Option PeerGroup) : (s.setGroup i v).pwr = s.pwr := rfl
@[simp] theorem setGroup_sup (s : State) (i : Nat) (v : Option PeerGroup) : (s.setGroup i v).sup = s.sup := rfl
@[simp] theorem setGroup_fuse (s : State) (i : Nat) (v : Option PeerGroup) : (s.setGroup i v).fuse = s.fuse := rfl
@[simp] theorem setGroup_cam (s : State) (i : Nat) (v : Option PeerGroup) : (s.setGroup i v).cam = s.cam := rfl
@[simp] theorem setGroup_slots (s : State) (i : Nat) (v : Option PeerGroup) : (s.setGroup i v).slots = s.slots := rfl
@[simp] theorem setGroup_pset (s : State) (i : Nat) (v : Option PeerGroup) : (s.setGroup i v).pset = s.pset := rfl
@[simp] theorem setGroup_live (s : State) (i : Nat) (v : Option PeerGroup) : (s.setGroup i v).live = s.live := rfl
@[simp] theorem setGroup_strms (s : State) (i : Nat) (v : Option PeerGroup) : (s.setGroup i v).strms = s.strms := rfl
@[simp] theorem setGroup_engines (s : State) (i : Nat) (v : Option PeerGroup) : (s.setGroup i v).engines = s.engines := rfl
@[simp] theorem setGroup_tiles (s : State) (i : Nat) (v : Option PeerGroup) : (s.setGroup i v).tiles = s.tiles := rfl
@[simp] theorem setGroup_sched (s : State) (i : Nat) (v : Option PeerGroup) : (s.setGroup i v).sched = s.sched := rfl
@[simp] theorem setGroup_admits (s : State) (i : Nat) (v : Option PeerGroup) : (s.setGroup i v).admits = s.admits := rfl
@[simp] theorem setGroup_jobs (s : State) (i : Nat) (v : Option PeerGroup) : (s.setGroup i v).jobs = s.jobs := rfl
@[simp] theorem setGroup_images (s : State) (i : Nat) (v : Option PeerGroup) : (s.setGroup i v).images = s.images := rfl
@[simp] theorem setGroup_load (s : State) (i : Nat) (v : Option PeerGroup) : (s.setGroup i v).load = s.load := rfl
@[simp] theorem setGroup_mem (s : State) (i : Nat) (v : Option PeerGroup) : (s.setGroup i v).mem = s.mem := rfl
@[simp] theorem setGroup_dram (s : State) (i : Nat) (v : Option PeerGroup) : (s.setGroup i v).dram = s.dram := rfl
@[simp] theorem setGroup_cal (s : State) (i : Nat) (v : Option PeerGroup) : (s.setGroup i v).cal = s.cal := rfl
@[simp] theorem setGroup_queues (s : State) (i : Nat) (v : Option PeerGroup) : (s.setGroup i v).queues = s.queues := rfl
@[simp] theorem setGroup_channels (s : State) (i : Nat) (v : Option PeerGroup) : (s.setGroup i v).channels = s.channels := rfl
@[simp] theorem setGroup_sec (s : State) (i : Nat) (v : Option PeerGroup) : (s.setGroup i v).sec = s.sec := rfl
@[simp] theorem setGroup_flt (s : State) (i : Nat) (v : Option PeerGroup) : (s.setGroup i v).flt = s.flt := rfl

/-! `drawn`. -/

@[simp] theorem drawn_pending (s : State) : (s.drawn).pending = s.pending := rfl
@[simp] theorem drawn_out (s : State) : (s.drawn).out = s.out := rfl
@[simp] theorem drawn_clk (s : State) : (s.drawn).clk = s.clk := rfl
@[simp] theorem drawn_pins (s : State) : (s.drawn).pins = s.pins := rfl
@[simp] theorem drawn_regs (s : State) : (s.drawn).regs = s.regs := rfl
@[simp] theorem drawn_holds (s : State) : (s.drawn).holds = s.holds := rfl
@[simp] theorem drawn_pwr (s : State) : (s.drawn).pwr = s.pwr := rfl
@[simp] theorem drawn_sup (s : State) : (s.drawn).sup = s.sup := rfl
@[simp] theorem drawn_fuse (s : State) : (s.drawn).fuse = s.fuse := rfl
@[simp] theorem drawn_cam (s : State) : (s.drawn).cam = s.cam := rfl
@[simp] theorem drawn_slots (s : State) : (s.drawn).slots = s.slots := rfl
@[simp] theorem drawn_pset (s : State) : (s.drawn).pset = s.pset := rfl
@[simp] theorem drawn_live (s : State) : (s.drawn).live = s.live := rfl
@[simp] theorem drawn_strms (s : State) : (s.drawn).strms = s.strms := rfl
@[simp] theorem drawn_engines (s : State) : (s.drawn).engines = s.engines := rfl
@[simp] theorem drawn_tiles (s : State) : (s.drawn).tiles = s.tiles := rfl
@[simp] theorem drawn_sched (s : State) : (s.drawn).sched = s.sched := rfl
@[simp] theorem drawn_admits (s : State) : (s.drawn).admits = s.admits := rfl
@[simp] theorem drawn_jobs (s : State) : (s.drawn).jobs = s.jobs := rfl
@[simp] theorem drawn_images (s : State) : (s.drawn).images = s.images := rfl
@[simp] theorem drawn_load (s : State) : (s.drawn).load = s.load := rfl
@[simp] theorem drawn_mem (s : State) : (s.drawn).mem = s.mem := rfl
@[simp] theorem drawn_dram (s : State) : (s.drawn).dram = s.dram := rfl
@[simp] theorem drawn_cal (s : State) : (s.drawn).cal = s.cal := rfl
@[simp] theorem drawn_queues (s : State) : (s.drawn).queues = s.queues := rfl
@[simp] theorem drawn_channels (s : State) : (s.drawn).channels = s.channels := rfl
@[simp] theorem drawn_net (s : State) : (s.drawn).net = s.net := rfl
@[simp] theorem drawn_sec (s : State) : (s.drawn).sec = s.sec := rfl
@[simp] theorem drawn_flt (s : State) : (s.drawn).flt = s.flt := rfl

/-! `emit`. -/

@[simp] theorem emit_pending (s : State) (x : Wire) : (s.emit x).pending = s.pending := rfl
@[simp] theorem emit_free (s : State) (x : Wire) : (s.emit x).free = s.free := rfl
@[simp] theorem emit_clk (s : State) (x : Wire) : (s.emit x).clk = s.clk := rfl
@[simp] theorem emit_pins (s : State) (x : Wire) : (s.emit x).pins = s.pins := rfl
@[simp] theorem emit_regs (s : State) (x : Wire) : (s.emit x).regs = s.regs := rfl
@[simp] theorem emit_holds (s : State) (x : Wire) : (s.emit x).holds = s.holds := rfl
@[simp] theorem emit_pwr (s : State) (x : Wire) : (s.emit x).pwr = s.pwr := rfl
@[simp] theorem emit_sup (s : State) (x : Wire) : (s.emit x).sup = s.sup := rfl
@[simp] theorem emit_fuse (s : State) (x : Wire) : (s.emit x).fuse = s.fuse := rfl
@[simp] theorem emit_cam (s : State) (x : Wire) : (s.emit x).cam = s.cam := rfl
@[simp] theorem emit_slots (s : State) (x : Wire) : (s.emit x).slots = s.slots := rfl
@[simp] theorem emit_pset (s : State) (x : Wire) : (s.emit x).pset = s.pset := rfl
@[simp] theorem emit_live (s : State) (x : Wire) : (s.emit x).live = s.live := rfl
@[simp] theorem emit_strms (s : State) (x : Wire) : (s.emit x).strms = s.strms := rfl
@[simp] theorem emit_engines (s : State) (x : Wire) : (s.emit x).engines = s.engines := rfl
@[simp] theorem emit_tiles (s : State) (x : Wire) : (s.emit x).tiles = s.tiles := rfl
@[simp] theorem emit_sched (s : State) (x : Wire) : (s.emit x).sched = s.sched := rfl
@[simp] theorem emit_admits (s : State) (x : Wire) : (s.emit x).admits = s.admits := rfl
@[simp] theorem emit_jobs (s : State) (x : Wire) : (s.emit x).jobs = s.jobs := rfl
@[simp] theorem emit_images (s : State) (x : Wire) : (s.emit x).images = s.images := rfl
@[simp] theorem emit_load (s : State) (x : Wire) : (s.emit x).load = s.load := rfl
@[simp] theorem emit_mem (s : State) (x : Wire) : (s.emit x).mem = s.mem := rfl
@[simp] theorem emit_dram (s : State) (x : Wire) : (s.emit x).dram = s.dram := rfl
@[simp] theorem emit_cal (s : State) (x : Wire) : (s.emit x).cal = s.cal := rfl
@[simp] theorem emit_queues (s : State) (x : Wire) : (s.emit x).queues = s.queues := rfl
@[simp] theorem emit_channels (s : State) (x : Wire) : (s.emit x).channels = s.channels := rfl
@[simp] theorem emit_net (s : State) (x : Wire) : (s.emit x).net = s.net := rfl
@[simp] theorem emit_sec (s : State) (x : Wire) : (s.emit x).sec = s.sec := rfl
@[simp] theorem emit_flt (s : State) (x : Wire) : (s.emit x).flt = s.flt := rfl

/-! `setReg`. -/

@[simp] theorem setReg_pending (s : State) (p o : Nat) (x : Word) : (s.setReg p o x).pending = s.pending := rfl
@[simp] theorem setReg_free (s : State) (p o : Nat) (x : Word) : (s.setReg p o x).free = s.free := rfl
@[simp] theorem setReg_out (s : State) (p o : Nat) (x : Word) : (s.setReg p o x).out = s.out := rfl
@[simp] theorem setReg_clk (s : State) (p o : Nat) (x : Word) : (s.setReg p o x).clk = s.clk := rfl
@[simp] theorem setReg_pins (s : State) (p o : Nat) (x : Word) : (s.setReg p o x).pins = s.pins := rfl
@[simp] theorem setReg_holds (s : State) (p o : Nat) (x : Word) : (s.setReg p o x).holds = s.holds := rfl
@[simp] theorem setReg_pwr (s : State) (p o : Nat) (x : Word) : (s.setReg p o x).pwr = s.pwr := rfl
@[simp] theorem setReg_sup (s : State) (p o : Nat) (x : Word) : (s.setReg p o x).sup = s.sup := rfl
@[simp] theorem setReg_fuse (s : State) (p o : Nat) (x : Word) : (s.setReg p o x).fuse = s.fuse := rfl
@[simp] theorem setReg_cam (s : State) (p o : Nat) (x : Word) : (s.setReg p o x).cam = s.cam := rfl
@[simp] theorem setReg_slots (s : State) (p o : Nat) (x : Word) : (s.setReg p o x).slots = s.slots := rfl
@[simp] theorem setReg_pset (s : State) (p o : Nat) (x : Word) : (s.setReg p o x).pset = s.pset := rfl
@[simp] theorem setReg_live (s : State) (p o : Nat) (x : Word) : (s.setReg p o x).live = s.live := rfl
@[simp] theorem setReg_strms (s : State) (p o : Nat) (x : Word) : (s.setReg p o x).strms = s.strms := rfl
@[simp] theorem setReg_engines (s : State) (p o : Nat) (x : Word) : (s.setReg p o x).engines = s.engines := rfl
@[simp] theorem setReg_tiles (s : State) (p o : Nat) (x : Word) : (s.setReg p o x).tiles = s.tiles := rfl
@[simp] theorem setReg_sched (s : State) (p o : Nat) (x : Word) : (s.setReg p o x).sched = s.sched := rfl
@[simp] theorem setReg_admits (s : State) (p o : Nat) (x : Word) : (s.setReg p o x).admits = s.admits := rfl
@[simp] theorem setReg_jobs (s : State) (p o : Nat) (x : Word) : (s.setReg p o x).jobs = s.jobs := rfl
@[simp] theorem setReg_images (s : State) (p o : Nat) (x : Word) : (s.setReg p o x).images = s.images := rfl
@[simp] theorem setReg_load (s : State) (p o : Nat) (x : Word) : (s.setReg p o x).load = s.load := rfl
@[simp] theorem setReg_mem (s : State) (p o : Nat) (x : Word) : (s.setReg p o x).mem = s.mem := rfl
@[simp] theorem setReg_dram (s : State) (p o : Nat) (x : Word) : (s.setReg p o x).dram = s.dram := rfl
@[simp] theorem setReg_cal (s : State) (p o : Nat) (x : Word) : (s.setReg p o x).cal = s.cal := rfl
@[simp] theorem setReg_queues (s : State) (p o : Nat) (x : Word) : (s.setReg p o x).queues = s.queues := rfl
@[simp] theorem setReg_channels (s : State) (p o : Nat) (x : Word) : (s.setReg p o x).channels = s.channels := rfl
@[simp] theorem setReg_net (s : State) (p o : Nat) (x : Word) : (s.setReg p o x).net = s.net := rfl
@[simp] theorem setReg_sec (s : State) (p o : Nat) (x : Word) : (s.setReg p o x).sec = s.sec := rfl
@[simp] theorem setReg_flt (s : State) (p o : Nat) (x : Word) : (s.setReg p o x).flt = s.flt := rfl

/-! `setRfld`. -/

@[simp] theorem setRfld_pending (s : State) (p o lo n v : Nat) : (s.setRfld p o lo n v).pending = s.pending := setReg_pending ..
@[simp] theorem setRfld_free (s : State) (p o lo n v : Nat) : (s.setRfld p o lo n v).free = s.free := setReg_free ..
@[simp] theorem setRfld_out (s : State) (p o lo n v : Nat) : (s.setRfld p o lo n v).out = s.out := setReg_out ..
@[simp] theorem setRfld_clk (s : State) (p o lo n v : Nat) : (s.setRfld p o lo n v).clk = s.clk := setReg_clk ..
@[simp] theorem setRfld_pins (s : State) (p o lo n v : Nat) : (s.setRfld p o lo n v).pins = s.pins := setReg_pins ..
@[simp] theorem setRfld_holds (s : State) (p o lo n v : Nat) : (s.setRfld p o lo n v).holds = s.holds := setReg_holds ..
@[simp] theorem setRfld_pwr (s : State) (p o lo n v : Nat) : (s.setRfld p o lo n v).pwr = s.pwr := setReg_pwr ..
@[simp] theorem setRfld_sup (s : State) (p o lo n v : Nat) : (s.setRfld p o lo n v).sup = s.sup := setReg_sup ..
@[simp] theorem setRfld_fuse (s : State) (p o lo n v : Nat) : (s.setRfld p o lo n v).fuse = s.fuse := setReg_fuse ..
@[simp] theorem setRfld_cam (s : State) (p o lo n v : Nat) : (s.setRfld p o lo n v).cam = s.cam := setReg_cam ..
@[simp] theorem setRfld_slots (s : State) (p o lo n v : Nat) : (s.setRfld p o lo n v).slots = s.slots := setReg_slots ..
@[simp] theorem setRfld_pset (s : State) (p o lo n v : Nat) : (s.setRfld p o lo n v).pset = s.pset := setReg_pset ..
@[simp] theorem setRfld_live (s : State) (p o lo n v : Nat) : (s.setRfld p o lo n v).live = s.live := setReg_live ..
@[simp] theorem setRfld_strms (s : State) (p o lo n v : Nat) : (s.setRfld p o lo n v).strms = s.strms := setReg_strms ..
@[simp] theorem setRfld_engines (s : State) (p o lo n v : Nat) : (s.setRfld p o lo n v).engines = s.engines := setReg_engines ..
@[simp] theorem setRfld_tiles (s : State) (p o lo n v : Nat) : (s.setRfld p o lo n v).tiles = s.tiles := setReg_tiles ..
@[simp] theorem setRfld_sched (s : State) (p o lo n v : Nat) : (s.setRfld p o lo n v).sched = s.sched := setReg_sched ..
@[simp] theorem setRfld_admits (s : State) (p o lo n v : Nat) : (s.setRfld p o lo n v).admits = s.admits := setReg_admits ..
@[simp] theorem setRfld_jobs (s : State) (p o lo n v : Nat) : (s.setRfld p o lo n v).jobs = s.jobs := setReg_jobs ..
@[simp] theorem setRfld_images (s : State) (p o lo n v : Nat) : (s.setRfld p o lo n v).images = s.images := setReg_images ..
@[simp] theorem setRfld_load (s : State) (p o lo n v : Nat) : (s.setRfld p o lo n v).load = s.load := setReg_load ..
@[simp] theorem setRfld_mem (s : State) (p o lo n v : Nat) : (s.setRfld p o lo n v).mem = s.mem := setReg_mem ..
@[simp] theorem setRfld_dram (s : State) (p o lo n v : Nat) : (s.setRfld p o lo n v).dram = s.dram := setReg_dram ..
@[simp] theorem setRfld_cal (s : State) (p o lo n v : Nat) : (s.setRfld p o lo n v).cal = s.cal := setReg_cal ..
@[simp] theorem setRfld_queues (s : State) (p o lo n v : Nat) : (s.setRfld p o lo n v).queues = s.queues := setReg_queues ..
@[simp] theorem setRfld_channels (s : State) (p o lo n v : Nat) : (s.setRfld p o lo n v).channels = s.channels := setReg_channels ..
@[simp] theorem setRfld_net (s : State) (p o lo n v : Nat) : (s.setRfld p o lo n v).net = s.net := setReg_net ..
@[simp] theorem setRfld_sec (s : State) (p o lo n v : Nat) : (s.setRfld p o lo n v).sec = s.sec := setReg_sec ..
@[simp] theorem setRfld_flt (s : State) (p o lo n v : Nat) : (s.setRfld p o lo n v).flt = s.flt := setReg_flt ..

/-! `bump`. -/

@[simp] theorem bump_pending (s : State) (p o lo n v : Nat) : (s.bump p o lo n v).pending = s.pending := setRfld_pending ..
@[simp] theorem bump_free (s : State) (p o lo n v : Nat) : (s.bump p o lo n v).free = s.free := setRfld_free ..
@[simp] theorem bump_out (s : State) (p o lo n v : Nat) : (s.bump p o lo n v).out = s.out := setRfld_out ..
@[simp] theorem bump_clk (s : State) (p o lo n v : Nat) : (s.bump p o lo n v).clk = s.clk := setRfld_clk ..
@[simp] theorem bump_pins (s : State) (p o lo n v : Nat) : (s.bump p o lo n v).pins = s.pins := setRfld_pins ..
@[simp] theorem bump_holds (s : State) (p o lo n v : Nat) : (s.bump p o lo n v).holds = s.holds := setRfld_holds ..
@[simp] theorem bump_pwr (s : State) (p o lo n v : Nat) : (s.bump p o lo n v).pwr = s.pwr := setRfld_pwr ..
@[simp] theorem bump_sup (s : State) (p o lo n v : Nat) : (s.bump p o lo n v).sup = s.sup := setRfld_sup ..
@[simp] theorem bump_fuse (s : State) (p o lo n v : Nat) : (s.bump p o lo n v).fuse = s.fuse := setRfld_fuse ..
@[simp] theorem bump_cam (s : State) (p o lo n v : Nat) : (s.bump p o lo n v).cam = s.cam := setRfld_cam ..
@[simp] theorem bump_slots (s : State) (p o lo n v : Nat) : (s.bump p o lo n v).slots = s.slots := setRfld_slots ..
@[simp] theorem bump_pset (s : State) (p o lo n v : Nat) : (s.bump p o lo n v).pset = s.pset := setRfld_pset ..
@[simp] theorem bump_live (s : State) (p o lo n v : Nat) : (s.bump p o lo n v).live = s.live := setRfld_live ..
@[simp] theorem bump_strms (s : State) (p o lo n v : Nat) : (s.bump p o lo n v).strms = s.strms := setRfld_strms ..
@[simp] theorem bump_engines (s : State) (p o lo n v : Nat) : (s.bump p o lo n v).engines = s.engines := setRfld_engines ..
@[simp] theorem bump_tiles (s : State) (p o lo n v : Nat) : (s.bump p o lo n v).tiles = s.tiles := setRfld_tiles ..
@[simp] theorem bump_sched (s : State) (p o lo n v : Nat) : (s.bump p o lo n v).sched = s.sched := setRfld_sched ..
@[simp] theorem bump_admits (s : State) (p o lo n v : Nat) : (s.bump p o lo n v).admits = s.admits := setRfld_admits ..
@[simp] theorem bump_jobs (s : State) (p o lo n v : Nat) : (s.bump p o lo n v).jobs = s.jobs := setRfld_jobs ..
@[simp] theorem bump_images (s : State) (p o lo n v : Nat) : (s.bump p o lo n v).images = s.images := setRfld_images ..
@[simp] theorem bump_load (s : State) (p o lo n v : Nat) : (s.bump p o lo n v).load = s.load := setRfld_load ..
@[simp] theorem bump_mem (s : State) (p o lo n v : Nat) : (s.bump p o lo n v).mem = s.mem := setRfld_mem ..
@[simp] theorem bump_dram (s : State) (p o lo n v : Nat) : (s.bump p o lo n v).dram = s.dram := setRfld_dram ..
@[simp] theorem bump_cal (s : State) (p o lo n v : Nat) : (s.bump p o lo n v).cal = s.cal := setRfld_cal ..
@[simp] theorem bump_queues (s : State) (p o lo n v : Nat) : (s.bump p o lo n v).queues = s.queues := setRfld_queues ..
@[simp] theorem bump_channels (s : State) (p o lo n v : Nat) : (s.bump p o lo n v).channels = s.channels := setRfld_channels ..
@[simp] theorem bump_net (s : State) (p o lo n v : Nat) : (s.bump p o lo n v).net = s.net := setRfld_net ..
@[simp] theorem bump_sec (s : State) (p o lo n v : Nat) : (s.bump p o lo n v).sec = s.sec := setRfld_sec ..
@[simp] theorem bump_flt (s : State) (p o lo n v : Nat) : (s.bump p o lo n v).flt = s.flt := setRfld_flt ..

/-! `bumpWrap`. -/

@[simp] theorem bumpWrap_pending (s : State) (p o : Nat) : (s.bumpWrap p o).pending = s.pending := setReg_pending ..
@[simp] theorem bumpWrap_free (s : State) (p o : Nat) : (s.bumpWrap p o).free = s.free := setReg_free ..
@[simp] theorem bumpWrap_out (s : State) (p o : Nat) : (s.bumpWrap p o).out = s.out := setReg_out ..
@[simp] theorem bumpWrap_clk (s : State) (p o : Nat) : (s.bumpWrap p o).clk = s.clk := setReg_clk ..
@[simp] theorem bumpWrap_pins (s : State) (p o : Nat) : (s.bumpWrap p o).pins = s.pins := setReg_pins ..
@[simp] theorem bumpWrap_holds (s : State) (p o : Nat) : (s.bumpWrap p o).holds = s.holds := setReg_holds ..
@[simp] theorem bumpWrap_pwr (s : State) (p o : Nat) : (s.bumpWrap p o).pwr = s.pwr := setReg_pwr ..
@[simp] theorem bumpWrap_sup (s : State) (p o : Nat) : (s.bumpWrap p o).sup = s.sup := setReg_sup ..
@[simp] theorem bumpWrap_fuse (s : State) (p o : Nat) : (s.bumpWrap p o).fuse = s.fuse := setReg_fuse ..
@[simp] theorem bumpWrap_cam (s : State) (p o : Nat) : (s.bumpWrap p o).cam = s.cam := setReg_cam ..
@[simp] theorem bumpWrap_slots (s : State) (p o : Nat) : (s.bumpWrap p o).slots = s.slots := setReg_slots ..
@[simp] theorem bumpWrap_pset (s : State) (p o : Nat) : (s.bumpWrap p o).pset = s.pset := setReg_pset ..
@[simp] theorem bumpWrap_live (s : State) (p o : Nat) : (s.bumpWrap p o).live = s.live := setReg_live ..
@[simp] theorem bumpWrap_strms (s : State) (p o : Nat) : (s.bumpWrap p o).strms = s.strms := setReg_strms ..
@[simp] theorem bumpWrap_engines (s : State) (p o : Nat) : (s.bumpWrap p o).engines = s.engines := setReg_engines ..
@[simp] theorem bumpWrap_tiles (s : State) (p o : Nat) : (s.bumpWrap p o).tiles = s.tiles := setReg_tiles ..
@[simp] theorem bumpWrap_sched (s : State) (p o : Nat) : (s.bumpWrap p o).sched = s.sched := setReg_sched ..
@[simp] theorem bumpWrap_admits (s : State) (p o : Nat) : (s.bumpWrap p o).admits = s.admits := setReg_admits ..
@[simp] theorem bumpWrap_jobs (s : State) (p o : Nat) : (s.bumpWrap p o).jobs = s.jobs := setReg_jobs ..
@[simp] theorem bumpWrap_images (s : State) (p o : Nat) : (s.bumpWrap p o).images = s.images := setReg_images ..
@[simp] theorem bumpWrap_load (s : State) (p o : Nat) : (s.bumpWrap p o).load = s.load := setReg_load ..
@[simp] theorem bumpWrap_mem (s : State) (p o : Nat) : (s.bumpWrap p o).mem = s.mem := setReg_mem ..
@[simp] theorem bumpWrap_dram (s : State) (p o : Nat) : (s.bumpWrap p o).dram = s.dram := setReg_dram ..
@[simp] theorem bumpWrap_cal (s : State) (p o : Nat) : (s.bumpWrap p o).cal = s.cal := setReg_cal ..
@[simp] theorem bumpWrap_queues (s : State) (p o : Nat) : (s.bumpWrap p o).queues = s.queues := setReg_queues ..
@[simp] theorem bumpWrap_channels (s : State) (p o : Nat) : (s.bumpWrap p o).channels = s.channels := setReg_channels ..
@[simp] theorem bumpWrap_net (s : State) (p o : Nat) : (s.bumpWrap p o).net = s.net := setReg_net ..
@[simp] theorem bumpWrap_sec (s : State) (p o : Nat) : (s.bumpWrap p o).sec = s.sec := setReg_sec ..
@[simp] theorem bumpWrap_flt (s : State) (p o : Nat) : (s.bumpWrap p o).flt = s.flt := setReg_flt ..

/-! `maxRfld`. -/

@[simp] theorem maxRfld_pending (s : State) (p o lo n v : Nat) : (s.maxRfld p o lo n v).pending = s.pending := setRfld_pending ..
@[simp] theorem maxRfld_free (s : State) (p o lo n v : Nat) : (s.maxRfld p o lo n v).free = s.free := setRfld_free ..
@[simp] theorem maxRfld_out (s : State) (p o lo n v : Nat) : (s.maxRfld p o lo n v).out = s.out := setRfld_out ..
@[simp] theorem maxRfld_clk (s : State) (p o lo n v : Nat) : (s.maxRfld p o lo n v).clk = s.clk := setRfld_clk ..
@[simp] theorem maxRfld_pins (s : State) (p o lo n v : Nat) : (s.maxRfld p o lo n v).pins = s.pins := setRfld_pins ..
@[simp] theorem maxRfld_holds (s : State) (p o lo n v : Nat) : (s.maxRfld p o lo n v).holds = s.holds := setRfld_holds ..
@[simp] theorem maxRfld_pwr (s : State) (p o lo n v : Nat) : (s.maxRfld p o lo n v).pwr = s.pwr := setRfld_pwr ..
@[simp] theorem maxRfld_sup (s : State) (p o lo n v : Nat) : (s.maxRfld p o lo n v).sup = s.sup := setRfld_sup ..
@[simp] theorem maxRfld_fuse (s : State) (p o lo n v : Nat) : (s.maxRfld p o lo n v).fuse = s.fuse := setRfld_fuse ..
@[simp] theorem maxRfld_cam (s : State) (p o lo n v : Nat) : (s.maxRfld p o lo n v).cam = s.cam := setRfld_cam ..
@[simp] theorem maxRfld_slots (s : State) (p o lo n v : Nat) : (s.maxRfld p o lo n v).slots = s.slots := setRfld_slots ..
@[simp] theorem maxRfld_pset (s : State) (p o lo n v : Nat) : (s.maxRfld p o lo n v).pset = s.pset := setRfld_pset ..
@[simp] theorem maxRfld_live (s : State) (p o lo n v : Nat) : (s.maxRfld p o lo n v).live = s.live := setRfld_live ..
@[simp] theorem maxRfld_strms (s : State) (p o lo n v : Nat) : (s.maxRfld p o lo n v).strms = s.strms := setRfld_strms ..
@[simp] theorem maxRfld_engines (s : State) (p o lo n v : Nat) : (s.maxRfld p o lo n v).engines = s.engines := setRfld_engines ..
@[simp] theorem maxRfld_tiles (s : State) (p o lo n v : Nat) : (s.maxRfld p o lo n v).tiles = s.tiles := setRfld_tiles ..
@[simp] theorem maxRfld_sched (s : State) (p o lo n v : Nat) : (s.maxRfld p o lo n v).sched = s.sched := setRfld_sched ..
@[simp] theorem maxRfld_admits (s : State) (p o lo n v : Nat) : (s.maxRfld p o lo n v).admits = s.admits := setRfld_admits ..
@[simp] theorem maxRfld_jobs (s : State) (p o lo n v : Nat) : (s.maxRfld p o lo n v).jobs = s.jobs := setRfld_jobs ..
@[simp] theorem maxRfld_images (s : State) (p o lo n v : Nat) : (s.maxRfld p o lo n v).images = s.images := setRfld_images ..
@[simp] theorem maxRfld_load (s : State) (p o lo n v : Nat) : (s.maxRfld p o lo n v).load = s.load := setRfld_load ..
@[simp] theorem maxRfld_mem (s : State) (p o lo n v : Nat) : (s.maxRfld p o lo n v).mem = s.mem := setRfld_mem ..
@[simp] theorem maxRfld_dram (s : State) (p o lo n v : Nat) : (s.maxRfld p o lo n v).dram = s.dram := setRfld_dram ..
@[simp] theorem maxRfld_cal (s : State) (p o lo n v : Nat) : (s.maxRfld p o lo n v).cal = s.cal := setRfld_cal ..
@[simp] theorem maxRfld_queues (s : State) (p o lo n v : Nat) : (s.maxRfld p o lo n v).queues = s.queues := setRfld_queues ..
@[simp] theorem maxRfld_channels (s : State) (p o lo n v : Nat) : (s.maxRfld p o lo n v).channels = s.channels := setRfld_channels ..
@[simp] theorem maxRfld_net (s : State) (p o lo n v : Nat) : (s.maxRfld p o lo n v).net = s.net := setRfld_net ..
@[simp] theorem maxRfld_sec (s : State) (p o lo n v : Nat) : (s.maxRfld p o lo n v).sec = s.sec := setRfld_sec ..
@[simp] theorem maxRfld_flt (s : State) (p o lo n v : Nat) : (s.maxRfld p o lo n v).flt = s.flt := setRfld_flt ..

/-! `cause`. -/

@[simp] theorem cause_pending (s : State) (p c a : Nat) : (s.cause p c a).pending = s.pending := by unfold State.cause; simp only [setReg_pending]
@[simp] theorem cause_free (s : State) (p c a : Nat) : (s.cause p c a).free = s.free := by unfold State.cause; simp only [setReg_free]
@[simp] theorem cause_out (s : State) (p c a : Nat) : (s.cause p c a).out = s.out := by unfold State.cause; simp only [setReg_out]
@[simp] theorem cause_clk (s : State) (p c a : Nat) : (s.cause p c a).clk = s.clk := by unfold State.cause; simp only [setReg_clk]
@[simp] theorem cause_pins (s : State) (p c a : Nat) : (s.cause p c a).pins = s.pins := by unfold State.cause; simp only [setReg_pins]
@[simp] theorem cause_holds (s : State) (p c a : Nat) : (s.cause p c a).holds = s.holds := by unfold State.cause; simp only [setReg_holds]
@[simp] theorem cause_pwr (s : State) (p c a : Nat) : (s.cause p c a).pwr = s.pwr := by unfold State.cause; simp only [setReg_pwr]
@[simp] theorem cause_sup (s : State) (p c a : Nat) : (s.cause p c a).sup = s.sup := by unfold State.cause; simp only [setReg_sup]
@[simp] theorem cause_fuse (s : State) (p c a : Nat) : (s.cause p c a).fuse = s.fuse := by unfold State.cause; simp only [setReg_fuse]
@[simp] theorem cause_cam (s : State) (p c a : Nat) : (s.cause p c a).cam = s.cam := by unfold State.cause; simp only [setReg_cam]
@[simp] theorem cause_slots (s : State) (p c a : Nat) : (s.cause p c a).slots = s.slots := by unfold State.cause; simp only [setReg_slots]
@[simp] theorem cause_pset (s : State) (p c a : Nat) : (s.cause p c a).pset = s.pset := by unfold State.cause; simp only [setReg_pset]
@[simp] theorem cause_live (s : State) (p c a : Nat) : (s.cause p c a).live = s.live := by unfold State.cause; simp only [setReg_live]
@[simp] theorem cause_strms (s : State) (p c a : Nat) : (s.cause p c a).strms = s.strms := by unfold State.cause; simp only [setReg_strms]
@[simp] theorem cause_engines (s : State) (p c a : Nat) : (s.cause p c a).engines = s.engines := by unfold State.cause; simp only [setReg_engines]
@[simp] theorem cause_tiles (s : State) (p c a : Nat) : (s.cause p c a).tiles = s.tiles := by unfold State.cause; simp only [setReg_tiles]
@[simp] theorem cause_sched (s : State) (p c a : Nat) : (s.cause p c a).sched = s.sched := by unfold State.cause; simp only [setReg_sched]
@[simp] theorem cause_admits (s : State) (p c a : Nat) : (s.cause p c a).admits = s.admits := by unfold State.cause; simp only [setReg_admits]
@[simp] theorem cause_jobs (s : State) (p c a : Nat) : (s.cause p c a).jobs = s.jobs := by unfold State.cause; simp only [setReg_jobs]
@[simp] theorem cause_images (s : State) (p c a : Nat) : (s.cause p c a).images = s.images := by unfold State.cause; simp only [setReg_images]
@[simp] theorem cause_load (s : State) (p c a : Nat) : (s.cause p c a).load = s.load := by unfold State.cause; simp only [setReg_load]
@[simp] theorem cause_mem (s : State) (p c a : Nat) : (s.cause p c a).mem = s.mem := by unfold State.cause; simp only [setReg_mem]
@[simp] theorem cause_dram (s : State) (p c a : Nat) : (s.cause p c a).dram = s.dram := by unfold State.cause; simp only [setReg_dram]
@[simp] theorem cause_cal (s : State) (p c a : Nat) : (s.cause p c a).cal = s.cal := by unfold State.cause; simp only [setReg_cal]
@[simp] theorem cause_queues (s : State) (p c a : Nat) : (s.cause p c a).queues = s.queues := by unfold State.cause; simp only [setReg_queues]
@[simp] theorem cause_channels (s : State) (p c a : Nat) : (s.cause p c a).channels = s.channels := by unfold State.cause; simp only [setReg_channels]
@[simp] theorem cause_net (s : State) (p c a : Nat) : (s.cause p c a).net = s.net := by unfold State.cause; simp only [setReg_net]
@[simp] theorem cause_sec (s : State) (p c a : Nat) : (s.cause p c a).sec = s.sec := by unfold State.cause; simp only [setReg_sec]
@[simp] theorem cause_flt (s : State) (p c a : Nat) : (s.cause p c a).flt = s.flt := by unfold State.cause; simp only [setReg_flt]

/-! `setByte`. -/

@[simp] theorem setByte_pending (s : State) (a : Nat) (b : Byte) : (s.setByte a b).pending = s.pending := rfl
@[simp] theorem setByte_free (s : State) (a : Nat) (b : Byte) : (s.setByte a b).free = s.free := rfl
@[simp] theorem setByte_out (s : State) (a : Nat) (b : Byte) : (s.setByte a b).out = s.out := rfl
@[simp] theorem setByte_clk (s : State) (a : Nat) (b : Byte) : (s.setByte a b).clk = s.clk := rfl
@[simp] theorem setByte_pins (s : State) (a : Nat) (b : Byte) : (s.setByte a b).pins = s.pins := rfl
@[simp] theorem setByte_regs (s : State) (a : Nat) (b : Byte) : (s.setByte a b).regs = s.regs := rfl
@[simp] theorem setByte_holds (s : State) (a : Nat) (b : Byte) : (s.setByte a b).holds = s.holds := rfl
@[simp] theorem setByte_pwr (s : State) (a : Nat) (b : Byte) : (s.setByte a b).pwr = s.pwr := rfl
@[simp] theorem setByte_sup (s : State) (a : Nat) (b : Byte) : (s.setByte a b).sup = s.sup := rfl
@[simp] theorem setByte_fuse (s : State) (a : Nat) (b : Byte) : (s.setByte a b).fuse = s.fuse := rfl
@[simp] theorem setByte_cam (s : State) (a : Nat) (b : Byte) : (s.setByte a b).cam = s.cam := rfl
@[simp] theorem setByte_slots (s : State) (a : Nat) (b : Byte) : (s.setByte a b).slots = s.slots := rfl
@[simp] theorem setByte_pset (s : State) (a : Nat) (b : Byte) : (s.setByte a b).pset = s.pset := rfl
@[simp] theorem setByte_live (s : State) (a : Nat) (b : Byte) : (s.setByte a b).live = s.live := rfl
@[simp] theorem setByte_strms (s : State) (a : Nat) (b : Byte) : (s.setByte a b).strms = s.strms := rfl
@[simp] theorem setByte_engines (s : State) (a : Nat) (b : Byte) : (s.setByte a b).engines = s.engines := rfl
@[simp] theorem setByte_tiles (s : State) (a : Nat) (b : Byte) : (s.setByte a b).tiles = s.tiles := rfl
@[simp] theorem setByte_sched (s : State) (a : Nat) (b : Byte) : (s.setByte a b).sched = s.sched := rfl
@[simp] theorem setByte_admits (s : State) (a : Nat) (b : Byte) : (s.setByte a b).admits = s.admits := rfl
@[simp] theorem setByte_jobs (s : State) (a : Nat) (b : Byte) : (s.setByte a b).jobs = s.jobs := rfl
@[simp] theorem setByte_images (s : State) (a : Nat) (b : Byte) : (s.setByte a b).images = s.images := rfl
@[simp] theorem setByte_load (s : State) (a : Nat) (b : Byte) : (s.setByte a b).load = s.load := rfl
@[simp] theorem setByte_dram (s : State) (a : Nat) (b : Byte) : (s.setByte a b).dram = s.dram := rfl
@[simp] theorem setByte_cal (s : State) (a : Nat) (b : Byte) : (s.setByte a b).cal = s.cal := rfl
@[simp] theorem setByte_queues (s : State) (a : Nat) (b : Byte) : (s.setByte a b).queues = s.queues := rfl
@[simp] theorem setByte_channels (s : State) (a : Nat) (b : Byte) : (s.setByte a b).channels = s.channels := rfl
@[simp] theorem setByte_net (s : State) (a : Nat) (b : Byte) : (s.setByte a b).net = s.net := rfl
@[simp] theorem setByte_sec (s : State) (a : Nat) (b : Byte) : (s.setByte a b).sec = s.sec := rfl
@[simp] theorem setByte_flt (s : State) (a : Nat) (b : Byte) : (s.setByte a b).flt = s.flt := rfl

/-! `tick`. -/

@[simp] theorem tick_pending (s : State) : (tick s).pending = s.pending := rfl
@[simp] theorem tick_free (s : State) : (tick s).free = s.free := rfl
@[simp] theorem tick_out (s : State) : (tick s).out = s.out := rfl
@[simp] theorem tick_pins (s : State) : (tick s).pins = s.pins := rfl
@[simp] theorem tick_regs (s : State) : (tick s).regs = s.regs := rfl
@[simp] theorem tick_holds (s : State) : (tick s).holds = s.holds := rfl
@[simp] theorem tick_pwr (s : State) : (tick s).pwr = s.pwr := rfl
@[simp] theorem tick_sup (s : State) : (tick s).sup = s.sup := rfl
@[simp] theorem tick_fuse (s : State) : (tick s).fuse = s.fuse := rfl
@[simp] theorem tick_cam (s : State) : (tick s).cam = s.cam := rfl
@[simp] theorem tick_slots (s : State) : (tick s).slots = s.slots := rfl
@[simp] theorem tick_pset (s : State) : (tick s).pset = s.pset := rfl
@[simp] theorem tick_live (s : State) : (tick s).live = s.live := rfl
@[simp] theorem tick_strms (s : State) : (tick s).strms = s.strms := rfl
@[simp] theorem tick_engines (s : State) : (tick s).engines = s.engines := rfl
@[simp] theorem tick_tiles (s : State) : (tick s).tiles = s.tiles := rfl
@[simp] theorem tick_sched (s : State) : (tick s).sched = s.sched := rfl
@[simp] theorem tick_admits (s : State) : (tick s).admits = s.admits := rfl
@[simp] theorem tick_jobs (s : State) : (tick s).jobs = s.jobs := rfl
@[simp] theorem tick_images (s : State) : (tick s).images = s.images := rfl
@[simp] theorem tick_load (s : State) : (tick s).load = s.load := rfl
@[simp] theorem tick_mem (s : State) : (tick s).mem = s.mem := rfl
@[simp] theorem tick_dram (s : State) : (tick s).dram = s.dram := rfl
@[simp] theorem tick_cal (s : State) : (tick s).cal = s.cal := rfl
@[simp] theorem tick_queues (s : State) : (tick s).queues = s.queues := rfl
@[simp] theorem tick_channels (s : State) : (tick s).channels = s.channels := rfl
@[simp] theorem tick_net (s : State) : (tick s).net = s.net := rfl
@[simp] theorem tick_sec (s : State) : (tick s).sec = s.sec := rfl
@[simp] theorem tick_flt (s : State) : (tick s).flt = s.flt := rfl

/-! Fields of the network unit. -/

@[simp] theorem setSess_net_ports (s : State) (i : Nat) (v : Session) : (s.setSess i v).net.ports = s.net.ports := rfl
@[simp] theorem setSess_net_exchanges (s : State) (i : Nat) (v : Session) : (s.setSess i v).net.exchanges = s.net.exchanges := rfl
@[simp] theorem setSess_net_avtp (s : State) (i : Nat) (v : Session) : (s.setSess i v).net.avtp = s.net.avtp := rfl
@[simp] theorem setSess_net_reserved (s : State) (i : Nat) (v : Session) : (s.setSess i v).net.reserved = s.net.reserved := rfl
@[simp] theorem setSess_net_video (s : State) (i : Nat) (v : Session) : (s.setSess i v).net.video = s.net.video := rfl
@[simp] theorem setSess_net_locked (s : State) (i : Nat) (v : Session) : (s.setSess i v).net.locked = s.net.locked := rfl
@[simp] theorem setSess_net_grandmaster (s : State) (i : Nat) (v : Session) : (s.setSess i v).net.grandmaster = s.net.grandmaster := rfl
@[simp] theorem setSess_net_groups (s : State) (i : Nat) (v : Session) : (s.setSess i v).net.groups = s.net.groups := rfl
@[simp] theorem setSess_net_events (s : State) (i : Nat) (v : Session) : (s.setSess i v).net.events = s.net.events := rfl
@[simp] theorem setSess_net_lostEvents (s : State) (i : Nat) (v : Session) : (s.setSess i v).net.lostEvents = s.net.lostEvents := rfl
@[simp] theorem setEth_net_sessions (s : State) (i : Nat) (v : EthPort) : (s.setEth i v).net.sessions = s.net.sessions := rfl
@[simp] theorem setEth_net_exchanges (s : State) (i : Nat) (v : EthPort) : (s.setEth i v).net.exchanges = s.net.exchanges := rfl
@[simp] theorem setEth_net_avtp (s : State) (i : Nat) (v : EthPort) : (s.setEth i v).net.avtp = s.net.avtp := rfl
@[simp] theorem setEth_net_reserved (s : State) (i : Nat) (v : EthPort) : (s.setEth i v).net.reserved = s.net.reserved := rfl
@[simp] theorem setEth_net_video (s : State) (i : Nat) (v : EthPort) : (s.setEth i v).net.video = s.net.video := rfl
@[simp] theorem setEth_net_locked (s : State) (i : Nat) (v : EthPort) : (s.setEth i v).net.locked = s.net.locked := rfl
@[simp] theorem setEth_net_grandmaster (s : State) (i : Nat) (v : EthPort) : (s.setEth i v).net.grandmaster = s.net.grandmaster := rfl
@[simp] theorem setEth_net_groups (s : State) (i : Nat) (v : EthPort) : (s.setEth i v).net.groups = s.net.groups := rfl
@[simp] theorem setEth_net_events (s : State) (i : Nat) (v : EthPort) : (s.setEth i v).net.events = s.net.events := rfl
@[simp] theorem setEth_net_lostEvents (s : State) (i : Nat) (v : EthPort) : (s.setEth i v).net.lostEvents = s.net.lostEvents := rfl
@[simp] theorem setGroup_net_ports (s : State) (i : Nat) (v : Option PeerGroup) : (s.setGroup i v).net.ports = s.net.ports := rfl
@[simp] theorem setGroup_net_sessions (s : State) (i : Nat) (v : Option PeerGroup) : (s.setGroup i v).net.sessions = s.net.sessions := rfl
@[simp] theorem setGroup_net_exchanges (s : State) (i : Nat) (v : Option PeerGroup) : (s.setGroup i v).net.exchanges = s.net.exchanges := rfl
@[simp] theorem setGroup_net_avtp (s : State) (i : Nat) (v : Option PeerGroup) : (s.setGroup i v).net.avtp = s.net.avtp := rfl
@[simp] theorem setGroup_net_reserved (s : State) (i : Nat) (v : Option PeerGroup) : (s.setGroup i v).net.reserved = s.net.reserved := rfl
@[simp] theorem setGroup_net_video (s : State) (i : Nat) (v : Option PeerGroup) : (s.setGroup i v).net.video = s.net.video := rfl
@[simp] theorem setGroup_net_locked (s : State) (i : Nat) (v : Option PeerGroup) : (s.setGroup i v).net.locked = s.net.locked := rfl
@[simp] theorem setGroup_net_grandmaster (s : State) (i : Nat) (v : Option PeerGroup) : (s.setGroup i v).net.grandmaster = s.net.grandmaster := rfl
@[simp] theorem setGroup_net_events (s : State) (i : Nat) (v : Option PeerGroup) : (s.setGroup i v).net.events = s.net.events := rfl
@[simp] theorem setGroup_net_lostEvents (s : State) (i : Nat) (v : Option PeerGroup) : (s.setGroup i v).net.lostEvents = s.net.lostEvents := rfl

/-! `record`. -/

/-- `record` changes only net. -/
theorem record_eq (s : State) (r : EventRec) : s.record r =
    State.mk s.pending s.free s.out s.clk s.pins s.regs s.holds s.pwr s.sup s.fuse s.cam s.slots s.pset s.live s.strms s.engines s.tiles s.sched s.admits s.jobs s.images s.load s.mem s.dram s.cal s.queues s.channels (s.record r).net s.sec s.flt := by
  unfold State.record; split <;> rfl

@[simp] theorem record_pending (s : State) (r : EventRec) : (s.record r).pending = s.pending := (congrArg State.pending (record_eq s r) : _)
@[simp] theorem record_free (s : State) (r : EventRec) : (s.record r).free = s.free := (congrArg State.free (record_eq s r) : _)
@[simp] theorem record_out (s : State) (r : EventRec) : (s.record r).out = s.out := (congrArg State.out (record_eq s r) : _)
@[simp] theorem record_clk (s : State) (r : EventRec) : (s.record r).clk = s.clk := (congrArg State.clk (record_eq s r) : _)
@[simp] theorem record_pins (s : State) (r : EventRec) : (s.record r).pins = s.pins := (congrArg State.pins (record_eq s r) : _)
@[simp] theorem record_regs (s : State) (r : EventRec) : (s.record r).regs = s.regs := (congrArg State.regs (record_eq s r) : _)
@[simp] theorem record_holds (s : State) (r : EventRec) : (s.record r).holds = s.holds := (congrArg State.holds (record_eq s r) : _)
@[simp] theorem record_pwr (s : State) (r : EventRec) : (s.record r).pwr = s.pwr := (congrArg State.pwr (record_eq s r) : _)
@[simp] theorem record_sup (s : State) (r : EventRec) : (s.record r).sup = s.sup := (congrArg State.sup (record_eq s r) : _)
@[simp] theorem record_fuse (s : State) (r : EventRec) : (s.record r).fuse = s.fuse := (congrArg State.fuse (record_eq s r) : _)
@[simp] theorem record_cam (s : State) (r : EventRec) : (s.record r).cam = s.cam := (congrArg State.cam (record_eq s r) : _)
@[simp] theorem record_slots (s : State) (r : EventRec) : (s.record r).slots = s.slots := (congrArg State.slots (record_eq s r) : _)
@[simp] theorem record_pset (s : State) (r : EventRec) : (s.record r).pset = s.pset := (congrArg State.pset (record_eq s r) : _)
@[simp] theorem record_live (s : State) (r : EventRec) : (s.record r).live = s.live := (congrArg State.live (record_eq s r) : _)
@[simp] theorem record_strms (s : State) (r : EventRec) : (s.record r).strms = s.strms := (congrArg State.strms (record_eq s r) : _)
@[simp] theorem record_engines (s : State) (r : EventRec) : (s.record r).engines = s.engines := (congrArg State.engines (record_eq s r) : _)
@[simp] theorem record_tiles (s : State) (r : EventRec) : (s.record r).tiles = s.tiles := (congrArg State.tiles (record_eq s r) : _)
@[simp] theorem record_sched (s : State) (r : EventRec) : (s.record r).sched = s.sched := (congrArg State.sched (record_eq s r) : _)
@[simp] theorem record_admits (s : State) (r : EventRec) : (s.record r).admits = s.admits := (congrArg State.admits (record_eq s r) : _)
@[simp] theorem record_jobs (s : State) (r : EventRec) : (s.record r).jobs = s.jobs := (congrArg State.jobs (record_eq s r) : _)
@[simp] theorem record_images (s : State) (r : EventRec) : (s.record r).images = s.images := (congrArg State.images (record_eq s r) : _)
@[simp] theorem record_load (s : State) (r : EventRec) : (s.record r).load = s.load := (congrArg State.load (record_eq s r) : _)
@[simp] theorem record_mem (s : State) (r : EventRec) : (s.record r).mem = s.mem := (congrArg State.mem (record_eq s r) : _)
@[simp] theorem record_dram (s : State) (r : EventRec) : (s.record r).dram = s.dram := (congrArg State.dram (record_eq s r) : _)
@[simp] theorem record_cal (s : State) (r : EventRec) : (s.record r).cal = s.cal := (congrArg State.cal (record_eq s r) : _)
@[simp] theorem record_queues (s : State) (r : EventRec) : (s.record r).queues = s.queues := (congrArg State.queues (record_eq s r) : _)
@[simp] theorem record_channels (s : State) (r : EventRec) : (s.record r).channels = s.channels := (congrArg State.channels (record_eq s r) : _)
@[simp] theorem record_sec (s : State) (r : EventRec) : (s.record r).sec = s.sec := (congrArg State.sec (record_eq s r) : _)
@[simp] theorem record_flt (s : State) (r : EventRec) : (s.record r).flt = s.flt := (congrArg State.flt (record_eq s r) : _)

/-- `record` changes only the event store of the network unit. -/
theorem record_net (s : State) (r : EventRec) : (s.record r).net = Net.mk s.net.ports s.net.sessions s.net.exchanges s.net.avtp s.net.reserved s.net.video (s.record r).net.events (s.record r).net.lostEvents s.net.locked s.net.grandmaster s.net.groups := by unfold State.record; split <;> rfl

@[simp] theorem record_net_ports (s : State) (r : EventRec) : (s.record r).net.ports = s.net.ports := (congrArg Net.ports (record_net s r) : _)
@[simp] theorem record_net_sessions (s : State) (r : EventRec) : (s.record r).net.sessions = s.net.sessions := (congrArg Net.sessions (record_net s r) : _)
@[simp] theorem record_net_exchanges (s : State) (r : EventRec) : (s.record r).net.exchanges = s.net.exchanges := (congrArg Net.exchanges (record_net s r) : _)
@[simp] theorem record_net_avtp (s : State) (r : EventRec) : (s.record r).net.avtp = s.net.avtp := (congrArg Net.avtp (record_net s r) : _)
@[simp] theorem record_net_reserved (s : State) (r : EventRec) : (s.record r).net.reserved = s.net.reserved := (congrArg Net.reserved (record_net s r) : _)
@[simp] theorem record_net_video (s : State) (r : EventRec) : (s.record r).net.video = s.net.video := (congrArg Net.video (record_net s r) : _)
@[simp] theorem record_net_locked (s : State) (r : EventRec) : (s.record r).net.locked = s.net.locked := (congrArg Net.locked (record_net s r) : _)
@[simp] theorem record_net_grandmaster (s : State) (r : EventRec) : (s.record r).net.grandmaster = s.net.grandmaster := (congrArg Net.grandmaster (record_net s r) : _)
@[simp] theorem record_net_groups (s : State) (r : EventRec) : (s.record r).net.groups = s.net.groups := (congrArg Net.groups (record_net s r) : _)

/-! `blockRecord`. -/

/-- `blockRecord` changes only net. -/
theorem blockRecord_eq (s : State) (p b : Nat) : s.blockRecord p b =
    State.mk s.pending s.free s.out s.clk s.pins s.regs s.holds s.pwr s.sup s.fuse s.cam s.slots s.pset s.live s.strms s.engines s.tiles s.sched s.admits s.jobs s.images s.load s.mem s.dram s.cal s.queues s.channels (s.blockRecord p b).net s.sec s.flt := by
  unfold State.blockRecord; split
  · exact record_eq ..
  · rfl

@[simp] theorem blockRecord_pending (s : State) (p b : Nat) : (s.blockRecord p b).pending = s.pending := (congrArg State.pending (blockRecord_eq s p b) : _)
@[simp] theorem blockRecord_free (s : State) (p b : Nat) : (s.blockRecord p b).free = s.free := (congrArg State.free (blockRecord_eq s p b) : _)
@[simp] theorem blockRecord_out (s : State) (p b : Nat) : (s.blockRecord p b).out = s.out := (congrArg State.out (blockRecord_eq s p b) : _)
@[simp] theorem blockRecord_clk (s : State) (p b : Nat) : (s.blockRecord p b).clk = s.clk := (congrArg State.clk (blockRecord_eq s p b) : _)
@[simp] theorem blockRecord_pins (s : State) (p b : Nat) : (s.blockRecord p b).pins = s.pins := (congrArg State.pins (blockRecord_eq s p b) : _)
@[simp] theorem blockRecord_regs (s : State) (p b : Nat) : (s.blockRecord p b).regs = s.regs := (congrArg State.regs (blockRecord_eq s p b) : _)
@[simp] theorem blockRecord_holds (s : State) (p b : Nat) : (s.blockRecord p b).holds = s.holds := (congrArg State.holds (blockRecord_eq s p b) : _)
@[simp] theorem blockRecord_pwr (s : State) (p b : Nat) : (s.blockRecord p b).pwr = s.pwr := (congrArg State.pwr (blockRecord_eq s p b) : _)
@[simp] theorem blockRecord_sup (s : State) (p b : Nat) : (s.blockRecord p b).sup = s.sup := (congrArg State.sup (blockRecord_eq s p b) : _)
@[simp] theorem blockRecord_fuse (s : State) (p b : Nat) : (s.blockRecord p b).fuse = s.fuse := (congrArg State.fuse (blockRecord_eq s p b) : _)
@[simp] theorem blockRecord_cam (s : State) (p b : Nat) : (s.blockRecord p b).cam = s.cam := (congrArg State.cam (blockRecord_eq s p b) : _)
@[simp] theorem blockRecord_slots (s : State) (p b : Nat) : (s.blockRecord p b).slots = s.slots := (congrArg State.slots (blockRecord_eq s p b) : _)
@[simp] theorem blockRecord_pset (s : State) (p b : Nat) : (s.blockRecord p b).pset = s.pset := (congrArg State.pset (blockRecord_eq s p b) : _)
@[simp] theorem blockRecord_live (s : State) (p b : Nat) : (s.blockRecord p b).live = s.live := (congrArg State.live (blockRecord_eq s p b) : _)
@[simp] theorem blockRecord_strms (s : State) (p b : Nat) : (s.blockRecord p b).strms = s.strms := (congrArg State.strms (blockRecord_eq s p b) : _)
@[simp] theorem blockRecord_engines (s : State) (p b : Nat) : (s.blockRecord p b).engines = s.engines := (congrArg State.engines (blockRecord_eq s p b) : _)
@[simp] theorem blockRecord_tiles (s : State) (p b : Nat) : (s.blockRecord p b).tiles = s.tiles := (congrArg State.tiles (blockRecord_eq s p b) : _)
@[simp] theorem blockRecord_sched (s : State) (p b : Nat) : (s.blockRecord p b).sched = s.sched := (congrArg State.sched (blockRecord_eq s p b) : _)
@[simp] theorem blockRecord_admits (s : State) (p b : Nat) : (s.blockRecord p b).admits = s.admits := (congrArg State.admits (blockRecord_eq s p b) : _)
@[simp] theorem blockRecord_jobs (s : State) (p b : Nat) : (s.blockRecord p b).jobs = s.jobs := (congrArg State.jobs (blockRecord_eq s p b) : _)
@[simp] theorem blockRecord_images (s : State) (p b : Nat) : (s.blockRecord p b).images = s.images := (congrArg State.images (blockRecord_eq s p b) : _)
@[simp] theorem blockRecord_load (s : State) (p b : Nat) : (s.blockRecord p b).load = s.load := (congrArg State.load (blockRecord_eq s p b) : _)
@[simp] theorem blockRecord_mem (s : State) (p b : Nat) : (s.blockRecord p b).mem = s.mem := (congrArg State.mem (blockRecord_eq s p b) : _)
@[simp] theorem blockRecord_dram (s : State) (p b : Nat) : (s.blockRecord p b).dram = s.dram := (congrArg State.dram (blockRecord_eq s p b) : _)
@[simp] theorem blockRecord_cal (s : State) (p b : Nat) : (s.blockRecord p b).cal = s.cal := (congrArg State.cal (blockRecord_eq s p b) : _)
@[simp] theorem blockRecord_queues (s : State) (p b : Nat) : (s.blockRecord p b).queues = s.queues := (congrArg State.queues (blockRecord_eq s p b) : _)
@[simp] theorem blockRecord_channels (s : State) (p b : Nat) : (s.blockRecord p b).channels = s.channels := (congrArg State.channels (blockRecord_eq s p b) : _)
@[simp] theorem blockRecord_sec (s : State) (p b : Nat) : (s.blockRecord p b).sec = s.sec := (congrArg State.sec (blockRecord_eq s p b) : _)
@[simp] theorem blockRecord_flt (s : State) (p b : Nat) : (s.blockRecord p b).flt = s.flt := (congrArg State.flt (blockRecord_eq s p b) : _)

/-- `blockRecord` changes only the event store of the network unit. -/
theorem blockRecord_net (s : State) (p b : Nat) : (s.blockRecord p b).net = Net.mk s.net.ports s.net.sessions s.net.exchanges s.net.avtp s.net.reserved s.net.video (s.blockRecord p b).net.events (s.blockRecord p b).net.lostEvents s.net.locked s.net.grandmaster s.net.groups := by unfold State.blockRecord; split <;> [exact record_net ..; rfl]

@[simp] theorem blockRecord_net_ports (s : State) (p b : Nat) : (s.blockRecord p b).net.ports = s.net.ports := (congrArg Net.ports (blockRecord_net s p b) : _)
@[simp] theorem blockRecord_net_sessions (s : State) (p b : Nat) : (s.blockRecord p b).net.sessions = s.net.sessions := (congrArg Net.sessions (blockRecord_net s p b) : _)
@[simp] theorem blockRecord_net_exchanges (s : State) (p b : Nat) : (s.blockRecord p b).net.exchanges = s.net.exchanges := (congrArg Net.exchanges (blockRecord_net s p b) : _)
@[simp] theorem blockRecord_net_avtp (s : State) (p b : Nat) : (s.blockRecord p b).net.avtp = s.net.avtp := (congrArg Net.avtp (blockRecord_net s p b) : _)
@[simp] theorem blockRecord_net_reserved (s : State) (p b : Nat) : (s.blockRecord p b).net.reserved = s.net.reserved := (congrArg Net.reserved (blockRecord_net s p b) : _)
@[simp] theorem blockRecord_net_video (s : State) (p b : Nat) : (s.blockRecord p b).net.video = s.net.video := (congrArg Net.video (blockRecord_net s p b) : _)
@[simp] theorem blockRecord_net_locked (s : State) (p b : Nat) : (s.blockRecord p b).net.locked = s.net.locked := (congrArg Net.locked (blockRecord_net s p b) : _)
@[simp] theorem blockRecord_net_grandmaster (s : State) (p b : Nat) : (s.blockRecord p b).net.grandmaster = s.net.grandmaster := (congrArg Net.grandmaster (blockRecord_net s p b) : _)
@[simp] theorem blockRecord_net_groups (s : State) (p b : Nat) : (s.blockRecord p b).net.groups = s.net.groups := (congrArg Net.groups (blockRecord_net s p b) : _)

/-! `event`. -/

/-- `event` changes only net and regs. -/
theorem event_eq (s : State) (p b : Nat) : s.event p b =
    State.mk s.pending s.free s.out s.clk s.pins (s.event p b).regs s.holds s.pwr s.sup s.fuse s.cam s.slots s.pset s.live s.strms s.engines s.tiles s.sched s.admits s.jobs s.images s.load s.mem s.dram s.cal s.queues s.channels (s.event p b).net s.sec s.flt := by
  unfold State.event; dsimp only; split
  · rw [blockRecord_eq]; rfl
  · rfl

@[simp] theorem event_pending (s : State) (p b : Nat) : (s.event p b).pending = s.pending := (congrArg State.pending (event_eq s p b) : _)
@[simp] theorem event_free (s : State) (p b : Nat) : (s.event p b).free = s.free := (congrArg State.free (event_eq s p b) : _)
@[simp] theorem event_out (s : State) (p b : Nat) : (s.event p b).out = s.out := (congrArg State.out (event_eq s p b) : _)
@[simp] theorem event_clk (s : State) (p b : Nat) : (s.event p b).clk = s.clk := (congrArg State.clk (event_eq s p b) : _)
@[simp] theorem event_pins (s : State) (p b : Nat) : (s.event p b).pins = s.pins := (congrArg State.pins (event_eq s p b) : _)
@[simp] theorem event_holds (s : State) (p b : Nat) : (s.event p b).holds = s.holds := (congrArg State.holds (event_eq s p b) : _)
@[simp] theorem event_pwr (s : State) (p b : Nat) : (s.event p b).pwr = s.pwr := (congrArg State.pwr (event_eq s p b) : _)
@[simp] theorem event_sup (s : State) (p b : Nat) : (s.event p b).sup = s.sup := (congrArg State.sup (event_eq s p b) : _)
@[simp] theorem event_fuse (s : State) (p b : Nat) : (s.event p b).fuse = s.fuse := (congrArg State.fuse (event_eq s p b) : _)
@[simp] theorem event_cam (s : State) (p b : Nat) : (s.event p b).cam = s.cam := (congrArg State.cam (event_eq s p b) : _)
@[simp] theorem event_slots (s : State) (p b : Nat) : (s.event p b).slots = s.slots := (congrArg State.slots (event_eq s p b) : _)
@[simp] theorem event_pset (s : State) (p b : Nat) : (s.event p b).pset = s.pset := (congrArg State.pset (event_eq s p b) : _)
@[simp] theorem event_live (s : State) (p b : Nat) : (s.event p b).live = s.live := (congrArg State.live (event_eq s p b) : _)
@[simp] theorem event_strms (s : State) (p b : Nat) : (s.event p b).strms = s.strms := (congrArg State.strms (event_eq s p b) : _)
@[simp] theorem event_engines (s : State) (p b : Nat) : (s.event p b).engines = s.engines := (congrArg State.engines (event_eq s p b) : _)
@[simp] theorem event_tiles (s : State) (p b : Nat) : (s.event p b).tiles = s.tiles := (congrArg State.tiles (event_eq s p b) : _)
@[simp] theorem event_sched (s : State) (p b : Nat) : (s.event p b).sched = s.sched := (congrArg State.sched (event_eq s p b) : _)
@[simp] theorem event_admits (s : State) (p b : Nat) : (s.event p b).admits = s.admits := (congrArg State.admits (event_eq s p b) : _)
@[simp] theorem event_jobs (s : State) (p b : Nat) : (s.event p b).jobs = s.jobs := (congrArg State.jobs (event_eq s p b) : _)
@[simp] theorem event_images (s : State) (p b : Nat) : (s.event p b).images = s.images := (congrArg State.images (event_eq s p b) : _)
@[simp] theorem event_load (s : State) (p b : Nat) : (s.event p b).load = s.load := (congrArg State.load (event_eq s p b) : _)
@[simp] theorem event_mem (s : State) (p b : Nat) : (s.event p b).mem = s.mem := (congrArg State.mem (event_eq s p b) : _)
@[simp] theorem event_dram (s : State) (p b : Nat) : (s.event p b).dram = s.dram := (congrArg State.dram (event_eq s p b) : _)
@[simp] theorem event_cal (s : State) (p b : Nat) : (s.event p b).cal = s.cal := (congrArg State.cal (event_eq s p b) : _)
@[simp] theorem event_queues (s : State) (p b : Nat) : (s.event p b).queues = s.queues := (congrArg State.queues (event_eq s p b) : _)
@[simp] theorem event_channels (s : State) (p b : Nat) : (s.event p b).channels = s.channels := (congrArg State.channels (event_eq s p b) : _)
@[simp] theorem event_sec (s : State) (p b : Nat) : (s.event p b).sec = s.sec := (congrArg State.sec (event_eq s p b) : _)
@[simp] theorem event_flt (s : State) (p b : Nat) : (s.event p b).flt = s.flt := (congrArg State.flt (event_eq s p b) : _)

/-- `event` changes only the event store of the network unit. -/
theorem event_net (s : State) (p b : Nat) : (s.event p b).net = Net.mk s.net.ports s.net.sessions s.net.exchanges s.net.avtp s.net.reserved s.net.video (s.event p b).net.events (s.event p b).net.lostEvents s.net.locked s.net.grandmaster s.net.groups := by unfold State.event; dsimp only; split <;> [exact blockRecord_net ..; rfl]

@[simp] theorem event_net_ports (s : State) (p b : Nat) : (s.event p b).net.ports = s.net.ports := (congrArg Net.ports (event_net s p b) : _)
@[simp] theorem event_net_sessions (s : State) (p b : Nat) : (s.event p b).net.sessions = s.net.sessions := (congrArg Net.sessions (event_net s p b) : _)
@[simp] theorem event_net_exchanges (s : State) (p b : Nat) : (s.event p b).net.exchanges = s.net.exchanges := (congrArg Net.exchanges (event_net s p b) : _)
@[simp] theorem event_net_avtp (s : State) (p b : Nat) : (s.event p b).net.avtp = s.net.avtp := (congrArg Net.avtp (event_net s p b) : _)
@[simp] theorem event_net_reserved (s : State) (p b : Nat) : (s.event p b).net.reserved = s.net.reserved := (congrArg Net.reserved (event_net s p b) : _)
@[simp] theorem event_net_video (s : State) (p b : Nat) : (s.event p b).net.video = s.net.video := (congrArg Net.video (event_net s p b) : _)
@[simp] theorem event_net_locked (s : State) (p b : Nat) : (s.event p b).net.locked = s.net.locked := (congrArg Net.locked (event_net s p b) : _)
@[simp] theorem event_net_grandmaster (s : State) (p b : Nat) : (s.event p b).net.grandmaster = s.net.grandmaster := (congrArg Net.grandmaster (event_net s p b) : _)
@[simp] theorem event_net_groups (s : State) (p b : Nat) : (s.event p b).net.groups = s.net.groups := (congrArg Net.groups (event_net s p b) : _)

/-! `fail`. -/

@[simp] theorem fail_pending (s : State) (p b c a : Nat) : (s.fail p b c a).pending = s.pending := by
  simp only [State.fail, event_pending, cause_pending]
@[simp] theorem fail_free (s : State) (p b c a : Nat) : (s.fail p b c a).free = s.free := by
  simp only [State.fail, event_free, cause_free]
@[simp] theorem fail_out (s : State) (p b c a : Nat) : (s.fail p b c a).out = s.out := by
  simp only [State.fail, event_out, cause_out]
@[simp] theorem fail_clk (s : State) (p b c a : Nat) : (s.fail p b c a).clk = s.clk := by
  simp only [State.fail, event_clk, cause_clk]
@[simp] theorem fail_pins (s : State) (p b c a : Nat) : (s.fail p b c a).pins = s.pins := by
  simp only [State.fail, event_pins, cause_pins]
@[simp] theorem fail_holds (s : State) (p b c a : Nat) : (s.fail p b c a).holds = s.holds := by
  simp only [State.fail, event_holds, cause_holds]
@[simp] theorem fail_pwr (s : State) (p b c a : Nat) : (s.fail p b c a).pwr = s.pwr := by
  simp only [State.fail, event_pwr, cause_pwr]
@[simp] theorem fail_sup (s : State) (p b c a : Nat) : (s.fail p b c a).sup = s.sup := by
  simp only [State.fail, event_sup, cause_sup]
@[simp] theorem fail_fuse (s : State) (p b c a : Nat) : (s.fail p b c a).fuse = s.fuse := by
  simp only [State.fail, event_fuse, cause_fuse]
@[simp] theorem fail_cam (s : State) (p b c a : Nat) : (s.fail p b c a).cam = s.cam := by
  simp only [State.fail, event_cam, cause_cam]
@[simp] theorem fail_slots (s : State) (p b c a : Nat) : (s.fail p b c a).slots = s.slots := by
  simp only [State.fail, event_slots, cause_slots]
@[simp] theorem fail_pset (s : State) (p b c a : Nat) : (s.fail p b c a).pset = s.pset := by
  simp only [State.fail, event_pset, cause_pset]
@[simp] theorem fail_live (s : State) (p b c a : Nat) : (s.fail p b c a).live = s.live := by
  simp only [State.fail, event_live, cause_live]
@[simp] theorem fail_strms (s : State) (p b c a : Nat) : (s.fail p b c a).strms = s.strms := by
  simp only [State.fail, event_strms, cause_strms]
@[simp] theorem fail_engines (s : State) (p b c a : Nat) : (s.fail p b c a).engines = s.engines := by
  simp only [State.fail, event_engines, cause_engines]
@[simp] theorem fail_tiles (s : State) (p b c a : Nat) : (s.fail p b c a).tiles = s.tiles := by
  simp only [State.fail, event_tiles, cause_tiles]
@[simp] theorem fail_sched (s : State) (p b c a : Nat) : (s.fail p b c a).sched = s.sched := by
  simp only [State.fail, event_sched, cause_sched]
@[simp] theorem fail_admits (s : State) (p b c a : Nat) : (s.fail p b c a).admits = s.admits := by
  simp only [State.fail, event_admits, cause_admits]
@[simp] theorem fail_jobs (s : State) (p b c a : Nat) : (s.fail p b c a).jobs = s.jobs := by
  simp only [State.fail, event_jobs, cause_jobs]
@[simp] theorem fail_images (s : State) (p b c a : Nat) : (s.fail p b c a).images = s.images := by
  simp only [State.fail, event_images, cause_images]
@[simp] theorem fail_load (s : State) (p b c a : Nat) : (s.fail p b c a).load = s.load := by
  simp only [State.fail, event_load, cause_load]
@[simp] theorem fail_mem (s : State) (p b c a : Nat) : (s.fail p b c a).mem = s.mem := by
  simp only [State.fail, event_mem, cause_mem]
@[simp] theorem fail_dram (s : State) (p b c a : Nat) : (s.fail p b c a).dram = s.dram := by
  simp only [State.fail, event_dram, cause_dram]
@[simp] theorem fail_cal (s : State) (p b c a : Nat) : (s.fail p b c a).cal = s.cal := by
  simp only [State.fail, event_cal, cause_cal]
@[simp] theorem fail_queues (s : State) (p b c a : Nat) : (s.fail p b c a).queues = s.queues := by
  simp only [State.fail, event_queues, cause_queues]
@[simp] theorem fail_channels (s : State) (p b c a : Nat) : (s.fail p b c a).channels = s.channels := by
  simp only [State.fail, event_channels, cause_channels]
@[simp] theorem fail_sec (s : State) (p b c a : Nat) : (s.fail p b c a).sec = s.sec := by
  simp only [State.fail, event_sec, cause_sec]
@[simp] theorem fail_flt (s : State) (p b c a : Nat) : (s.fail p b c a).flt = s.flt := by
  simp only [State.fail, event_flt, cause_flt]
@[simp] theorem fail_net_ports (s : State) (p b c a : Nat) : (s.fail p b c a).net.ports = s.net.ports := by
  simp only [State.fail, event_net_ports, cause_net]
@[simp] theorem fail_net_sessions (s : State) (p b c a : Nat) : (s.fail p b c a).net.sessions = s.net.sessions := by
  simp only [State.fail, event_net_sessions, cause_net]
@[simp] theorem fail_net_exchanges (s : State) (p b c a : Nat) : (s.fail p b c a).net.exchanges = s.net.exchanges := by
  simp only [State.fail, event_net_exchanges, cause_net]
@[simp] theorem fail_net_avtp (s : State) (p b c a : Nat) : (s.fail p b c a).net.avtp = s.net.avtp := by
  simp only [State.fail, event_net_avtp, cause_net]
@[simp] theorem fail_net_reserved (s : State) (p b c a : Nat) : (s.fail p b c a).net.reserved = s.net.reserved := by
  simp only [State.fail, event_net_reserved, cause_net]
@[simp] theorem fail_net_video (s : State) (p b c a : Nat) : (s.fail p b c a).net.video = s.net.video := by
  simp only [State.fail, event_net_video, cause_net]
@[simp] theorem fail_net_locked (s : State) (p b c a : Nat) : (s.fail p b c a).net.locked = s.net.locked := by
  simp only [State.fail, event_net_locked, cause_net]
@[simp] theorem fail_net_grandmaster (s : State) (p b c a : Nat) : (s.fail p b c a).net.grandmaster = s.net.grandmaster := by
  simp only [State.fail, event_net_grandmaster, cause_net]
@[simp] theorem fail_net_groups (s : State) (p b c a : Nat) : (s.fail p b c a).net.groups = s.net.groups := by
  simp only [State.fail, event_net_groups, cause_net]

/-! `deviceEvent`. -/

/-- `deviceEvent` changes only net. -/
theorem deviceEvent_eq (s : State) (c x y n : Nat) : s.deviceEvent c x y n =
    State.mk s.pending s.free s.out s.clk s.pins s.regs s.holds s.pwr s.sup s.fuse s.cam s.slots s.pset s.live s.strms s.engines s.tiles s.sched s.admits s.jobs s.images s.load s.mem s.dram s.cal s.queues s.channels (s.deviceEvent c x y n).net s.sec s.flt := record_eq ..

@[simp] theorem deviceEvent_pending (s : State) (c x y n : Nat) : (s.deviceEvent c x y n).pending = s.pending := (congrArg State.pending (deviceEvent_eq s c x y n) : _)
@[simp] theorem deviceEvent_free (s : State) (c x y n : Nat) : (s.deviceEvent c x y n).free = s.free := (congrArg State.free (deviceEvent_eq s c x y n) : _)
@[simp] theorem deviceEvent_out (s : State) (c x y n : Nat) : (s.deviceEvent c x y n).out = s.out := (congrArg State.out (deviceEvent_eq s c x y n) : _)
@[simp] theorem deviceEvent_clk (s : State) (c x y n : Nat) : (s.deviceEvent c x y n).clk = s.clk := (congrArg State.clk (deviceEvent_eq s c x y n) : _)
@[simp] theorem deviceEvent_pins (s : State) (c x y n : Nat) : (s.deviceEvent c x y n).pins = s.pins := (congrArg State.pins (deviceEvent_eq s c x y n) : _)
@[simp] theorem deviceEvent_regs (s : State) (c x y n : Nat) : (s.deviceEvent c x y n).regs = s.regs := (congrArg State.regs (deviceEvent_eq s c x y n) : _)
@[simp] theorem deviceEvent_holds (s : State) (c x y n : Nat) : (s.deviceEvent c x y n).holds = s.holds := (congrArg State.holds (deviceEvent_eq s c x y n) : _)
@[simp] theorem deviceEvent_pwr (s : State) (c x y n : Nat) : (s.deviceEvent c x y n).pwr = s.pwr := (congrArg State.pwr (deviceEvent_eq s c x y n) : _)
@[simp] theorem deviceEvent_sup (s : State) (c x y n : Nat) : (s.deviceEvent c x y n).sup = s.sup := (congrArg State.sup (deviceEvent_eq s c x y n) : _)
@[simp] theorem deviceEvent_fuse (s : State) (c x y n : Nat) : (s.deviceEvent c x y n).fuse = s.fuse := (congrArg State.fuse (deviceEvent_eq s c x y n) : _)
@[simp] theorem deviceEvent_cam (s : State) (c x y n : Nat) : (s.deviceEvent c x y n).cam = s.cam := (congrArg State.cam (deviceEvent_eq s c x y n) : _)
@[simp] theorem deviceEvent_slots (s : State) (c x y n : Nat) : (s.deviceEvent c x y n).slots = s.slots := (congrArg State.slots (deviceEvent_eq s c x y n) : _)
@[simp] theorem deviceEvent_pset (s : State) (c x y n : Nat) : (s.deviceEvent c x y n).pset = s.pset := (congrArg State.pset (deviceEvent_eq s c x y n) : _)
@[simp] theorem deviceEvent_live (s : State) (c x y n : Nat) : (s.deviceEvent c x y n).live = s.live := (congrArg State.live (deviceEvent_eq s c x y n) : _)
@[simp] theorem deviceEvent_strms (s : State) (c x y n : Nat) : (s.deviceEvent c x y n).strms = s.strms := (congrArg State.strms (deviceEvent_eq s c x y n) : _)
@[simp] theorem deviceEvent_engines (s : State) (c x y n : Nat) : (s.deviceEvent c x y n).engines = s.engines := (congrArg State.engines (deviceEvent_eq s c x y n) : _)
@[simp] theorem deviceEvent_tiles (s : State) (c x y n : Nat) : (s.deviceEvent c x y n).tiles = s.tiles := (congrArg State.tiles (deviceEvent_eq s c x y n) : _)
@[simp] theorem deviceEvent_sched (s : State) (c x y n : Nat) : (s.deviceEvent c x y n).sched = s.sched := (congrArg State.sched (deviceEvent_eq s c x y n) : _)
@[simp] theorem deviceEvent_admits (s : State) (c x y n : Nat) : (s.deviceEvent c x y n).admits = s.admits := (congrArg State.admits (deviceEvent_eq s c x y n) : _)
@[simp] theorem deviceEvent_jobs (s : State) (c x y n : Nat) : (s.deviceEvent c x y n).jobs = s.jobs := (congrArg State.jobs (deviceEvent_eq s c x y n) : _)
@[simp] theorem deviceEvent_images (s : State) (c x y n : Nat) : (s.deviceEvent c x y n).images = s.images := (congrArg State.images (deviceEvent_eq s c x y n) : _)
@[simp] theorem deviceEvent_load (s : State) (c x y n : Nat) : (s.deviceEvent c x y n).load = s.load := (congrArg State.load (deviceEvent_eq s c x y n) : _)
@[simp] theorem deviceEvent_mem (s : State) (c x y n : Nat) : (s.deviceEvent c x y n).mem = s.mem := (congrArg State.mem (deviceEvent_eq s c x y n) : _)
@[simp] theorem deviceEvent_dram (s : State) (c x y n : Nat) : (s.deviceEvent c x y n).dram = s.dram := (congrArg State.dram (deviceEvent_eq s c x y n) : _)
@[simp] theorem deviceEvent_cal (s : State) (c x y n : Nat) : (s.deviceEvent c x y n).cal = s.cal := (congrArg State.cal (deviceEvent_eq s c x y n) : _)
@[simp] theorem deviceEvent_queues (s : State) (c x y n : Nat) : (s.deviceEvent c x y n).queues = s.queues := (congrArg State.queues (deviceEvent_eq s c x y n) : _)
@[simp] theorem deviceEvent_channels (s : State) (c x y n : Nat) : (s.deviceEvent c x y n).channels = s.channels := (congrArg State.channels (deviceEvent_eq s c x y n) : _)
@[simp] theorem deviceEvent_sec (s : State) (c x y n : Nat) : (s.deviceEvent c x y n).sec = s.sec := (congrArg State.sec (deviceEvent_eq s c x y n) : _)
@[simp] theorem deviceEvent_flt (s : State) (c x y n : Nat) : (s.deviceEvent c x y n).flt = s.flt := (congrArg State.flt (deviceEvent_eq s c x y n) : _)

/-- `deviceEvent` changes only the event store of the network unit. -/
theorem deviceEvent_net (s : State) (c x y n : Nat) : (s.deviceEvent c x y n).net = Net.mk s.net.ports s.net.sessions s.net.exchanges s.net.avtp s.net.reserved s.net.video (s.deviceEvent c x y n).net.events (s.deviceEvent c x y n).net.lostEvents s.net.locked s.net.grandmaster s.net.groups := record_net ..

@[simp] theorem deviceEvent_net_ports (s : State) (c x y n : Nat) : (s.deviceEvent c x y n).net.ports = s.net.ports := (congrArg Net.ports (deviceEvent_net s c x y n) : _)
@[simp] theorem deviceEvent_net_sessions (s : State) (c x y n : Nat) : (s.deviceEvent c x y n).net.sessions = s.net.sessions := (congrArg Net.sessions (deviceEvent_net s c x y n) : _)
@[simp] theorem deviceEvent_net_exchanges (s : State) (c x y n : Nat) : (s.deviceEvent c x y n).net.exchanges = s.net.exchanges := (congrArg Net.exchanges (deviceEvent_net s c x y n) : _)
@[simp] theorem deviceEvent_net_avtp (s : State) (c x y n : Nat) : (s.deviceEvent c x y n).net.avtp = s.net.avtp := (congrArg Net.avtp (deviceEvent_net s c x y n) : _)
@[simp] theorem deviceEvent_net_reserved (s : State) (c x y n : Nat) : (s.deviceEvent c x y n).net.reserved = s.net.reserved := (congrArg Net.reserved (deviceEvent_net s c x y n) : _)
@[simp] theorem deviceEvent_net_video (s : State) (c x y n : Nat) : (s.deviceEvent c x y n).net.video = s.net.video := (congrArg Net.video (deviceEvent_net s c x y n) : _)
@[simp] theorem deviceEvent_net_locked (s : State) (c x y n : Nat) : (s.deviceEvent c x y n).net.locked = s.net.locked := (congrArg Net.locked (deviceEvent_net s c x y n) : _)
@[simp] theorem deviceEvent_net_grandmaster (s : State) (c x y n : Nat) : (s.deviceEvent c x y n).net.grandmaster = s.net.grandmaster := (congrArg Net.grandmaster (deviceEvent_net s c x y n) : _)
@[simp] theorem deviceEvent_net_groups (s : State) (c x y n : Nat) : (s.deviceEvent c x y n).net.groups = s.net.groups := (congrArg Net.groups (deviceEvent_net s c x y n) : _)

/-! `log`. -/

/-- `log` changes only net and regs and flt. -/
theorem log_eq (s : State) (k c : Nat) (l : List Byte) : s.log k c l =
    State.mk s.pending s.free s.out s.clk s.pins (s.log k c l).regs s.holds s.pwr s.sup s.fuse s.cam s.slots s.pset s.live s.strms s.engines s.tiles s.sched s.admits s.jobs s.images s.load s.mem s.dram s.cal s.queues s.channels (s.log k c l).net s.sec (s.log k c l).flt := by
  unfold State.log; dsimp only; split
  · split
    · rfl
    · rw [event_eq]
  · rfl

@[simp] theorem log_pending (s : State) (k c : Nat) (l : List Byte) : (s.log k c l).pending = s.pending := (congrArg State.pending (log_eq s k c l) : _)
@[simp] theorem log_free (s : State) (k c : Nat) (l : List Byte) : (s.log k c l).free = s.free := (congrArg State.free (log_eq s k c l) : _)
@[simp] theorem log_out (s : State) (k c : Nat) (l : List Byte) : (s.log k c l).out = s.out := (congrArg State.out (log_eq s k c l) : _)
@[simp] theorem log_clk (s : State) (k c : Nat) (l : List Byte) : (s.log k c l).clk = s.clk := (congrArg State.clk (log_eq s k c l) : _)
@[simp] theorem log_pins (s : State) (k c : Nat) (l : List Byte) : (s.log k c l).pins = s.pins := (congrArg State.pins (log_eq s k c l) : _)
@[simp] theorem log_holds (s : State) (k c : Nat) (l : List Byte) : (s.log k c l).holds = s.holds := (congrArg State.holds (log_eq s k c l) : _)
@[simp] theorem log_pwr (s : State) (k c : Nat) (l : List Byte) : (s.log k c l).pwr = s.pwr := (congrArg State.pwr (log_eq s k c l) : _)
@[simp] theorem log_sup (s : State) (k c : Nat) (l : List Byte) : (s.log k c l).sup = s.sup := (congrArg State.sup (log_eq s k c l) : _)
@[simp] theorem log_fuse (s : State) (k c : Nat) (l : List Byte) : (s.log k c l).fuse = s.fuse := (congrArg State.fuse (log_eq s k c l) : _)
@[simp] theorem log_cam (s : State) (k c : Nat) (l : List Byte) : (s.log k c l).cam = s.cam := (congrArg State.cam (log_eq s k c l) : _)
@[simp] theorem log_slots (s : State) (k c : Nat) (l : List Byte) : (s.log k c l).slots = s.slots := (congrArg State.slots (log_eq s k c l) : _)
@[simp] theorem log_pset (s : State) (k c : Nat) (l : List Byte) : (s.log k c l).pset = s.pset := (congrArg State.pset (log_eq s k c l) : _)
@[simp] theorem log_live (s : State) (k c : Nat) (l : List Byte) : (s.log k c l).live = s.live := (congrArg State.live (log_eq s k c l) : _)
@[simp] theorem log_strms (s : State) (k c : Nat) (l : List Byte) : (s.log k c l).strms = s.strms := (congrArg State.strms (log_eq s k c l) : _)
@[simp] theorem log_engines (s : State) (k c : Nat) (l : List Byte) : (s.log k c l).engines = s.engines := (congrArg State.engines (log_eq s k c l) : _)
@[simp] theorem log_tiles (s : State) (k c : Nat) (l : List Byte) : (s.log k c l).tiles = s.tiles := (congrArg State.tiles (log_eq s k c l) : _)
@[simp] theorem log_sched (s : State) (k c : Nat) (l : List Byte) : (s.log k c l).sched = s.sched := (congrArg State.sched (log_eq s k c l) : _)
@[simp] theorem log_admits (s : State) (k c : Nat) (l : List Byte) : (s.log k c l).admits = s.admits := (congrArg State.admits (log_eq s k c l) : _)
@[simp] theorem log_jobs (s : State) (k c : Nat) (l : List Byte) : (s.log k c l).jobs = s.jobs := (congrArg State.jobs (log_eq s k c l) : _)
@[simp] theorem log_images (s : State) (k c : Nat) (l : List Byte) : (s.log k c l).images = s.images := (congrArg State.images (log_eq s k c l) : _)
@[simp] theorem log_load (s : State) (k c : Nat) (l : List Byte) : (s.log k c l).load = s.load := (congrArg State.load (log_eq s k c l) : _)
@[simp] theorem log_mem (s : State) (k c : Nat) (l : List Byte) : (s.log k c l).mem = s.mem := (congrArg State.mem (log_eq s k c l) : _)
@[simp] theorem log_dram (s : State) (k c : Nat) (l : List Byte) : (s.log k c l).dram = s.dram := (congrArg State.dram (log_eq s k c l) : _)
@[simp] theorem log_cal (s : State) (k c : Nat) (l : List Byte) : (s.log k c l).cal = s.cal := (congrArg State.cal (log_eq s k c l) : _)
@[simp] theorem log_queues (s : State) (k c : Nat) (l : List Byte) : (s.log k c l).queues = s.queues := (congrArg State.queues (log_eq s k c l) : _)
@[simp] theorem log_channels (s : State) (k c : Nat) (l : List Byte) : (s.log k c l).channels = s.channels := (congrArg State.channels (log_eq s k c l) : _)
@[simp] theorem log_sec (s : State) (k c : Nat) (l : List Byte) : (s.log k c l).sec = s.sec := (congrArg State.sec (log_eq s k c l) : _)

/-- `log` changes only the event store of the network unit. -/
theorem log_net (s : State) (k c : Nat) (l : List Byte) : (s.log k c l).net = Net.mk s.net.ports s.net.sessions s.net.exchanges s.net.avtp s.net.reserved s.net.video (s.log k c l).net.events (s.log k c l).net.lostEvents s.net.locked s.net.grandmaster s.net.groups := by unfold State.log; dsimp only; split <;> [(split <;> [rfl; exact event_net ..]); rfl]

@[simp] theorem log_net_ports (s : State) (k c : Nat) (l : List Byte) : (s.log k c l).net.ports = s.net.ports := (congrArg Net.ports (log_net s k c l) : _)
@[simp] theorem log_net_sessions (s : State) (k c : Nat) (l : List Byte) : (s.log k c l).net.sessions = s.net.sessions := (congrArg Net.sessions (log_net s k c l) : _)
@[simp] theorem log_net_exchanges (s : State) (k c : Nat) (l : List Byte) : (s.log k c l).net.exchanges = s.net.exchanges := (congrArg Net.exchanges (log_net s k c l) : _)
@[simp] theorem log_net_avtp (s : State) (k c : Nat) (l : List Byte) : (s.log k c l).net.avtp = s.net.avtp := (congrArg Net.avtp (log_net s k c l) : _)
@[simp] theorem log_net_reserved (s : State) (k c : Nat) (l : List Byte) : (s.log k c l).net.reserved = s.net.reserved := (congrArg Net.reserved (log_net s k c l) : _)
@[simp] theorem log_net_video (s : State) (k c : Nat) (l : List Byte) : (s.log k c l).net.video = s.net.video := (congrArg Net.video (log_net s k c l) : _)
@[simp] theorem log_net_locked (s : State) (k c : Nat) (l : List Byte) : (s.log k c l).net.locked = s.net.locked := (congrArg Net.locked (log_net s k c l) : _)
@[simp] theorem log_net_grandmaster (s : State) (k c : Nat) (l : List Byte) : (s.log k c l).net.grandmaster = s.net.grandmaster := (congrArg Net.grandmaster (log_net s k c l) : _)
@[simp] theorem log_net_groups (s : State) (k c : Nat) (l : List Byte) : (s.log k c l).net.groups = s.net.groups := (congrArg Net.groups (log_net s k c l) : _)

/-! `fault`. -/

@[simp] theorem fault_pending (s : State) (c u w : Nat) : (s.fault c u w).pending = s.pending := by
  simp only [State.fault, event_pending, log_pending, bump_pending, cause_pending]
@[simp] theorem fault_free (s : State) (c u w : Nat) : (s.fault c u w).free = s.free := by
  simp only [State.fault, event_free, log_free, bump_free, cause_free]
@[simp] theorem fault_out (s : State) (c u w : Nat) : (s.fault c u w).out = s.out := by
  simp only [State.fault, event_out, log_out, bump_out, cause_out]
@[simp] theorem fault_clk (s : State) (c u w : Nat) : (s.fault c u w).clk = s.clk := by
  simp only [State.fault, event_clk, log_clk, bump_clk, cause_clk]
@[simp] theorem fault_pins (s : State) (c u w : Nat) : (s.fault c u w).pins = s.pins := by
  simp only [State.fault, event_pins, log_pins, bump_pins, cause_pins]
@[simp] theorem fault_holds (s : State) (c u w : Nat) : (s.fault c u w).holds = s.holds := by
  simp only [State.fault, event_holds, log_holds, bump_holds, cause_holds]
@[simp] theorem fault_pwr (s : State) (c u w : Nat) : (s.fault c u w).pwr = s.pwr := by
  simp only [State.fault, event_pwr, log_pwr, bump_pwr, cause_pwr]
@[simp] theorem fault_sup (s : State) (c u w : Nat) : (s.fault c u w).sup = s.sup := by
  simp only [State.fault, event_sup, log_sup, bump_sup, cause_sup]
@[simp] theorem fault_fuse (s : State) (c u w : Nat) : (s.fault c u w).fuse = s.fuse := by
  simp only [State.fault, event_fuse, log_fuse, bump_fuse, cause_fuse]
@[simp] theorem fault_cam (s : State) (c u w : Nat) : (s.fault c u w).cam = s.cam := by
  simp only [State.fault, event_cam, log_cam, bump_cam, cause_cam]
@[simp] theorem fault_slots (s : State) (c u w : Nat) : (s.fault c u w).slots = s.slots := by
  simp only [State.fault, event_slots, log_slots, bump_slots, cause_slots]
@[simp] theorem fault_pset (s : State) (c u w : Nat) : (s.fault c u w).pset = s.pset := by
  simp only [State.fault, event_pset, log_pset, bump_pset, cause_pset]
@[simp] theorem fault_live (s : State) (c u w : Nat) : (s.fault c u w).live = s.live := by
  simp only [State.fault, event_live, log_live, bump_live, cause_live]
@[simp] theorem fault_strms (s : State) (c u w : Nat) : (s.fault c u w).strms = s.strms := by
  simp only [State.fault, event_strms, log_strms, bump_strms, cause_strms]
@[simp] theorem fault_engines (s : State) (c u w : Nat) : (s.fault c u w).engines = s.engines := by
  simp only [State.fault, event_engines, log_engines, bump_engines, cause_engines]
@[simp] theorem fault_tiles (s : State) (c u w : Nat) : (s.fault c u w).tiles = s.tiles := by
  simp only [State.fault, event_tiles, log_tiles, bump_tiles, cause_tiles]
@[simp] theorem fault_sched (s : State) (c u w : Nat) : (s.fault c u w).sched = s.sched := by
  simp only [State.fault, event_sched, log_sched, bump_sched, cause_sched]
@[simp] theorem fault_admits (s : State) (c u w : Nat) : (s.fault c u w).admits = s.admits := by
  simp only [State.fault, event_admits, log_admits, bump_admits, cause_admits]
@[simp] theorem fault_jobs (s : State) (c u w : Nat) : (s.fault c u w).jobs = s.jobs := by
  simp only [State.fault, event_jobs, log_jobs, bump_jobs, cause_jobs]
@[simp] theorem fault_images (s : State) (c u w : Nat) : (s.fault c u w).images = s.images := by
  simp only [State.fault, event_images, log_images, bump_images, cause_images]
@[simp] theorem fault_load (s : State) (c u w : Nat) : (s.fault c u w).load = s.load := by
  simp only [State.fault, event_load, log_load, bump_load, cause_load]
@[simp] theorem fault_mem (s : State) (c u w : Nat) : (s.fault c u w).mem = s.mem := by
  simp only [State.fault, event_mem, log_mem, bump_mem, cause_mem]
@[simp] theorem fault_dram (s : State) (c u w : Nat) : (s.fault c u w).dram = s.dram := by
  simp only [State.fault, event_dram, log_dram, bump_dram, cause_dram]
@[simp] theorem fault_cal (s : State) (c u w : Nat) : (s.fault c u w).cal = s.cal := by
  simp only [State.fault, event_cal, log_cal, bump_cal, cause_cal]
@[simp] theorem fault_queues (s : State) (c u w : Nat) : (s.fault c u w).queues = s.queues := by
  simp only [State.fault, event_queues, log_queues, bump_queues, cause_queues]
@[simp] theorem fault_channels (s : State) (c u w : Nat) : (s.fault c u w).channels = s.channels := by
  simp only [State.fault, event_channels, log_channels, bump_channels, cause_channels]
@[simp] theorem fault_sec (s : State) (c u w : Nat) : (s.fault c u w).sec = s.sec := by
  simp only [State.fault, event_sec, log_sec, bump_sec, cause_sec]
@[simp] theorem fault_net_ports (s : State) (c u w : Nat) : (s.fault c u w).net.ports = s.net.ports := by
  simp only [State.fault, event_net_ports, log_net_ports, bump_net, cause_net]
@[simp] theorem fault_net_sessions (s : State) (c u w : Nat) : (s.fault c u w).net.sessions = s.net.sessions := by
  simp only [State.fault, event_net_sessions, log_net_sessions, bump_net, cause_net]
@[simp] theorem fault_net_exchanges (s : State) (c u w : Nat) : (s.fault c u w).net.exchanges = s.net.exchanges := by
  simp only [State.fault, event_net_exchanges, log_net_exchanges, bump_net, cause_net]
@[simp] theorem fault_net_avtp (s : State) (c u w : Nat) : (s.fault c u w).net.avtp = s.net.avtp := by
  simp only [State.fault, event_net_avtp, log_net_avtp, bump_net, cause_net]
@[simp] theorem fault_net_reserved (s : State) (c u w : Nat) : (s.fault c u w).net.reserved = s.net.reserved := by
  simp only [State.fault, event_net_reserved, log_net_reserved, bump_net, cause_net]
@[simp] theorem fault_net_video (s : State) (c u w : Nat) : (s.fault c u w).net.video = s.net.video := by
  simp only [State.fault, event_net_video, log_net_video, bump_net, cause_net]
@[simp] theorem fault_net_locked (s : State) (c u w : Nat) : (s.fault c u w).net.locked = s.net.locked := by
  simp only [State.fault, event_net_locked, log_net_locked, bump_net, cause_net]
@[simp] theorem fault_net_grandmaster (s : State) (c u w : Nat) : (s.fault c u w).net.grandmaster = s.net.grandmaster := by
  simp only [State.fault, event_net_grandmaster, log_net_grandmaster, bump_net, cause_net]
@[simp] theorem fault_net_groups (s : State) (c u w : Nat) : (s.fault c u w).net.groups = s.net.groups := by
  simp only [State.fault, event_net_groups, log_net_groups, bump_net, cause_net]

/-! `setBytes`. -/

/-- `setBytes` changes only mem. -/
theorem setBytes_eq (s : State) (a : Nat) (l : List Byte) : s.setBytes a l =
    State.mk s.pending s.free s.out s.clk s.pins s.regs s.holds s.pwr s.sup s.fuse s.cam s.slots s.pset s.live s.strms s.engines s.tiles s.sched s.admits s.jobs s.images s.load (s.setBytes a l).mem s.dram s.cal s.queues s.channels s.net s.sec s.flt := by
  induction l generalizing s a with
  | nil => rfl
  | cons b l ih => rw [State.setBytes, ih]; rfl

@[simp] theorem setBytes_pending (s : State) (a : Nat) (l : List Byte) : (s.setBytes a l).pending = s.pending := (congrArg State.pending (setBytes_eq s a l) : _)
@[simp] theorem setBytes_free (s : State) (a : Nat) (l : List Byte) : (s.setBytes a l).free = s.free := (congrArg State.free (setBytes_eq s a l) : _)
@[simp] theorem setBytes_out (s : State) (a : Nat) (l : List Byte) : (s.setBytes a l).out = s.out := (congrArg State.out (setBytes_eq s a l) : _)
@[simp] theorem setBytes_clk (s : State) (a : Nat) (l : List Byte) : (s.setBytes a l).clk = s.clk := (congrArg State.clk (setBytes_eq s a l) : _)
@[simp] theorem setBytes_pins (s : State) (a : Nat) (l : List Byte) : (s.setBytes a l).pins = s.pins := (congrArg State.pins (setBytes_eq s a l) : _)
@[simp] theorem setBytes_regs (s : State) (a : Nat) (l : List Byte) : (s.setBytes a l).regs = s.regs := (congrArg State.regs (setBytes_eq s a l) : _)
@[simp] theorem setBytes_holds (s : State) (a : Nat) (l : List Byte) : (s.setBytes a l).holds = s.holds := (congrArg State.holds (setBytes_eq s a l) : _)
@[simp] theorem setBytes_pwr (s : State) (a : Nat) (l : List Byte) : (s.setBytes a l).pwr = s.pwr := (congrArg State.pwr (setBytes_eq s a l) : _)
@[simp] theorem setBytes_sup (s : State) (a : Nat) (l : List Byte) : (s.setBytes a l).sup = s.sup := (congrArg State.sup (setBytes_eq s a l) : _)
@[simp] theorem setBytes_fuse (s : State) (a : Nat) (l : List Byte) : (s.setBytes a l).fuse = s.fuse := (congrArg State.fuse (setBytes_eq s a l) : _)
@[simp] theorem setBytes_cam (s : State) (a : Nat) (l : List Byte) : (s.setBytes a l).cam = s.cam := (congrArg State.cam (setBytes_eq s a l) : _)
@[simp] theorem setBytes_slots (s : State) (a : Nat) (l : List Byte) : (s.setBytes a l).slots = s.slots := (congrArg State.slots (setBytes_eq s a l) : _)
@[simp] theorem setBytes_pset (s : State) (a : Nat) (l : List Byte) : (s.setBytes a l).pset = s.pset := (congrArg State.pset (setBytes_eq s a l) : _)
@[simp] theorem setBytes_live (s : State) (a : Nat) (l : List Byte) : (s.setBytes a l).live = s.live := (congrArg State.live (setBytes_eq s a l) : _)
@[simp] theorem setBytes_strms (s : State) (a : Nat) (l : List Byte) : (s.setBytes a l).strms = s.strms := (congrArg State.strms (setBytes_eq s a l) : _)
@[simp] theorem setBytes_engines (s : State) (a : Nat) (l : List Byte) : (s.setBytes a l).engines = s.engines := (congrArg State.engines (setBytes_eq s a l) : _)
@[simp] theorem setBytes_tiles (s : State) (a : Nat) (l : List Byte) : (s.setBytes a l).tiles = s.tiles := (congrArg State.tiles (setBytes_eq s a l) : _)
@[simp] theorem setBytes_sched (s : State) (a : Nat) (l : List Byte) : (s.setBytes a l).sched = s.sched := (congrArg State.sched (setBytes_eq s a l) : _)
@[simp] theorem setBytes_admits (s : State) (a : Nat) (l : List Byte) : (s.setBytes a l).admits = s.admits := (congrArg State.admits (setBytes_eq s a l) : _)
@[simp] theorem setBytes_jobs (s : State) (a : Nat) (l : List Byte) : (s.setBytes a l).jobs = s.jobs := (congrArg State.jobs (setBytes_eq s a l) : _)
@[simp] theorem setBytes_images (s : State) (a : Nat) (l : List Byte) : (s.setBytes a l).images = s.images := (congrArg State.images (setBytes_eq s a l) : _)
@[simp] theorem setBytes_load (s : State) (a : Nat) (l : List Byte) : (s.setBytes a l).load = s.load := (congrArg State.load (setBytes_eq s a l) : _)
@[simp] theorem setBytes_dram (s : State) (a : Nat) (l : List Byte) : (s.setBytes a l).dram = s.dram := (congrArg State.dram (setBytes_eq s a l) : _)
@[simp] theorem setBytes_cal (s : State) (a : Nat) (l : List Byte) : (s.setBytes a l).cal = s.cal := (congrArg State.cal (setBytes_eq s a l) : _)
@[simp] theorem setBytes_queues (s : State) (a : Nat) (l : List Byte) : (s.setBytes a l).queues = s.queues := (congrArg State.queues (setBytes_eq s a l) : _)
@[simp] theorem setBytes_channels (s : State) (a : Nat) (l : List Byte) : (s.setBytes a l).channels = s.channels := (congrArg State.channels (setBytes_eq s a l) : _)
@[simp] theorem setBytes_net (s : State) (a : Nat) (l : List Byte) : (s.setBytes a l).net = s.net := (congrArg State.net (setBytes_eq s a l) : _)
@[simp] theorem setBytes_sec (s : State) (a : Nat) (l : List Byte) : (s.setBytes a l).sec = s.sec := (congrArg State.sec (setBytes_eq s a l) : _)
@[simp] theorem setBytes_flt (s : State) (a : Nat) (l : List Byte) : (s.setBytes a l).flt = s.flt := (congrArg State.flt (setBytes_eq s a l) : _)

/-! `tileWrite`. -/

/-- `tileWrite` changes only mem and tiles. -/
theorem tileWrite_eq (s : State) (t a : Nat) (l : List Byte) : s.tileWrite t a l =
    State.mk s.pending s.free s.out s.clk s.pins s.regs s.holds s.pwr s.sup s.fuse s.cam s.slots s.pset s.live s.strms s.engines (s.tileWrite t a l).tiles s.sched s.admits s.jobs s.images s.load (s.tileWrite t a l).mem s.dram s.cal s.queues s.channels s.net s.sec s.flt := by
  unfold State.tileWrite; dsimp only; rw [setBytes_eq]; rfl

@[simp] theorem tileWrite_pending (s : State) (t a : Nat) (l : List Byte) : (s.tileWrite t a l).pending = s.pending := (congrArg State.pending (tileWrite_eq s t a l) : _)
@[simp] theorem tileWrite_free (s : State) (t a : Nat) (l : List Byte) : (s.tileWrite t a l).free = s.free := (congrArg State.free (tileWrite_eq s t a l) : _)
@[simp] theorem tileWrite_out (s : State) (t a : Nat) (l : List Byte) : (s.tileWrite t a l).out = s.out := (congrArg State.out (tileWrite_eq s t a l) : _)
@[simp] theorem tileWrite_clk (s : State) (t a : Nat) (l : List Byte) : (s.tileWrite t a l).clk = s.clk := (congrArg State.clk (tileWrite_eq s t a l) : _)
@[simp] theorem tileWrite_pins (s : State) (t a : Nat) (l : List Byte) : (s.tileWrite t a l).pins = s.pins := (congrArg State.pins (tileWrite_eq s t a l) : _)
@[simp] theorem tileWrite_regs (s : State) (t a : Nat) (l : List Byte) : (s.tileWrite t a l).regs = s.regs := (congrArg State.regs (tileWrite_eq s t a l) : _)
@[simp] theorem tileWrite_holds (s : State) (t a : Nat) (l : List Byte) : (s.tileWrite t a l).holds = s.holds := (congrArg State.holds (tileWrite_eq s t a l) : _)
@[simp] theorem tileWrite_pwr (s : State) (t a : Nat) (l : List Byte) : (s.tileWrite t a l).pwr = s.pwr := (congrArg State.pwr (tileWrite_eq s t a l) : _)
@[simp] theorem tileWrite_sup (s : State) (t a : Nat) (l : List Byte) : (s.tileWrite t a l).sup = s.sup := (congrArg State.sup (tileWrite_eq s t a l) : _)
@[simp] theorem tileWrite_fuse (s : State) (t a : Nat) (l : List Byte) : (s.tileWrite t a l).fuse = s.fuse := (congrArg State.fuse (tileWrite_eq s t a l) : _)
@[simp] theorem tileWrite_cam (s : State) (t a : Nat) (l : List Byte) : (s.tileWrite t a l).cam = s.cam := (congrArg State.cam (tileWrite_eq s t a l) : _)
@[simp] theorem tileWrite_slots (s : State) (t a : Nat) (l : List Byte) : (s.tileWrite t a l).slots = s.slots := (congrArg State.slots (tileWrite_eq s t a l) : _)
@[simp] theorem tileWrite_pset (s : State) (t a : Nat) (l : List Byte) : (s.tileWrite t a l).pset = s.pset := (congrArg State.pset (tileWrite_eq s t a l) : _)
@[simp] theorem tileWrite_live (s : State) (t a : Nat) (l : List Byte) : (s.tileWrite t a l).live = s.live := (congrArg State.live (tileWrite_eq s t a l) : _)
@[simp] theorem tileWrite_strms (s : State) (t a : Nat) (l : List Byte) : (s.tileWrite t a l).strms = s.strms := (congrArg State.strms (tileWrite_eq s t a l) : _)
@[simp] theorem tileWrite_engines (s : State) (t a : Nat) (l : List Byte) : (s.tileWrite t a l).engines = s.engines := (congrArg State.engines (tileWrite_eq s t a l) : _)
@[simp] theorem tileWrite_sched (s : State) (t a : Nat) (l : List Byte) : (s.tileWrite t a l).sched = s.sched := (congrArg State.sched (tileWrite_eq s t a l) : _)
@[simp] theorem tileWrite_admits (s : State) (t a : Nat) (l : List Byte) : (s.tileWrite t a l).admits = s.admits := (congrArg State.admits (tileWrite_eq s t a l) : _)
@[simp] theorem tileWrite_jobs (s : State) (t a : Nat) (l : List Byte) : (s.tileWrite t a l).jobs = s.jobs := (congrArg State.jobs (tileWrite_eq s t a l) : _)
@[simp] theorem tileWrite_images (s : State) (t a : Nat) (l : List Byte) : (s.tileWrite t a l).images = s.images := (congrArg State.images (tileWrite_eq s t a l) : _)
@[simp] theorem tileWrite_load (s : State) (t a : Nat) (l : List Byte) : (s.tileWrite t a l).load = s.load := (congrArg State.load (tileWrite_eq s t a l) : _)
@[simp] theorem tileWrite_dram (s : State) (t a : Nat) (l : List Byte) : (s.tileWrite t a l).dram = s.dram := (congrArg State.dram (tileWrite_eq s t a l) : _)
@[simp] theorem tileWrite_cal (s : State) (t a : Nat) (l : List Byte) : (s.tileWrite t a l).cal = s.cal := (congrArg State.cal (tileWrite_eq s t a l) : _)
@[simp] theorem tileWrite_queues (s : State) (t a : Nat) (l : List Byte) : (s.tileWrite t a l).queues = s.queues := (congrArg State.queues (tileWrite_eq s t a l) : _)
@[simp] theorem tileWrite_channels (s : State) (t a : Nat) (l : List Byte) : (s.tileWrite t a l).channels = s.channels := (congrArg State.channels (tileWrite_eq s t a l) : _)
@[simp] theorem tileWrite_net (s : State) (t a : Nat) (l : List Byte) : (s.tileWrite t a l).net = s.net := (congrArg State.net (tileWrite_eq s t a l) : _)
@[simp] theorem tileWrite_sec (s : State) (t a : Nat) (l : List Byte) : (s.tileWrite t a l).sec = s.sec := (congrArg State.sec (tileWrite_eq s t a l) : _)
@[simp] theorem tileWrite_flt (s : State) (t a : Nat) (l : List Byte) : (s.tileWrite t a l).flt = s.flt := (congrArg State.flt (tileWrite_eq s t a l) : _)

/-! `addSlip`. -/

@[simp] theorem addSlip_pending (s : State) (e n : Nat) : (s.addSlip e n).pending = s.pending := by
  simp only [State.addSlip, maxRfld_pending, setEng_pending]
@[simp] theorem addSlip_free (s : State) (e n : Nat) : (s.addSlip e n).free = s.free := by
  simp only [State.addSlip, maxRfld_free, setEng_free]
@[simp] theorem addSlip_out (s : State) (e n : Nat) : (s.addSlip e n).out = s.out := by
  simp only [State.addSlip, maxRfld_out, setEng_out]
@[simp] theorem addSlip_clk (s : State) (e n : Nat) : (s.addSlip e n).clk = s.clk := by
  simp only [State.addSlip, maxRfld_clk, setEng_clk]
@[simp] theorem addSlip_pins (s : State) (e n : Nat) : (s.addSlip e n).pins = s.pins := by
  simp only [State.addSlip, maxRfld_pins, setEng_pins]
@[simp] theorem addSlip_holds (s : State) (e n : Nat) : (s.addSlip e n).holds = s.holds := by
  simp only [State.addSlip, maxRfld_holds, setEng_holds]
@[simp] theorem addSlip_pwr (s : State) (e n : Nat) : (s.addSlip e n).pwr = s.pwr := by
  simp only [State.addSlip, maxRfld_pwr, setEng_pwr]
@[simp] theorem addSlip_sup (s : State) (e n : Nat) : (s.addSlip e n).sup = s.sup := by
  simp only [State.addSlip, maxRfld_sup, setEng_sup]
@[simp] theorem addSlip_fuse (s : State) (e n : Nat) : (s.addSlip e n).fuse = s.fuse := by
  simp only [State.addSlip, maxRfld_fuse, setEng_fuse]
@[simp] theorem addSlip_cam (s : State) (e n : Nat) : (s.addSlip e n).cam = s.cam := by
  simp only [State.addSlip, maxRfld_cam, setEng_cam]
@[simp] theorem addSlip_slots (s : State) (e n : Nat) : (s.addSlip e n).slots = s.slots := by
  simp only [State.addSlip, maxRfld_slots, setEng_slots]
@[simp] theorem addSlip_pset (s : State) (e n : Nat) : (s.addSlip e n).pset = s.pset := by
  simp only [State.addSlip, maxRfld_pset, setEng_pset]
@[simp] theorem addSlip_live (s : State) (e n : Nat) : (s.addSlip e n).live = s.live := by
  simp only [State.addSlip, maxRfld_live, setEng_live]
@[simp] theorem addSlip_strms (s : State) (e n : Nat) : (s.addSlip e n).strms = s.strms := by
  simp only [State.addSlip, maxRfld_strms, setEng_strms]
@[simp] theorem addSlip_tiles (s : State) (e n : Nat) : (s.addSlip e n).tiles = s.tiles := by
  simp only [State.addSlip, maxRfld_tiles, setEng_tiles]
@[simp] theorem addSlip_sched (s : State) (e n : Nat) : (s.addSlip e n).sched = s.sched := by
  simp only [State.addSlip, maxRfld_sched, setEng_sched]
@[simp] theorem addSlip_admits (s : State) (e n : Nat) : (s.addSlip e n).admits = s.admits := by
  simp only [State.addSlip, maxRfld_admits, setEng_admits]
@[simp] theorem addSlip_jobs (s : State) (e n : Nat) : (s.addSlip e n).jobs = s.jobs := by
  simp only [State.addSlip, maxRfld_jobs, setEng_jobs]
@[simp] theorem addSlip_images (s : State) (e n : Nat) : (s.addSlip e n).images = s.images := by
  simp only [State.addSlip, maxRfld_images, setEng_images]
@[simp] theorem addSlip_load (s : State) (e n : Nat) : (s.addSlip e n).load = s.load := by
  simp only [State.addSlip, maxRfld_load, setEng_load]
@[simp] theorem addSlip_mem (s : State) (e n : Nat) : (s.addSlip e n).mem = s.mem := by
  simp only [State.addSlip, maxRfld_mem, setEng_mem]
@[simp] theorem addSlip_dram (s : State) (e n : Nat) : (s.addSlip e n).dram = s.dram := by
  simp only [State.addSlip, maxRfld_dram, setEng_dram]
@[simp] theorem addSlip_cal (s : State) (e n : Nat) : (s.addSlip e n).cal = s.cal := by
  simp only [State.addSlip, maxRfld_cal, setEng_cal]
@[simp] theorem addSlip_queues (s : State) (e n : Nat) : (s.addSlip e n).queues = s.queues := by
  simp only [State.addSlip, maxRfld_queues, setEng_queues]
@[simp] theorem addSlip_channels (s : State) (e n : Nat) : (s.addSlip e n).channels = s.channels := by
  simp only [State.addSlip, maxRfld_channels, setEng_channels]
@[simp] theorem addSlip_net (s : State) (e n : Nat) : (s.addSlip e n).net = s.net := by
  simp only [State.addSlip, maxRfld_net, setEng_net]
@[simp] theorem addSlip_sec (s : State) (e n : Nat) : (s.addSlip e n).sec = s.sec := by
  simp only [State.addSlip, maxRfld_sec, setEng_sec]
@[simp] theorem addSlip_flt (s : State) (e n : Nat) : (s.addSlip e n).flt = s.flt := by
  simp only [State.addSlip, maxRfld_flt, setEng_flt]

/-! What the log leaves of the fault manager's state. -/

@[simp] theorem log_flt_deviceFault (s : State) (k c : Nat) (l : List Byte) : (s.log k c l).flt.deviceFault = s.flt.deviceFault := by
  unfold State.log; dsimp only; split
  · split
    · rfl
    · rw [event_eq]
  · rfl
@[simp] theorem log_flt_replaced (s : State) (k c : Nat) (l : List Byte) : (s.log k c l).flt.replaced = s.flt.replaced := by
  unfold State.log; dsimp only; split
  · split
    · rfl
    · rw [event_eq]
  · rfl
@[simp] theorem log_flt_lastReset (s : State) (k c : Nat) (l : List Byte) : (s.log k c l).flt.lastReset = s.flt.lastReset := by
  unfold State.log; dsimp only; split
  · split
    · rfl
    · rw [event_eq]
  · rfl
@[simp] theorem log_flt_warmCount (s : State) (k c : Nat) (l : List Byte) : (s.log k c l).flt.warmCount = s.flt.warmCount := by
  unfold State.log; dsimp only; split
  · split
    · rfl
    · rw [event_eq]
  · rfl
@[simp] theorem log_flt_due (s : State) (k c : Nat) (l : List Byte) : (s.log k c l).flt.due = s.flt.due := by
  unfold State.log; dsimp only; split
  · split
    · rfl
    · rw [event_eq]
  · rfl
@[simp] theorem fault_flt_deviceFault (s : State) (c u w : Nat) : (s.fault c u w).flt.deviceFault = s.flt.deviceFault := by
  simp only [State.fault, event_flt, log_flt_deviceFault, bump_flt, cause_flt]
@[simp] theorem fault_flt_replaced (s : State) (c u w : Nat) : (s.fault c u w).flt.replaced = s.flt.replaced := by
  simp only [State.fault, event_flt, log_flt_replaced, bump_flt, cause_flt]
@[simp] theorem fault_flt_lastReset (s : State) (c u w : Nat) : (s.fault c u w).flt.lastReset = s.flt.lastReset := by
  simp only [State.fault, event_flt, log_flt_lastReset, bump_flt, cause_flt]
@[simp] theorem fault_flt_warmCount (s : State) (c u w : Nat) : (s.fault c u w).flt.warmCount = s.flt.warmCount := by
  simp only [State.fault, event_flt, log_flt_warmCount, bump_flt, cause_flt]
@[simp] theorem fault_flt_due (s : State) (c u w : Nat) : (s.fault c u w).flt.due = s.flt.due := by
  simp only [State.fault, event_flt, log_flt_due, bump_flt, cause_flt]

/-! Reading a numbered object after an update. -/

@[simp] theorem setSlot_slot (s : State) (i j : Nat) (v : Slot) : (s.setSlot i v).slot j = if j = i then v else s.slot j :=
  sget_sset ..
@[simp] theorem setPort_port (s : State) (i j : Nat) (v : CamPort) : (s.setPort i v).port j = if j = i then v else s.port j :=
  sget_sset ..
@[simp] theorem setStrm_strm (s : State) (i j : Nat) (v : Strm) : (s.setStrm i v).strm j = if j = i then v else s.strm j :=
  sget_sset ..
@[simp] theorem setEng_eng (s : State) (i j : Nat) (v : Engine) : (s.setEng i v).eng j = if j = i then v else s.eng j :=
  sget_sset ..
@[simp] theorem setTile_tile (s : State) (i j : Nat) (v : Tile) : (s.setTile i v).tile j = if j = i then v else s.tile j :=
  sget_sset ..
@[simp] theorem setJob_job (s : State) (i j : Nat) (v : Option Job) : (s.setJob i v).job j = if j = i then v else s.job j :=
  sget_sset ..
@[simp] theorem setQueue_queue (s : State) (i j : Nat) (v : Queue) : (s.setQueue i v).queue j = if j = i then v else s.queue j :=
  sget_sset ..
@[simp] theorem setChan_chan (s : State) (i j : Nat) (v : Channel) : (s.setChan i v).chan j = if j = i then v else s.chan j :=
  sget_sset ..
@[simp] theorem setSess_sess (s : State) (i j : Nat) (v : Session) : (s.setSess i v).sess j = if j = i then v else s.sess j :=
  sget_sset ..
@[simp] theorem setEth_eth (s : State) (i j : Nat) (v : EthPort) : (s.setEth i v).eth j = if j = i then v else s.eth j :=
  sget_sset ..
@[simp] theorem setGroup_group (s : State) (i j : Nat) (v : Option PeerGroup) : (s.setGroup i v).group j = if j = i then v else s.group j :=
  sget_sset ..

@[simp] theorem setPort_slot (s : State) (i : Nat) (v : CamPort) (j : Nat) : (s.setPort i v).slot j = s.slot j := rfl
@[simp] theorem setStrm_slot (s : State) (i : Nat) (v : Strm) (j : Nat) : (s.setStrm i v).slot j = s.slot j := rfl
@[simp] theorem setEng_slot (s : State) (i : Nat) (v : Engine) (j : Nat) : (s.setEng i v).slot j = s.slot j := rfl
@[simp] theorem setTile_slot (s : State) (i : Nat) (v : Tile) (j : Nat) : (s.setTile i v).slot j = s.slot j := rfl
@[simp] theorem setJob_slot (s : State) (i : Nat) (v : Option Job) (j : Nat) : (s.setJob i v).slot j = s.slot j := rfl
@[simp] theorem setQueue_slot (s : State) (i : Nat) (v : Queue) (j : Nat) : (s.setQueue i v).slot j = s.slot j := rfl
@[simp] theorem setChan_slot (s : State) (i : Nat) (v : Channel) (j : Nat) : (s.setChan i v).slot j = s.slot j := rfl
@[simp] theorem drawn_slot (s : State) (j : Nat) : (s.drawn).slot j = s.slot j := rfl
@[simp] theorem emit_slot (s : State) (x : Wire) (j : Nat) : (s.emit x).slot j = s.slot j := rfl
@[simp] theorem setReg_slot (s : State) (p o : Nat) (x : Word) (j : Nat) : (s.setReg p o x).slot j = s.slot j := rfl
@[simp] theorem setRfld_slot (s : State) (p o lo n v : Nat) (j : Nat) : (s.setRfld p o lo n v).slot j = s.slot j := congrArg (fun x => sget (fun _ => Slot.init) x j) (setRfld_slots s p o lo n v)
@[simp] theorem bump_slot (s : State) (p o lo n v : Nat) (j : Nat) : (s.bump p o lo n v).slot j = s.slot j := congrArg (fun x => sget (fun _ => Slot.init) x j) (bump_slots s p o lo n v)
@[simp] theorem bumpWrap_slot (s : State) (p o : Nat) (j : Nat) : (s.bumpWrap p o).slot j = s.slot j := congrArg (fun x => sget (fun _ => Slot.init) x j) (bumpWrap_slots s p o)
@[simp] theorem maxRfld_slot (s : State) (p o lo n v : Nat) (j : Nat) : (s.maxRfld p o lo n v).slot j = s.slot j := congrArg (fun x => sget (fun _ => Slot.init) x j) (maxRfld_slots s p o lo n v)
@[simp] theorem cause_slot (s : State) (p c a : Nat) (j : Nat) : (s.cause p c a).slot j = s.slot j := congrArg (fun x => sget (fun _ => Slot.init) x j) (cause_slots s p c a)
@[simp] theorem setByte_slot (s : State) (a : Nat) (b : Byte) (j : Nat) : (s.setByte a b).slot j = s.slot j := rfl
@[simp] theorem record_slot (s : State) (r : EventRec) (j : Nat) : (s.record r).slot j = s.slot j := congrArg (fun x => sget (fun _ => Slot.init) x j) (record_slots s r)
@[simp] theorem blockRecord_slot (s : State) (p b : Nat) (j : Nat) : (s.blockRecord p b).slot j = s.slot j := congrArg (fun x => sget (fun _ => Slot.init) x j) (blockRecord_slots s p b)
@[simp] theorem event_slot (s : State) (p b : Nat) (j : Nat) : (s.event p b).slot j = s.slot j := congrArg (fun x => sget (fun _ => Slot.init) x j) (event_slots s p b)
@[simp] theorem fail_slot (s : State) (p b c a : Nat) (j : Nat) : (s.fail p b c a).slot j = s.slot j := congrArg (fun x => sget (fun _ => Slot.init) x j) (fail_slots s p b c a)
@[simp] theorem deviceEvent_slot (s : State) (c x y n : Nat) (j : Nat) : (s.deviceEvent c x y n).slot j = s.slot j := congrArg (fun x => sget (fun _ => Slot.init) x j) (deviceEvent_slots s c x y n)
@[simp] theorem log_slot (s : State) (k c : Nat) (l : List Byte) (j : Nat) : (s.log k c l).slot j = s.slot j := congrArg (fun x => sget (fun _ => Slot.init) x j) (log_slots s k c l)
@[simp] theorem fault_slot (s : State) (c u w : Nat) (j : Nat) : (s.fault c u w).slot j = s.slot j := congrArg (fun x => sget (fun _ => Slot.init) x j) (fault_slots s c u w)
@[simp] theorem setBytes_slot (s : State) (a : Nat) (l : List Byte) (j : Nat) : (s.setBytes a l).slot j = s.slot j := congrArg (fun x => sget (fun _ => Slot.init) x j) (setBytes_slots s a l)
@[simp] theorem tileWrite_slot (s : State) (t a : Nat) (l : List Byte) (j : Nat) : (s.tileWrite t a l).slot j = s.slot j := congrArg (fun x => sget (fun _ => Slot.init) x j) (tileWrite_slots s t a l)
@[simp] theorem addSlip_slot (s : State) (e n : Nat) (j : Nat) : (s.addSlip e n).slot j = s.slot j := congrArg (fun x => sget (fun _ => Slot.init) x j) (addSlip_slots s e n)
@[simp] theorem setSess_slot (s : State) (i : Nat) (v : Session) (j : Nat) : (s.setSess i v).slot j = s.slot j := rfl
@[simp] theorem setEth_slot (s : State) (i : Nat) (v : EthPort) (j : Nat) : (s.setEth i v).slot j = s.slot j := rfl
@[simp] theorem setGroup_slot (s : State) (i : Nat) (v : Option PeerGroup) (j : Nat) : (s.setGroup i v).slot j = s.slot j := rfl

@[simp] theorem setSlot_port (s : State) (i : Nat) (v : Slot) (j : Nat) : (s.setSlot i v).port j = s.port j := rfl
@[simp] theorem setStrm_port (s : State) (i : Nat) (v : Strm) (j : Nat) : (s.setStrm i v).port j = s.port j := rfl
@[simp] theorem setEng_port (s : State) (i : Nat) (v : Engine) (j : Nat) : (s.setEng i v).port j = s.port j := rfl
@[simp] theorem setTile_port (s : State) (i : Nat) (v : Tile) (j : Nat) : (s.setTile i v).port j = s.port j := rfl
@[simp] theorem setJob_port (s : State) (i : Nat) (v : Option Job) (j : Nat) : (s.setJob i v).port j = s.port j := rfl
@[simp] theorem setQueue_port (s : State) (i : Nat) (v : Queue) (j : Nat) : (s.setQueue i v).port j = s.port j := rfl
@[simp] theorem setChan_port (s : State) (i : Nat) (v : Channel) (j : Nat) : (s.setChan i v).port j = s.port j := rfl
@[simp] theorem drawn_port (s : State) (j : Nat) : (s.drawn).port j = s.port j := rfl
@[simp] theorem emit_port (s : State) (x : Wire) (j : Nat) : (s.emit x).port j = s.port j := rfl
@[simp] theorem setReg_port (s : State) (p o : Nat) (x : Word) (j : Nat) : (s.setReg p o x).port j = s.port j := rfl
@[simp] theorem setRfld_port (s : State) (p o lo n v : Nat) (j : Nat) : (s.setRfld p o lo n v).port j = s.port j := congrArg (fun x => sget (fun _ => CamPort.init) x j) (setRfld_cam s p o lo n v)
@[simp] theorem bump_port (s : State) (p o lo n v : Nat) (j : Nat) : (s.bump p o lo n v).port j = s.port j := congrArg (fun x => sget (fun _ => CamPort.init) x j) (bump_cam s p o lo n v)
@[simp] theorem bumpWrap_port (s : State) (p o : Nat) (j : Nat) : (s.bumpWrap p o).port j = s.port j := congrArg (fun x => sget (fun _ => CamPort.init) x j) (bumpWrap_cam s p o)
@[simp] theorem maxRfld_port (s : State) (p o lo n v : Nat) (j : Nat) : (s.maxRfld p o lo n v).port j = s.port j := congrArg (fun x => sget (fun _ => CamPort.init) x j) (maxRfld_cam s p o lo n v)
@[simp] theorem cause_port (s : State) (p c a : Nat) (j : Nat) : (s.cause p c a).port j = s.port j := congrArg (fun x => sget (fun _ => CamPort.init) x j) (cause_cam s p c a)
@[simp] theorem setByte_port (s : State) (a : Nat) (b : Byte) (j : Nat) : (s.setByte a b).port j = s.port j := rfl
@[simp] theorem record_port (s : State) (r : EventRec) (j : Nat) : (s.record r).port j = s.port j := congrArg (fun x => sget (fun _ => CamPort.init) x j) (record_cam s r)
@[simp] theorem blockRecord_port (s : State) (p b : Nat) (j : Nat) : (s.blockRecord p b).port j = s.port j := congrArg (fun x => sget (fun _ => CamPort.init) x j) (blockRecord_cam s p b)
@[simp] theorem event_port (s : State) (p b : Nat) (j : Nat) : (s.event p b).port j = s.port j := congrArg (fun x => sget (fun _ => CamPort.init) x j) (event_cam s p b)
@[simp] theorem fail_port (s : State) (p b c a : Nat) (j : Nat) : (s.fail p b c a).port j = s.port j := congrArg (fun x => sget (fun _ => CamPort.init) x j) (fail_cam s p b c a)
@[simp] theorem deviceEvent_port (s : State) (c x y n : Nat) (j : Nat) : (s.deviceEvent c x y n).port j = s.port j := congrArg (fun x => sget (fun _ => CamPort.init) x j) (deviceEvent_cam s c x y n)
@[simp] theorem log_port (s : State) (k c : Nat) (l : List Byte) (j : Nat) : (s.log k c l).port j = s.port j := congrArg (fun x => sget (fun _ => CamPort.init) x j) (log_cam s k c l)
@[simp] theorem fault_port (s : State) (c u w : Nat) (j : Nat) : (s.fault c u w).port j = s.port j := congrArg (fun x => sget (fun _ => CamPort.init) x j) (fault_cam s c u w)
@[simp] theorem setBytes_port (s : State) (a : Nat) (l : List Byte) (j : Nat) : (s.setBytes a l).port j = s.port j := congrArg (fun x => sget (fun _ => CamPort.init) x j) (setBytes_cam s a l)
@[simp] theorem tileWrite_port (s : State) (t a : Nat) (l : List Byte) (j : Nat) : (s.tileWrite t a l).port j = s.port j := congrArg (fun x => sget (fun _ => CamPort.init) x j) (tileWrite_cam s t a l)
@[simp] theorem addSlip_port (s : State) (e n : Nat) (j : Nat) : (s.addSlip e n).port j = s.port j := congrArg (fun x => sget (fun _ => CamPort.init) x j) (addSlip_cam s e n)
@[simp] theorem setSess_port (s : State) (i : Nat) (v : Session) (j : Nat) : (s.setSess i v).port j = s.port j := rfl
@[simp] theorem setEth_port (s : State) (i : Nat) (v : EthPort) (j : Nat) : (s.setEth i v).port j = s.port j := rfl
@[simp] theorem setGroup_port (s : State) (i : Nat) (v : Option PeerGroup) (j : Nat) : (s.setGroup i v).port j = s.port j := rfl

@[simp] theorem setSlot_strm (s : State) (i : Nat) (v : Slot) (j : Nat) : (s.setSlot i v).strm j = s.strm j := rfl
@[simp] theorem setPort_strm (s : State) (i : Nat) (v : CamPort) (j : Nat) : (s.setPort i v).strm j = s.strm j := rfl
@[simp] theorem setEng_strm (s : State) (i : Nat) (v : Engine) (j : Nat) : (s.setEng i v).strm j = s.strm j := rfl
@[simp] theorem setTile_strm (s : State) (i : Nat) (v : Tile) (j : Nat) : (s.setTile i v).strm j = s.strm j := rfl
@[simp] theorem setJob_strm (s : State) (i : Nat) (v : Option Job) (j : Nat) : (s.setJob i v).strm j = s.strm j := rfl
@[simp] theorem setQueue_strm (s : State) (i : Nat) (v : Queue) (j : Nat) : (s.setQueue i v).strm j = s.strm j := rfl
@[simp] theorem setChan_strm (s : State) (i : Nat) (v : Channel) (j : Nat) : (s.setChan i v).strm j = s.strm j := rfl
@[simp] theorem drawn_strm (s : State) (j : Nat) : (s.drawn).strm j = s.strm j := rfl
@[simp] theorem emit_strm (s : State) (x : Wire) (j : Nat) : (s.emit x).strm j = s.strm j := rfl
@[simp] theorem setReg_strm (s : State) (p o : Nat) (x : Word) (j : Nat) : (s.setReg p o x).strm j = s.strm j := rfl
@[simp] theorem setRfld_strm (s : State) (p o lo n v : Nat) (j : Nat) : (s.setRfld p o lo n v).strm j = s.strm j := congrArg (fun x => sget (fun _ => Strm.init) x j) (setRfld_strms s p o lo n v)
@[simp] theorem bump_strm (s : State) (p o lo n v : Nat) (j : Nat) : (s.bump p o lo n v).strm j = s.strm j := congrArg (fun x => sget (fun _ => Strm.init) x j) (bump_strms s p o lo n v)
@[simp] theorem bumpWrap_strm (s : State) (p o : Nat) (j : Nat) : (s.bumpWrap p o).strm j = s.strm j := congrArg (fun x => sget (fun _ => Strm.init) x j) (bumpWrap_strms s p o)
@[simp] theorem maxRfld_strm (s : State) (p o lo n v : Nat) (j : Nat) : (s.maxRfld p o lo n v).strm j = s.strm j := congrArg (fun x => sget (fun _ => Strm.init) x j) (maxRfld_strms s p o lo n v)
@[simp] theorem cause_strm (s : State) (p c a : Nat) (j : Nat) : (s.cause p c a).strm j = s.strm j := congrArg (fun x => sget (fun _ => Strm.init) x j) (cause_strms s p c a)
@[simp] theorem setByte_strm (s : State) (a : Nat) (b : Byte) (j : Nat) : (s.setByte a b).strm j = s.strm j := rfl
@[simp] theorem record_strm (s : State) (r : EventRec) (j : Nat) : (s.record r).strm j = s.strm j := congrArg (fun x => sget (fun _ => Strm.init) x j) (record_strms s r)
@[simp] theorem blockRecord_strm (s : State) (p b : Nat) (j : Nat) : (s.blockRecord p b).strm j = s.strm j := congrArg (fun x => sget (fun _ => Strm.init) x j) (blockRecord_strms s p b)
@[simp] theorem event_strm (s : State) (p b : Nat) (j : Nat) : (s.event p b).strm j = s.strm j := congrArg (fun x => sget (fun _ => Strm.init) x j) (event_strms s p b)
@[simp] theorem fail_strm (s : State) (p b c a : Nat) (j : Nat) : (s.fail p b c a).strm j = s.strm j := congrArg (fun x => sget (fun _ => Strm.init) x j) (fail_strms s p b c a)
@[simp] theorem deviceEvent_strm (s : State) (c x y n : Nat) (j : Nat) : (s.deviceEvent c x y n).strm j = s.strm j := congrArg (fun x => sget (fun _ => Strm.init) x j) (deviceEvent_strms s c x y n)
@[simp] theorem log_strm (s : State) (k c : Nat) (l : List Byte) (j : Nat) : (s.log k c l).strm j = s.strm j := congrArg (fun x => sget (fun _ => Strm.init) x j) (log_strms s k c l)
@[simp] theorem fault_strm (s : State) (c u w : Nat) (j : Nat) : (s.fault c u w).strm j = s.strm j := congrArg (fun x => sget (fun _ => Strm.init) x j) (fault_strms s c u w)
@[simp] theorem setBytes_strm (s : State) (a : Nat) (l : List Byte) (j : Nat) : (s.setBytes a l).strm j = s.strm j := congrArg (fun x => sget (fun _ => Strm.init) x j) (setBytes_strms s a l)
@[simp] theorem tileWrite_strm (s : State) (t a : Nat) (l : List Byte) (j : Nat) : (s.tileWrite t a l).strm j = s.strm j := congrArg (fun x => sget (fun _ => Strm.init) x j) (tileWrite_strms s t a l)
@[simp] theorem addSlip_strm (s : State) (e n : Nat) (j : Nat) : (s.addSlip e n).strm j = s.strm j := congrArg (fun x => sget (fun _ => Strm.init) x j) (addSlip_strms s e n)
@[simp] theorem setSess_strm (s : State) (i : Nat) (v : Session) (j : Nat) : (s.setSess i v).strm j = s.strm j := rfl
@[simp] theorem setEth_strm (s : State) (i : Nat) (v : EthPort) (j : Nat) : (s.setEth i v).strm j = s.strm j := rfl
@[simp] theorem setGroup_strm (s : State) (i : Nat) (v : Option PeerGroup) (j : Nat) : (s.setGroup i v).strm j = s.strm j := rfl

@[simp] theorem setSlot_eng (s : State) (i : Nat) (v : Slot) (j : Nat) : (s.setSlot i v).eng j = s.eng j := rfl
@[simp] theorem setPort_eng (s : State) (i : Nat) (v : CamPort) (j : Nat) : (s.setPort i v).eng j = s.eng j := rfl
@[simp] theorem setStrm_eng (s : State) (i : Nat) (v : Strm) (j : Nat) : (s.setStrm i v).eng j = s.eng j := rfl
@[simp] theorem setTile_eng (s : State) (i : Nat) (v : Tile) (j : Nat) : (s.setTile i v).eng j = s.eng j := rfl
@[simp] theorem setJob_eng (s : State) (i : Nat) (v : Option Job) (j : Nat) : (s.setJob i v).eng j = s.eng j := rfl
@[simp] theorem setQueue_eng (s : State) (i : Nat) (v : Queue) (j : Nat) : (s.setQueue i v).eng j = s.eng j := rfl
@[simp] theorem setChan_eng (s : State) (i : Nat) (v : Channel) (j : Nat) : (s.setChan i v).eng j = s.eng j := rfl
@[simp] theorem drawn_eng (s : State) (j : Nat) : (s.drawn).eng j = s.eng j := rfl
@[simp] theorem emit_eng (s : State) (x : Wire) (j : Nat) : (s.emit x).eng j = s.eng j := rfl
@[simp] theorem setReg_eng (s : State) (p o : Nat) (x : Word) (j : Nat) : (s.setReg p o x).eng j = s.eng j := rfl
@[simp] theorem setRfld_eng (s : State) (p o lo n v : Nat) (j : Nat) : (s.setRfld p o lo n v).eng j = s.eng j := congrArg (fun x => sget (fun _ => Engine.init) x j) (setRfld_engines s p o lo n v)
@[simp] theorem bump_eng (s : State) (p o lo n v : Nat) (j : Nat) : (s.bump p o lo n v).eng j = s.eng j := congrArg (fun x => sget (fun _ => Engine.init) x j) (bump_engines s p o lo n v)
@[simp] theorem bumpWrap_eng (s : State) (p o : Nat) (j : Nat) : (s.bumpWrap p o).eng j = s.eng j := congrArg (fun x => sget (fun _ => Engine.init) x j) (bumpWrap_engines s p o)
@[simp] theorem maxRfld_eng (s : State) (p o lo n v : Nat) (j : Nat) : (s.maxRfld p o lo n v).eng j = s.eng j := congrArg (fun x => sget (fun _ => Engine.init) x j) (maxRfld_engines s p o lo n v)
@[simp] theorem cause_eng (s : State) (p c a : Nat) (j : Nat) : (s.cause p c a).eng j = s.eng j := congrArg (fun x => sget (fun _ => Engine.init) x j) (cause_engines s p c a)
@[simp] theorem setByte_eng (s : State) (a : Nat) (b : Byte) (j : Nat) : (s.setByte a b).eng j = s.eng j := rfl
@[simp] theorem record_eng (s : State) (r : EventRec) (j : Nat) : (s.record r).eng j = s.eng j := congrArg (fun x => sget (fun _ => Engine.init) x j) (record_engines s r)
@[simp] theorem blockRecord_eng (s : State) (p b : Nat) (j : Nat) : (s.blockRecord p b).eng j = s.eng j := congrArg (fun x => sget (fun _ => Engine.init) x j) (blockRecord_engines s p b)
@[simp] theorem event_eng (s : State) (p b : Nat) (j : Nat) : (s.event p b).eng j = s.eng j := congrArg (fun x => sget (fun _ => Engine.init) x j) (event_engines s p b)
@[simp] theorem fail_eng (s : State) (p b c a : Nat) (j : Nat) : (s.fail p b c a).eng j = s.eng j := congrArg (fun x => sget (fun _ => Engine.init) x j) (fail_engines s p b c a)
@[simp] theorem deviceEvent_eng (s : State) (c x y n : Nat) (j : Nat) : (s.deviceEvent c x y n).eng j = s.eng j := congrArg (fun x => sget (fun _ => Engine.init) x j) (deviceEvent_engines s c x y n)
@[simp] theorem log_eng (s : State) (k c : Nat) (l : List Byte) (j : Nat) : (s.log k c l).eng j = s.eng j := congrArg (fun x => sget (fun _ => Engine.init) x j) (log_engines s k c l)
@[simp] theorem fault_eng (s : State) (c u w : Nat) (j : Nat) : (s.fault c u w).eng j = s.eng j := congrArg (fun x => sget (fun _ => Engine.init) x j) (fault_engines s c u w)
@[simp] theorem setBytes_eng (s : State) (a : Nat) (l : List Byte) (j : Nat) : (s.setBytes a l).eng j = s.eng j := congrArg (fun x => sget (fun _ => Engine.init) x j) (setBytes_engines s a l)
@[simp] theorem tileWrite_eng (s : State) (t a : Nat) (l : List Byte) (j : Nat) : (s.tileWrite t a l).eng j = s.eng j := congrArg (fun x => sget (fun _ => Engine.init) x j) (tileWrite_engines s t a l)
@[simp] theorem setSess_eng (s : State) (i : Nat) (v : Session) (j : Nat) : (s.setSess i v).eng j = s.eng j := rfl
@[simp] theorem setEth_eng (s : State) (i : Nat) (v : EthPort) (j : Nat) : (s.setEth i v).eng j = s.eng j := rfl
@[simp] theorem setGroup_eng (s : State) (i : Nat) (v : Option PeerGroup) (j : Nat) : (s.setGroup i v).eng j = s.eng j := rfl

@[simp] theorem setSlot_tile (s : State) (i : Nat) (v : Slot) (j : Nat) : (s.setSlot i v).tile j = s.tile j := rfl
@[simp] theorem setPort_tile (s : State) (i : Nat) (v : CamPort) (j : Nat) : (s.setPort i v).tile j = s.tile j := rfl
@[simp] theorem setStrm_tile (s : State) (i : Nat) (v : Strm) (j : Nat) : (s.setStrm i v).tile j = s.tile j := rfl
@[simp] theorem setEng_tile (s : State) (i : Nat) (v : Engine) (j : Nat) : (s.setEng i v).tile j = s.tile j := rfl
@[simp] theorem setJob_tile (s : State) (i : Nat) (v : Option Job) (j : Nat) : (s.setJob i v).tile j = s.tile j := rfl
@[simp] theorem setQueue_tile (s : State) (i : Nat) (v : Queue) (j : Nat) : (s.setQueue i v).tile j = s.tile j := rfl
@[simp] theorem setChan_tile (s : State) (i : Nat) (v : Channel) (j : Nat) : (s.setChan i v).tile j = s.tile j := rfl
@[simp] theorem drawn_tile (s : State) (j : Nat) : (s.drawn).tile j = s.tile j := rfl
@[simp] theorem emit_tile (s : State) (x : Wire) (j : Nat) : (s.emit x).tile j = s.tile j := rfl
@[simp] theorem setReg_tile (s : State) (p o : Nat) (x : Word) (j : Nat) : (s.setReg p o x).tile j = s.tile j := rfl
@[simp] theorem setRfld_tile (s : State) (p o lo n v : Nat) (j : Nat) : (s.setRfld p o lo n v).tile j = s.tile j := congrArg (fun x => sget (fun _ => Tile.init) x j) (setRfld_tiles s p o lo n v)
@[simp] theorem bump_tile (s : State) (p o lo n v : Nat) (j : Nat) : (s.bump p o lo n v).tile j = s.tile j := congrArg (fun x => sget (fun _ => Tile.init) x j) (bump_tiles s p o lo n v)
@[simp] theorem bumpWrap_tile (s : State) (p o : Nat) (j : Nat) : (s.bumpWrap p o).tile j = s.tile j := congrArg (fun x => sget (fun _ => Tile.init) x j) (bumpWrap_tiles s p o)
@[simp] theorem maxRfld_tile (s : State) (p o lo n v : Nat) (j : Nat) : (s.maxRfld p o lo n v).tile j = s.tile j := congrArg (fun x => sget (fun _ => Tile.init) x j) (maxRfld_tiles s p o lo n v)
@[simp] theorem cause_tile (s : State) (p c a : Nat) (j : Nat) : (s.cause p c a).tile j = s.tile j := congrArg (fun x => sget (fun _ => Tile.init) x j) (cause_tiles s p c a)
@[simp] theorem setByte_tile (s : State) (a : Nat) (b : Byte) (j : Nat) : (s.setByte a b).tile j = s.tile j := rfl
@[simp] theorem record_tile (s : State) (r : EventRec) (j : Nat) : (s.record r).tile j = s.tile j := congrArg (fun x => sget (fun _ => Tile.init) x j) (record_tiles s r)
@[simp] theorem blockRecord_tile (s : State) (p b : Nat) (j : Nat) : (s.blockRecord p b).tile j = s.tile j := congrArg (fun x => sget (fun _ => Tile.init) x j) (blockRecord_tiles s p b)
@[simp] theorem event_tile (s : State) (p b : Nat) (j : Nat) : (s.event p b).tile j = s.tile j := congrArg (fun x => sget (fun _ => Tile.init) x j) (event_tiles s p b)
@[simp] theorem fail_tile (s : State) (p b c a : Nat) (j : Nat) : (s.fail p b c a).tile j = s.tile j := congrArg (fun x => sget (fun _ => Tile.init) x j) (fail_tiles s p b c a)
@[simp] theorem deviceEvent_tile (s : State) (c x y n : Nat) (j : Nat) : (s.deviceEvent c x y n).tile j = s.tile j := congrArg (fun x => sget (fun _ => Tile.init) x j) (deviceEvent_tiles s c x y n)
@[simp] theorem log_tile (s : State) (k c : Nat) (l : List Byte) (j : Nat) : (s.log k c l).tile j = s.tile j := congrArg (fun x => sget (fun _ => Tile.init) x j) (log_tiles s k c l)
@[simp] theorem fault_tile (s : State) (c u w : Nat) (j : Nat) : (s.fault c u w).tile j = s.tile j := congrArg (fun x => sget (fun _ => Tile.init) x j) (fault_tiles s c u w)
@[simp] theorem setBytes_tile (s : State) (a : Nat) (l : List Byte) (j : Nat) : (s.setBytes a l).tile j = s.tile j := congrArg (fun x => sget (fun _ => Tile.init) x j) (setBytes_tiles s a l)
@[simp] theorem addSlip_tile (s : State) (e n : Nat) (j : Nat) : (s.addSlip e n).tile j = s.tile j := congrArg (fun x => sget (fun _ => Tile.init) x j) (addSlip_tiles s e n)
@[simp] theorem setSess_tile (s : State) (i : Nat) (v : Session) (j : Nat) : (s.setSess i v).tile j = s.tile j := rfl
@[simp] theorem setEth_tile (s : State) (i : Nat) (v : EthPort) (j : Nat) : (s.setEth i v).tile j = s.tile j := rfl
@[simp] theorem setGroup_tile (s : State) (i : Nat) (v : Option PeerGroup) (j : Nat) : (s.setGroup i v).tile j = s.tile j := rfl

@[simp] theorem setSlot_job (s : State) (i : Nat) (v : Slot) (j : Nat) : (s.setSlot i v).job j = s.job j := rfl
@[simp] theorem setPort_job (s : State) (i : Nat) (v : CamPort) (j : Nat) : (s.setPort i v).job j = s.job j := rfl
@[simp] theorem setStrm_job (s : State) (i : Nat) (v : Strm) (j : Nat) : (s.setStrm i v).job j = s.job j := rfl
@[simp] theorem setEng_job (s : State) (i : Nat) (v : Engine) (j : Nat) : (s.setEng i v).job j = s.job j := rfl
@[simp] theorem setTile_job (s : State) (i : Nat) (v : Tile) (j : Nat) : (s.setTile i v).job j = s.job j := rfl
@[simp] theorem setQueue_job (s : State) (i : Nat) (v : Queue) (j : Nat) : (s.setQueue i v).job j = s.job j := rfl
@[simp] theorem setChan_job (s : State) (i : Nat) (v : Channel) (j : Nat) : (s.setChan i v).job j = s.job j := rfl
@[simp] theorem drawn_job (s : State) (j : Nat) : (s.drawn).job j = s.job j := rfl
@[simp] theorem emit_job (s : State) (x : Wire) (j : Nat) : (s.emit x).job j = s.job j := rfl
@[simp] theorem setReg_job (s : State) (p o : Nat) (x : Word) (j : Nat) : (s.setReg p o x).job j = s.job j := rfl
@[simp] theorem setRfld_job (s : State) (p o lo n v : Nat) (j : Nat) : (s.setRfld p o lo n v).job j = s.job j := congrArg (fun x => sget (fun _ => none) x j) (setRfld_jobs s p o lo n v)
@[simp] theorem bump_job (s : State) (p o lo n v : Nat) (j : Nat) : (s.bump p o lo n v).job j = s.job j := congrArg (fun x => sget (fun _ => none) x j) (bump_jobs s p o lo n v)
@[simp] theorem bumpWrap_job (s : State) (p o : Nat) (j : Nat) : (s.bumpWrap p o).job j = s.job j := congrArg (fun x => sget (fun _ => none) x j) (bumpWrap_jobs s p o)
@[simp] theorem maxRfld_job (s : State) (p o lo n v : Nat) (j : Nat) : (s.maxRfld p o lo n v).job j = s.job j := congrArg (fun x => sget (fun _ => none) x j) (maxRfld_jobs s p o lo n v)
@[simp] theorem cause_job (s : State) (p c a : Nat) (j : Nat) : (s.cause p c a).job j = s.job j := congrArg (fun x => sget (fun _ => none) x j) (cause_jobs s p c a)
@[simp] theorem setByte_job (s : State) (a : Nat) (b : Byte) (j : Nat) : (s.setByte a b).job j = s.job j := rfl
@[simp] theorem record_job (s : State) (r : EventRec) (j : Nat) : (s.record r).job j = s.job j := congrArg (fun x => sget (fun _ => none) x j) (record_jobs s r)
@[simp] theorem blockRecord_job (s : State) (p b : Nat) (j : Nat) : (s.blockRecord p b).job j = s.job j := congrArg (fun x => sget (fun _ => none) x j) (blockRecord_jobs s p b)
@[simp] theorem event_job (s : State) (p b : Nat) (j : Nat) : (s.event p b).job j = s.job j := congrArg (fun x => sget (fun _ => none) x j) (event_jobs s p b)
@[simp] theorem fail_job (s : State) (p b c a : Nat) (j : Nat) : (s.fail p b c a).job j = s.job j := congrArg (fun x => sget (fun _ => none) x j) (fail_jobs s p b c a)
@[simp] theorem deviceEvent_job (s : State) (c x y n : Nat) (j : Nat) : (s.deviceEvent c x y n).job j = s.job j := congrArg (fun x => sget (fun _ => none) x j) (deviceEvent_jobs s c x y n)
@[simp] theorem log_job (s : State) (k c : Nat) (l : List Byte) (j : Nat) : (s.log k c l).job j = s.job j := congrArg (fun x => sget (fun _ => none) x j) (log_jobs s k c l)
@[simp] theorem fault_job (s : State) (c u w : Nat) (j : Nat) : (s.fault c u w).job j = s.job j := congrArg (fun x => sget (fun _ => none) x j) (fault_jobs s c u w)
@[simp] theorem setBytes_job (s : State) (a : Nat) (l : List Byte) (j : Nat) : (s.setBytes a l).job j = s.job j := congrArg (fun x => sget (fun _ => none) x j) (setBytes_jobs s a l)
@[simp] theorem tileWrite_job (s : State) (t a : Nat) (l : List Byte) (j : Nat) : (s.tileWrite t a l).job j = s.job j := congrArg (fun x => sget (fun _ => none) x j) (tileWrite_jobs s t a l)
@[simp] theorem addSlip_job (s : State) (e n : Nat) (j : Nat) : (s.addSlip e n).job j = s.job j := congrArg (fun x => sget (fun _ => none) x j) (addSlip_jobs s e n)
@[simp] theorem setSess_job (s : State) (i : Nat) (v : Session) (j : Nat) : (s.setSess i v).job j = s.job j := rfl
@[simp] theorem setEth_job (s : State) (i : Nat) (v : EthPort) (j : Nat) : (s.setEth i v).job j = s.job j := rfl
@[simp] theorem setGroup_job (s : State) (i : Nat) (v : Option PeerGroup) (j : Nat) : (s.setGroup i v).job j = s.job j := rfl

@[simp] theorem setSlot_queue (s : State) (i : Nat) (v : Slot) (j : Nat) : (s.setSlot i v).queue j = s.queue j := rfl
@[simp] theorem setPort_queue (s : State) (i : Nat) (v : CamPort) (j : Nat) : (s.setPort i v).queue j = s.queue j := rfl
@[simp] theorem setStrm_queue (s : State) (i : Nat) (v : Strm) (j : Nat) : (s.setStrm i v).queue j = s.queue j := rfl
@[simp] theorem setEng_queue (s : State) (i : Nat) (v : Engine) (j : Nat) : (s.setEng i v).queue j = s.queue j := rfl
@[simp] theorem setTile_queue (s : State) (i : Nat) (v : Tile) (j : Nat) : (s.setTile i v).queue j = s.queue j := rfl
@[simp] theorem setJob_queue (s : State) (i : Nat) (v : Option Job) (j : Nat) : (s.setJob i v).queue j = s.queue j := rfl
@[simp] theorem setChan_queue (s : State) (i : Nat) (v : Channel) (j : Nat) : (s.setChan i v).queue j = s.queue j := rfl
@[simp] theorem drawn_queue (s : State) (j : Nat) : (s.drawn).queue j = s.queue j := rfl
@[simp] theorem emit_queue (s : State) (x : Wire) (j : Nat) : (s.emit x).queue j = s.queue j := rfl
@[simp] theorem setReg_queue (s : State) (p o : Nat) (x : Word) (j : Nat) : (s.setReg p o x).queue j = s.queue j := rfl
@[simp] theorem setRfld_queue (s : State) (p o lo n v : Nat) (j : Nat) : (s.setRfld p o lo n v).queue j = s.queue j := congrArg (fun x => sget (fun _ => Queue.init) x j) (setRfld_queues s p o lo n v)
@[simp] theorem bump_queue (s : State) (p o lo n v : Nat) (j : Nat) : (s.bump p o lo n v).queue j = s.queue j := congrArg (fun x => sget (fun _ => Queue.init) x j) (bump_queues s p o lo n v)
@[simp] theorem bumpWrap_queue (s : State) (p o : Nat) (j : Nat) : (s.bumpWrap p o).queue j = s.queue j := congrArg (fun x => sget (fun _ => Queue.init) x j) (bumpWrap_queues s p o)
@[simp] theorem maxRfld_queue (s : State) (p o lo n v : Nat) (j : Nat) : (s.maxRfld p o lo n v).queue j = s.queue j := congrArg (fun x => sget (fun _ => Queue.init) x j) (maxRfld_queues s p o lo n v)
@[simp] theorem cause_queue (s : State) (p c a : Nat) (j : Nat) : (s.cause p c a).queue j = s.queue j := congrArg (fun x => sget (fun _ => Queue.init) x j) (cause_queues s p c a)
@[simp] theorem setByte_queue (s : State) (a : Nat) (b : Byte) (j : Nat) : (s.setByte a b).queue j = s.queue j := rfl
@[simp] theorem record_queue (s : State) (r : EventRec) (j : Nat) : (s.record r).queue j = s.queue j := congrArg (fun x => sget (fun _ => Queue.init) x j) (record_queues s r)
@[simp] theorem blockRecord_queue (s : State) (p b : Nat) (j : Nat) : (s.blockRecord p b).queue j = s.queue j := congrArg (fun x => sget (fun _ => Queue.init) x j) (blockRecord_queues s p b)
@[simp] theorem event_queue (s : State) (p b : Nat) (j : Nat) : (s.event p b).queue j = s.queue j := congrArg (fun x => sget (fun _ => Queue.init) x j) (event_queues s p b)
@[simp] theorem fail_queue (s : State) (p b c a : Nat) (j : Nat) : (s.fail p b c a).queue j = s.queue j := congrArg (fun x => sget (fun _ => Queue.init) x j) (fail_queues s p b c a)
@[simp] theorem deviceEvent_queue (s : State) (c x y n : Nat) (j : Nat) : (s.deviceEvent c x y n).queue j = s.queue j := congrArg (fun x => sget (fun _ => Queue.init) x j) (deviceEvent_queues s c x y n)
@[simp] theorem log_queue (s : State) (k c : Nat) (l : List Byte) (j : Nat) : (s.log k c l).queue j = s.queue j := congrArg (fun x => sget (fun _ => Queue.init) x j) (log_queues s k c l)
@[simp] theorem fault_queue (s : State) (c u w : Nat) (j : Nat) : (s.fault c u w).queue j = s.queue j := congrArg (fun x => sget (fun _ => Queue.init) x j) (fault_queues s c u w)
@[simp] theorem setBytes_queue (s : State) (a : Nat) (l : List Byte) (j : Nat) : (s.setBytes a l).queue j = s.queue j := congrArg (fun x => sget (fun _ => Queue.init) x j) (setBytes_queues s a l)
@[simp] theorem tileWrite_queue (s : State) (t a : Nat) (l : List Byte) (j : Nat) : (s.tileWrite t a l).queue j = s.queue j := congrArg (fun x => sget (fun _ => Queue.init) x j) (tileWrite_queues s t a l)
@[simp] theorem addSlip_queue (s : State) (e n : Nat) (j : Nat) : (s.addSlip e n).queue j = s.queue j := congrArg (fun x => sget (fun _ => Queue.init) x j) (addSlip_queues s e n)
@[simp] theorem setSess_queue (s : State) (i : Nat) (v : Session) (j : Nat) : (s.setSess i v).queue j = s.queue j := rfl
@[simp] theorem setEth_queue (s : State) (i : Nat) (v : EthPort) (j : Nat) : (s.setEth i v).queue j = s.queue j := rfl
@[simp] theorem setGroup_queue (s : State) (i : Nat) (v : Option PeerGroup) (j : Nat) : (s.setGroup i v).queue j = s.queue j := rfl

@[simp] theorem setSlot_chan (s : State) (i : Nat) (v : Slot) (j : Nat) : (s.setSlot i v).chan j = s.chan j := rfl
@[simp] theorem setPort_chan (s : State) (i : Nat) (v : CamPort) (j : Nat) : (s.setPort i v).chan j = s.chan j := rfl
@[simp] theorem setStrm_chan (s : State) (i : Nat) (v : Strm) (j : Nat) : (s.setStrm i v).chan j = s.chan j := rfl
@[simp] theorem setEng_chan (s : State) (i : Nat) (v : Engine) (j : Nat) : (s.setEng i v).chan j = s.chan j := rfl
@[simp] theorem setTile_chan (s : State) (i : Nat) (v : Tile) (j : Nat) : (s.setTile i v).chan j = s.chan j := rfl
@[simp] theorem setJob_chan (s : State) (i : Nat) (v : Option Job) (j : Nat) : (s.setJob i v).chan j = s.chan j := rfl
@[simp] theorem setQueue_chan (s : State) (i : Nat) (v : Queue) (j : Nat) : (s.setQueue i v).chan j = s.chan j := rfl
@[simp] theorem drawn_chan (s : State) (j : Nat) : (s.drawn).chan j = s.chan j := rfl
@[simp] theorem emit_chan (s : State) (x : Wire) (j : Nat) : (s.emit x).chan j = s.chan j := rfl
@[simp] theorem setReg_chan (s : State) (p o : Nat) (x : Word) (j : Nat) : (s.setReg p o x).chan j = s.chan j := rfl
@[simp] theorem setRfld_chan (s : State) (p o lo n v : Nat) (j : Nat) : (s.setRfld p o lo n v).chan j = s.chan j := congrArg (fun x => sget (fun _ => Channel.init) x j) (setRfld_channels s p o lo n v)
@[simp] theorem bump_chan (s : State) (p o lo n v : Nat) (j : Nat) : (s.bump p o lo n v).chan j = s.chan j := congrArg (fun x => sget (fun _ => Channel.init) x j) (bump_channels s p o lo n v)
@[simp] theorem bumpWrap_chan (s : State) (p o : Nat) (j : Nat) : (s.bumpWrap p o).chan j = s.chan j := congrArg (fun x => sget (fun _ => Channel.init) x j) (bumpWrap_channels s p o)
@[simp] theorem maxRfld_chan (s : State) (p o lo n v : Nat) (j : Nat) : (s.maxRfld p o lo n v).chan j = s.chan j := congrArg (fun x => sget (fun _ => Channel.init) x j) (maxRfld_channels s p o lo n v)
@[simp] theorem cause_chan (s : State) (p c a : Nat) (j : Nat) : (s.cause p c a).chan j = s.chan j := congrArg (fun x => sget (fun _ => Channel.init) x j) (cause_channels s p c a)
@[simp] theorem setByte_chan (s : State) (a : Nat) (b : Byte) (j : Nat) : (s.setByte a b).chan j = s.chan j := rfl
@[simp] theorem record_chan (s : State) (r : EventRec) (j : Nat) : (s.record r).chan j = s.chan j := congrArg (fun x => sget (fun _ => Channel.init) x j) (record_channels s r)
@[simp] theorem blockRecord_chan (s : State) (p b : Nat) (j : Nat) : (s.blockRecord p b).chan j = s.chan j := congrArg (fun x => sget (fun _ => Channel.init) x j) (blockRecord_channels s p b)
@[simp] theorem event_chan (s : State) (p b : Nat) (j : Nat) : (s.event p b).chan j = s.chan j := congrArg (fun x => sget (fun _ => Channel.init) x j) (event_channels s p b)
@[simp] theorem fail_chan (s : State) (p b c a : Nat) (j : Nat) : (s.fail p b c a).chan j = s.chan j := congrArg (fun x => sget (fun _ => Channel.init) x j) (fail_channels s p b c a)
@[simp] theorem deviceEvent_chan (s : State) (c x y n : Nat) (j : Nat) : (s.deviceEvent c x y n).chan j = s.chan j := congrArg (fun x => sget (fun _ => Channel.init) x j) (deviceEvent_channels s c x y n)
@[simp] theorem log_chan (s : State) (k c : Nat) (l : List Byte) (j : Nat) : (s.log k c l).chan j = s.chan j := congrArg (fun x => sget (fun _ => Channel.init) x j) (log_channels s k c l)
@[simp] theorem fault_chan (s : State) (c u w : Nat) (j : Nat) : (s.fault c u w).chan j = s.chan j := congrArg (fun x => sget (fun _ => Channel.init) x j) (fault_channels s c u w)
@[simp] theorem setBytes_chan (s : State) (a : Nat) (l : List Byte) (j : Nat) : (s.setBytes a l).chan j = s.chan j := congrArg (fun x => sget (fun _ => Channel.init) x j) (setBytes_channels s a l)
@[simp] theorem tileWrite_chan (s : State) (t a : Nat) (l : List Byte) (j : Nat) : (s.tileWrite t a l).chan j = s.chan j := congrArg (fun x => sget (fun _ => Channel.init) x j) (tileWrite_channels s t a l)
@[simp] theorem addSlip_chan (s : State) (e n : Nat) (j : Nat) : (s.addSlip e n).chan j = s.chan j := congrArg (fun x => sget (fun _ => Channel.init) x j) (addSlip_channels s e n)
@[simp] theorem setSess_chan (s : State) (i : Nat) (v : Session) (j : Nat) : (s.setSess i v).chan j = s.chan j := rfl
@[simp] theorem setEth_chan (s : State) (i : Nat) (v : EthPort) (j : Nat) : (s.setEth i v).chan j = s.chan j := rfl
@[simp] theorem setGroup_chan (s : State) (i : Nat) (v : Option PeerGroup) (j : Nat) : (s.setGroup i v).chan j = s.chan j := rfl

@[simp] theorem setSlot_sess (s : State) (i : Nat) (v : Slot) (j : Nat) : (s.setSlot i v).sess j = s.sess j := rfl
@[simp] theorem setPort_sess (s : State) (i : Nat) (v : CamPort) (j : Nat) : (s.setPort i v).sess j = s.sess j := rfl
@[simp] theorem setStrm_sess (s : State) (i : Nat) (v : Strm) (j : Nat) : (s.setStrm i v).sess j = s.sess j := rfl
@[simp] theorem setEng_sess (s : State) (i : Nat) (v : Engine) (j : Nat) : (s.setEng i v).sess j = s.sess j := rfl
@[simp] theorem setTile_sess (s : State) (i : Nat) (v : Tile) (j : Nat) : (s.setTile i v).sess j = s.sess j := rfl
@[simp] theorem setJob_sess (s : State) (i : Nat) (v : Option Job) (j : Nat) : (s.setJob i v).sess j = s.sess j := rfl
@[simp] theorem setQueue_sess (s : State) (i : Nat) (v : Queue) (j : Nat) : (s.setQueue i v).sess j = s.sess j := rfl
@[simp] theorem setChan_sess (s : State) (i : Nat) (v : Channel) (j : Nat) : (s.setChan i v).sess j = s.sess j := rfl
@[simp] theorem drawn_sess (s : State) (j : Nat) : (s.drawn).sess j = s.sess j := rfl
@[simp] theorem emit_sess (s : State) (x : Wire) (j : Nat) : (s.emit x).sess j = s.sess j := rfl
@[simp] theorem setReg_sess (s : State) (p o : Nat) (x : Word) (j : Nat) : (s.setReg p o x).sess j = s.sess j := rfl
@[simp] theorem setRfld_sess (s : State) (p o lo n v : Nat) (j : Nat) : (s.setRfld p o lo n v).sess j = s.sess j := congrArg (fun x => sget (fun _ => Session.init) (Net.sessions x) j) (setRfld_net s p o lo n v)
@[simp] theorem bump_sess (s : State) (p o lo n v : Nat) (j : Nat) : (s.bump p o lo n v).sess j = s.sess j := congrArg (fun x => sget (fun _ => Session.init) (Net.sessions x) j) (bump_net s p o lo n v)
@[simp] theorem bumpWrap_sess (s : State) (p o : Nat) (j : Nat) : (s.bumpWrap p o).sess j = s.sess j := congrArg (fun x => sget (fun _ => Session.init) (Net.sessions x) j) (bumpWrap_net s p o)
@[simp] theorem maxRfld_sess (s : State) (p o lo n v : Nat) (j : Nat) : (s.maxRfld p o lo n v).sess j = s.sess j := congrArg (fun x => sget (fun _ => Session.init) (Net.sessions x) j) (maxRfld_net s p o lo n v)
@[simp] theorem cause_sess (s : State) (p c a : Nat) (j : Nat) : (s.cause p c a).sess j = s.sess j := congrArg (fun x => sget (fun _ => Session.init) (Net.sessions x) j) (cause_net s p c a)
@[simp] theorem setByte_sess (s : State) (a : Nat) (b : Byte) (j : Nat) : (s.setByte a b).sess j = s.sess j := rfl
@[simp] theorem record_sess (s : State) (r : EventRec) (j : Nat) : (s.record r).sess j = s.sess j := congrArg (fun x => sget (fun _ => Session.init) x j) (record_net_sessions s r)
@[simp] theorem blockRecord_sess (s : State) (p b : Nat) (j : Nat) : (s.blockRecord p b).sess j = s.sess j := congrArg (fun x => sget (fun _ => Session.init) x j) (blockRecord_net_sessions s p b)
@[simp] theorem event_sess (s : State) (p b : Nat) (j : Nat) : (s.event p b).sess j = s.sess j := congrArg (fun x => sget (fun _ => Session.init) x j) (event_net_sessions s p b)
@[simp] theorem fail_sess (s : State) (p b c a : Nat) (j : Nat) : (s.fail p b c a).sess j = s.sess j := congrArg (fun x => sget (fun _ => Session.init) x j) (fail_net_sessions s p b c a)
@[simp] theorem deviceEvent_sess (s : State) (c x y n : Nat) (j : Nat) : (s.deviceEvent c x y n).sess j = s.sess j := congrArg (fun x => sget (fun _ => Session.init) x j) (deviceEvent_net_sessions s c x y n)
@[simp] theorem log_sess (s : State) (k c : Nat) (l : List Byte) (j : Nat) : (s.log k c l).sess j = s.sess j := congrArg (fun x => sget (fun _ => Session.init) x j) (log_net_sessions s k c l)
@[simp] theorem fault_sess (s : State) (c u w : Nat) (j : Nat) : (s.fault c u w).sess j = s.sess j := congrArg (fun x => sget (fun _ => Session.init) x j) (fault_net_sessions s c u w)
@[simp] theorem setBytes_sess (s : State) (a : Nat) (l : List Byte) (j : Nat) : (s.setBytes a l).sess j = s.sess j := congrArg (fun x => sget (fun _ => Session.init) (Net.sessions x) j) (setBytes_net s a l)
@[simp] theorem tileWrite_sess (s : State) (t a : Nat) (l : List Byte) (j : Nat) : (s.tileWrite t a l).sess j = s.sess j := congrArg (fun x => sget (fun _ => Session.init) (Net.sessions x) j) (tileWrite_net s t a l)
@[simp] theorem addSlip_sess (s : State) (e n : Nat) (j : Nat) : (s.addSlip e n).sess j = s.sess j := congrArg (fun x => sget (fun _ => Session.init) (Net.sessions x) j) (addSlip_net s e n)
@[simp] theorem setEth_sess (s : State) (i : Nat) (v : EthPort) (j : Nat) : (s.setEth i v).sess j = s.sess j := rfl
@[simp] theorem setGroup_sess (s : State) (i : Nat) (v : Option PeerGroup) (j : Nat) : (s.setGroup i v).sess j = s.sess j := rfl

@[simp] theorem setSlot_eth (s : State) (i : Nat) (v : Slot) (j : Nat) : (s.setSlot i v).eth j = s.eth j := rfl
@[simp] theorem setPort_eth (s : State) (i : Nat) (v : CamPort) (j : Nat) : (s.setPort i v).eth j = s.eth j := rfl
@[simp] theorem setStrm_eth (s : State) (i : Nat) (v : Strm) (j : Nat) : (s.setStrm i v).eth j = s.eth j := rfl
@[simp] theorem setEng_eth (s : State) (i : Nat) (v : Engine) (j : Nat) : (s.setEng i v).eth j = s.eth j := rfl
@[simp] theorem setTile_eth (s : State) (i : Nat) (v : Tile) (j : Nat) : (s.setTile i v).eth j = s.eth j := rfl
@[simp] theorem setJob_eth (s : State) (i : Nat) (v : Option Job) (j : Nat) : (s.setJob i v).eth j = s.eth j := rfl
@[simp] theorem setQueue_eth (s : State) (i : Nat) (v : Queue) (j : Nat) : (s.setQueue i v).eth j = s.eth j := rfl
@[simp] theorem setChan_eth (s : State) (i : Nat) (v : Channel) (j : Nat) : (s.setChan i v).eth j = s.eth j := rfl
@[simp] theorem drawn_eth (s : State) (j : Nat) : (s.drawn).eth j = s.eth j := rfl
@[simp] theorem emit_eth (s : State) (x : Wire) (j : Nat) : (s.emit x).eth j = s.eth j := rfl
@[simp] theorem setReg_eth (s : State) (p o : Nat) (x : Word) (j : Nat) : (s.setReg p o x).eth j = s.eth j := rfl
@[simp] theorem setRfld_eth (s : State) (p o lo n v : Nat) (j : Nat) : (s.setRfld p o lo n v).eth j = s.eth j := congrArg (fun x => sget (fun _ => EthPort.init) (Net.ports x) j) (setRfld_net s p o lo n v)
@[simp] theorem bump_eth (s : State) (p o lo n v : Nat) (j : Nat) : (s.bump p o lo n v).eth j = s.eth j := congrArg (fun x => sget (fun _ => EthPort.init) (Net.ports x) j) (bump_net s p o lo n v)
@[simp] theorem bumpWrap_eth (s : State) (p o : Nat) (j : Nat) : (s.bumpWrap p o).eth j = s.eth j := congrArg (fun x => sget (fun _ => EthPort.init) (Net.ports x) j) (bumpWrap_net s p o)
@[simp] theorem maxRfld_eth (s : State) (p o lo n v : Nat) (j : Nat) : (s.maxRfld p o lo n v).eth j = s.eth j := congrArg (fun x => sget (fun _ => EthPort.init) (Net.ports x) j) (maxRfld_net s p o lo n v)
@[simp] theorem cause_eth (s : State) (p c a : Nat) (j : Nat) : (s.cause p c a).eth j = s.eth j := congrArg (fun x => sget (fun _ => EthPort.init) (Net.ports x) j) (cause_net s p c a)
@[simp] theorem setByte_eth (s : State) (a : Nat) (b : Byte) (j : Nat) : (s.setByte a b).eth j = s.eth j := rfl
@[simp] theorem record_eth (s : State) (r : EventRec) (j : Nat) : (s.record r).eth j = s.eth j := congrArg (fun x => sget (fun _ => EthPort.init) x j) (record_net_ports s r)
@[simp] theorem blockRecord_eth (s : State) (p b : Nat) (j : Nat) : (s.blockRecord p b).eth j = s.eth j := congrArg (fun x => sget (fun _ => EthPort.init) x j) (blockRecord_net_ports s p b)
@[simp] theorem event_eth (s : State) (p b : Nat) (j : Nat) : (s.event p b).eth j = s.eth j := congrArg (fun x => sget (fun _ => EthPort.init) x j) (event_net_ports s p b)
@[simp] theorem fail_eth (s : State) (p b c a : Nat) (j : Nat) : (s.fail p b c a).eth j = s.eth j := congrArg (fun x => sget (fun _ => EthPort.init) x j) (fail_net_ports s p b c a)
@[simp] theorem deviceEvent_eth (s : State) (c x y n : Nat) (j : Nat) : (s.deviceEvent c x y n).eth j = s.eth j := congrArg (fun x => sget (fun _ => EthPort.init) x j) (deviceEvent_net_ports s c x y n)
@[simp] theorem log_eth (s : State) (k c : Nat) (l : List Byte) (j : Nat) : (s.log k c l).eth j = s.eth j := congrArg (fun x => sget (fun _ => EthPort.init) x j) (log_net_ports s k c l)
@[simp] theorem fault_eth (s : State) (c u w : Nat) (j : Nat) : (s.fault c u w).eth j = s.eth j := congrArg (fun x => sget (fun _ => EthPort.init) x j) (fault_net_ports s c u w)
@[simp] theorem setBytes_eth (s : State) (a : Nat) (l : List Byte) (j : Nat) : (s.setBytes a l).eth j = s.eth j := congrArg (fun x => sget (fun _ => EthPort.init) (Net.ports x) j) (setBytes_net s a l)
@[simp] theorem tileWrite_eth (s : State) (t a : Nat) (l : List Byte) (j : Nat) : (s.tileWrite t a l).eth j = s.eth j := congrArg (fun x => sget (fun _ => EthPort.init) (Net.ports x) j) (tileWrite_net s t a l)
@[simp] theorem addSlip_eth (s : State) (e n : Nat) (j : Nat) : (s.addSlip e n).eth j = s.eth j := congrArg (fun x => sget (fun _ => EthPort.init) (Net.ports x) j) (addSlip_net s e n)
@[simp] theorem setSess_eth (s : State) (i : Nat) (v : Session) (j : Nat) : (s.setSess i v).eth j = s.eth j := rfl
@[simp] theorem setGroup_eth (s : State) (i : Nat) (v : Option PeerGroup) (j : Nat) : (s.setGroup i v).eth j = s.eth j := rfl

@[simp] theorem setSlot_group (s : State) (i : Nat) (v : Slot) (j : Nat) : (s.setSlot i v).group j = s.group j := rfl
@[simp] theorem setPort_group (s : State) (i : Nat) (v : CamPort) (j : Nat) : (s.setPort i v).group j = s.group j := rfl
@[simp] theorem setStrm_group (s : State) (i : Nat) (v : Strm) (j : Nat) : (s.setStrm i v).group j = s.group j := rfl
@[simp] theorem setEng_group (s : State) (i : Nat) (v : Engine) (j : Nat) : (s.setEng i v).group j = s.group j := rfl
@[simp] theorem setTile_group (s : State) (i : Nat) (v : Tile) (j : Nat) : (s.setTile i v).group j = s.group j := rfl
@[simp] theorem setJob_group (s : State) (i : Nat) (v : Option Job) (j : Nat) : (s.setJob i v).group j = s.group j := rfl
@[simp] theorem setQueue_group (s : State) (i : Nat) (v : Queue) (j : Nat) : (s.setQueue i v).group j = s.group j := rfl
@[simp] theorem setChan_group (s : State) (i : Nat) (v : Channel) (j : Nat) : (s.setChan i v).group j = s.group j := rfl
@[simp] theorem drawn_group (s : State) (j : Nat) : (s.drawn).group j = s.group j := rfl
@[simp] theorem emit_group (s : State) (x : Wire) (j : Nat) : (s.emit x).group j = s.group j := rfl
@[simp] theorem setReg_group (s : State) (p o : Nat) (x : Word) (j : Nat) : (s.setReg p o x).group j = s.group j := rfl
@[simp] theorem setRfld_group (s : State) (p o lo n v : Nat) (j : Nat) : (s.setRfld p o lo n v).group j = s.group j := congrArg (fun x => sget (fun _ => none) (Net.groups x) j) (setRfld_net s p o lo n v)
@[simp] theorem bump_group (s : State) (p o lo n v : Nat) (j : Nat) : (s.bump p o lo n v).group j = s.group j := congrArg (fun x => sget (fun _ => none) (Net.groups x) j) (bump_net s p o lo n v)
@[simp] theorem bumpWrap_group (s : State) (p o : Nat) (j : Nat) : (s.bumpWrap p o).group j = s.group j := congrArg (fun x => sget (fun _ => none) (Net.groups x) j) (bumpWrap_net s p o)
@[simp] theorem maxRfld_group (s : State) (p o lo n v : Nat) (j : Nat) : (s.maxRfld p o lo n v).group j = s.group j := congrArg (fun x => sget (fun _ => none) (Net.groups x) j) (maxRfld_net s p o lo n v)
@[simp] theorem cause_group (s : State) (p c a : Nat) (j : Nat) : (s.cause p c a).group j = s.group j := congrArg (fun x => sget (fun _ => none) (Net.groups x) j) (cause_net s p c a)
@[simp] theorem setByte_group (s : State) (a : Nat) (b : Byte) (j : Nat) : (s.setByte a b).group j = s.group j := rfl
@[simp] theorem record_group (s : State) (r : EventRec) (j : Nat) : (s.record r).group j = s.group j := congrArg (fun x => sget (fun _ => none) x j) (record_net_groups s r)
@[simp] theorem blockRecord_group (s : State) (p b : Nat) (j : Nat) : (s.blockRecord p b).group j = s.group j := congrArg (fun x => sget (fun _ => none) x j) (blockRecord_net_groups s p b)
@[simp] theorem event_group (s : State) (p b : Nat) (j : Nat) : (s.event p b).group j = s.group j := congrArg (fun x => sget (fun _ => none) x j) (event_net_groups s p b)
@[simp] theorem fail_group (s : State) (p b c a : Nat) (j : Nat) : (s.fail p b c a).group j = s.group j := congrArg (fun x => sget (fun _ => none) x j) (fail_net_groups s p b c a)
@[simp] theorem deviceEvent_group (s : State) (c x y n : Nat) (j : Nat) : (s.deviceEvent c x y n).group j = s.group j := congrArg (fun x => sget (fun _ => none) x j) (deviceEvent_net_groups s c x y n)
@[simp] theorem log_group (s : State) (k c : Nat) (l : List Byte) (j : Nat) : (s.log k c l).group j = s.group j := congrArg (fun x => sget (fun _ => none) x j) (log_net_groups s k c l)
@[simp] theorem fault_group (s : State) (c u w : Nat) (j : Nat) : (s.fault c u w).group j = s.group j := congrArg (fun x => sget (fun _ => none) x j) (fault_net_groups s c u w)
@[simp] theorem setBytes_group (s : State) (a : Nat) (l : List Byte) (j : Nat) : (s.setBytes a l).group j = s.group j := congrArg (fun x => sget (fun _ => none) (Net.groups x) j) (setBytes_net s a l)
@[simp] theorem tileWrite_group (s : State) (t a : Nat) (l : List Byte) (j : Nat) : (s.tileWrite t a l).group j = s.group j := congrArg (fun x => sget (fun _ => none) (Net.groups x) j) (tileWrite_net s t a l)
@[simp] theorem addSlip_group (s : State) (e n : Nat) (j : Nat) : (s.addSlip e n).group j = s.group j := congrArg (fun x => sget (fun _ => none) (Net.groups x) j) (addSlip_net s e n)
@[simp] theorem setSess_group (s : State) (i : Nat) (v : Session) (j : Nat) : (s.setSess i v).group j = s.group j := rfl
@[simp] theorem setEth_group (s : State) (i : Nat) (v : EthPort) (j : Nat) : (s.setEth i v).group j = s.group j := rfl

/-! Registers. -/

/-- Words of a page lie 4,096 bytes from those of the next. -/
theorem radr_eq (p o p' o' : Nat) (ho : o < 4096) (ho' : o' < 4096) : radr p o = radr p' o' ↔ p = p' ∧ o = o' := by
  unfold radr; omega

/-- A register word after one is stored. -/
theorem setReg_reg (s : State) (p o : Nat) (x : Word) (p' o' : Nat) :
    (s.setReg p o x).reg p' o' = if radr p' o' = radr p o then x else s.reg p' o' := sget_sset ..

/-- The stored word reads back. -/
@[simp] theorem setReg_reg_same (s : State) (p o : Nat) (x : Word) : (s.setReg p o x).reg p o = x := sget_sset_same ..

@[simp] theorem setSlot_reg (s : State) (i : Nat) (v : Slot) (p' o' : Nat) : (s.setSlot i v).reg p' o' = s.reg p' o' := rfl
@[simp] theorem setPort_reg (s : State) (i : Nat) (v : CamPort) (p' o' : Nat) : (s.setPort i v).reg p' o' = s.reg p' o' := rfl
@[simp] theorem setStrm_reg (s : State) (i : Nat) (v : Strm) (p' o' : Nat) : (s.setStrm i v).reg p' o' = s.reg p' o' := rfl
@[simp] theorem setEng_reg (s : State) (i : Nat) (v : Engine) (p' o' : Nat) : (s.setEng i v).reg p' o' = s.reg p' o' := rfl
@[simp] theorem setTile_reg (s : State) (i : Nat) (v : Tile) (p' o' : Nat) : (s.setTile i v).reg p' o' = s.reg p' o' := rfl
@[simp] theorem setJob_reg (s : State) (i : Nat) (v : Option Job) (p' o' : Nat) : (s.setJob i v).reg p' o' = s.reg p' o' := rfl
@[simp] theorem setQueue_reg (s : State) (i : Nat) (v : Queue) (p' o' : Nat) : (s.setQueue i v).reg p' o' = s.reg p' o' := rfl
@[simp] theorem setChan_reg (s : State) (i : Nat) (v : Channel) (p' o' : Nat) : (s.setChan i v).reg p' o' = s.reg p' o' := rfl
@[simp] theorem drawn_reg (s : State)  (p' o' : Nat) : (s.drawn).reg p' o' = s.reg p' o' := rfl
@[simp] theorem emit_reg (s : State) (x : Wire) (p' o' : Nat) : (s.emit x).reg p' o' = s.reg p' o' := rfl
@[simp] theorem setByte_reg (s : State) (a : Nat) (b : Byte) (p' o' : Nat) : (s.setByte a b).reg p' o' = s.reg p' o' := rfl
@[simp] theorem record_reg (s : State) (r : EventRec) (p' o' : Nat) : (s.record r).reg p' o' = s.reg p' o' := congrArg (fun x => sget resetWord x (radr p' o')) (record_regs s r)
@[simp] theorem blockRecord_reg (s : State) (p b : Nat) (p' o' : Nat) : (s.blockRecord p b).reg p' o' = s.reg p' o' := congrArg (fun x => sget resetWord x (radr p' o')) (blockRecord_regs s p b)
@[simp] theorem deviceEvent_reg (s : State) (c x y n : Nat) (p' o' : Nat) : (s.deviceEvent c x y n).reg p' o' = s.reg p' o' := congrArg (fun x => sget resetWord x (radr p' o')) (deviceEvent_regs s c x y n)
@[simp] theorem setBytes_reg (s : State) (a : Nat) (l : List Byte) (p' o' : Nat) : (s.setBytes a l).reg p' o' = s.reg p' o' := congrArg (fun x => sget resetWord x (radr p' o')) (setBytes_regs s a l)
@[simp] theorem tileWrite_reg (s : State) (t a : Nat) (l : List Byte) (p' o' : Nat) : (s.tileWrite t a l).reg p' o' = s.reg p' o' := congrArg (fun x => sget resetWord x (radr p' o')) (tileWrite_regs s t a l)
@[simp] theorem setSess_reg (s : State) (i : Nat) (v : Session) (p' o' : Nat) : (s.setSess i v).reg p' o' = s.reg p' o' := rfl
@[simp] theorem setEth_reg (s : State) (i : Nat) (v : EthPort) (p' o' : Nat) : (s.setEth i v).reg p' o' = s.reg p' o' := rfl
@[simp] theorem setGroup_reg (s : State) (i : Nat) (v : Option PeerGroup) (p' o' : Nat) : (s.setGroup i v).reg p' o' = s.reg p' o' := rfl

/-- A block record changes no register. -/
theorem event_regs (s : State) (p b : Nat) :
    (s.event p b).regs = (s.setReg p 0x10 (s.reg p 0x10 ||| BitVec.ofNat 32 (2 ^ b))).regs := by
  unfold State.event; dsimp only; split <;> simp

/-- An event changes EVT_RAW of its page and no other register. -/
theorem event_reg (s : State) (p b p' o' : Nat) :
    (s.event p b).reg p' o' = if radr p' o' = radr p 0x10 then s.reg p 0x10 ||| BitVec.ofNat 32 (2 ^ b) else s.reg p' o' := by
  unfold State.reg
  rw [event_regs]
  exact setReg_reg ..

/-! Memory. -/

/-- A byte after one is stored. -/
@[simp] theorem setByte_byte (s : State) (a : Nat) (b : Byte) (a' : Nat) : (s.setByte a b).byte a' = if a' = a then b else s.byte a' :=
  sget_sset ..

/-- Stored bytes read back, and every other byte is as before. -/
theorem setBytes_byte (s : State) (a : Nat) (l : List Byte) (a' : Nat) :
    (s.setBytes a l).byte a' = if a ≤ a' ∧ a' < a + l.length then l.getD (a' - a) 0 else s.byte a' := by
  induction l generalizing s a with
  | nil => simp [State.setBytes]
  | cons b l ih =>
    rw [State.setBytes, ih]
    by_cases h1 : a' = a
    · subst h1
      simp
    · by_cases h2 : a + 1 ≤ a' ∧ a' < a + 1 + l.length
      · have h3 : a ≤ a' ∧ a' < a + (b :: l).length := by simp; omega
        rw [if_pos h2, if_pos h3, show a' - a = (a' - (a + 1)) + 1 by omega]
        simp
      · have h3 : ¬ (a ≤ a' ∧ a' < a + (b :: l).length) := by simp; omega
        rw [if_neg h2, if_neg h3]
        simp [h1]

/-- Storing a byte keeps the memory's form. -/
theorem setByte_memoryWf (s : State) (a : Nat) (b : Byte) (h : memoryWf s.mem = true) : memoryWf (s.setByte a b).mem = true :=
  swf_sset _ _ _ _ h

/-- Storing bytes keeps the memory's form. -/
theorem setBytes_memoryWf (s : State) (a : Nat) (l : List Byte) (h : memoryWf s.mem = true) :
    memoryWf (s.setBytes a l).mem = true := by
  induction l generalizing s a with
  | nil => exact h
  | cons b l ih => exact ih _ _ (setByte_memoryWf s a b h)

/-- A write to a tile keeps the memory's form. -/
theorem tileWrite_memoryWf (s : State) (t a : Nat) (l : List Byte) (h : memoryWf s.mem = true) :
    memoryWf (s.tileWrite t a l).mem = true := setBytes_memoryWf s a l h

/-- The memory at reset is in form. -/
theorem reset_memoryWf : memoryWf State.reset.mem = true := rfl

end Sys2Proof.Machine
end

