-- ==== Sys2Proof/Laws/Memory.lean ====
section
/-! SUPPORT. What the shared operations over memory can touch: every operation of the DRAM controller stays within one frame, and
every operation that changes memory keeps its canonical form. -/

namespace Sys2Proof.Machine

open Sys2Proof

/-! Folds of a state change. -/

@[simp] theorem forEach_nil {α : Type} (f : α → State → State) (s : State) : forEach [] f s = s := rfl
@[simp] theorem forEach_cons {α : Type} (x : α) (l : List α) (f : α → State → State) (s : State) :
    forEach (x :: l) f s = forEach l f (f x s) := rfl

/-- A relation that holds of a state with itself, follows itself, and holds over each change of a fold holds over the fold. -/
theorem forEach_rel {α : Type} (R : State → State → Prop) (hr : ∀ s, R s s) (ht : ∀ {s t u}, R s t → R t u → R s u)
    (l : List α) (f : α → State → State) (hf : ∀ x s, R s (f x s)) (s : State) : R s (forEach l f s) := by
  induction l generalizing s with
  | nil => exact hr s
  | cons x l ih => exact ht (hf x s) (ih _)

/-! The frame of the DRAM controller. -/

/-- What no operation of the DRAM controller changes: everything but DRAM's bytes and its own state, register words, engine slip,
the fault manager, the stored events and the free values drawn. -/
structure DrcFrame (s t : State) : Prop where
  pending : t.pending = s.pending
  out : t.out = s.out
  clk : t.clk = s.clk
  pins : t.pins = s.pins
  holds : t.holds = s.holds
  pwr : t.pwr = s.pwr
  sup : t.sup = s.sup
  fuse : t.fuse = s.fuse
  cam : t.cam = s.cam
  slots : t.slots = s.slots
  pset : t.pset = s.pset
  live : t.live = s.live
  strms : t.strms = s.strms
  tiles : t.tiles = s.tiles
  sched : t.sched = s.sched
  admits : t.admits = s.admits
  jobs : t.jobs = s.jobs
  images : t.images = s.images
  load : t.load = s.load
  cal : t.cal = s.cal
  queues : t.queues = s.queues
  channels : t.channels = s.channels
  sec : t.sec = s.sec
  net_ports : t.net.ports = s.net.ports
  net_sessions : t.net.sessions = s.net.sessions
  net_exchanges : t.net.exchanges = s.net.exchanges
  net_avtp : t.net.avtp = s.net.avtp
  net_reserved : t.net.reserved = s.net.reserved
  net_video : t.net.video = s.net.video
  net_locked : t.net.locked = s.net.locked
  net_grandmaster : t.net.grandmaster = s.net.grandmaster
  net_groups : t.net.groups = s.net.groups
  memoryWf : memoryWf s.mem = true → memoryWf t.mem = true
  below : ∀ a, a < dramBase → t.byte a = s.byte a

/-- Nothing changes. -/
theorem DrcFrame_refl (s : State) : DrcFrame s s := by constructor <;> first | rfl | exact id | exact fun _ _ => rfl

/-- One change after another. -/
theorem DrcFrame_trans {s t u : State} (h : DrcFrame s t) (k : DrcFrame t u) : DrcFrame s u where
  pending := k.pending.trans h.pending
  out := k.out.trans h.out
  clk := k.clk.trans h.clk
  pins := k.pins.trans h.pins
  holds := k.holds.trans h.holds
  pwr := k.pwr.trans h.pwr
  sup := k.sup.trans h.sup
  fuse := k.fuse.trans h.fuse
  cam := k.cam.trans h.cam
  slots := k.slots.trans h.slots
  pset := k.pset.trans h.pset
  live := k.live.trans h.live
  strms := k.strms.trans h.strms
  tiles := k.tiles.trans h.tiles
  sched := k.sched.trans h.sched
  admits := k.admits.trans h.admits
  jobs := k.jobs.trans h.jobs
  images := k.images.trans h.images
  load := k.load.trans h.load
  cal := k.cal.trans h.cal
  queues := k.queues.trans h.queues
  channels := k.channels.trans h.channels
  sec := k.sec.trans h.sec
  net_ports := k.net_ports.trans h.net_ports
  net_sessions := k.net_sessions.trans h.net_sessions
  net_exchanges := k.net_exchanges.trans h.net_exchanges
  net_avtp := k.net_avtp.trans h.net_avtp
  net_reserved := k.net_reserved.trans h.net_reserved
  net_video := k.net_video.trans h.net_video
  net_locked := k.net_locked.trans h.net_locked
  net_grandmaster := k.net_grandmaster.trans h.net_grandmaster
  net_groups := k.net_groups.trans h.net_groups
  memoryWf w := k.memoryWf (h.memoryWf w)
  below a ha := (k.below a ha).trans (h.below a ha)

/-- A change that the frame's fields, the network's and memory do not show. -/
theorem DrcFrame_of_mem {s t : State} (m : t.mem = s.mem)
    (h_pending : t.pending = s.pending)
    (h_out : t.out = s.out)
    (h_clk : t.clk = s.clk)
    (h_pins : t.pins = s.pins)
    (h_holds : t.holds = s.holds)
    (h_pwr : t.pwr = s.pwr)
    (h_sup : t.sup = s.sup)
    (h_fuse : t.fuse = s.fuse)
    (h_cam : t.cam = s.cam)
    (h_slots : t.slots = s.slots)
    (h_pset : t.pset = s.pset)
    (h_live : t.live = s.live)
    (h_strms : t.strms = s.strms)
    (h_tiles : t.tiles = s.tiles)
    (h_sched : t.sched = s.sched)
    (h_admits : t.admits = s.admits)
    (h_jobs : t.jobs = s.jobs)
    (h_images : t.images = s.images)
    (h_load : t.load = s.load)
    (h_cal : t.cal = s.cal)
    (h_queues : t.queues = s.queues)
    (h_channels : t.channels = s.channels)
    (h_sec : t.sec = s.sec)
    (h_net_ports : t.net.ports = s.net.ports)
    (h_net_sessions : t.net.sessions = s.net.sessions)
    (h_net_exchanges : t.net.exchanges = s.net.exchanges)
    (h_net_avtp : t.net.avtp = s.net.avtp)
    (h_net_reserved : t.net.reserved = s.net.reserved)
    (h_net_video : t.net.video = s.net.video)
    (h_net_locked : t.net.locked = s.net.locked)
    (h_net_grandmaster : t.net.grandmaster = s.net.grandmaster)
    (h_net_groups : t.net.groups = s.net.groups) : DrcFrame s t where
  pending := h_pending
  out := h_out
  clk := h_clk
  pins := h_pins
  holds := h_holds
  pwr := h_pwr
  sup := h_sup
  fuse := h_fuse
  cam := h_cam
  slots := h_slots
  pset := h_pset
  live := h_live
  strms := h_strms
  tiles := h_tiles
  sched := h_sched
  admits := h_admits
  jobs := h_jobs
  images := h_images
  load := h_load
  cal := h_cal
  queues := h_queues
  channels := h_channels
  sec := h_sec
  net_ports := h_net_ports
  net_sessions := h_net_sessions
  net_exchanges := h_net_exchanges
  net_avtp := h_net_avtp
  net_reserved := h_net_reserved
  net_video := h_net_video
  net_locked := h_net_locked
  net_grandmaster := h_net_grandmaster
  net_groups := h_net_groups
  memoryWf := by rw [m]; exact id
  below a _ := by unfold State.byte; rw [m]

theorem DrcFrame_drawn (s : State) : DrcFrame s s.drawn := by apply DrcFrame_of_mem <;> rfl
theorem DrcFrame_setReg (s : State) (p o : Nat) (w : Word) : DrcFrame s (s.setReg p o w) := by apply DrcFrame_of_mem <;> rfl
theorem DrcFrame_setRfld (s : State) (p o l w v : Nat) : DrcFrame s (s.setRfld p o l w v) := DrcFrame_setReg ..
theorem DrcFrame_bump (s : State) (p o l w n : Nat) : DrcFrame s (s.bump p o l w n) := DrcFrame_setReg ..
theorem DrcFrame_maxRfld (s : State) (p o l w v : Nat) : DrcFrame s (s.maxRfld p o l w v) := DrcFrame_setReg ..
theorem DrcFrame_withDram (s : State) (f : Dram → Dram) : DrcFrame s (s.withDram f) := by apply DrcFrame_of_mem <;> rfl
theorem DrcFrame_withFlt (s : State) (f : Flt) : DrcFrame s ({ s with flt := f } : State) := by apply DrcFrame_of_mem <;> rfl
theorem DrcFrame_addSlip (s : State) (e n : Nat) : DrcFrame s (s.addSlip e n) := by apply DrcFrame_of_mem <;> simp
theorem DrcFrame_event (s : State) (p b : Nat) : DrcFrame s (s.event p b) := by apply DrcFrame_of_mem <;> simp
theorem DrcFrame_cause (s : State) (p c a : Nat) : DrcFrame s (s.cause p c a) :=
  DrcFrame_trans (DrcFrame_trans (DrcFrame_setReg s ..) (DrcFrame_setReg _ ..)) (DrcFrame_setReg _ ..)
theorem DrcFrame_fail (s : State) (p b c a : Nat) : DrcFrame s (s.fail p b c a) :=
  DrcFrame_trans (DrcFrame_cause s p c a) (DrcFrame_event _ p b)
theorem DrcFrame_fault (s : State) (c u j : Nat) : DrcFrame s (s.fault c u j) := by apply DrcFrame_of_mem <;> simp

/-- A byte stored in DRAM. -/
theorem DrcFrame_setByte (s : State) (a : Nat) (b : Byte) (h : dramBase ≤ a) : DrcFrame s (s.setByte a b) where
  pending := rfl
  out := rfl
  clk := rfl
  pins := rfl
  holds := rfl
  pwr := rfl
  sup := rfl
  fuse := rfl
  cam := rfl
  slots := rfl
  pset := rfl
  live := rfl
  strms := rfl
  tiles := rfl
  sched := rfl
  admits := rfl
  jobs := rfl
  images := rfl
  load := rfl
  cal := rfl
  queues := rfl
  channels := rfl
  sec := rfl
  net_ports := rfl
  net_sessions := rfl
  net_exchanges := rfl
  net_avtp := rfl
  net_reserved := rfl
  net_video := rfl
  net_locked := rfl
  net_grandmaster := rfl
  net_groups := rfl
  memoryWf := setByte_memoryWf s a b
  below x hx := by rw [setByte_byte, if_neg (by omega)]

/-- A change made under a condition. -/
theorem DrcFrame_when (s : State) (c : Bool) (f : State → State) (h : DrcFrame s (f s)) : DrcFrame s (s.when c f) := by
  unfold State.when; split
  · exact h
  · exact DrcFrame_refl s

/-- A fold of changes. -/
theorem DrcFrame_forEach {α : Type} (l : List α) (f : α → State → State) (hf : ∀ x s, DrcFrame s (f x s)) (s : State) :
    DrcFrame s (forEach l f s) := forEach_rel DrcFrame DrcFrame_refl DrcFrame_trans l f hf s

/-! The operations of the DRAM controller, each within the frame. -/

theorem clearFlips_frame (s : State) (p : Nat) (l : List Nat) : DrcFrame s (s.clearFlips p l) := DrcFrame_withDram ..
theorem setValid_frame (s : State) (p m : Nat) : DrcFrame s (s.setValid p m) :=
  DrcFrame_trans (DrcFrame_withDram s _) (clearFlips_frame ..)
theorem putChecks_frame (s : State) (p : Nat) (c : List Nat) : DrcFrame s (s.putChecks p c) :=
  DrcFrame_trans (DrcFrame_withDram s _) (clearFlips_frame ..)
theorem cachePage_frame (s : State) (p : Nat) (c : List Nat) : DrcFrame s (s.cachePage p c) := DrcFrame_withDram ..
theorem dropCached_frame (s : State) (p : Nat) : DrcFrame s (s.dropCached p) := DrcFrame_withDram ..
theorem waitAt_frame (s : State) (p : Nat) (w : WaitOp) : DrcFrame s (s.waitAt p w) := DrcFrame_withDram ..
theorem upset_frame (s : State) (l : List (Nat × Nat)) : DrcFrame s (s.upset l) :=
  DrcFrame_forEach l _ (fun _ s => DrcFrame_withDram s _) s

/-- A record of the retention log stays within the frame. -/
theorem log_frame (s : State) (k c : Nat) (b : List Byte) : DrcFrame s (s.log k c b) := by
  unfold State.log
  dsimp only
  split
  · split
    · exact DrcFrame_withFlt ..
    · exact DrcFrame_event ..
  · exact DrcFrame_withFlt ..

theorem retire_frame (s : State) (p r : Nat) : DrcFrame s (s.retire p r) :=
  DrcFrame_trans (DrcFrame_trans (DrcFrame_withDram s _) (DrcFrame_fail _ _ _ _ _)) (DrcFrame_withFlt _ _)

theorem spareRow_frame (s : State) (p r : Nat) : DrcFrame s (s.spareRow p r) := by
  unfold State.spareRow
  split
  · exact DrcFrame_refl s
  · split
    · exact DrcFrame_withDram ..
    · exact retire_frame ..

theorem bucketAdd_frame (s : State) (p n : Nat) : DrcFrame s (s.bucketAdd p n) := by
  unfold State.bucketAdd
  dsimp only
  split
  · exact DrcFrame_trans (DrcFrame_withDram s _) (DrcFrame_event _ _ _)
  · exact DrcFrame_withDram ..

theorem rowError_frame (s : State) (p r n : Nat) (m : Bool) : DrcFrame s (s.rowError p r n m) := by
  unfold State.rowError
  dsimp only
  split
  · exact DrcFrame_trans (DrcFrame_withDram s _) (spareRow_frame _ _ _)
  · exact DrcFrame_withDram ..

theorem countWords_frame (s : State) (p n : Nat) : DrcFrame s (s.countWords p n) :=
  DrcFrame_trans (DrcFrame_bump s ..) (DrcFrame_bump _ ..)

theorem correct_frame (s : State) (p r : Nat) (l : List Nat) : DrcFrame s (s.correct p r l) := by
  have h := fun n => DrcFrame_trans (countWords_frame s p n)
    (DrcFrame_when _ (decide (r < 6)) (fun s => s.addSlip r (2 * n)) (DrcFrame_addSlip _ _ _))
  unfold State.correct
  dsimp only
  split
  · exact h _
  · exact DrcFrame_trans (h _) (DrcFrame_trans (bucketAdd_frame ..) (rowError_frame ..))

theorem uncorrectable_frame (s : State) (p r l : Nat) : DrcFrame s (s.uncorrectable p r l) := by
  unfold State.uncorrectable
  dsimp only
  refine DrcFrame_trans ?_ (rowError_frame ..)
  refine DrcFrame_trans ?_ (DrcFrame_withFlt _ _)
  refine DrcFrame_trans ?_ (DrcFrame_fault ..)
  refine DrcFrame_trans ?_ (DrcFrame_fail ..)
  refine DrcFrame_trans ?_ (DrcFrame_bump ..)
  refine DrcFrame_trans ?_ (DrcFrame_bump ..)
  refine DrcFrame_trans ?_ (DrcFrame_setRfld ..)
  refine DrcFrame_trans ?_ (DrcFrame_setReg ..)
  refine DrcFrame_trans ?_ (DrcFrame_setReg ..)
  refine DrcFrame_trans ?_ (DrcFrame_setReg ..)
  refine DrcFrame_trans ?_ (DrcFrame_setReg ..)
  refine DrcFrame_trans ?_ (setValid_frame ..)
  refine DrcFrame_trans ?_ (putChecks_frame ..)
  refine DrcFrame_trans ?_ (clearFlips_frame ..)
  refine DrcFrame_forEach _ _ (fun w s => DrcFrame_forEach _ _ (fun k s => DrcFrame_setByte s _ _ ?_) s) s
  unfold pageAddr; omega

theorem reconstruct_frame (s : State) (p r : Nat) : DrcFrame s (s.reconstruct p r).1 := by
  have h := fun n k => DrcFrame_trans (DrcFrame_trans (DrcFrame_trans (DrcFrame_bump s pgDrc 0x20 16 16 1)
    (DrcFrame_bump _ (chReg (chanOf p)).1 (chReg (chanOf p)).2 16 16 1)) (countWords_frame _ p n)) (bucketAdd_frame _ p k)
  unfold State.reconstruct
  dsimp only
  split
  · exact DrcFrame_trans (h _ _) (uncorrectable_frame ..)
  · split
    · exact DrcFrame_trans (h _ _) (DrcFrame_trans (clearFlips_frame ..) (rowError_frame ..))
    · exact DrcFrame_trans (h _ _) (uncorrectable_frame ..)

/-- A change made by one of two ways. -/
theorem DrcFrame_ite {s t u : State} (c : Prop) [Decidable c] (ht : DrcFrame s t) (hu : DrcFrame s u) :
    DrcFrame s (if c then t else u) := by split <;> assumption

theorem applyMerge_frame (s : State) (m : Merge) : DrcFrame s (s.applyMerge m) := by
  have ha : ∀ o, dramBase ≤ pageAddr m.page + o := fun o => by unfold pageAddr; omega
  have hb : ∀ f : Nat → State → State, (∀ o s, f o s = s ∨ ∃ b, f o s = s.setByte (pageAddr m.page + o) b) →
      DrcFrame s (forEach (List.range 1024) f s) := fun f hf =>
    DrcFrame_forEach _ _ (fun o s => by
      rcases hf o s with h | ⟨b, h⟩ <;> rw [h]
      · exact DrcFrame_refl _
      · exact DrcFrame_setByte _ _ _ (ha _)) s
  unfold State.applyMerge
  extract_lets p old new fresh s1 changed c0 c s2 s3 bad
  have h1 : DrcFrame s s1 := hb _ fun o s => by
    split
    · exact .inr ⟨_, rfl⟩
    · split
      · exact .inr ⟨_, rfl⟩
      · exact .inl rfl
  have h2 : DrcFrame s s2 := DrcFrame_trans h1 (DrcFrame_trans (clearFlips_frame ..) (putChecks_frame ..))
  have h3 : DrcFrame s s3 := DrcFrame_ite _ h2 (DrcFrame_trans h2 (cachePage_frame ..))
  exact DrcFrame_ite _ (DrcFrame_trans h3 (setValid_frame ..)) h3

theorem drainPage_frame (s : State) (p r : Nat) : DrcFrame s (s.drainPage p r) := by
  unfold State.drainPage
  split
  · exact DrcFrame_refl s
  · extract_lets s1 ws s2
    have h1 : DrcFrame s s1 := DrcFrame_withDram ..
    have h2 : DrcFrame s s2 :=
      DrcFrame_ite _ (DrcFrame_trans h1 (reconstruct_frame ..)) (DrcFrame_trans h1 (correct_frame ..))
    exact DrcFrame_ite _ h1 (DrcFrame_ite _ h2 (DrcFrame_trans h2 (applyMerge_frame ..)))

/-- An entry spilled from a channel that holds 24 stays within the frame. -/
theorem spill_frame {s t : State} (h : DrcFrame s t) (c r : Nat) :
    DrcFrame s (if 24 ≤ t.mergeCount c then
      match t.dram.merge.find? fun m => chanOf m.page == c with
      | some m => (if (lockOf t.dram m.page).isSome then t.waitAt m.page .drain else t.drainPage m.page r, true)
      | none => (t, true)
    else (t, true)).1 := by
  split
  · split
    · exact DrcFrame_ite _ (DrcFrame_trans h (waitAt_frame ..)) (DrcFrame_trans h (drainPage_frame ..))
    · exact h
  · exact h

theorem writeSector_frame (s : State) (r a : Nat) (b : List (Option Byte)) : DrcFrame s (s.writeSector r a b).1 := by
  unfold State.writeSector
  dsimp only
  split
  · exact DrcFrame_fail ..
  · refine spill_frame ?_ _ _
    split
    · exact DrcFrame_trans (DrcFrame_trans (DrcFrame_withDram s _) (DrcFrame_maxRfld ..)) (drainPage_frame ..)
    · exact DrcFrame_trans (DrcFrame_withDram s _) (DrcFrame_maxRfld ..)

theorem respond_frame (s : State) (r a x : Nat) : DrcFrame s (s.respond r a x).1 := by
  unfold State.respond
  dsimp only
  split
  · exact DrcFrame_fail ..
  · exact correct_frame ..

/-- The measured time of a reconstruction added to an engine's slip stays within the frame. -/
theorem slipFree_frame (s : State) (r n : Nat) : DrcFrame s ((s.addSlip r n).drawn) :=
  DrcFrame_trans (DrcFrame_addSlip ..) (DrcFrame_drawn _)

/-- A response after a reconstruction stays within the frame. -/
theorem recovered_frame (s : State) (c : Bool) (f : State → State) (hf : DrcFrame s (f s)) (p r a : Nat) :
    DrcFrame s (((s.when c f).reconstruct p r).1.respond r a ((s.when c f).reconstruct p r).2).1 :=
  DrcFrame_trans (DrcFrame_when s c f hf) (DrcFrame_trans (reconstruct_frame ..) (respond_frame ..))

theorem readNow_frame (s : State) (r a : Nat) : DrcFrame s (s.readNow r a).1 := by
  rw [State.readNow]
  split
  · exact recovered_frame s _ _ (slipFree_frame s r _) _ r a
  · exact respond_frame ..

theorem invalSectors_frame (s : State) (p m : Nat) : DrcFrame s (s.invalSectors p m) := by
  unfold State.invalSectors
  dsimp only
  exact DrcFrame_ite _ (drainPage_frame ..) (DrcFrame_trans (drainPage_frame s p 10) (setValid_frame ..))

/-! Locks and what waits at them. -/

theorem perform_frame (s : State) (p : Nat) (w : WaitOp) (x : Nat) : DrcFrame s (s.perform p w x) := by
  have hw : ∀ r n, DrcFrame s (s.waited r n) := fun r n => DrcFrame_when _ _ _ (DrcFrame_addSlip ..)
  unfold State.perform
  split
  · exact waitAt_frame ..
  · split
    · dsimp only [State.answer]
      refine DrcFrame_trans ?_ (DrcFrame_withDram _ _)
      split
      · exact DrcFrame_trans (hw ..) (readNow_frame ..)
      · exact DrcFrame_trans (hw ..) (respond_frame ..)
    · exact DrcFrame_trans (hw ..) (writeSector_frame ..)
    · exact invalSectors_frame ..
    · exact drainPage_frame ..

theorem release_frame (s : State) (l : PageLock) (x : Nat) : DrcFrame s (s.release l x) := by
  unfold State.release
  dsimp only
  split
  · exact DrcFrame_withDram ..
  · exact DrcFrame_trans (DrcFrame_withDram s _)
      (DrcFrame_trans (perform_frame ..) (DrcFrame_forEach _ _ (fun _ _ => perform_frame ..) _))

theorem reconDone_frame (s : State) (l : PageLock) : DrcFrame s (s.reconDone l) :=
  DrcFrame_trans (reconstruct_frame s l.page l.req) (release_frame ..)

theorem copyDone_frame (s : State) (p : Nat) : DrcFrame s (s.copyDone p) := by
  unfold State.copyDone
  extract_lets s0 bad s2 r s3 s4
  have h0 : DrcFrame s s0 := drainPage_frame ..
  have h2 : DrcFrame s s2 := DrcFrame_ite _ h0 (DrcFrame_ite _ (DrcFrame_trans h0 (reconstruct_frame ..))
    (DrcFrame_trans h0 (DrcFrame_trans (correct_frame ..) (clearFlips_frame ..))))
  have h4 : DrcFrame s s4 := DrcFrame_trans (DrcFrame_trans h2 (DrcFrame_withDram ..))
    (DrcFrame_trans (DrcFrame_bump ..) (DrcFrame_trans (log_frame ..) (DrcFrame_event ..)))
  split
  · exact DrcFrame_trans h4 (release_frame ..)
  · exact h4

theorem unlocked_frame (s : State) (p r : Nat) : DrcFrame s (s.unlocked p r) := by
  unfold State.unlocked
  refine DrcFrame_forEach _ _ (fun _ s => ?_) s
  split
  · rename_i l _
    have h := DrcFrame_when s (decide (r < 6)) (fun s => (s.addSlip r (s.freeWord.toNat % 2 ^ 16)).drawn) (slipFree_frame s r _)
    exact DrcFrame_ite _ (DrcFrame_trans h (copyDone_frame ..)) (DrcFrame_trans h (reconDone_frame ..))
  · exact DrcFrame_refl s

theorem unlockAll_frame (s : State) : DrcFrame s s.unlockAll := DrcFrame_forEach _ _ (fun _ _ => unlocked_frame ..) s

theorem drainAll_frame (s : State) : DrcFrame s s.drainAll :=
  DrcFrame_trans (unlockAll_frame s) (DrcFrame_forEach _ _ (fun _ _ => drainPage_frame ..) _)

theorem drained_frame (s : State) : DrcFrame s s.drained := DrcFrame_when _ _ _ (DrcFrame_withDram ..)

theorem readSector_frame (s : State) (r a : Nat) : DrcFrame s (s.readSector r a).1 :=
  DrcFrame_trans (unlocked_frame s (pageNum a) r) (readNow_frame ..)

theorem grant_frame (s : State) (p i n l : Nat) : DrcFrame s (s.grant p i n l) := by
  unfold State.grant
  dsimp only
  exact DrcFrame_ite _ (DrcFrame_ite _ (DrcFrame_trans (DrcFrame_bump s ..) (DrcFrame_bump ..)) (DrcFrame_bump ..)) (DrcFrame_refl s)

theorem granted_frame (s : State) (w a : Nat) : DrcFrame s (s.granted w a) := grant_frame ..

/-- A fold of changes that answer something, whose answers are gathered beside the state, stays within the frame. -/
theorem gather_frame {α β γ : Type} (g : State → α → State × γ) (k : β → γ → β) (hg : ∀ s a, DrcFrame s (g s a).1)
    (l : List α) (x : State × β) :
    DrcFrame x.1 (l.foldl (fun (x : State × β) a => ((g x.1 a).1, k x.2 (g x.1 a).2)) x).1 := by
  induction l generalizing x with
  | nil => exact DrcFrame_refl _
  | cons a l ih => exact DrcFrame_trans (hg x.1 a) (ih ((g x.1 a).1, k x.2 (g x.1 a).2))

/-- The sectors of a read stay within the frame. -/
theorem readSectors_frame (s : State) (w : Nat) (l : List Nat) (v : RangeRead) :
    DrcFrame s (l.foldl (fun (x : State × RangeRead) b =>
      let y := (x.1.granted w b).readSector (w % 16) b
      (y.1, ⟨x.2.data ++ y.2.data, x.2.valid && y.2.valid, x.2.poison || y.2.poison, x.2.error || y.2.error⟩)) (s, v)).1 := by
  induction l generalizing s v with
  | nil => exact DrcFrame_refl _
  | cons a l ih =>
    rw [List.foldl_cons]
    exact DrcFrame_trans (DrcFrame_trans (granted_frame s w a) (readSector_frame ..)) (ih _ _)

/-- A read of DRAM stays within the frame. -/
theorem dramRead_frame (s : State) (w a n : Nat) : DrcFrame s (s.dramRead w a n).1 := by
  rw [State.dramRead]
  exact readSectors_frame s w _ _

/-- A write of DRAM stays within the frame. -/
theorem dramWrite_frame (s : State) (w a : Nat) (b : List Byte) : DrcFrame s (s.dramWrite w a b).1 := by
  rw [State.dramWrite]
  generalize sectorsOf a b.length = l
  exact gather_frame
    (fun s k => ((s.granted w k).unlocked (pageNum k) (w % 16)).writeSector (w % 16) (max a k)
      (((b.drop (max a k - a)).take (k + 64 - max a k)).map some))
    (fun (v : Bool) y => v || !y) (fun s k => DrcFrame_trans (granted_frame s w k)
      (DrcFrame_trans (unlocked_frame ..) (writeSector_frame ..))) l (s, false)

theorem invalRange_frame (s : State) (r a n : Nat) (held : List Nat) : DrcFrame s (s.invalRange r a n held) := by
  unfold State.invalRange
  split
  · exact DrcFrame_cause ..
  · split
    · exact DrcFrame_refl s
    · exact DrcFrame_trans (DrcFrame_trans (DrcFrame_forEach _ _ (fun _ _ => drainPage_frame ..) s) (DrcFrame_withDram _ _))
        (DrcFrame_forEach _ _ (fun _ _ => invalSectors_frame ..) _)

theorem invalidate_frame (s : State) (a n : Nat) : DrcFrame s (s.invalidate a n) :=
  DrcFrame_trans (DrcFrame_forEach _ _ (fun _ _ => unlocked_frame ..) s) (invalRange_frame ..)

/-! The other operations that change memory keep its form. -/

/-- Keeping some bytes keeps the form. -/
theorem memoryWf_filter (m : List Host.Cell) (p : Host.Cell → Bool) (h : memoryWf m = true) : memoryWf (m.filter p) = true :=
  swf_filter _ p m h

/-- A tile emptied keeps the memory's form. -/
theorem clearTile_memoryWf (s : State) (t : Nat) (h : memoryWf s.mem = true) : memoryWf (s.clearTile t).mem = true :=
  memoryWf_filter _ _ h

/-- A bank group that changes state keeps the memory's form. -/
theorem powerDone_memoryWf (s : State) (t g : Nat) (b : Bool) (h : memoryWf s.mem = true) :
    memoryWf (s.powerDone t g b).mem = true := by
  unfold State.powerDone
  dsimp only
  split
  · exact h
  · split
    · exact h
    · rw [event_mem]
      split
      · exact memoryWf_filter _ _ h
      · exact h

/-- A refused access of the fabric port changes only the tile's registers, events and log. -/
theorem fabRefuse_mem (s : State) (t : Nat) (f : Nat × Nat) : (s.fabRefuse t f).mem = s.mem := by
  unfold State.fabRefuse
  dsimp only
  split <;> simp [State.smemCause]

/-- A write through either path keeps the memory's form. -/
theorem memWrite_memoryWf (s : State) (r a : Nat) (b : List Byte) (h : memoryWf s.mem = true) :
    memoryWf (s.memWrite r a b).1.mem = true := by
  unfold State.memWrite
  split
  · exact (dramWrite_frame s r a b).memoryWf h
  · split
    · split
      · rw [fabRefuse_mem]; exact h
      · exact tileWrite_memoryWf _ _ _ _ h
    · exact h

/-- A read through either path keeps the memory's form. -/
theorem memRead_memoryWf (s : State) (r a n : Nat) (h : memoryWf s.mem = true) : memoryWf (s.memRead r a n).1.mem = true := by
  unfold State.memRead
  split
  · exact (dramRead_frame s r a n).memoryWf h
  · split
    · split
      · rw [fabRefuse_mem]; exact h
      · exact h
    · exact h

end Sys2Proof.Machine
end

