-- ==== Sys2Proof/Laws/Settle.lean ====
section
/-! SUPPORT. What the end of a command can do: nothing in a settled state, and with no work waiting only REPLACE_N and its
event follow. -/

namespace Sys2Proof.Machine

open Sys2Proof

/-- The conditions of R353 look at engines, tiles, retired pages and lanes. -/
theorem replaceDue_congr {s t : State} (he : t.engines = s.engines) (ht : t.tiles = s.tiles) (hd : t.dram.retired = s.dram.retired)
    (hg : t.cal.gusset = s.cal.gusset) (hl : t.cal.lanes = s.cal.lanes) : t.replaceDue = s.replaceDue := by
  unfold State.replaceDue State.exhausted State.hasFailedLane State.gussetsFree State.lane State.eng State.tile
  rw [he, ht, hd, hg, hl]

/-- The conditions after an event. -/
@[simp] theorem event_replaceDue (s : State) (p b : Nat) : (s.event p b).replaceDue = s.replaceDue :=
  replaceDue_congr (by simp) (by simp) (by simp) (by simp) (by simp)

/-- The conditions do not look at the fault manager. -/
@[simp] theorem withFlt_replaceDue (s : State) (f : Flt) : ({ s with flt := f } : State).replaceDue = s.replaceDue :=
  replaceDue_congr rfl rfl rfl rfl rfl

/-- REPLACE_N shows its conditions. -/
theorem checkReplace_replaced (s : State) : s.checkReplace.flt.replaced = s.checkReplace.replaceDue := by
  unfold State.checkReplace
  dsimp only
  split
  · rename_i h; exact h.symm
  · split <;> simp

/-- A state whose REPLACE_N shows its conditions stays. -/
theorem checkReplace_same {s : State} (h : s.flt.replaced = s.replaceDue) : s.checkReplace = s := by
  simp [State.checkReplace, h]

/-- With no work waiting, the end of a command is REPLACE_N's check. -/
theorem settle_of_quiet {s : State} (h : s.flt.due = []) : s.settle = s.checkReplace := by
  simp [State.settle, State.actAll, h]

/-- In a settled state the end of a command changes nothing. -/
theorem settle_of_settled {s : State} (h : s.settled) : s.settle = s := by
  rw [settle_of_quiet h.1, checkReplace_same h.2]

/-- A meaning whose state is settled answers it. -/
theorem done_of_settled {s : State} (h : s.settled) : done s = .next s := by rw [done, settle_of_settled h]

/-- A meaning whose operation gives a settled state answers it. -/
theorem done_eq {s t : State} (h : s = t) (ht : t.settled) : done s = .next t := by rw [h, done_of_settled ht]

/-- A state as settled as another whose engines, tiles, retired pages, lanes and waiting work it shares. -/
theorem settled_congr {s t : State} (h : s.settled) (he : t.engines = s.engines) (ht : t.tiles = s.tiles)
    (hd : t.dram.retired = s.dram.retired) (hg : t.cal.gusset = s.cal.gusset) (hl : t.cal.lanes = s.cal.lanes) (hq : t.flt.due = s.flt.due)
    (hr : t.flt.replaced = s.flt.replaced) : t.settled :=
  ⟨hq.trans h.1, by rw [hr, h.2, replaceDue_congr he ht hd hg hl]⟩

/-- REPLACE_N's check changes nothing, the request alone, or the request with its event. -/
theorem checkReplace_cases (s : State) :
    s.checkReplace = s ∨ s.checkReplace = { s with flt := { s.flt with replaced := s.replaceDue } } ∨
      s.checkReplace = ({ s with flt := { s.flt with replaced := s.replaceDue } } : State).event pgFlt 3 := by
  unfold State.checkReplace
  dsimp only
  split
  · exact .inl rfl
  · split
    · exact .inr (.inr rfl)
    · exact .inr (.inl rfl)

@[simp] theorem checkReplace_pending (s : State) : s.checkReplace.pending = s.pending := by
  rcases checkReplace_cases s with h | h | h <;> rw [h]
  exact event_pending ..
@[simp] theorem checkReplace_free (s : State) : s.checkReplace.free = s.free := by
  rcases checkReplace_cases s with h | h | h <;> rw [h]
  exact event_free ..
@[simp] theorem checkReplace_out (s : State) : s.checkReplace.out = s.out := by
  rcases checkReplace_cases s with h | h | h <;> rw [h]
  exact event_out ..
@[simp] theorem checkReplace_clk (s : State) : s.checkReplace.clk = s.clk := by
  rcases checkReplace_cases s with h | h | h <;> rw [h]
  exact event_clk ..
@[simp] theorem checkReplace_pins (s : State) : s.checkReplace.pins = s.pins := by
  rcases checkReplace_cases s with h | h | h <;> rw [h]
  exact event_pins ..
@[simp] theorem checkReplace_holds (s : State) : s.checkReplace.holds = s.holds := by
  rcases checkReplace_cases s with h | h | h <;> rw [h]
  exact event_holds ..
@[simp] theorem checkReplace_pwr (s : State) : s.checkReplace.pwr = s.pwr := by
  rcases checkReplace_cases s with h | h | h <;> rw [h]
  exact event_pwr ..
@[simp] theorem checkReplace_sup (s : State) : s.checkReplace.sup = s.sup := by
  rcases checkReplace_cases s with h | h | h <;> rw [h]
  exact event_sup ..
@[simp] theorem checkReplace_fuse (s : State) : s.checkReplace.fuse = s.fuse := by
  rcases checkReplace_cases s with h | h | h <;> rw [h]
  exact event_fuse ..
@[simp] theorem checkReplace_cam (s : State) : s.checkReplace.cam = s.cam := by
  rcases checkReplace_cases s with h | h | h <;> rw [h]
  exact event_cam ..
@[simp] theorem checkReplace_slots (s : State) : s.checkReplace.slots = s.slots := by
  rcases checkReplace_cases s with h | h | h <;> rw [h]
  exact event_slots ..
@[simp] theorem checkReplace_pset (s : State) : s.checkReplace.pset = s.pset := by
  rcases checkReplace_cases s with h | h | h <;> rw [h]
  exact event_pset ..
@[simp] theorem checkReplace_live (s : State) : s.checkReplace.live = s.live := by
  rcases checkReplace_cases s with h | h | h <;> rw [h]
  exact event_live ..
@[simp] theorem checkReplace_strms (s : State) : s.checkReplace.strms = s.strms := by
  rcases checkReplace_cases s with h | h | h <;> rw [h]
  exact event_strms ..
@[simp] theorem checkReplace_engines (s : State) : s.checkReplace.engines = s.engines := by
  rcases checkReplace_cases s with h | h | h <;> rw [h]
  exact event_engines ..
@[simp] theorem checkReplace_tiles (s : State) : s.checkReplace.tiles = s.tiles := by
  rcases checkReplace_cases s with h | h | h <;> rw [h]
  exact event_tiles ..
@[simp] theorem checkReplace_sched (s : State) : s.checkReplace.sched = s.sched := by
  rcases checkReplace_cases s with h | h | h <;> rw [h]
  exact event_sched ..
@[simp] theorem checkReplace_admits (s : State) : s.checkReplace.admits = s.admits := by
  rcases checkReplace_cases s with h | h | h <;> rw [h]
  exact event_admits ..
@[simp] theorem checkReplace_jobs (s : State) : s.checkReplace.jobs = s.jobs := by
  rcases checkReplace_cases s with h | h | h <;> rw [h]
  exact event_jobs ..
@[simp] theorem checkReplace_images (s : State) : s.checkReplace.images = s.images := by
  rcases checkReplace_cases s with h | h | h <;> rw [h]
  exact event_images ..
@[simp] theorem checkReplace_load (s : State) : s.checkReplace.load = s.load := by
  rcases checkReplace_cases s with h | h | h <;> rw [h]
  exact event_load ..
@[simp] theorem checkReplace_mem (s : State) : s.checkReplace.mem = s.mem := by
  rcases checkReplace_cases s with h | h | h <;> rw [h]
  exact event_mem ..
@[simp] theorem checkReplace_dram (s : State) : s.checkReplace.dram = s.dram := by
  rcases checkReplace_cases s with h | h | h <;> rw [h]
  exact event_dram ..
@[simp] theorem checkReplace_cal (s : State) : s.checkReplace.cal = s.cal := by
  rcases checkReplace_cases s with h | h | h <;> rw [h]
  exact event_cal ..
@[simp] theorem checkReplace_queues (s : State) : s.checkReplace.queues = s.queues := by
  rcases checkReplace_cases s with h | h | h <;> rw [h]
  exact event_queues ..
@[simp] theorem checkReplace_channels (s : State) : s.checkReplace.channels = s.channels := by
  rcases checkReplace_cases s with h | h | h <;> rw [h]
  exact event_channels ..
@[simp] theorem checkReplace_sec (s : State) : s.checkReplace.sec = s.sec := by
  rcases checkReplace_cases s with h | h | h <;> rw [h]
  exact event_sec ..
@[simp] theorem checkReplace_net_ports (s : State) : s.checkReplace.net.ports = s.net.ports := by
  rcases checkReplace_cases s with h | h | h <;> rw [h]
  exact event_net_ports ..
@[simp] theorem checkReplace_net_sessions (s : State) : s.checkReplace.net.sessions = s.net.sessions := by
  rcases checkReplace_cases s with h | h | h <;> rw [h]
  exact event_net_sessions ..
@[simp] theorem checkReplace_net_exchanges (s : State) : s.checkReplace.net.exchanges = s.net.exchanges := by
  rcases checkReplace_cases s with h | h | h <;> rw [h]
  exact event_net_exchanges ..
@[simp] theorem checkReplace_net_avtp (s : State) : s.checkReplace.net.avtp = s.net.avtp := by
  rcases checkReplace_cases s with h | h | h <;> rw [h]
  exact event_net_avtp ..
@[simp] theorem checkReplace_net_reserved (s : State) : s.checkReplace.net.reserved = s.net.reserved := by
  rcases checkReplace_cases s with h | h | h <;> rw [h]
  exact event_net_reserved ..
@[simp] theorem checkReplace_net_video (s : State) : s.checkReplace.net.video = s.net.video := by
  rcases checkReplace_cases s with h | h | h <;> rw [h]
  exact event_net_video ..
@[simp] theorem checkReplace_net_locked (s : State) : s.checkReplace.net.locked = s.net.locked := by
  rcases checkReplace_cases s with h | h | h <;> rw [h]
  exact event_net_locked ..
@[simp] theorem checkReplace_net_grandmaster (s : State) : s.checkReplace.net.grandmaster = s.net.grandmaster := by
  rcases checkReplace_cases s with h | h | h <;> rw [h]
  exact event_net_grandmaster ..
@[simp] theorem checkReplace_net_groups (s : State) : s.checkReplace.net.groups = s.net.groups := by
  rcases checkReplace_cases s with h | h | h <;> rw [h]
  exact event_net_groups ..
@[simp] theorem checkReplace_flt_deviceFault (s : State) : s.checkReplace.flt.deviceFault = s.flt.deviceFault := by
  rcases checkReplace_cases s with h | h | h <;> rw [h]
  rw [event_flt]
@[simp] theorem checkReplace_flt_standing (s : State) : s.checkReplace.flt.standing = s.flt.standing := by
  rcases checkReplace_cases s with h | h | h <;> rw [h]
  rw [event_flt]
@[simp] theorem checkReplace_flt_journal (s : State) : s.checkReplace.flt.journal = s.flt.journal := by
  rcases checkReplace_cases s with h | h | h <;> rw [h]
  rw [event_flt]
@[simp] theorem checkReplace_flt_head (s : State) : s.checkReplace.flt.head = s.flt.head := by
  rcases checkReplace_cases s with h | h | h <;> rw [h]
  rw [event_flt]
@[simp] theorem checkReplace_flt_seq (s : State) : s.checkReplace.flt.seq = s.flt.seq := by
  rcases checkReplace_cases s with h | h | h <;> rw [h]
  rw [event_flt]
@[simp] theorem checkReplace_flt_lastReset (s : State) : s.checkReplace.flt.lastReset = s.flt.lastReset := by
  rcases checkReplace_cases s with h | h | h <;> rw [h]
  rw [event_flt]
@[simp] theorem checkReplace_flt_warmCount (s : State) : s.checkReplace.flt.warmCount = s.flt.warmCount := by
  rcases checkReplace_cases s with h | h | h <;> rw [h]
  rw [event_flt]
@[simp] theorem checkReplace_flt_due (s : State) : s.checkReplace.flt.due = s.flt.due := by
  rcases checkReplace_cases s with h | h | h <;> rw [h]
  rw [event_flt]
@[simp] theorem checkReplace_slot (s : State) (j : Nat) : s.checkReplace.slot j = s.slot j := by
  rcases checkReplace_cases s with h | h | h <;> rw [h] <;> try rfl
  exact event_slot ..
@[simp] theorem checkReplace_port (s : State) (j : Nat) : s.checkReplace.port j = s.port j := by
  rcases checkReplace_cases s with h | h | h <;> rw [h] <;> try rfl
  exact event_port ..
@[simp] theorem checkReplace_strm (s : State) (j : Nat) : s.checkReplace.strm j = s.strm j := by
  rcases checkReplace_cases s with h | h | h <;> rw [h] <;> try rfl
  exact event_strm ..
@[simp] theorem checkReplace_eng (s : State) (j : Nat) : s.checkReplace.eng j = s.eng j := by
  rcases checkReplace_cases s with h | h | h <;> rw [h] <;> try rfl
  exact event_eng ..
@[simp] theorem checkReplace_tile (s : State) (j : Nat) : s.checkReplace.tile j = s.tile j := by
  rcases checkReplace_cases s with h | h | h <;> rw [h] <;> try rfl
  exact event_tile ..
@[simp] theorem checkReplace_job (s : State) (j : Nat) : s.checkReplace.job j = s.job j := by
  rcases checkReplace_cases s with h | h | h <;> rw [h] <;> try rfl
  exact event_job ..
@[simp] theorem checkReplace_queue (s : State) (j : Nat) : s.checkReplace.queue j = s.queue j := by
  rcases checkReplace_cases s with h | h | h <;> rw [h] <;> try rfl
  exact event_queue ..
@[simp] theorem checkReplace_chan (s : State) (j : Nat) : s.checkReplace.chan j = s.chan j := by
  rcases checkReplace_cases s with h | h | h <;> rw [h] <;> try rfl
  exact event_chan ..
@[simp] theorem checkReplace_sess (s : State) (j : Nat) : s.checkReplace.sess j = s.sess j := by
  rcases checkReplace_cases s with h | h | h <;> rw [h] <;> try rfl
  exact event_sess ..
@[simp] theorem checkReplace_eth (s : State) (j : Nat) : s.checkReplace.eth j = s.eth j := by
  rcases checkReplace_cases s with h | h | h <;> rw [h] <;> try rfl
  exact event_eth ..
@[simp] theorem checkReplace_group (s : State) (j : Nat) : s.checkReplace.group j = s.group j := by
  rcases checkReplace_cases s with h | h | h <;> rw [h] <;> try rfl
  exact event_group ..

/-- REPLACE_N's check leaves every register but FLT's event word. -/
theorem checkReplace_reg (s : State) (p o : Nat) (h : radr p o ≠ radr pgFlt 0x10) : s.checkReplace.reg p o = s.reg p o := by
  rcases checkReplace_cases s with e | e | e <;> rw [e] <;> try rfl
  rw [event_reg, if_neg h]; rfl

/-- REPLACE_N's check leaves memory. -/
@[simp] theorem checkReplace_byte (s : State) (a : Nat) : s.checkReplace.byte a = s.byte a := by
  unfold State.byte; rw [checkReplace_mem]

/-- What a command answers when its operation leaves no work. -/
theorem done_of_quiet {s : State} (h : s.flt.due = []) : done s = .next s.checkReplace := by rw [done, settle_of_quiet h]

/-- After every command that ends so, REPLACE_N shows its conditions (R353). -/
theorem settle_replaced (s : State) : s.settle.flt.replaced = s.settle.replaceDue := checkReplace_replaced _

/-! Updates that leave a settled state settled. -/

/-- An engine replaced by one as fenced as it was. -/
theorem setEng_replaceDue (s : State) (e : Nat) (v : Engine) (h : v.fenced = (s.eng e).fenced) :
    (s.setEng e v).replaceDue = s.replaceDue := by
  have hf : ∀ k, ((s.setEng e v).eng k).fenced = (s.eng k).fenced := by
    intro k
    simp only [setEng_eng]
    split
    · rename_i hk; rw [hk, h]
    · rfl
  have hx : ∀ c, (s.setEng e v).exhausted c = s.exhausted c ∧ (s.setEng e v).hasFailedLane c = s.hasFailedLane c := by
    intro c; exact ⟨rfl, rfl⟩
  simp only [State.replaceDue, hf, setEng_tile, setEng_dram, (hx _).1, (hx _).2]

/-- A tile replaced by one as faulted as it was. -/
theorem setTile_replaceDue (s : State) (t : Nat) (v : Tile) (h : v.faulted = (s.tile t).faulted) :
    (s.setTile t v).replaceDue = s.replaceDue := by
  have hf : ∀ k, ((s.setTile t v).tile k).faulted = (s.tile k).faulted := by
    intro k
    simp only [setTile_tile]
    split
    · rename_i hk; rw [hk, h]
    · rfl
  have hx : ∀ c, (s.setTile t v).exhausted c = s.exhausted c ∧ (s.setTile t v).hasFailedLane c = s.hasFailedLane c := by
    intro c; exact ⟨rfl, rfl⟩
  simp only [State.replaceDue, hf, setTile_eng, setTile_dram, (hx _).1, (hx _).2]

theorem settled_setEng {s : State} (h : s.settled) (e : Nat) (v : Engine) (hv : v.fenced = (s.eng e).fenced) :
    (s.setEng e v).settled := ⟨h.1, h.2.trans (setEng_replaceDue s e v hv).symm⟩
theorem settled_setTile {s : State} (h : s.settled) (t : Nat) (v : Tile) (hv : v.faulted = (s.tile t).faulted) :
    (s.setTile t v).settled := ⟨h.1, h.2.trans (setTile_replaceDue s t v hv).symm⟩
theorem settled_setReg {s : State} (h : s.settled) (p o : Nat) (w : Word) : (s.setReg p o w).settled := h
theorem settled_setRfld {s : State} (h : s.settled) (p o l w v : Nat) : (s.setRfld p o l w v).settled := h
theorem settled_bump {s : State} (h : s.settled) (p o l w n : Nat) : (s.bump p o l w n).settled := h
theorem settled_bumpWrap {s : State} (h : s.settled) (p o : Nat) : (s.bumpWrap p o).settled := h
theorem settled_maxRfld {s : State} (h : s.settled) (p o l w v : Nat) : (s.maxRfld p o l w v).settled := h
theorem settled_cause {s : State} (h : s.settled) (p c a : Nat) : (s.cause p c a).settled := h
theorem settled_setSlot {s : State} (h : s.settled) (i : Nat) (v : Slot) : (s.setSlot i v).settled := h
theorem settled_setPort {s : State} (h : s.settled) (i : Nat) (v : CamPort) : (s.setPort i v).settled := h
theorem settled_setStrm {s : State} (h : s.settled) (i : Nat) (v : Strm) : (s.setStrm i v).settled := h
theorem settled_setJob {s : State} (h : s.settled) (i : Nat) (v : Option Job) : (s.setJob i v).settled := h
theorem settled_setQueue {s : State} (h : s.settled) (i : Nat) (v : Queue) : (s.setQueue i v).settled := h
theorem settled_setChan {s : State} (h : s.settled) (i : Nat) (v : Channel) : (s.setChan i v).settled := h
theorem settled_setSess {s : State} (h : s.settled) (i : Nat) (v : Session) : (s.setSess i v).settled := h
theorem settled_setEth {s : State} (h : s.settled) (i : Nat) (v : EthPort) : (s.setEth i v).settled := h
theorem settled_setGroup {s : State} (h : s.settled) (i : Nat) (v : Option PeerGroup) : (s.setGroup i v).settled := h
theorem settled_drawn {s : State} (h : s.settled) : (s.drawn ).settled := h
theorem settled_emit {s : State} (h : s.settled) (x : Wire) : (s.emit x).settled := h
theorem settled_setByte {s : State} (h : s.settled) (a : Nat) (b : Byte) : (s.setByte a b).settled := h
theorem settled_event {s : State} (h : s.settled) (p b : Nat) : (s.event p b).settled :=
  settled_congr h (by simp) (by simp) (by simp) (by simp) (by simp) (by simp) (by simp)
theorem settled_record {s : State} (h : s.settled) (r : EventRec) : (s.record r).settled :=
  settled_congr h (by simp) (by simp) (by simp) (by simp) (by simp) (by simp) (by simp)
theorem settled_fail {s : State} (h : s.settled) (p b c a : Nat) : (s.fail p b c a).settled :=
  settled_congr h (by simp) (by simp) (by simp) (by simp) (by simp) (by simp) (by simp)
theorem settled_deviceEvent {s : State} (h : s.settled) (c x y n : Nat) : (s.deviceEvent c x y n).settled :=
  settled_congr h (by simp) (by simp) (by simp) (by simp) (by simp) (by simp) (by simp)
theorem settled_setBytes {s : State} (h : s.settled) (a : Nat) (l : List Byte) : (s.setBytes a l).settled :=
  settled_congr h (by simp) (by simp) (by simp) (by simp) (by simp) (by simp) (by simp)
theorem settled_log {s : State} (h : s.settled) (k c : Nat) (l : List Byte) : (s.log k c l).settled :=
  settled_congr h (by simp) (by simp) (by simp) (by simp) (by simp) (by simp) (by simp)
theorem settled_fault {s : State} (h : s.settled) (c u j : Nat) : (s.fault c u j).settled :=
  settled_congr h (by simp) (by simp) (by simp) (by simp) (by simp) (by simp) (by simp)

end Sys2Proof.Machine
end

