-- ==== Sys2Proof/Tests/Slice0.lean ====
section
/-! SUPPORT. The model's own tests: small states, worked examples of the spec with the spec's results, forms of command that the check
refuses, and for every statement of Obligations.lean that has hypotheses a state and operands that meet them. -/

open Sys2Proof Sys2Proof.Machine

namespace Sys2Proof.Tests

set_option Elab.async false


/-- A device that is up and ACTIVE, with its firmware running. -/
def up : State := { State.reset with
  pwr := { Pwr.reset with state := .active, step := 11, booting := false }
  sup := { Sup.reset with running := true } }

/-- A device whose DEVICE state is p. -/
def at_ (p : PState) : State := { up with pwr := { up.pwr with state := p } }

/-- A bring-up step that found nothing to report. -/
def noResult : StepResult := ⟨false, [], none, [], none, 0, [], [], [], ⟨[], [], [], none⟩⟩

/-- A device that enters STANDBY and has told domain d to switch off. -/
def switchingOff (d : Nat) : State := { at_ .idle with pwr := { (at_ .idle).pwr with
  trans := some ⟨.standby, false, true, offPlan⟩, switching := some (d, false) } }

/-- A device at `c` °C with stream 0 bound, and what is shed for heat. -/
def heated (c : Nat) (l : List Victim) : State := { up with
  pwr := { up.pwr with temps := List.replicate 18 c, heatShed := l }
  strms := [(0, { Strm.init with job := some 0 })] }

/-- Slot 0 of port p takes RAW10 frames of 64 × 16 every millisecond; the port is enabled and its link is up. -/
def camOn (p : Nat) : State :=
  { ((up.setReg (pgCam p) 8 1).setReg (pgCam p) 0xC 1).setReg (pgCam p) 0x120 0x2B01 with
    live := [(camA (4 * p), 0x2B00), (camA (4 * p) + 4, 0x100040), (camA (4 * p) + 8, 1000000)] }

/-- The open frame of such a slot, before its first row. -/
def rx : RxFrame := ⟨0, 64, 16, 1, 0x2B, false, [0], [], none, [], [0], [], 0, 0, 0, 0⟩

/-- The port with that frame open; the slot's part of the line store takes one of its rows. -/
def receiving (p : Nat) (r : RxFrame) : State := (camOn p).setSlot (4 * p) { Slot.init with rx := some r, count := 1, partBytes := 80 }

/-- A port with a CCI transaction under way. -/
def cciBusy (p : Nat) : State := (camOn p).setPort p { CamPort.init with cciBusy := true }

/-- A port that produces frame sync. -/
def syncing (p : Nat) : State := ((camOn p).setReg (pgCam p) 0x1C0 3).setPort p { CamPort.init with
  fsyncNext := 2000, fsyncPeriod := 100000, fsyncArmed := true }

/-- A frame of one band of 16 rows, with nothing of it in the ring. -/
def frame : Frame :=
  { seq := 0, rxCount := 1, tStart := 0, width := 64, height := 16, exps := 1, bandRows := 16, stripeW := 64, halo := 0,
    interval := 1000000, ts := 0, k := 0, cause := 0, pset := [], slot0 := 0, pairs := 0, ended := false, rows := 0,
    bands := [⟨none, 0, [.waiting], false, false, false, false⟩], flags := 0, extra := 0, widthLines := 0, crcs := 0, lost := 0,
    replayed := 0, firstLost := 0, zeroLen := false, aborted := false, outs := [], crops := [], listSeq := 0, stat := RawStat.init,
    luma := [], lumaPix := 0, prev := [], excluded := false }

/-- A binding entry of stream 0 with four ring slots and no queues. -/
def entry : BindEntry :=
  { stream := 0, imgStream := 0, priority := 0, persist := false, totalRows := 16, ringSlots := 4, ringBase := 0x1000000000,
    histBase := 0x1001000000, statusQ := 0xFFFF, statsQ := 0xFFFF, boxQ := 0xFFFF, dispQ := 0xFFFF, codeQ := 0xFFFF, visQ := 0xFFFF,
    cropQ := 0xFFFF, outBase := 0, outSize := 0, reservedZero := true }

/-- The rows of pair k in the line store of slot 0. -/
def twoRows (k : Nat) : Row × Row :=
  (⟨1, 0, 2 * k, List.replicate 64 5, false, false⟩, ⟨1, 0, 2 * k + 1, List.replicate 64 6, false, false⟩)

/-- Stream 0 with frame f in the pipeline and the next pair stored. -/
def pairReady (f : Frame) : State :=
  (up.setSlot 0 { Slot.init with store := [(twoRows f.pairs).1, (twoRows f.pairs).2] }).setStrm 0 { Strm.init with job := some 0, entry := some entry, frames := [f] }

/-- PSET_MASK names stream 0, whose staging holds RAW10 frames of 64 × 16; `en`: its slot is enabled. -/
def staged (en : Bool) : State :=
  let s := ((up.setReg pgRfe 0x100 1).setReg 0x100 0x120 (if en then 0x2B01 else 0x2B00)).setReg 0x100 0x124 0x100040
  if en then { s with live := [(camA 0, 0x2B00), (camA 0 + 4, 0x100040)] } else s

/-- A stripe of stream 0 of job 0. -/
def work : Work := ⟨false, 0, 0, 0, 0, 0, 0, false, 100⟩

/-- The stripe as it executes, having done nothing. -/
def stripe : Exec := ⟨work, 0, false, [], false, false, 0, 0, 0, 0, none, none, none, none, [], []⟩

/-- A region of job 0 that takes the first half MiB of its tile; `mode` 1 BOUND, 2 CIRCULAR. -/
def region (mode : Nat) : Region := { Region.unused with size := 4096, mode := mode }

/-- An engine in rotation that runs, with what else f gives it, and region 0 of its tile. -/
def engine (e : Nat) (f : Engine → Engine) : State :=
  ((up.setTile e { Tile.init with regions := [(0, region 1), (1, { region 2 with base := 4096 })] }).setEng e
    (f { Engine.init with inRotation := true })).setRfld (pgEng e) 8 0 1 1

/-- The engine with the stripe x executing. -/
def executing (e : Nat) (x : Exec) : State := engine e fun g => { g with exec := some x }

/-- An array of INT8 at the start of region 0, and of FP16 behind it. -/
def bytesAt : Arr := ⟨⟨0, 0⟩, .int8, 128, 128, ⟨0, 0⟩, 0⟩
def halvesAt : Arr := ⟨⟨0, 4096⟩, .fp16, 256, 256, ⟨0, 0⟩, 0⟩

/-- Conversion to FP16. -/
def toHalf : Conv := ⟨.fp16, 0, 0, false, 256, ⟨0, 0⟩, 0⟩

/-- The identity, and where results go. -/
def identity : FnCmd := ⟨0, 0, 0⟩
def result : Place := ⟨0, 65536⟩

def aWset : WsetCmd := ⟨⟨0, 0⟩, .int8, .int8⟩
def anMm : MmCmd := ⟨1, bytesAt, 7, 127, false, false, false, .clean⟩
def aDrain : DrainCmd := ⟨7, 127, 1, 128, true, some ⟨0, 0⟩, none, identity, toHalf, result, 256, none, .clean⟩
def aVop : VopCmd := ⟨.add, [halvesAt, halvesAt], 1, 128, 0, none, none, toHalf, result, 256, none, .clean⟩
def aVlut : VlutCmd := ⟨identity, halvesAt, 1, 128, toHalf, result, 256⟩
def aVred : VredCmd := ⟨.sum, true, none, halvesAt, 1, 128, toHalf, result, 2⟩
def anFft : FftCmd := ⟨8, false, ⟨0, 0⟩, 8, 1, 64⟩
def aMove : MoveCmd := ⟨.copy, ⟨0, 0⟩, 128, 1, result, 128, 1, 1, 1, 16, none⟩
def aPut : PutCmd := ⟨⟨0, 0⟩, 4, 5, 31, 9⟩

/-- A command may run at once, said in a form that evaluates. -/
theorem idleFor_of {s : State} {e : Nat} {x : Exec} {c : UnitCmd}
    (h : (s.eng e).running = some x ∧ x.signalled = false ∧ x.slipFrom = none ∧ (s.eng e).tack = none ∧
      (s.eng e).matrixQ = [] ∧ (s.eng e).vectorQ = [] ∧ (s.eng e).moverQ = [] ∧ c.needless = false ∧ s.landed e c = true ∧ s.badWords e (c.reads (s.eng e)) = none ∧
      (∀ r ∈ c.reads (s.eng e), s.spanFault e x.work.job false r = none) ∧
      (∀ r ∈ c.writes, s.spanFault e x.work.job true r = none)) : s.idleFor e x c := by
  obtain ⟨a, b, c, d, m, v, w, n, i, o, j, k⟩ := h
  exact ⟨a, b, c, d, fun u => by cases u <;> assumption, n, i, o, j, k⟩

/-- A stripe of the ready queue. -/
def readyStripe : ReadyEntry := ⟨work, 0, false, 0, [], 0, 0, false⟩

/-- A fetch of one line from the DRAM that job 0's image holds, and the device with that job. -/
def fetchOne : FetchEntry := ⟨none, none, 0x1000000000, 128, 1, 128⟩

/-- A binding of job 0 with one stream and no queues, and the job as it runs. -/
def binding : Binding :=
  { imageAddr := 0x1000000000, imageSize := 0x100000, job := 0, mode := 0, groupId := 0, outQ := 0xFFFF, eventQ := 0xFFFF,
    entries := [entry], reservedZero := true }
def job : Job :=
  { bind := binding, digest := 7, kind := 0, phase := .running, variant := false, step := 0, due := [], open_ := none,
    stepUnits := [], stepBufs := [], stepDeadline := 0, stepVariant := false, shed := false, committed := 0, restartAt := 0, restartClass := 0 }

/-- A line on the ring to region 1 of a tile, and the tile that waits for it. -/
def ringLine (k : Nat) : RingLine := ⟨0, 0, 1, 4096, k, List.replicate 128 7⟩
def lineDue (t : Nat) (l : RingLine) : State :=
  let s := engine t id
  s.setTile t { s.tile t with incoming := [l] }

/-- A tile whose region 0 holds two PERSIST lines, with the patrol on and about to read line k. -/
def patrolled (t k : Nat) : State := (up.setTile t { Tile.init with
  regions := [(0, { region 1 with size := 2, persist := true })], patrolPos := k }).setRfld (pgSmem t) 8 0 1 1

/-- A tile whose group g is to become r. -/
def changing (t g r : Nat) : State := up.setTile t { Tile.init with groups := [(g, ⟨0, some r⟩)] }

/-- Stream i with one frame of one band, which is ready and due by d. -/
def banded (i : Nat) (f : Frame) (x : Engine → Engine) : State :=
  { (engine 5 x).setStrm i { Strm.init with job := some 0, entry := some entry, frames := [f] } with jobs := [(0, some job)] }
def dueBy (d : Nat) : Frame := { frame with bands := [⟨some 0, d, [.placed], false, false, false, false⟩] }
def doneBand : Frame := { frame with bands := [⟨some 0, 5000, [.done], false, false, false, false⟩] }

/-- The item of that band. -/
def itemOf (d : Nat) : Item := ⟨false, 0, 0, 0, d⟩

/-- An image of one stream of 64 × 16 that passes every check, and a binding for it. -/
def image : Image :=
  { magicOk := true, format := 1, kind := 0, ha := false, group := false, persistOk := true, zeros := true, minRev := 0xB0,
    engines := 6, secVersion := 0, ewemas := 0, accNeed := 0, sbNeed := 0, basting := 4, userTables := 0, tileLines := 0, digest := 7,
    digestOk := true, signature := 1,
    sections := [1, 2, 3, 4, 5, 9, 0xA, 0x7F].zipIdx.map fun x => (x.1, true, 0x180 + 128 * x.2, 128), tiling := [],
    streams := [⟨64, 16, 16, 256, 0, 1, 0, 0, 0, 1, 2, 100, 100⟩], layers := [], fetchEntries := [], programBytes := 0,
    dataBytes := 0, regions := [], tj6 := 0, tj5 := 0, sched6Engines := 6, sched5Engines := 0, tensorUnits := [],
    tensorUnits5 := [], shapes := [], planned := [], taps := [], outputs := [], tables := [], members := 0, splits := false,
    lossMode := 0 }
def bindOne : Binding := { binding with
  imageAddr := 0x1100000000, imageSize := 0x1000, outQ := 0, entries := [{ entry with ringSlots := 48, statusQ := 1, statsQ := 2 }] }

/-- A command block of an opcode for job slot j, with the bytes of a binding, and the bytes of that binding. -/
def block (op j how : Nat) (b : List Byte) : List Byte :=
  leBytes 1 op ++ leBytes 1 j ++ leBytes 1 how ++ List.replicate 13 0 ++ b
def bindBytes (mode : Nat) : List Byte :=
  leBytes 8 0x1100000000 ++ leBytes 4 0x1000 ++ leBytes 1 0 ++ leBytes 1 mode ++ leBytes 1 1 ++ leBytes 1 0 ++ leBytes 2 0 ++
    leBytes 2 0xFFFF ++ List.replicate 44 0 ++ leBytes 4 0 ++ leBytes 2 16 ++ leBytes 2 48 ++ leBytes 8 0x1000000000 ++
    leBytes 8 0x1001000000 ++ leBytes 2 1 ++ leBytes 2 2 ++ leBytes 8 (2 ^ 64 - 1) ++ leBytes 2 0xFFFF ++ List.replicate 26 0

/-- A device with six engines in rotation, slot 0 and queues 1 and 2 enabled, an image resident, its DIGEST in the DRAM, and a command that
waits under tag 5. -/
def loadingOf (m : Image) (c : List Byte) : State := { (camOn 0).setBytes 0x1100000020 (leBytes 1 m.digest) with
  sup := { up.sup with cmds := [(5, c)] }
  queues := [1, 2].map fun q => (q, { Queue.init with ctx := { QCtx.init with mode := 1 } })
  sec := { up.sec with imageKeys := [2] }
  engines := (List.range 6).map fun e => (e, { Engine.init with inRotation := true })
  images := [⟨0x1100000000, 0x1000, m⟩] }
def loading : State := loadingOf image (block 1 0 0 (bindBytes 0))
def startIt : StartCmd := ⟨5, image.toImageBody, []⟩

/-- A device with a command that waits under tag 5: a STREAM_RELEASE of job slot j, a GROUP_DEFINE or a GROUP_CLEAR of group g. -/
def waitingFor (c : List Byte) : State := { up with sup := { up.sup with cmds := [(5, c)] } }
def release (j mask : Nat) : List Byte := leBytes 1 2 ++ leBytes 1 j ++ leBytes 1 2 ++ List.replicate 5 0 ++ leBytes 8 mask
def twoMembers : GroupDef := ⟨2, 0, [⟨1, 1, 0⟩, ⟨2, 2, 0⟩]⟩
def define_ (g : Nat) : List Byte := leBytes 3 3 ++ leBytes 1 g ++ List.replicate 12 0 ++ leBytes 16 2 ++
  (leBytes 16 1 ++ leBytes 16 1) ++ (leBytes 16 2 ++ leBytes 16 2)
def clear (g : Nat) : List Byte := leBytes 3 4 ++ leBytes 1 g ++ List.replicate 12 0

/-- An image whose region is one line larger than a tile, and one whose longest stripe takes a second on a band of a millisecond. -/
def overfull : Image := { image with digest := 8, signature := 2, tileLines := 262145, regions := [[⟨262145, 1, false⟩]] }
def slow : Image := { image with digest := 8, streams := [⟨64, 16, 16, 256, 0, 1, 0, 0, 0, 1, 2, 1000000000, 100⟩] }

/-- A re-arm of stream 0, which the slot holds. -/
def rearming : State := { loadingOf image (block 1 0 0 (bindBytes 1)) with
  strms := [(0, { Strm.init with job := some 0, held := true, entry := bindOne.entries.head?, img := image.streams.head? })] }

/-- Job 7 restarts. -/
def restarting : State := { up with jobs := [(7, some { job with phase := .restarting })] }

/-- Job 7 is a tensor job with a step of the given shape and void code due, whose image has the given outputs. -/
def stepOf (shape : List Nat) (void : Nat) : StepDue := ⟨9, 0, 0, shape, 0, 0, void⟩
def layer : Layer := ⟨[], [1, 1, 1], [1, 1, 1], 0, 0, 0, 1, 1, 1, 0, 1, 1, 0, 0, false, false, false, [], [], 0, 0, false, 0, none, 0, 1, 1, 1, 0⟩
def tensorImage (outs : List Nat) : Image :=
  { image with kind := 1, shapes := [1, 1, 1, 1], layers := [layer], outputs := outs.map fun n => ⟨0, n⟩ }
def tensorJob (d : StepDue) : Job := { job with kind := 1, due := [d] }
def stepping (d : StepDue) (outs : List Nat) : State :=
  { up with jobs := [(7, some (tensorJob d))], images := [⟨0x1100000000, 0x1000, tensorImage outs⟩] }

/-- A tensor job with that step open. -/
def openJob : Job := { job with kind := 1, open_ := some (stepOf [1, 1, 1, 1] 0) }

/-- Queue 16383 takes box lists for stream 63 of job 7; its ring in tile 0 holds descriptor d, and b lies at 0x40001000. -/
def boxQueue (d : Desc) (b : List Byte) : State :=
  ((((up.setBytes 0x40000000 (descBytes d)).setBytes 0x40001000 b).setQueue 16383 { Queue.init with
    ctx := { QCtx.init with ringBase := 0x40000000, log2 := 4, mode := 3, avail := 1 } })).setStrm 63 { Strm.init with
      job := some 7, entry := some { entry with boxQ := 16383 } }
def listDesc (aux : Nat) : Desc := ⟨0, true, 6, false, false, false, 0, 0, 0x40001000, 0, 0, 32, 0, aux, 0⟩

/-- A box list header for a stream and job with n boxes (n a multiple of 256) and frame number q. -/
def listBytes (q stream j n : Nat) : List Byte := leBytes 4 q ++ leBytes 1 stream ++ leBytes 1 j ++ leBytes 2 n ++
  List.replicate (24 + 24 * n) 0

/-- A group of two devices, defined with this one first. -/
def groupOfTwo : PeerGroup := ⟨[⟨1, 1, 0⟩, ⟨2, 2, 0⟩], 0, [], [], [], false⟩

/-- A device whose DRAM is d, and the last page of the DRAM. -/
def withDram (f : Dram → Dram) : State := { up with dram := f Dram.reset }
def lastPage : Nat := 0x7FFFFF
def lastByte : Nat := 0x11FFFFFFFF

/-- The last page retired. -/
def retired : State := { withDram (fun d => { d with state := [(lastPage, 3)], retired := [lastPage] }) with
  flt := { up.flt with replaced := true } }

/-- The last page VALID, and with a word that only a reconstruction recovers. -/
def valid : State := withDram fun d => { d with state := [(lastPage, 1)] }
def flagged (l : List (Nat × Nat)) : State := withDram fun d => { d with state := [(lastPage, 1)], flips := l }
def flaggedWord (w : Nat) : Nat × Nat := (146 * lastPage + w, 3)

/-- A page lock for a reconstruction, held since power-on with nothing waiting. -/
def lock (p : Nat) : PageLock := ⟨p, false, 5, 0, []⟩

/-- A sweep in which half of the transitions come before fine delay f, one way only, and thresholds thr − 10 to thr + 10 have no mismatch. -/
def sweep (f thr : Nat) : Swatch :=
  ⟨Vector.ofFn fun i => (if i.val < f then 0 else if i.val = f then 512 else 1024, 1024),
   Vector.ofFn fun i => (4096, if thr ≤ i.val + 10 ∧ i.val ≤ thr + 10 then 0 else 9)⟩

/-- A measurement within the limits. -/
def pass : Swatch := sweep 50 40

/-- One whose transitions spread over 33 fine steps. -/
def wide : Swatch := { pass with delays := Vector.ofFn fun i => (if i.val < 20 then 0 else if i.val < 52 then 512 else 1024, 1024) }

/-- Gusset lane 1 of channel 127 visits lane 71, and what its passes have found. -/
def laneOf (k : Nat) : Lane := up.lane 127 k
def visiting (v : Visit) : State := up.setVisit 127 1 (some v)
def visitOf (step4 write : Bool) (l : List (Nat × Nat)) : Visit := ⟨71, step4, write, l, laneOf 71⟩

/-- A C-PHY or D-PHY port whose lane 3 has c behind it. -/
def camLaneOn (c : CamLane) : State := (camOn 15).setCamLane 15 3 c

/-- An owned device in IDLE with field repairs left. -/
def ownedIdle : State := { at_ .idle with fuse := { Fuse.factory with slots := [⟨1, [2, 3, 4, 5], false⟩] } }

/-- Queue 16383 with context c, with the queue manager on. -/
def queueOn (c : QCtx) : State := (up.setQueue 16383 { Queue.init with ctx := c }).setRfld pgQm 8 0 1 1
def ctx (mode : Nat) : QCtx := { QCtx.init with ringBase := 0x1000000000, log2 := 4, mode := mode, channel := 127 }

/-- A copy of 64 bytes from tile 0 to tile 5, and an H2D queue of channel 127 whose ring in tile 0 holds descriptor d. -/
def copyDesc : Desc := ⟨0, true, 7, false, false, false, 0, 0, 0x40002000, 0, 0, 64, 0, 0x4A000000, 0⟩
def fromFive : Desc := { copyDesc with addr := 0x4A000000, aux0 := 0x40002000 }
def copyQueue (d : Desc) : State := (up.setBytes 0x40000000 (descBytes d)).setQueue 16383 { Queue.init with
  ctx := { ctx 3 with ringBase := 0x40000000, avail := 1 } }

/-- Channel 127 as it moves a descriptor. -/
def moving (d : Desc) (f : Channel → Channel) : State :=
  up.setChan 127 (f { Channel.init with state := .active, queue := 16383, desc := some d })

/-- Session 31 open on port 3, which has an IPv4 address and whose link is up without keys. -/
def session (f : Session → Session) : State :=
  (((up.setRfld pgNet 8 0 1 1).setReg pgNet (portReg 3 + 0x10) 1).setEth 3 { EthPort.init with link := true, speed := 4 }).setSess 31
    (f (Session.start 3))

/-- A frame of the device that waits for its acknowledgement, and a frame that arrives for session 31 on port 3. -/
def kframe (seq : Nat) : KFrame := ⟨1, 31, 0, seq, 0, 5, 64, []⟩
def waits (seq resends : Nat) : Unacked := ⟨seq, kframe seq, resends, none⟩
def arrival (f : KFrame) : Arrival := ⟨3, 7, true, 3, 0x574B, 1, f.payload.length, 64 + f.payload.length, false, 0xB806, f⟩

/-- Keys of a port, and session 31 on port 3 with them. -/
def keys : PortKeys := ⟨⟨0, 1⟩, ⟨3, 2⟩, none, none, 1⟩
def keyed (k : PortKeys) (f : Session → Session) : State :=
  (session f).setEth 3 { EthPort.init with link := true, speed := 4, keys := some k }

/-- A fragment of 16 bytes in a space at an address. -/
def fragment (space addr : Nat) (more : Bool) : BulkFrag := ⟨5, more, space, 0, 32, addr, 0, 16, List.replicate 16 1⟩

/-- An event record for session 31. -/
def record : EventRec := ⟨1, 0x30, 0, 0, 0, 31⟩

/-- An output queue of a session or stream entry whose ring in tile 0 holds descriptor d. -/
def outQueue (mode out : Nat) (d : Desc) (s : State) : State := (s.setBytes 0x40000000 (descBytes d)).setQueue 16383 { Queue.init with
  ctx := { ctx mode with ringBase := 0x40000000, prod := 1, session := out } }
/-- Stream entry 127 on port 3, enabled or not; a frame of a display output of that queue. -/
def entryOn (en : Bool) (s : State) : State := s.setReg 0x701 (entryReg 127 0) (if en then 7 else 6)
def video : Video := ⟨16383, 0, 0, 0, 64, 16, 2⟩
def playing : State := { keyed keys id with net := { (keyed keys id).net with video := [video] } }
def bandDesc (n : Nat) : Desc := ⟨0, true, 1, false, false, false, 0, 0, 0x40002000, 63, 7, n, 0, 1, 0⟩

/-- Group 15 of two devices, whose other member is on session 31. -/
def grouped (g : PeerGroup) : State :=
  (session fun l => { l with peer := true, group := 15, member := 1 }).setGroup 15 (some g)

/-- An exchange at address 9 on port 3, and the device with it. -/
def exchange (peer initiator : Bool) (stage : Nat) : Exchange :=
  ⟨9, initiator, peer, 15, 1, 0, false, 0, 0, [(1, 3)], [], [], none, stage, 0, Session.start 3⟩
def exchanging (x : Exchange) : State := { up with net := { up.net with exchanges := [x] } }

/-- A HELLO for a new session with one secure channel on port 3. -/
def helloMsg : HelloMsg := ⟨false, 1, 0xFFFF, 0, [(1, 3)], [1, 2]⟩

/-- Session 31 of a device in IDLE with fuses f; `u`: it is an UNOWNED session. -/
def owning (f : Fuse) (u : Bool) : State :=
  { (session fun l => { l with unowned := u }) with pwr := (at_ .idle).pwr, fuse := f }

/-- Master 0x8F frozen, with what it gives up and the releases that wait. -/
def frozen (g r : List Nat) : State := { up with sec := { up.sec with frozen := [0x8F], givingUp := g, relPending := r } }

/-- The next state of an outcome. -/
def nextOf (o : Host.Outcome State Fault Refusal) : State := match o with | .next t => t | _ => State.reset

/-- The outcome is a next state. -/
def answers (o : Host.Outcome State Fault Refusal) : Bool := match o with | .next _ => true | _ => false

theorem next_of_answers {o : Host.Outcome State Fault Refusal} (h : answers o = true) : o = .next (nextOf o) := by
  cases o <;> first | rfl | cases h

/-! Worked examples of the spec. Their expected results are the spec's. -/

/-- A 4K frame under the reference pipeline (chapter 02, "a 4K frame"): bands, stripes, and the rows that make bands ready. -/
def frame4k : Frame := { frame with width := 3840, height := 2160, bandRows := 32, stripeW := 640, halo := 8 }

theorem test_4k_frame : frame4k.bandCount = 68 ∧ frame4k.top 67 = 2144 ∧ frame4k.bottom 67 = 2160 ∧ frame4k.stripeCount = 6 ∧
    frame4k.columns 5 = (3200, 3840) ∧ frame4k.trigger 0 = 39 ∧ frame4k.trigger 65 = 2119 ∧ frame4k.trigger 66 = 2151 := by decide

/-- The live set of stream S36 in chapter 04, "one sample into the ring". -/
def rawSet : Sparse Word :=
  let a := rfeA 36
  [(a, 0x7010), (a + 4, 545280), (a + 8, 0x01000100), (a + 12, 0x01000100), (a + 0x14, 0x39800000), (a + 0x18, 0x34800000),
    (a + 0x40, 0), (a + 0x44, 0x02000400), (a + 0x48, 0x04000800), (a + 0x4C, 0x09000C00)]

theorem test_decompand : decompand rawSet 36 1024 = 1024 ∧ decompand rawSet 36 2048 = 5120 ∧ decompand rawSet 36 3072 = 21504 ∧
    decompand rawSet 36 4095 = 545280 ∧ decompand rawSet 36 2300 = 9152 := by decide +kernel

theorem test_sample_word : planeOf 0 701 1280 = 2 ∧ levelOf rawSet 36 2 9152 0 = (8896, false) ∧ planeDen rawSet 36 2 = 545024 ∧
    sampleWord (up.curveOf rawSet 36 0 8896 545024) false = 0x0D1E := by decide +kernel

/-- Chapter 06, "one MXFP4 block" and Table 06-2: 5.2, 0.3 and −1.2 under scale 1, and code 0x5 read back under 0x7F and 0x7C. -/
theorem test_mxfp4_block : (convert { toHalf with fmt := .mxfp4 } .nearest
      ([flOfRat (26 / 5), flOfRat (3 / 10), flOfRat (-6 / 5)] ++ List.replicate 29 (flN 0))) =
    ([0x7, 0x1, 0xA] ++ List.replicate 29 0, [0x7F]) := by decide +kernel

theorem test_mxfp4_read : ratOf (decodeF e2m1 0x5) = 3 := by decide +kernel

/-- Chapter 06, "two output elements": 1,931 × 0.00125 + 0.3 under RELU with r_o = 20 is code 54 (its z_o of 0 here). -/
theorem test_int8_element : quantInt 8 .nearest (flN 20) 0 (flOfRat (271375 / 100000)) = 54 := by decide +kernel

/-- Rounding to nearest even, saturation and overflow of FP8 E4M3 (R123, R124): 448 is the largest value. -/
theorem test_e4m3 : encodeF e4m3 true (flN 10000) = 0x7E ∧ encodeF e4m3 false (flN 448) = 0x7E ∧ encodeF e4m3 true (flN (-1)) = 0xB8 :=
      by decide +kernel

/-- Chapter 07, "decoding an address": 0x476B3E80 lies in tile 3, line 185,981, bank 45. -/
theorem test_tile_address : tileOf 0x476B3E80 128 = some 3 ∧ (0x476B3E80 - tileBase 3) / 128 = 185981 ∧ bankOfLine 185981 = 45 := by decide

/-- Chapter 08, "one sample of a mouth crop": rows 299 and 300 by 0.125 and 0.875. -/
theorem test_crop_taps : taps false (2399 / 8) = [(299, 1 / 8), (300, 7 / 8)] := by decide +kernel

/-- Chapter 08, "addresses in an NV12 frame". -/
def nv12 : OutSet := ⟨2560, 1440, 0, 0, 0, true, 0, 0, false, 0, 0, [], []⟩

theorem test_nv12 : nv12.tilesW = 40 ∧ nv12.lumaPlane = 3686400 ∧ nv12.tileAt 1000 700 = 0x1ABF28 ∧
    nv12.lumaPlane + nv12.tileAt 1000 350 = 0x453FA8 ∧ nv12.bytes 1 = 5570560 := by decide

/-- Chapter 09: LOOP 0b11100100 with EXT_P 8 needs 8 accumulator tiles; a 63-wide kernel takes the frequency-domain path. -/
theorem test_acc_need : Tiling.accNeed ⟨0, 0, 0xE4, 8, 1, 1, 9, 0, 0, 0, 0⟩ = 8 ∧ pathOf 63 = 2 ∧ fftPoints 0x80 = 128 := by decide

/-- Chapter 09, "two jobs on 16 cameras": U = 4.658 holds on six engines; job A alone holds on five and all 16 streams do not. -/
def camera4k (i : Nat) : LoadItem := ⟨false, i, 6, 11500, 32 * 16666667 / 2250⟩

theorem test_admission : milli (loadOf ((List.range 16).map camera4k)) = 4658 ∧ fits 6 ((List.range 16).map camera4k) = true ∧
    fits 5 ((List.range 12).map camera4k) = true ∧ fits 5 ((List.range 16).map camera4k) = false := by decide +kernel

/-- Chapter 11, "decoding an address": 0x104A2C37A8 is in C92, bank 6, at byte 936 of its page. -/
theorem test_dram_address : chanOf (pageNum 0x104A2C37A8) = 92 ∧ bankOf (pageNum 0x104A2C37A8) = 6 ∧
    0x104A2C37A8 - pageAddr (pageNum 0x104A2C37A8) = 936 := by decide

/-- Chapter 11, "a reconstruction during a gather": two flipped cells in word 117 need the page code, which recovers them. -/
theorem test_reconstruction : (flagged [(146 * lastPage + 117, 3)]).needsRecon lastPage 14 = true ∧
    (flagged [(146 * lastPage + 117, 3)]).recovers lastPage = true ∧ (flagged [(146 * lastPage + 117, 1)]).needsRecon lastPage 14 = false :=
      by decide +kernel

/-- Chapter 12, "one visit": read passes (28, 33) and (30, 34) of lane 37 agree and apply fine 29, threshold 33. -/
theorem test_lane_visit : ((nextOf (exec (.calPassDone 92 1 (sweep 30 34))
    (up.setVisit 92 1 (some ⟨37, true, false, [(28, 33)], up.lane 92 37⟩)))).lane 92 37).rd = ⟨29, 33, 0⟩ := by decide +kernel

/-- Chapter 19, "one snapshot of a tile error": the stored error at 0x48900194 by port MXR. -/
def tileError : State := nextOf (exec (.parityReread 4 0 false 73731 [5] 0) (executing 4 stripe))

theorem test_tile_error : tileError.reg (pgSmem 4) 0x20 = 0x10000 ∧ tileError.reg (pgSmem 4) 0x24 = 0x000F0001 ∧
    tileError.reg (pgSmem 4) 0x28 = 0x48900194 ∧ tileError.reg (pgSmem 4) 0x2C = 0 := by decide +kernel

/-- Chapter 14, "a lost write and a host restart": SEQ 0x411 is held until 0x410 comes, and RESYNC sets RX_NEXT to 2. -/
def waiting2 : State := (keyed keys id).setSess 31 { Session.start 3 with rxNext := 0x410 }

theorem test_held_frame : let t := nextOf (exec (.kwealFrameReceive (arrival { kframe 0x411 with type := 8 })) waiting2)
    (t.sess 31).rxNext = 0x410 ∧ (t.sess 31).heldRx.length = 1 := by decide +kernel

theorem test_resync : ((nextOf (exec (.resync 31 1 9 1) waiting2)).sess 31).rxNext = 2 := by decide +kernel

/-! Forms of command: an ill-formed term for each check, which the check refuses, beside a well-formed one. -/

theorem test_wf_dramRead : Instr.wf (.dramRead 0 0 0x0FFFFFFFFF []) = false ∧ Instr.wf (.dramRead 0 0 0x1000000000 []) = true := by decide
theorem test_wf_dramWrite : Instr.wf (.dramWrite 0 0 0x1000000000 []) = false ∧
    Instr.wf (.dramWrite 0 0 0x100000003F [some 1, some 2]) = false ∧ Instr.wf (.dramWrite 0 0 0x100000003F [some 1]) = true := by decide
theorem test_wf_dramInvalidate : Instr.wf (.dramInvalidate 0 0x11FFFFFFC0 128) = false ∧
    Instr.wf (.dramInvalidate 0 0x11FFFFFFC0 64) = true := by decide
theorem test_wf_dmaAccessTimeout : Instr.wf (.dmaAccessTimeout 0 0x1000000000000) = false ∧
    Instr.wf (.dmaAccessTimeout 0 0xFFFFFFFFFFFF) = true := by decide
theorem test_wf_linkTransferError : Instr.wf (.linkTransferError 0 0x1000000000000) = false ∧
    Instr.wf (.linkTransferError 0 0xFFFFFFFFFFFF) = true := by decide
theorem test_wf_stageWrite : Instr.wf (.stageWrite 0x100118 0) = false ∧ Instr.wf (.stageWrite 0x100124 0) = true := by decide +kernel
theorem test_wf_thermalSample : Instr.wf (.thermalSample [1]) = false ∧ Instr.wf (.thermalSample (List.replicate 18 1)) = true := by decide

/-- An ill-formed command is refused by the meaning under its own name. -/
theorem test_refused : exec (.thermalSample [1]) up = .refused (.illFormed "THERMAL_SAMPLE") := by rfl

/-- The queue: the front command runs, and the rest stays. -/
theorem test_step : step { up with pending := [.crystalStart, .ppsPulse] } = exec .crystalStart { up with pending := [.ppsPulse] } ∧
    (nextOf (step { up with pending := [.crystalStart, .ppsPulse] })).clk.aonInternal = false := by
  exact ⟨rfl, by decide +kernel⟩

/-- The idle block lets a nanosecond pass. -/
theorem test_idle : (nextOf (step up)).clk.ptp = 1 ∧ (nextOf (step up)).clk.up = 1 := by decide +kernel

/-! Each statement's hypotheses are met together: one part for each of its clauses that has hypotheses, in their order. -/

theorem witness_PinsAndClocks :
    (∃ (s : State), s.pending = []) ∧
    (∃ (s : State), s.dram.burning = none ∧ s.sec.burn = none) ∧
    (∃ (s : State), s.dram.burning = none ∧ s.sec.burn = none) ∧
    (∃ (s : State), s.settled) ∧
    (∃ (s : State), s.settled) ∧
    (∃ (s : State), s.settled) ∧
    (∃ (s : State), s.settled) :=
  ⟨⟨State.reset, by decide +kernel⟩,
   ⟨State.reset, by decide +kernel⟩,
   ⟨up, by decide +kernel⟩,
   ⟨up, by unfold State.settled; decide +kernel⟩,
   ⟨up, by unfold State.settled; decide +kernel⟩,
   ⟨up, by unfold State.settled; decide +kernel⟩,
   ⟨up, by unfold State.settled; decide +kernel⟩⟩

theorem witness_BringUp :
    (∃ (s : State), s.settled ∧ s.pwr.booting = true ∧ s.pins.porstLow = false ∧ s.pwr.held = false ∧ s.pwr.failed = false ∧
       s.pwr.waiting = false ∧ s.pwr.step = 0 ∧ s.dram.draining = false) ∧
    (∃ (s : State), s.settled ∧ s.pwr.booting = true ∧ s.pins.porstLow = false ∧ s.pwr.held = false ∧ s.pwr.failed = false ∧
       s.pwr.waiting = false ∧ s.pwr.step = 0 ∧ s.dram.draining = true ∧ s.pins.warmLow = false ∧ s.pins.testEn = false) ∧
    (∃ (s : State), s.settled ∧ s.pwr.booting = true ∧ s.pins.porstLow = false ∧ s.pwr.held = false ∧ s.pwr.failed = false ∧
       s.pwr.waiting = false ∧ s.pwr.step = 1) ∧
    (∃ (s : State), s.settled ∧ s.pwr.booting = true ∧ s.pins.porstLow = false ∧ s.pwr.held = false ∧ s.pwr.failed = false ∧
       s.pwr.waiting = false ∧ s.pwr.step = 5 ∧ s.pwr.warm = false) ∧
    (∃ (s : State), s.settled ∧ s.pwr.booting = true ∧ s.pins.porstLow = false ∧ s.pwr.held = false ∧ s.pwr.failed = false ∧
       s.pwr.waiting = false ∧ s.pwr.step = 5 ∧ s.pwr.warm = true) ∧
    (∃ (s : State), s.settled ∧ s.pwr.booting = true ∧ s.pins.porstLow = false ∧ s.pwr.held = false ∧ s.pwr.failed = false ∧
       s.pwr.waiting = false ∧ s.pwr.step = 10 ∧ s.sup.restarting = false) ∧
    (∃ (s : State), s.settled ∧ s.pwr.booting = true ∧ s.pwr.waiting = true) :=
  ⟨⟨State.reset, by unfold State.settled; decide +kernel⟩,
   ⟨{ State.reset with dram := { Dram.reset with draining := true } }, by unfold State.settled; decide +kernel⟩,
   ⟨{ State.reset with pwr := { Pwr.reset with step := 1 } }, by unfold State.settled; decide +kernel⟩,
   ⟨{ State.reset with pwr := { Pwr.reset with step := 5 } }, by unfold State.settled; decide +kernel⟩,
   ⟨{ State.reset with pwr := { Pwr.reset with step := 5, warm := true } }, by unfold State.settled; decide +kernel⟩,
   ⟨{ State.reset with pwr := { Pwr.reset with step := 10 } }, by unfold State.settled; decide +kernel⟩,
   ⟨{ State.reset with pwr := { Pwr.reset with step := 6, waiting := true } }, by unfold State.settled; decide +kernel⟩⟩

theorem witness_WarmResets :
    (∃ (s : State), s.pins.porstLow = false) ∧
    (∃ (s : State) (w : Word), s.settled ∧ w ≠ 0x5741524D) ∧
    (∃ (s : State), s.pwr.booting = false ∧ s.pins.porstLow = false ∧ bitAt (s.reg pgFlt 8) 0 = true) ∧
    (∃ (s : State), s.settled ∧ s.pwr.booting = false ∧ s.pins.porstLow = false ∧ bitAt (s.reg pgFlt 8) 0 = false) ∧
    (∃ (s : State) (c : Fin 6), s.gated c = false ∧ s.pins.porstLow = false) ∧
    (∃ (s : State), s.settled ∧ s.pwr.booting = false ∧ s.pins.porstLow = false ∧ s.sup.lastMismatch = none) ∧
    (∃ (s : State) (m : Nat), s.pwr.booting = false ∧ s.pins.porstLow = false ∧ s.sup.lastMismatch = some m ∧ s.clk.up < m + 1000000000) ∧
    (∃ (s : State), s.settled ∧ s.sup.restarting = true) :=
  ⟨⟨up, by decide +kernel⟩,
   ⟨up, 0, by unfold State.settled; decide +kernel⟩,
   ⟨up, by decide +kernel⟩,
   ⟨up.setRfld pgFlt 8 0 1 0, by unfold State.settled; decide +kernel⟩,
   ⟨up, 5, by decide +kernel⟩,
   ⟨up, by unfold State.settled; decide +kernel⟩,
   ⟨{ up with sup := { up.sup with lastMismatch := some 0 } }, 0, by decide +kernel⟩,
   ⟨{ up with sup := { up.sup with running := false, restarting := true } }, by unfold State.settled; decide +kernel⟩⟩

theorem witness_PowerStateRequests :
    (∃ (s : State), s.settled ∧ s.pwr.booting = false ∧ s.pwr.trans = none ∧ s.pwr.state = .active ∧ s.bistRuns = false ∧ s.renders =
       false) ∧
    (∃ (s : State), s.settled ∧ s.pwr.booting = false ∧ s.pwr.trans = none ∧ s.pwr.state = .standby ∧ s.bistRuns = false ∧ s.tooHot =
       false) ∧
    (∃ (s : State), s.settled ∧ s.pwr.booting = false ∧ s.pwr.trans = none ∧ s.pwr.state = .idle ∧ s.bistRuns = false ∧ s.pwr.tripped
       = false) ∧
    (∃ (s : State), s.settled ∧ s.pwr.booting = false ∧ s.pwr.trans = none ∧ s.pwr.state = .standby ∧ s.bistRuns = false ∧
       s.pwr.tripped = false) ∧
    (∃ (s : State), s.settled ∧ s.pwr.booting = false ∧ s.pwr.trans = none ∧ (s.pwr.state = .active ∨ s.pwr.state = .idle) ∧
       s.bistRuns = false ∧ s.renders = false ∧ s.holdsStream = false ∧ s.burns = false ∧ (∀ e < 6, (s.eng e).testing = false)) ∧
    (∃ (s : State), s.settled ∧ s.pwr.booting = false ∧ s.pwr.trans = none ∧ s.pwr.state = .active) ∧
    (∃ (s : State), s.settled ∧ s.pwr.booting = false ∧ s.pwr.trans = none ∧ s.pwr.state = .idle) ∧
    (∃ (s : State), s.settled ∧ s.pwr.booting = false ∧ s.pwr.trans = none ∧ s.pwr.state = .standby) ∧
    (∃ (s : State), s.settled ∧ s.pwr.booting = false ∧ s.pwr.trans = none ∧ s.pwr.state = .active ∧ s.bistRuns = false ∧ s.renders =
       true) ∧
    (∃ (s : State), s.settled ∧ s.pwr.booting = false ∧ s.pwr.trans = none ∧ s.pwr.state = .idle ∧ s.bistRuns = false ∧ s.renders =
       false ∧ s.holdsStream = true) ∧
    (∃ (s : State), s.settled ∧ s.pwr.booting = false ∧ s.pwr.trans = none ∧ s.pwr.state ≠ .active ∧ s.pwr.state ≠ .off ∧ s.bistRuns
       = false ∧ s.pwr.tripped = true) :=
  ⟨⟨up, by unfold State.settled; decide +kernel⟩,
   ⟨at_ .standby, by unfold State.settled; decide +kernel⟩,
   ⟨at_ .idle, by unfold State.settled; decide +kernel⟩,
   ⟨at_ .standby, by unfold State.settled; decide +kernel⟩,
   ⟨at_ .idle, by unfold State.settled; decide +kernel⟩,
   ⟨up, by unfold State.settled; decide +kernel⟩,
   ⟨at_ .idle, by unfold State.settled; decide +kernel⟩,
   ⟨at_ .standby, by unfold State.settled; decide +kernel⟩,
   ⟨{ up with jobs := [(7, some job)] }, by unfold State.settled; decide +kernel⟩,
   ⟨{ at_ .idle with strms := [(63, { Strm.init with job := some 7, held := true })] }, by unfold State.settled; decide +kernel⟩,
   ⟨{ up with pwr := { up.pwr with state := .idle, tripped := true, temps := List.replicate 18 116 } },
      by unfold State.settled; decide +kernel⟩⟩

theorem witness_PowerTransitions :
    (∃ (s : State) (x : Trans), s.settled ∧ s.pwr.trans = some x ∧ x.plan = [] ∧ x.target = .idle ∧ s.pwr.state = .active ∧ (∀ d,
       (s.link d).heldRx = [])) ∧
    (∃ (s : State) (x : Trans), s.settled ∧ s.pwr.trans = some x ∧ x.plan = [] ∧ x.target = .standby ∧ s.dram.merge = [] ∧
       s.dram.locks = [] ∧ s.cal.visits = [] ∧ s.pwr.wakeDue = false) ∧
    (∃ (s : State) (d : Fin 20) (on : Bool) (x : Trans), s.settled ∧ s.pwr.switching = some (d.val, on) ∧ s.pwr.trans = some x ∧ (on
       = true ∧ d.val < 14 ∨ d.val = 6)) ∧
    (∃ (s : State) (d : Fin 20) (on : Bool) (x : Trans), s.settled ∧ s.pwr.switching = some (d.val, on) ∧ s.pwr.trans = some x ∧ 14 ≤
       d.val) ∧
    (∃ (s : State) (d : Fin 20) (on : Bool) (x : Trans), s.settled ∧ s.pwr.switching = some (d.val, on) ∧ s.pwr.trans = some x ∧
       d.val < 8) :=
  ⟨⟨{ up with pwr := { up.pwr with trans := some ⟨.idle, false, true, []⟩ } }, ⟨.idle, false, true, []⟩,
     ⟨by unfold State.settled; decide, rfl, rfl, rfl, rfl, fun d => by unfold State.link; split <;> rfl⟩⟩,
   ⟨{ at_ .idle with pwr := { (at_ .idle).pwr with trans := some ⟨.standby, false, true, []⟩ } }, ⟨.standby, false, true, []⟩,
      by unfold State.settled; decide +kernel⟩,
   ⟨switchingOff 6, 6, false, ⟨.standby, false, true, offPlan⟩, by unfold State.settled; decide +kernel⟩,
   ⟨switchingOff 19, 19, false, ⟨.standby, false, true, offPlan⟩, by unfold State.settled; decide +kernel⟩,
   ⟨switchingOff 7, 7, false, ⟨.standby, false, true, offPlan⟩, by unfold State.settled; decide +kernel⟩⟩

theorem witness_Thermal :
    (∃ (s : State) (l : List Byte), s.settled ∧ l.length = 18 ∧ (∀ i < 20, s.pwr.dom.getD i .on = .on) ∧ l ≠ List.replicate 18 0x80 ∧
       (∀ b ∈ l, degrees b.toNat < (s.warn : Int)) ∧ s.warn ≤ s.shedAt ∧ s.warn ≤ s.tripAt ∧ s.pwr.wakeDue = false) ∧
    (∃ (s : State), s.settled) ∧
    (∃ (s : State), s.settled ∧ s.hotAt s.shedAt = false) ∧
    (∃ (s : State), s.settled ∧ s.hotAt s.shedAt = true ∧ s.heatItems ≠ []) ∧
    (∃ (s : State) (i : Nat) (m : Int × Nat), s.settled ∧ s.pwr.heatShed.getLast? = some (.stream i) ∧ s.tempMax = some m ∧
       m.1 < (s.shedAt : Int) - s.hyst) :=
  ⟨⟨up, List.replicate 18 60, by unfold State.settled; decide +kernel⟩,
   ⟨up, by unfold State.settled; decide +kernel⟩,
   ⟨up, by unfold State.settled; decide +kernel⟩,
   ⟨heated 105 [], by unfold State.settled; decide +kernel⟩,
   ⟨{ (heated 60 [.stream 1]) with strms := [(1, { Strm.init with job := some 0, shedHeat := true })] }, 1, (60, 0),
      by unfold State.settled; decide +kernel⟩⟩

theorem witness_DeviceSelfTest :
    (∃ (s : State) (w : Word), s.settled ∧ bitAt w 0 = true ∧ bitAt w 1 = false ∧ s.bistRuns = false ∧ s.pwr.state = .idle ∧
       s.pwr.trans = none) ∧
    (∃ (s : State) (w : Word), s.settled ∧ bitAt w 0 = true ∧ s.bistRuns = false ∧ s.pwr.state = .active) ∧
    (∃ (s : State), s.settled ∧ s.pwr.bist = some false ∧ (∀ t < 6, s.persistRanges t = [])) :=
  ⟨⟨at_ .idle, 1, by unfold State.settled; decide +kernel⟩,
   ⟨up, 1, by unfold State.settled; decide +kernel⟩,
   ⟨{ at_ .idle with pwr := { (at_ .idle).pwr with bist := some false } }, by unfold State.settled; decide +kernel⟩⟩

theorem witness_CameraPortControl :
    (∃ (s : State) (p : Fin 16), s.settled ∧ bitAt (s.reg (pgCam p) 8) 0 = false ∧ phyOk p (s.reg (pgCam p) 0x100) = true) ∧
    (∃ (s : State) (p : Fin 16), s.settled ∧ bitAt (s.reg (pgCam p) 8) 0 = false ∧ phyOk p (s.reg (pgCam p) 0x100) = false) ∧
    (∃ (s : State) (p : Fin 16), s.settled ∧ bitAt (s.reg (pgCam p) 8) 0 = true) ∧
    (∃ (s : State), s.settled) ∧
    (∃ (s : State), s.settled) ∧
    (∃ (s : State) (p : Fin 16), s.settled ∧ bitAt (s.reg (pgCam p) 8) 0 = true ∧ (∀ n < 4, (s.slot (4 * p + n)).rx = none)) ∧
    (∃ (s : State) (p : Fin 16), s.settled ∧ s.receives p = true ∧ (∀ n < 4, (s.slot (4 * p + n)).rx = none)) :=
  ⟨⟨up.setReg (pgCam 8) 0x100 0xA01, 8, by unfold State.settled; decide +kernel⟩,
   ⟨up.setReg (pgCam 15) 0x100 0x5B01, 15, by unfold State.settled; decide +kernel⟩,
   ⟨camOn 15, 15, by unfold State.settled; decide +kernel⟩,
   ⟨(camOn 0).setReg (pgCam 0) 0xC 0, by unfold State.settled; decide +kernel⟩,
   ⟨camOn 7, by unfold State.settled; decide +kernel⟩,
   ⟨camOn 15, 15, by unfold State.settled; decide +kernel⟩,
   ⟨camOn 7, 7, by unfold State.settled; decide +kernel⟩⟩

theorem witness_StreamSlots :
    (∃ (s : State), s.settled) ∧
    (∃ (s : State) (p : Fin 16) (n : Fin 4), s.settled ∧ (s.slot (4 * p + n)).rx = none) ∧
    (∃ (s : State) (p : Fin 16) (n : Fin 4) (r : RxFrame), s.settled ∧ (s.slot (4 * p + n)).rx = some r ∧ r.full = true ∧
       (s.strm (4 * p + n)).frames = []) ∧
    (∃ (s : State) (p : Fin 16) (n : Fin 4) (r : RxFrame), s.settled ∧ (s.slot (4 * p + n)).rx = some r ∧
       psPeriod s.live (4 * p + n) ≠ 0 ∧ (s.strm (4 * p + n)).frames = []) ∧
    (∃ (s : State), s.settled) :=
  ⟨⟨up, by unfold State.settled; decide +kernel⟩,
   ⟨receiving 15 rx, 15, 3, by unfold State.settled; decide +kernel⟩,
   ⟨receiving 15 { rx with next := [16], ends := [0] }, 15, 0, { rx with next := [16], ends := [0] },
      by unfold State.settled; decide +kernel⟩,
   ⟨receiving 15 rx, 15, 0, rx, by unfold State.settled; decide +kernel⟩,
   ⟨camOn 15, by unfold State.settled; decide +kernel⟩⟩

theorem witness_FramePackets :
    (∃ (s : State) (p : Fin 16), s.settled ∧ s.receives p = false) ∧
    (∃ (s : State) (p : Fin 16) (vc : Fin 32) (c : Bool), s.settled ∧ s.receives p = true ∧ (s.header p c).claim p vc = none) ∧
    (∃ (s : State) (p : Fin 16) (vc : Fin 32) (c : Bool) (i : Nat) (e : Nat), s.settled ∧ s.receives p = true ∧ (s.header p c).claim
       p vc = some (i, e) ∧ (s.slot i).rx = none ∧ (s.strm i).job = none ∧ s.pendingSet i = false ∧ s.lanesReady p = true) ∧
    (∃ (s : State) (p : Fin 16) (vc : Fin 32) (c : Bool) (i : Nat) (e : Nat), s.settled ∧ s.receives p = true ∧ (s.header p c).claim
       p vc = some (i, e) ∧ (s.slot i).rx = none ∧ s.lanesReady p = false) ∧
    (∃ (s : State) (p : Fin 16) (vc : Fin 32) (c : Bool) (i : Nat) (e : Nat) (r : RxFrame), s.settled ∧ s.receives p = true ∧
       (s.header p c).claim p vc = some (i, e) ∧ (s.slot i).rx = some r ∧ r.exps ≤ (if r.ends.contains e then r.ends else r.ends ++
       [e]).length ∧ (s.strm i).frames = []) ∧
    (∃ (s : State) (p : Fin 16) (vc : Fin 32) (c : Bool) (i : Nat) (e : Nat), s.settled ∧ s.receives p = true ∧ (s.header p c).claim
       p vc = some (i, e)) ∧
    (∃ (s : State) (p : Fin 16) (vc : Fin 32) (c : Bool) (i : Nat) (e : Nat) (r : RxFrame), s.settled ∧ s.receives p = true ∧
       (s.header p c).claim p vc = some (i, e) ∧ (s.slot i).rx = some r ∧ r.lineNum = true ∧ r.base = none ∧ r.next = List.replicate
       r.exps 0) :=
  ⟨⟨up, 15, by unfold State.settled; decide +kernel⟩,
   ⟨camOn 15, 15, 31, true, by unfold State.settled; decide +kernel⟩,
   ⟨camOn 15, 15, 0, true, 60, 0, by unfold State.settled; decide +kernel⟩,
   ⟨(camOn 15).setCamLane 15 0 { (camOn 15).camLane 15 0 with due := true }, 15, 0, true, 60, 0, by unfold State.settled; decide +kernel⟩,
   ⟨receiving 15 rx, 15, 0, true, 60, 0, rx, by unfold State.settled; decide +kernel⟩,
   ⟨camOn 15, 15, 0, true, 60, 0, by unfold State.settled; decide +kernel⟩,
   ⟨receiving 15 { rx with lineNum := true }, 15, 0, true, 60, 0, { rx with lineNum := true },
      by unfold State.settled; decide +kernel⟩⟩

theorem witness_RowPackets :
    (∃ (s : State) (p : Fin 16), s.settled ∧ s.receives p = false) ∧
    (∃ (s : State) (p : Fin 16) (dt : Fin 64), s.settled ∧ s.receives p = true ∧ (dt.val = 0x10 ∨ dt.val = 0x11 ∨ dt.val = 0x12)) ∧
    (∃ (s : State) (p : Fin 16) (vc : Fin 32) (dt : Fin 64) (c : Bool) (x : Fin 65536), s.settled ∧ s.receives p = true ∧ ¬ (dt.val =
       0x10 ∨ dt.val = 0x11 ∨ dt.val = 0x12) ∧ (((s.retransmitted p x).header p c)).claim p vc = none) ∧
    (∃ (s : State) (p : Fin 16), s.settled ∧ s.receives p = true) ∧
    (∃ (s : State) (p : Fin 16) (vc : Fin 32) (dt : Fin 64) (c : Bool) (x : Fin 65536) (i : Nat) (e : Nat) (r : RxFrame), s.settled ∧
       s.receives p = true ∧ ¬ (dt.val = 0x10 ∨ dt.val = 0x11 ∨ dt.val = 0x12) ∧ (((s.retransmitted p x).header p c)).claim p vc =
       some (i, e) ∧ (s.slot i).rx = some r ∧ dt.val ≠ r.dt) ∧
    (∃ (s : State) (p : Fin 16) (vc : Fin 32) (dt : Fin 64) (data : List Byte) (ok : Bool) (c : Bool) (x : Fin 65536) (i : Nat) (e :
       Nat) (r : RxFrame) (n : Nat), s.settled ∧ s.receives p = true ∧ ¬ (dt.val = 0x10 ∨ dt.val = 0x11 ∨ dt.val = 0x12) ∧
       (((s.retransmitted p x).header p c)).claim p vc = some (i, e) ∧ (s.slot i).rx = some r ∧ dt.val = r.dt ∧ r.lineNum = false ∧
       (s.strm i).frames = [] ∧ r.next.getD e 0 = n ∧ n < r.height ∧ (s.slot i).fullFor r.dt (r.width * dtBits r.dt) = false ∧ ok =
       true ∧ (unpack dt data).length = r.width ∧ 0 < r.width) ∧
    (∃ (s : State) (p : Fin 16) (vc : Fin 32) (dt : Fin 64) (ok : Bool) (c : Bool) (x : Fin 65536) (i : Nat) (e : Nat) (r : RxFrame)
       (n : Nat), s.settled ∧ s.receives p = true ∧ ¬ (dt.val = 0x10 ∨ dt.val = 0x11 ∨ dt.val = 0x12) ∧ (((s.retransmitted p
       x).header p c)).claim p vc = some (i, e) ∧ (s.slot i).rx = some r ∧ dt.val = r.dt ∧ r.lineNum = false ∧ (s.strm i).frames = []
       ∧ r.next.getD e 0 = n ∧ n < r.height ∧ (s.slot i).fullFor r.dt (r.width * dtBits r.dt) = false ∧ ok = false) ∧
    (∃ (s : State) (p : Fin 16) (vc : Fin 32) (dt : Fin 64) (c : Bool) (x : Fin 65536) (i : Nat) (e : Nat) (r : RxFrame) (n : Nat),
       s.settled ∧ s.receives p = true ∧ ¬ (dt.val = 0x10 ∨ dt.val = 0x11 ∨ dt.val = 0x12) ∧ (((s.retransmitted p x).header p
       c)).claim p vc = some (i, e) ∧ (s.slot i).rx = some r ∧ dt.val = r.dt ∧ r.lineNum = false ∧ (s.strm i).frames = [] ∧
       r.next.getD e 0 = n ∧ n < r.height ∧ (s.slot i).fullFor r.dt (r.width * dtBits r.dt) = true) ∧
    (∃ (s : State) (p : Fin 16), s.settled ∧ s.receives p = true) :=
  ⟨⟨up, 15, by unfold State.settled; decide +kernel⟩,
   ⟨camOn 15, 15, 0x12, by unfold State.settled; decide +kernel⟩,
   ⟨camOn 15, 15, 31, 0x2B, true, 65535, by unfold State.settled; decide +kernel⟩,
   ⟨camOn 15, 15, by unfold State.settled; decide +kernel⟩,
   ⟨receiving 15 rx, 15, 0, 0x2C, false, 0, 60, 0, rx, by unfold State.settled; decide +kernel⟩,
   ⟨receiving 15 { rx with next := [15] }, 15, 0, 0x2B, List.replicate 80 1, true, false, 0, 60, 0, { rx with next := [15] }, 15,
      by unfold State.settled; decide +kernel⟩,
   ⟨receiving 15 rx, 15, 0, 0x2B, false, false, 0, 60, 0, rx, 0, by unfold State.settled; decide +kernel⟩,
   ⟨(receiving 15 rx).setSlot 60 { (receiving 15 rx).slot 60 with partBytes := 79 }, 15, 0, 0x2B, false, 0, 60, 0, rx, 0,
      by unfold State.settled; decide +kernel⟩,
   ⟨receiving 15 rx, 15, by unfold State.settled; decide +kernel⟩⟩

theorem witness_CameraControl :
    (∃ (s : State) (w : Word), s.settled ∧ bitAt w 31 = false) ∧
    (∃ (s : State) (p : Fin 16) (w : Word), s.settled ∧ bitAt w 31 = true ∧ (s.port p).cciBusy = true) ∧
    (∃ (s : State) (p : Fin 16) (w : Word), s.settled ∧ bitAt w 31 = true ∧ (s.port p).cciBusy = false ∧ p.val < 8 ∧ bitAt (s.reg
       (pgCam p) 0xC) 0 = false) ∧
    (∃ (s : State) (p : Fin 16) (w : Word), s.settled ∧ bitAt w 31 = true ∧ (s.port p).cciBusy = false ∧ (p.val < 8 → bitAt (s.reg
       (pgCam p) 0xC) 0 = true)) ∧
    (∃ (s : State) (p : Fin 16), s.settled ∧ (s.port p).cciBusy = false) ∧
    (∃ (s : State) (p : Fin 16), s.settled ∧ (s.port p).cciBusy = true) ∧
    (∃ (s : State) (p : Fin 16), s.settled ∧ (s.port p).cciBusy = true) :=
  ⟨⟨cciBusy 15, 0x7FFFFFFF, by unfold State.settled; decide +kernel⟩,
   ⟨cciBusy 15, 15, 0x80000000, by unfold State.settled; decide +kernel⟩,
   ⟨(camOn 7).setReg (pgCam 7) 0xC 0, 7, 0x80001F00, by unfold State.settled; decide +kernel⟩,
   ⟨camOn 7, 7, 0x80001F00, by unfold State.settled; decide +kernel⟩,
   ⟨camOn 15, 15, by unfold State.settled; decide +kernel⟩,
   ⟨cciBusy 15, 15, by unfold State.settled; decide +kernel⟩,
   ⟨cciBusy 15, 15, by unfold State.settled; decide +kernel⟩⟩

theorem witness_FrameSync :
    (∃ (s : State) (w : Word), s.settled ∧ fld w 0 2 = 0) ∧
    (∃ (s : State) (p : Fin 16) (w : Word), s.settled ∧ fld w 0 2 ≠ 0 ∧ (s.port p).fsyncArmed = true) ∧
    (∃ (s : State) (p : Fin 16) (w : Word), s.settled ∧ fld w 0 2 ≠ 0 ∧ (s.port p).fsyncArmed = false) ∧
    (∃ (s : State), s.settled) ∧
    (∃ (s : State) (p : Fin 16), s.settled ∧ (s.port p).fsyncArmed = true) ∧
    (∃ (s : State) (p : Fin 8), s.settled ∧ (s.port p).fsyncArmed = true ∧ s.rfld (pgCam p) 0x1C0 1 1 = 1 ∧ (s.port p).fsyncSent =
       false ∧ s.portPowered p = true) :=
  ⟨⟨syncing 15, 4, by unfold State.settled; decide +kernel⟩,
   ⟨syncing 15, 15, 3, by unfold State.settled; decide +kernel⟩,
   ⟨camOn 15, 15, 3, by unfold State.settled; decide +kernel⟩,
   ⟨syncing 15, by unfold State.settled; decide +kernel⟩,
   ⟨syncing 15, 15, by unfold State.settled; decide +kernel⟩,
   ⟨syncing 7, 7, by unfold State.settled; decide +kernel⟩⟩

theorem witness_RowPairs :
    (∃ (s : State) (i : Fin 64) (f : Frame) (en : BindEntry) (rows : List (Row × Row) × Bool),
       (s.slot i).store.head?.bind (fun w => (s.strm i).frames.find? fun g => g.rxCount == w.frame) = some f ∧
       (s.strm i).entry = some en ∧ pairRows (s.slot i) f = some rows ∧ (s.strm i).slotBusy en.ringSlots (s.strm i).ringHead = false ∧
       (∀ g ∈ (s.strm i).frames, g.ended = false ∧ ∀ b, b + 1 < g.bandCount → 2 * (g.pairs + 1) ≤ g.trigger b)) ∧
    (∃ (s : State) (i : Fin 64) (f : Frame) (en : BindEntry) (rows : List (Row × Row) × Bool), s.settled ∧
       (s.slot i).store.head?.bind (fun w => (s.strm i).frames.find? fun g => g.rxCount == w.frame) = some f ∧
       (s.strm i).entry = some en ∧ pairRows (s.slot i) f = some rows ∧ (s.strm i).slotBusy en.ringSlots (s.strm i).ringHead = true ∧
       (s.strm i).stalled = false) ∧
    (∃ (s : State) (i : Fin 64), s.settled ∧ (s.strm i).stalled = false) :=
  ⟨⟨pairReady frame, 0, frame, entry, ([twoRows 0], false), ⟨by decide, by decide, by decide, by decide,
     fun g hg => by (have h : g = frame := List.mem_singleton.mp hg); subst h; exact ⟨rfl,
     fun b hb => absurd hb (by show ¬ b + 1 < 1; omega)⟩⟩⟩,
   ⟨pairReady { frame with slot0 := 4, pairs := 4 }, 0, { frame with slot0 := 4, pairs := 4 }, entry, ([twoRows 4], false),
      by unfold State.settled; decide +kernel⟩,
   ⟨up, 63, by unfold State.settled; decide +kernel⟩⟩

theorem witness_ParameterSets :
    (∃ (s : State), s.settled ∧ s.named = []) ∧
    (∃ (s : State) (i : Nat), s.settled ∧ s.named.find? (fun i => s.stageCase s.named i != 0) = some i) ∧
    (∃ (s : State), s.settled ∧ s.named ≠ [] ∧ (∀ i ∈ s.named, s.stageCase s.named i = 0 ∧ s.slotEn i = true)) ∧
    (∃ (s : State) (i : Nat), s.settled ∧ s.named = [i] ∧ s.stageCase [i] i = 0 ∧ s.slotEn i = false) ∧
    (∃ (s : State) (a : Nat) (i : Nat), s.settled ∧ stageStream a = some i ∧ a ≠ camA i) ∧
    (∃ (s : State), s.settled) :=
  ⟨⟨up, by unfold State.settled; decide +kernel⟩,
   ⟨(up.setReg pgRfe 0x104 0x80000000).setReg 0x10F 0x184 1, 63, by unfold State.settled; decide +kernel⟩,
   ⟨staged true, by unfold State.settled; decide +kernel⟩,
   ⟨staged false, 0, by unfold State.settled; decide +kernel⟩,
   ⟨staged true, 0x100124, 0, by unfold State.settled; decide +kernel⟩,
   ⟨up, by unfold State.settled; decide +kernel⟩⟩

theorem witness_UnitCommandsStart :
    (∃ (s : State) (e : Fin 6) (x : Exec) (c : WsetCmd), s.idleFor e x (.wset c)) ∧
    (∃ (s : State) (e : Fin 6) (x : Exec) (c : MmCmd), s.idleFor e x (.mm c) ∧ c.upset = .clean ∧ (s.eng e).check.inject = false ∧
       ((s.starting e x (.mm c) 0).runMm e c).gussetDiffers e c = false) ∧
    (∃ (s : State) (c : MmCmd), s.settled ∧ c.selvedgeZero = true) ∧
    (∃ (s : State) (e : Fin 6) (x : Exec) (c : DrainCmd), s.idleFor e x (.drain c) ∧ c.upset = .clean) ∧
    (∃ (s : State) (e : Fin 6) (x : Exec) (c : VopCmd), s.idleFor e x (.vop c) ∧ c.upset = .clean) ∧
    (∃ (s : State) (e : Fin 6) (x : Exec) (c : VlutCmd), s.idleFor e x (.vlut c)) ∧
    (∃ (s : State) (e : Fin 6) (x : Exec) (c : VredCmd), s.idleFor e x (.vred c)) ∧
    (∃ (s : State) (e : Fin 6) (x : Exec) (c : FftCmd), s.idleFor e x (.fft c)) ∧
    (∃ (s : State) (e : Fin 6) (x : Exec) (c : MoveCmd), s.idleFor e x (.move c)) ∧
    (∃ (s : State) (e : Fin 6) (x : Exec) (c : PutCmd), s.idleFor e x (.put c)) :=
  ⟨⟨executing 5 stripe, 5, stripe, aWset, idleFor_of (by decide +kernel)⟩,
   ⟨executing 5 stripe, 5, stripe, anMm, idleFor_of (by decide +kernel), by decide +kernel⟩,
   ⟨executing 5 stripe, { anMm with selvedgeZero := true }, by unfold State.settled; decide +kernel⟩,
   ⟨executing 5 stripe, 5, stripe, aDrain, idleFor_of (by decide +kernel), by decide +kernel⟩,
   ⟨executing 5 stripe, 5, stripe, aVop, idleFor_of (by decide +kernel), by decide +kernel⟩,
   ⟨executing 5 stripe, 5, stripe, aVlut, idleFor_of (by decide +kernel)⟩,
   ⟨executing 5 stripe, 5, stripe, aVred, idleFor_of (by decide +kernel)⟩,
   ⟨executing 5 stripe, 5, stripe, anFft, idleFor_of (by decide +kernel)⟩,
   ⟨executing 5 stripe, 5, stripe, aMove, idleFor_of (by decide +kernel)⟩,
   ⟨executing 0 stripe, 0, stripe, aPut, idleFor_of (by decide +kernel)⟩⟩

theorem witness_UnitCommandResults :
    (∃ (s : State) (e : Fin 6) (x : Exec) (c : WsetCmd), s.idleFor e x (.wset c)) ∧
    (∃ (s : State) (e : Fin 6) (x : Exec) (c : MmCmd), s.idleFor e x (.mm c) ∧ c.upset = .clean) ∧
    (∃ (s : State) (e : Fin 6) (x : Exec) (c : DrainCmd), s.idleFor e x (.drain c) ∧ c.upset = .clean ∧ c.rows = 1 ∧ c.core = none ∧
       c.conv.fmt.mx = false ∧ 0 < c.chans ∧ c.chans ≤ c.conv.fmt.chans) ∧
    (∃ (s : State) (e : Fin 6) (x : Exec) (c : VopCmd) (a : Arr) (b : Arr), s.idleFor e x (.vop c) ∧ c.upset = .clean ∧ c.op = .add ∧
       c.srcs = [a, b] ∧ c.positions = 1 ∧ c.core = none ∧ c.weight = none ∧ c.resize = none ∧ c.conv.fmt.mx = false ∧ 0 < c.elems ∧
       c.elems ≤ c.conv.fmt.chans) ∧
    (∃ (s : State) (e : Fin 6) (x : Exec) (c : VlutCmd), s.idleFor e x (.vlut c) ∧ c.positions = 1 ∧ c.conv.fmt.mx = false ∧ 0 <
       c.elems ∧ c.elems ≤ c.conv.fmt.chans) ∧
    (∃ (s : State) (e : Fin 6) (x : Exec) (c : VredCmd), s.idleFor e x (.vred c) ∧ c.pool = none ∧ c.alongLanes = true ∧ c.positions
       = 1 ∧ c.conv.fmt.mx = false) ∧
    (∃ (s : State) (e : Fin 6) (x : Exec) (c : MoveCmd) (n : Nat), s.idleFor e x (.move c) ∧ c.kind = .copy ∧ c.rows = 1 ∧ c.elems =
       1 ∧ c.bits = 8 * n ∧ c.core = none) ∧
    (∃ (s : State) (e : Fin 6) (x : Exec) (c : FftCmd), s.idleFor e x (.fft c) ∧ c.count = 1 ∧ c.stride = 8) :=
  ⟨⟨executing 5 stripe, 5, stripe, aWset, idleFor_of (by decide +kernel)⟩,
   ⟨executing 5 stripe, 5, stripe, anMm, idleFor_of (by decide +kernel), by decide +kernel⟩,
   ⟨executing 5 stripe, 5, stripe, aDrain, idleFor_of (by decide +kernel), by decide +kernel⟩,
   ⟨executing 5 stripe, 5, stripe, aVop, halvesAt, halvesAt, idleFor_of (by decide +kernel), by decide +kernel⟩,
   ⟨executing 5 stripe, 5, stripe, aVlut, idleFor_of (by decide +kernel), by decide +kernel⟩,
   ⟨executing 5 stripe, 5, stripe, aVred, idleFor_of (by decide +kernel), by decide +kernel⟩,
   ⟨executing 5 stripe, 5, stripe, aMove, 2, idleFor_of (by decide +kernel), by decide +kernel⟩,
   ⟨executing 5 stripe, 5, stripe, anFft, idleFor_of (by decide +kernel), by decide +kernel⟩⟩

theorem witness_TacksAndSignals :
    (∃ (s : State) (e : Fin 6) (x : Exec), s.settled ∧ (s.eng e).running = some x ∧ (s.eng e).tack = none ∧ x.signalled = false) ∧
    (∃ (s : State) (e : Fin 6) (k : Tack), s.settled ∧ (s.eng e).tack = some k) ∧
    (∃ (s : State) (e : Fin 6) (x : Exec) (o : Option Place) (h : Option Place) (t : List (Nat × Arr)) (q : List (Nat × Nat × Place ×
       Nat)), s.settled ∧ (s.eng e).running = some x ∧ (s.eng e).tack = none ∧ x.signalled = false ∧ (∀ r ∈ s.signalSpans x.work o h
       t q, s.spanFault e x.work.job false r = none)) ∧
    (∃ (s : State) (e : Fin 6) (u : EngUnit) (c : Issued), s.settled ∧ (∀ v, (s.eng e).queue v = if v = u then [c] else []) ∧ (∀ p,
       c.cmd ≠ .put p)) ∧
    (∃ (s : State) (e : Fin 6) (r : ReadyEntry) (l : List ReadyEntry), s.settled ∧ (s.eng e).exec = none ∧ (s.eng e).ready = r :: l ∧
       r.gone = 0 ∧ s.takes e = true ∧ r.poisoned = false) ∧
    (∃ (s : State) (e : Fin 6) (r : ReadyEntry) (l : List ReadyEntry), s.settled ∧ (s.eng e).exec = none ∧ (s.eng e).ready = r :: l ∧
       r.gone = 0 ∧ s.takes e = true ∧ r.poisoned = true) ∧
    (∃ (s : State) (e : Fin 6) (x : Exec), (s.eng e).exec = some x ∧ x.signalled = true ∧ (s.eng e).ready ≠ [] ∧ (s.bufferNeed x.work
       = 0 ∨ 0 < x.bufLines ∨ 0 < s.poolRoom 1 x.work.stream) ∧ s.badWords e (s.signalSpans x.work x.outPlace x.hist x.taps x.parts)
       = none) :=
  ⟨⟨executing 5 stripe, 5, stripe, by unfold State.settled; decide +kernel⟩,
   ⟨engine 5 (fun g => { g with tack := some ⟨7, true, 0⟩, issue := 1 }), 5, ⟨7, true, 0⟩, by unfold State.settled; decide +kernel⟩,
   ⟨executing 5 { stripe with stripeTack := true }, 5, { stripe with stripeTack := true }, some result, some result, [(7, bytesAt)],
      [(0, 0, result, 128)], by unfold State.settled; decide +kernel⟩,
   ⟨engine 5 (fun g => { g with matrixQ := [⟨0, .wset aWset, true, 0⟩] }), 5, .matrix, ⟨0, .wset aWset, true, 0⟩, ⟨⟨rfl,
      by decide +kernel⟩, fun v => by cases v <;> rfl, fun p => by simp⟩⟩,
   ⟨engine 5 (fun g => { g with ready := [readyStripe] }), 5, readyStripe, [], by unfold State.settled; decide +kernel⟩,
   ⟨engine 5 (fun g => { g with ready := [{ readyStripe with poisoned := true }] }), 5, { readyStripe with poisoned := true }, [],
      by unfold State.settled; decide +kernel⟩,
   ⟨engine 5 (fun g => { g with exec := some { stripe with signalled := true }, ready := [readyStripe] }), 5, { stripe with signalled
      := true }, by decide +kernel⟩⟩

theorem witness_FetchCancelReplay :
    (∃ (s : State) (e : Fin 6) (w : Work) (l : List Work), s.settled ∧ (s.eng e).work = w :: l ∧ s.takes e = true ∧ s.sched.waiting =
       [] ∧ (∀ r ∈ (s.eng e).ready, r.gone = 0 ∧ r.waiting = []) ∧ (s.eng e).ready.length < s.basting e w) ∧
    (∃ (s : State) (e : Fin 6) (w : Work) (l : List Work) (f : FetchEntry) (k : Nat) (d : Region × Nat), (s.eng e).work = w :: l ∧
       s.takes e = true ∧ s.sched.waiting = [] ∧ (s.eng e).ready = [] ∧ 0 < s.basting e w ∧ f.gather = none ∧ f.plane = none ∧
       f.writes ≠ 0 ∧ s.fetchFault e w f = none ∧ s.staging e w.job = some k ∧ (s.region e k).alloc f.lines = some d ∧ ((s.eng
       e).sb.getD 0 SbEntry.free).kind = 0 ∧ (s.eng e).sb.length = 16) ∧
    (∃ (s : State) (e : Fin 6) (n : Fin 16) (k : Nat) (f : FetchEntry) (w : Work) (b : SbEntry), (s.eng e).exec = none ∧ (s.eng
       e).moverQ = [] ∧ (s.eng e).sb.length = 16 ∧ (s.eng e).sb.getD n SbEntry.free = b ∧ b.kind = 1 ∧ b.plan = some f ∧ b.owner =
       some w ∧ w.tensor = false ∧ f.gather = none ∧ f.plane = none ∧ k < f.writes ∧ b.landed.contains k = false) ∧
    (∃ (s : State) (e : Fin 6) (x : Exec) (r : ReadyEntry) (l : List ReadyEntry), s.settled ∧ (s.eng e).exec = some x ∧ (s.eng
       e).ready = r :: l ∧ x.abandoned = true ∧ (s.eng e).inFlight = false ∧ (s.eng e).check.kat = none ∧ (s.eng e).check.state ≠ 3 ∧
       r.gone = 0 ∧ s.takes e = true) :=
  ⟨⟨engine 5 (fun g => { g with work := [work] }), 5, work, [], by unfold State.settled; decide +kernel⟩,
   ⟨{ engine 5 (fun g => { g with work := [work] }) with jobs := [(0, some job)] }, 5, work, [], fetchOne, 1,
      ({ region 2 with base := 4096, head := 1, recs := [(1, false)] }, 4096), by decide +kernel⟩,
   ⟨engine 5 (fun g => { g with sb := g.sb.set 15 ⟨1, 4096, 1, some work, 1, false, 0, 1, some fetchOne, [], [], []⟩ }), 5, 15, 0, fetchOne,
      work, ⟨1, 4096, 1, some work, 1, false, 0, 1, some fetchOne, [], [], []⟩, by decide +kernel⟩,
   ⟨engine 5 (fun g => { g with exec := some { stripe with abandoned := true }, ready := [readyStripe] }), 5,
      { stripe with abandoned := true }, readyStripe, [], by unfold State.settled; decide +kernel⟩⟩

theorem witness_InjectedMismatch :
    (∃ (s : State), s.settled) ∧
    (∃ (s : State) (e : Fin 6), s.settled ∧ (s.eng e).check.inject = true ∧ (s.eng e).check.compares = true ∧ s.pwr.state = .active) ∧
    (∃ (s : State) (e : Fin 6) (x : Exec) (c : MmCmd), s.idleFor e x (.mm c) ∧ c.upset = .clean ∧ (s.eng e).check.inject = true ∧
       (s.eng e).check.compares = true) ∧
    (∃ (s : State) (e : Fin 6) (x : Exec) (c : MmCmd), s.idleFor e x (.mm c) ∧ (∀ r k, c.upset ≠ .accParity r k) ∧ (s.eng
       e).check.inject = false ∧ (s.eng e).check.compares = true ∧ ((s.starting e x (.mm c) 0).runMm e c).gussetDiffers e c = true) ∧
    (∃ (s : State) (e : Fin 6) (col : Nat), s.settled ∧ (s.eng e).check.kat = some col ∧ (s.eng e).check.forced = true ∧ ((s.eng
       e).check.transients.filter fun t => t.1 == col && decide (s.clk.up < t.2 + 1000000000)).length < 2 ∧ bitAt (s.reg (pgEng e)
       0x120) 0 = false) :=
  ⟨⟨up, by unfold State.settled; decide +kernel⟩,
   ⟨engine 5 (fun g => { g with check := { g.check with inject := true, window := 255 } }), 5,
      by unfold State.settled; decide +kernel⟩,
   ⟨engine 5 (fun g => { g with exec := some stripe, check := { g.check with inject := true } }), 5, stripe, anMm,
      idleFor_of (by decide +kernel), by decide +kernel⟩,
   ⟨executing 5 stripe, 5, stripe, { anMm with upset := .dot 0 0 0x40000000 }, idleFor_of (by decide +kernel),
      (fun _ _ h => nomatch h), by decide +kernel⟩,
   ⟨engine 5 (fun g => { g with check := { g.check with kat := some 255, forced := true, window := 255 } }), 5, 255,
      by unfold State.settled; decide +kernel⟩⟩

theorem witness_CheckUnit :
    (∃ (s : State) (e : Fin 6), s.settled ∧ (s.eng e).check.kat = none ∧ (s.eng e).check.inject = false ∧ s.pwr.state = .active ∧
       (s.eng e).check.window < 256) ∧
    (∃ (s : State) (e : Fin 6), s.settled ∧ (s.eng e).check.kat = none ∧ s.pwr.state = .active ∧ (s.eng e).check.window = 256) ∧
    (∃ (s : State) (e : Fin 6) (col : Nat), s.settled ∧ (s.eng e).check.kat = some col ∧ (s.eng e).check.forced = false ∧
       bitAt (s.reg (pgEng e) 0x120) 0 = false) :=
  ⟨⟨engine 5 (fun g => { g with check := { g.check with window := 255 } }), 5, by unfold State.settled; decide +kernel⟩,
   ⟨engine 5 (fun g => { g with check := { g.check with window := 256 } }), 5, by unfold State.settled; decide +kernel⟩,
   ⟨engine 5 (fun g => { g with check := { g.check with kat := some 255, window := 255 } }), 5, 255,
      by unfold State.settled; decide +kernel⟩⟩

theorem witness_EngineSelfTest :
    (∃ (s : State) (e : Fin 6), s.settled ∧ s.pwr.state ≠ .standby ∧ s.pwr.trans = none ∧ (s.eng e).testing = true) ∧
    (∃ (s : State) (e : Fin 6) (w : Word), s.settled ∧ s.pwr.state ≠ .standby ∧ s.pwr.trans = none ∧ bitAt w 0 = true ∧ (s.eng
       e).testing = false ∧ (s.eng e).check.kat = none ∧ (s.eng e).fenced = true) ∧
    (∃ (s : State) (e : Fin 6) (w : Word), bitAt w 0 = true ∧ (s.eng e).testing = false ∧ (s.eng e).check.kat = none ∧ (s.eng
       e).fenced = false ∧ s.pwr.state = .idle ∧ s.pwr.state ≠ .standby ∧ s.pwr.trans = none ∧ (s.eng e).work = [] ∧ (s.eng e).ready
       = [] ∧ (s.eng e).exec = none ∧ (bitAt w 1 = true ∨ s.openItems = [])) ∧
    (∃ (s : State) (e : Fin 6) (w : Word), s.settled ∧ bitAt w 0 = true ∧ bitAt w 1 = false ∧ (s.eng e).testing = false ∧ (s.eng
       e).check.kat = none ∧ (s.eng e).fenced = false ∧ s.pwr.state = .active ∧ s.pwr.state ≠ .standby ∧ s.pwr.trans = none ∧ fits
       (s.rotation.filter (· != e.val)).length s.activeItems = false) ∧
    (∃ (s : State) (e : Fin 6) (w : Word), bitAt w 0 = true ∧ (s.eng e).testing = false ∧ (s.eng e).check.kat = none ∧ (s.eng
       e).fenced = false ∧ s.pwr.state = .standby ∧ s.pwr.trans = none ∧ s.tooHot = false ∧ (s.eng e).work = [] ∧ (s.eng e).ready =
       [] ∧ (s.eng e).exec = none ∧ (bitAt w 1 = true ∨ s.openItems = [])) ∧
    (∃ (s : State) (e : Fin 6), (s.eng e).selftest = 3) :=
  ⟨⟨engine 5 (fun g => { g with selftest := 3 }), 5, by unfold State.settled; decide +kernel⟩,
   ⟨{ engine 5 (fun g => { g with fenced := true, inRotation := false }) with flt := { up.flt with replaced := true } }, 5, 1,
      by unfold State.settled; decide +kernel⟩,
   ⟨{ engine 5 id with pwr := { up.pwr with state := .idle } }, 5, 1, by decide +kernel⟩,
   ⟨engine 5 id, 5, 1, by unfold State.settled; decide +kernel⟩,
   ⟨{ engine 5 id with pwr := { up.pwr with state := .standby } }, 5, 1, by decide +kernel⟩,
   ⟨engine 5 (fun g => { g with selftest := 3 }), 5, by decide +kernel⟩⟩

theorem witness_EngineRunAndReset :
    (∃ (s : State) (e : Fin 6), (s.eng e).resetting = true ∧ (s.eng e).hang < 2) ∧
    (∃ (s : State) (e : Fin 6), (s.eng e).exec.isSome = true ∧ (s.eng e).resetting = false ∧ (s.eng e).fenced = false) ∧
    (∃ (s : State) (e : Fin 6), s.settled ∧ (s.eng e).resetting = true ∧ (s.eng e).hang = 1) ∧
    (∃ (s : State) (e : Fin 6), ((s.eng e).hang = 2 ∨ (s.eng e).hang = 3)) ∧
    (∃ (s : State) (e : Fin 6) (x : Exec), s.settled ∧ (s.eng e).exec = some x ∧ (s.eng e).fenced = false ∧ (s.eng e).scalarErrs = []) :=
  ⟨⟨engine 5 (fun g => { g with resetting := true, hang := 1 }), 5, by decide +kernel⟩,
   ⟨executing 5 stripe, 5, by decide +kernel⟩,
   ⟨engine 5 (fun g => { g with resetting := true, hang := 1 }), 5, by unfold State.settled; decide +kernel⟩,
   ⟨engine 5 (fun g => { g with resetting := true, hang := 3 }), 5, by decide +kernel⟩,
   ⟨executing 5 stripe, 5, stripe, by unfold State.settled; decide +kernel⟩⟩

theorem witness_RegionsAndCredits :
    (∃ (s : State) (t : Fin 6) (r : Fin 32) (n : Nat) (b : Bool) (x : Region × Nat), s.settled ∧ (s.tile t).waiting = [] ∧ 0 < n ∧
       (s.region t r).mode = 2 ∧ (if b then (s.region t r).free 0 else s.region t r).alloc n = some x) ∧
    (∃ (s : State) (t : Fin 6) (r : Fin 32) (n : Nat), s.settled ∧ (s.tile t).waiting = [] ∧ 0 < n ∧ (s.region t r).mode = 2 ∧
       (s.region t r).alloc n = none) ∧
    (∃ (s : State) (e : Fin 6) (k : Fin 6) (r : Fin 32) (n : Nat) (x : Region × Nat), s.settled ∧ e ≠ k ∧ (∀ b ∈ (s.eng e).sb,
       b.isVoid = false) ∧ (s.eng k).frozen = false ∧ (s.eng k).matrixQ = [] ∧ (s.eng k).vectorQ = [] ∧ (s.eng k).moverQ = [] ∧
       ((s.eng e).sb.getD 14 SbEntry.free).kind = 0 ∧ (s.eng e).sb.length = 16 ∧ (s.region e r).alloc n = some x) ∧
    (∃ (s : State) (e : Fin 6) (k : Fin 6) (r : Fin 32) (n : Nat) (x : Region × Nat) (i : Nat) (w : Nat) (c : PutCmd), e ≠ k ∧ (∀ b ∈
       (s.eng e).sb, b.isVoid = false) ∧ (s.eng k).frozen = false ∧ (s.eng k).matrixQ = [] ∧ (s.eng k).vectorQ = [] ∧ (s.eng
       k).moverQ = [⟨i, .put c, true, w⟩] ∧ c.tile = e ∧ c.region = r.val ∧ sget (fun _ => 0) (s.eng k).credits (32 * e.val + r.val) = 0 ∧ 0 < w ∧ 0 < n
       ∧ w ≤ c.lines ∧ ((s.eng e).sb.getD 14 SbEntry.free).kind = 0 ∧ (s.eng e).sb.length = 16 ∧ (s.region e r).alloc n = some x) ∧
    (∃ (s : State) (t : Fin 6) (l : RingLine) (q : List RingLine), (s.tile t).incoming = l :: q ∧ l.data.length = 128 ∧ ((s.region t
       l.region).mode = 0 ∨ (s.region t l.region).base ≠ l.base ∨ l.line < (s.region t l.region).size) ∧ l.base + l.line < 262144 ∧
       (∀ g, s.bgroup t g = ⟨0, none⟩) ∧ (s.eng t).matrixQ = [] ∧ (s.eng t).vectorQ = [] ∧ (s.eng t).moverQ = []) ∧
    (∃ (s : State) (t : Fin 6) (l : RingLine) (q : List RingLine), (s.tile t).incoming = l :: q ∧ l.sender < 6 ∧ (s.eng
       l.sender).frozen = false ∧ ((s.region t l.region).mode ≠ 0 ∧ (s.region t l.region).base = l.base ∧ (s.region t l.region).size
       ≤ l.line ∨ (s.bgroup t ((l.base + l.line) / 32768)).state ≠ 0)) ∧
    (∃ (s : State) (t : Fin 6) (k : Fin 6) (run : Nat) (d : Nat) (y : Exec), s.settled ∧ (s.tile t).acks = [(k.val, run, d)] ∧ (s.eng
       k).matrixQ = [] ∧ (s.eng k).vectorQ = [] ∧ (s.eng k).moverQ = [] ∧ (s.eng k).exec = some y) ∧
    (∃ (s : State) (e : Fin 6), s.settled ∧ (s.eng e).running = none) :=
  ⟨⟨engine 5 id, 5, 1, 4096, false, ({ region 2 with base := 4096, head := 0, headWrap := true, recs := [(4096, false)] }, 4096),
      by unfold State.settled; decide +kernel⟩,
   ⟨engine 5 id, 5, 1, 4097, by unfold State.settled; decide +kernel⟩,
   ⟨engine 5 id, 5, 0, 1, 2, ({ region 2 with base := 4096, head := 2, recs := [(2, false)] }, 4096),
      by unfold State.settled; decide +kernel⟩,
   ⟨(engine 5 id).setEng 0 { Engine.init with moverQ := [⟨0, .put { aPut with region := 1 }, true, 4⟩] }, 5, 0, 1, 1, ({ region 2
      with base := 4096, head := 1, recs := [(1, false)] }, 4096), 0, 4, { aPut with region := 1 }, by decide +kernel⟩,
   ⟨lineDue 5 (ringLine 4095), 5, ringLine 4095, [], ⟨rfl, rfl, by decide +kernel, by decide, fun _ => rfl, rfl, rfl, rfl⟩⟩,
   ⟨lineDue 5 (ringLine 4096), 5, ringLine 4096, [], by decide +kernel⟩,
   ⟨(engine 5 (fun g => { g with exec := some { stripe with unacked := 9 } })).setTile 0 { Tile.init with acks := [(5, 0, 9)] }, 0,
      5, 0, 9, { stripe with unacked := 9 }, by unfold State.settled; decide +kernel⟩,
   ⟨up, 0, by unfold State.settled; decide +kernel⟩⟩

theorem witness_ParityAndPatrol :
    (∃ (s : State) (p : Fin 8) (n : Fin 33), s.settled ∧ 0 < n.val ∧ p.val ≠ 0 ∧ p.val ≠ 1 ∧ p.val ≠ 3) ∧
    (∃ (s : State) (p : Fin 8) (n : Fin 33), s.settled ∧ 0 < n.val ∧ (p.val = 0 ∨ p.val = 1 ∨ p.val = 3)) ∧
    (∃ (s : State) (t : Fin 6) (p : Fin 8) (b : Bool) (l : Fin 262144) (x : Exec), (p.val = 0 ∨ p.val = 1 ∨ p.val = 3 ∨ b = true) ∧
       (s.eng t).exec = some x ∧ x.work.replay = false ∧ x.abandoned = false ∧ (s.regionAt t l).all (fun r => !r.2.persist) = true) ∧
    (∃ (s : State) (t : Fin 6) (p : Fin 8) (l : Fin 262144) (w : Fin 32) (x : Exec), (p.val = 0 ∨ p.val = 1 ∨ p.val = 3) ∧ (s.eng
       t).exec = some x ∧ x.work.replay = true ∧ x.work.tensor = true ∧ s.job x.work.job = none ∧ (tileBase t + 128 * l.val + 4 *
       w.val) ∈ x.failWords) ∧
    (∃ (s : State) (t : Fin 6), s.settled ∧ bitAt (s.reg (pgSmem t) 8) 0 = false) ∧
    (∃ (s : State) (t : Fin 6) (r : Nat) (n : Nat), s.settled ∧ bitAt (s.reg (pgSmem t) 8) 0 = true ∧ (∀ w ∈ (s.tile t).storedErrs,
       (w - tileBase t) / 128 ≠ n) ∧ s.patrolLine t (s.tile t).patrolPos = some (r, n) ∧ s.patrolLine t (n + 1) ≠ none) ∧
    (∃ (s : State) (t : Fin 6) (r : Nat) (n : Nat), s.settled ∧ bitAt (s.reg (pgSmem t) 8) 0 = true ∧ (∀ w ∈ (s.tile t).storedErrs,
       (w - tileBase t) / 128 ≠ n) ∧ s.patrolLine t (s.tile t).patrolPos = some (r, n) ∧ s.patrolLine t (n + 1) = none) :=
  ⟨⟨up, 7, 32, by unfold State.settled; decide +kernel⟩,
   ⟨up, 3, 1, by unfold State.settled; decide +kernel⟩,
   ⟨executing 5 stripe, 5, 7, true, 262143, stripe, by decide +kernel⟩,
   ⟨executing 5 { stripe with work := { work with replay := true, tensor := true }, failWords := [0x4BFFFFFC] }, 5, 3, 262143, 31,
      { stripe with work := { work with replay := true, tensor := true }, failWords := [0x4BFFFFFC] }, by decide +kernel⟩,
   ⟨up.setRfld (pgSmem 5) 8 0 1 0, 5, by unfold State.settled; decide +kernel⟩,
   ⟨patrolled 5 0, 5, 0, 0, by unfold State.settled; decide +kernel⟩,
   ⟨patrolled 5 1, 5, 0, 1, by unfold State.settled; decide +kernel⟩⟩

theorem witness_BankGroups :
    (∃ (s : State) (t : Fin 6) (w : Word) (g : Fin 8), s.settled ∧ (∀ k, k < 8 → k ≠ g.val → fld w (2 * k) 2 = 3) ∧
       fld w (2 * g.val) 2 < 3 ∧ (s.bgroup t g).target = none ∧ (s.bgroup t g).state ≠ fld w (2 * g.val) 2 ∧ s.groupUsed t g = false) ∧
    (∃ (s : State) (t : Fin 6) (w : Word) (g : Fin 8), s.settled ∧ (∀ k, k < 8 → k ≠ g.val → fld w (2 * k) 2 = 3) ∧
       fld w (2 * g.val) 2 ≠ 0 ∧ fld w (2 * g.val) 2 < 3 ∧ (s.bgroup t g).target = none ∧ (s.bgroup t g).state ≠ fld w (2 * g.val) 2 ∧
       s.groupUsed t g = true) ∧
    (∃ (s : State) (t : Fin 6) (g : Fin 8), s.settled ∧ (s.bgroup t g).target = none) ∧
    (∃ (s : State) (t : Fin 6) (g : Fin 8) (r : Nat), s.settled ∧ (s.bgroup t g).target = some r ∧ (s.bgroup t g).state = 0 ∧
       0 < s.outstanding t g) ∧
    (∃ (s : State) (t : Fin 6) (g : Fin 8) (b : Bool) (r : Nat), s.settled ∧ (s.bgroup t g).target = some r ∧
       ((s.bgroup t g).state ≠ 0 ∨ s.outstanding t g = 0 ∨ b = true)) :=
  ⟨⟨up, 5, 0xBFFF, 7, by unfold State.settled; decide +kernel⟩,
   ⟨engine 5 id, 5, 0xFFFE, 0, by unfold State.settled; decide +kernel⟩,
   ⟨up, 5, 7, by unfold State.settled; decide +kernel⟩,
   ⟨(changing 5 0 1).setTile 5 { (changing 5 0 1).tile 5 with regions := [(1, region 2)], incoming := [ringLine 0] }, 5, 0, 1,
      by unfold State.settled; decide +kernel⟩,
   ⟨changing 5 7 2, 5, 7, true, 2, by unfold State.settled; decide +kernel⟩⟩

theorem witness_BoxListsAndBands :
    (∃ (s : State) (q : Fin 16384), s.settled ∧ ((s.queue q).ctx.en = false ∨ (s.queue q).ctx.dir ≠ 1 ∨ seqAhead (s.queue
       q).ctx.avail (s.queue q).ctx.cons = false ∨ s.chanStopped q = true)) ∧
    (∃ (s : State) (q : Fin 16384) (d : Desc), (s.queue q).ctx.en = true ∧ (s.queue q).ctx.dir = 1 ∧ seqAhead (s.queue q).ctx.avail
       (s.queue q).ctx.cons = true ∧ s.chanStopped q = false ∧ s.sec.frozen.contains 0x92 = false ∧ (s.readDesc q (s.queue
       q).ctx.cons).2 = d ∧ d.kind = 6 ∧ (d.aux0 ≠ 0 ∨ d.aux1 ≠ 0)) ∧
    (∃ (s : State) (q : Fin 16384) (d : Desc) (r : State × RangeRead), (s.queue q).ctx.en = true ∧ (s.queue q).ctx.dir = 1 ∧ seqAhead
       (s.queue q).ctx.avail (s.queue q).ctx.cons = true ∧ s.chanStopped q = false ∧ s.sec.frozen.contains 0x92 = false ∧ (s.readDesc
       q (s.queue q).ctx.cons).2 = d ∧ d.kind = 6 ∧ d.aux0 = 0 ∧ d.aux1 = 0 ∧ s.blockOk 0x92 d.addr (max d.length 1) = true ∧
       s.blockRead 0x92 (who 9 (((s.boxBinding q).map (·.1)).getD 0)) d.addr d.length = r ∧ r.2.valid = true ∧ r.2.poison = false ∧
       r.2.error = false) ∧
    (∃ (s : State) (q : Nat) (i : Nat) (j : Nat) (b : List Byte), s.boxBinding q = some (i, j) ∧ leAt b 6 2 ≤ 1024 ∧ 32 + 24 * leAt b
       6 2 ≤ b.length ∧ (boxListOf (b.take (32 + 24 * 1024)) s.clk.ptp).stream = i ∧ (boxListOf (b.take (32 + 24 * 1024))
       s.clk.ptp).job = j ∧ ((boxListOf (b.take (32 + 24 * 1024)) s.clk.ptp).frameSeq = 0xFFFFFFFF ∨ seqAhead (s.strm i).nextSeq
       (boxListOf (b.take (32 + 24 * 1024)) s.clk.ptp).frameSeq = false)) ∧
    (∃ (s : State) (q : Nat) (i : Nat) (j : Nat) (b : List Byte), s.boxBinding q = some (i, j) ∧ leAt b 6 2 ≤ 1024 ∧ 32 + 24 * leAt b
       6 2 ≤ b.length ∧ (boxListOf (b.take (32 + 24 * 1024)) s.clk.ptp).stream = i ∧ (boxListOf (b.take (32 + 24 * 1024))
       s.clk.ptp).job = j ∧ (boxListOf (b.take (32 + 24 * 1024)) s.clk.ptp).frameSeq ≠ 0xFFFFFFFF ∧ seqAhead (s.strm i).nextSeq
       (boxListOf (b.take (32 + 24 * 1024)) s.clk.ptp).frameSeq = true) ∧
    (∃ (s : State) (q : Nat) (i : Nat) (j : Nat) (b : List Byte), s.boxBinding q = some (i, j) ∧ leAt b 6 2 ≤ 1024 ∧ 32 + 24 * leAt b
       6 2 ≤ b.length ∧ ((boxListOf (b.take (32 + 24 * 1024)) s.clk.ptp).stream ≠ i ∨ (boxListOf (b.take (32 + 24 * 1024))
       s.clk.ptp).job ≠ j)) ∧
    (∃ (s : State) (i : Fin 64), s.settled ∧ (s.strm i).frames = []) ∧
    (∃ (s : State) (i : Fin 64) (f : Frame) (l : List Frame), s.settled ∧ (s.strm i).frames = f :: l ∧ f.nextBand = none) ∧
    (∃ (s : State) (i : Fin 64) (f : Frame) (l : List Frame) (b : Nat) (j : Nat), (s.strm i).frames = f :: l ∧ f.nextBand = some b ∧
       (s.strm i).job = some j ∧ b < f.bands.length) :=
  ⟨⟨up, 16383, by unfold State.settled; decide +kernel⟩,
   ⟨boxQueue (listDesc 1) [], 16383, listDesc 1, by decide +kernel⟩,
   ⟨boxQueue (listDesc 0) (listBytes 0xFFFFFFFF 63 7 0), 16383, listDesc 0,
      (boxQueue (listDesc 0) (listBytes 0xFFFFFFFF 63 7 0)).blockRead 0x92 (who 9 63) 0x40001000 32, by decide +kernel⟩,
   ⟨boxQueue (listDesc 0) [], 16383, 63, 7, listBytes 0xFFFFFFFF 63 7 1024, by decide +kernel⟩,
   ⟨(boxQueue (listDesc 0) []).setStrm 63 { (boxQueue (listDesc 0) []).strm 63 with nextSeq := 6 }, 16383, 63, 7, listBytes 5 63 7 0,
      by decide +kernel⟩,
   ⟨boxQueue (listDesc 0) [], 16383, 63, 7, listBytes 5 63 6 0, by decide +kernel⟩,
   ⟨up, 63, by unfold State.settled; decide +kernel⟩,
   ⟨banded 63 (dueBy 5000) id, 63, dueBy 5000, [], by unfold State.settled; decide +kernel⟩,
   ⟨banded 0 doneBand id, 0, doneBand, [], 0, 0, by decide +kernel⟩⟩

theorem witness_DeadlinesAndWatchdog :
    (∃ (s : State), s.settled ∧ (∀ x ∈ s.openItems, s.project x true ≤ x.deadline)) ∧
    (∃ (s : State) (x : Item), s.openItems = [x] ∧ x.deadline < s.project x true ∧ s.project x false ≤ x.deadline) ∧
    (∃ (s : State) (x : Item), s.openItems = [x] ∧ x.deadline < s.project x true ∧ x.deadline < s.project x false) ∧
    (∃ (s : State) (i : Nat) (j : Nat) (q : Nat) (b : Nat) (f : Frame) (x : Band), s.frameOf i q = some f ∧ f.bands[b]? = some x ∧
       x.ready.isSome = true ∧ x.complete = false ∧ (s.strm i).job = some j) ∧
    (∃ (s : State) (i : Nat) (q : Nat) (b : Nat) (f : Frame) (x : Band), s.settled ∧ s.frameOf i q = some f ∧ f.bands[b]? = some x ∧
       (x.ready = none ∨ x.complete = true)) ∧
    (∃ (s : State) (j : Nat) (x : Job), s.job j = some x ∧ x.stepUnits ≠ []) ∧
    (∃ (s : State) (l : List (Fin 72)), s.settled ∧ s.watchdogJob (l.map (·.val)) = none) ∧
    (∃ (s : State) (l : List (Fin 72)) (j : Nat), s.watchdogJob (l.map (·.val)) = some j ∧ j < 8) ∧
    (∃ (s : State), s.settled) :=
  ⟨⟨banded 0 (dueBy 5000) id, by unfold State.settled; decide +kernel⟩,
   ⟨banded 0 (dueBy 500) (fun g => { g with exec := some stripe, slip := 1000 }), itemOf 500, by decide +kernel⟩,
   ⟨banded 0 (dueBy 399) (fun g => { g with exec := some stripe }), itemOf 399, by decide +kernel⟩,
   ⟨banded 0 (dueBy 0) id, 0, 0, 0, 0, dueBy 0, ⟨some 0, 0, [.placed], false, false, false, false⟩, by decide +kernel⟩,
   ⟨banded 0 doneBand id, 0, 0, 0, doneBand, ⟨some 0, 5000, [.done], false, false, false, false⟩, by unfold State.settled; decide +kernel⟩,
   ⟨{ up with jobs := [(7, some { job with kind := 1, stepUnits := [.placed] })] }, 7, { job with kind := 1, stepUnits := [.placed] },
      by decide +kernel⟩,
   ⟨up, [71], by unfold State.settled; decide +kernel⟩,
   ⟨{ banded 0 (dueBy 0) id with sched := { up.sched with poolUse := [(0, 16), (1, 4080)] } }, [0, 71], 0, by decide +kernel⟩,
   ⟨up, by unfold State.settled; decide +kernel⟩⟩

theorem witness_StartCommands :
    (∃ (s : State) (c : StartCmd), s.settled ∧ (s.startBlock c.tag.toNat = none ∨ s.loaderFree = false ∨ s.bistRuns = true)) ∧
    (∃ (s : State) (c : StartCmd) (b : Binding), s.settled ∧ s.startBlock c.tag.toNat = some b ∧ b.mode = 1) ∧
    (∃ (s : State) (c : StartCmd) (b : Binding), s.settled ∧ s.startBlock c.tag.toNat = some b ∧ b.mode ≠ 1) ∧
    (∃ (s : State) (c : StartCmd) (b : Binding), s.settled ∧ s.startBlock c.tag.toNat = some b ∧ s.loaderFree = true ∧ s.bistRuns =
       false ∧ s.restarts = true ∧ b.mode ≠ 1) ∧
    (∃ (s : State) (c : StartCmd) (b : Binding), s.settled ∧ s.startBlock c.tag.toNat = some b ∧ s.loaderFree = true ∧ s.bistRuns =
       false ∧ s.restarts = true ∧ b.mode = 1) ∧
    (∃ (s : State) (c : StartCmd) (b : Binding), s.startBlock c.tag.toNat = some b ∧ s.loaderFree = true ∧ s.bistRuns = false ∧
       s.restarts = false ∧ (s.pwr.state ≠ .active ∨ s.pwr.trans.isSome = true) ∧ b.mode ≠ 1) ∧
    (∃ (s : State) (c : StartCmd) (b : Binding), s.startBlock c.tag.toNat = some b ∧ s.loaderFree = true ∧ s.bistRuns = false ∧
       s.restarts = false ∧ (s.pwr.state ≠ .active ∨ s.pwr.trans.isSome = true) ∧ b.mode = 1) ∧
    (∃ (s : State) (c : StartCmd) (b : Binding) (v : Verdict), s.startBlock c.tag.toNat = some b ∧ s.loaderFree = true ∧ s.bistRuns =
       false ∧ s.restarts = false ∧ s.pwr.state = .active ∧ s.pwr.trans = none ∧ s.loadFault b c = some v ∧ b.mode ≠ 1) ∧
    (∃ (s : State) (c : StartCmd) (b : Binding) (v : Verdict), s.startBlock c.tag.toNat = some b ∧ s.loaderFree = true ∧ s.bistRuns =
       false ∧ s.restarts = false ∧ s.pwr.state = .active ∧ s.pwr.trans = none ∧ s.loadFault b c = some v ∧ b.mode = 1) ∧
    (∃ (s : State) (c : StartCmd) (b : Binding), s.settled ∧ s.startBlock c.tag.toNat = some b ∧ s.loaderFree = true ∧ s.bistRuns =
       false ∧ s.restarts = false ∧ s.pwr.state = .active ∧ s.pwr.trans = none ∧ s.loadFault b c = none ∧ b.mode ≠ 1) ∧
    (∃ (s : State) (c : StartCmd) (b : Binding), s.settled ∧ s.startBlock c.tag.toNat = some b ∧ s.loaderFree = true ∧ s.bistRuns =
       false ∧ s.restarts = false ∧ s.pwr.state = .active ∧ s.pwr.trans = none ∧ s.loadFault b c = none ∧ b.mode = 1) ∧
    (∃ (s : State) (tag : Nat) (q : Nat), (s.queue q).ctx.en = false ∧ bitAt (s.reg pgNet 0x100) 31 = false ∧ s.sup.cmds.all (fun x
       => x.1 != tag) = true) :=
  ⟨⟨up, startIt, by unfold State.settled; decide +kernel⟩,
   ⟨rearming, startIt, { bindOne with mode := 1 }, by unfold State.settled; decide +kernel⟩,
   ⟨loading, startIt, bindOne, by unfold State.settled; decide +kernel⟩,
   ⟨{ loading with jobs := [(7, some { job with phase := .restarting })] }, startIt, bindOne,
      by unfold State.settled; decide +kernel⟩,
   ⟨{ rearming with jobs := [(7, some { job with phase := .restarting })] }, startIt, { bindOne with mode := 1 },
      by unfold State.settled; decide +kernel⟩,
   ⟨{ loading with pwr := (at_ .idle).pwr }, startIt, bindOne, by decide +kernel⟩,
   ⟨{ rearming with pwr := (at_ .idle).pwr }, startIt, { bindOne with mode := 1 }, by decide +kernel⟩,
   ⟨loadingOf overfull (block 1 0 0 (bindBytes 0)), startIt, bindOne, ⟨0x15, 9, 0, 262145, 262144⟩, by decide +kernel⟩,
   ⟨loadingOf overfull (block 1 0 0 (bindBytes 1)), startIt, { bindOne with mode := 1 }, ⟨0x15, 9, 0, 262145, 262144⟩,
      by decide +kernel⟩,
   ⟨loading, startIt, bindOne, by unfold State.settled; decide +kernel⟩,
   ⟨rearming, startIt, { bindOne with mode := 1 }, by unfold State.settled; decide +kernel⟩,
   ⟨up.setRfld pgNet 0x100 31 1 0, 5, 16383, by decide +kernel⟩⟩

theorem witness_LoaderCommits :
    (∃ (s : State), s.load = none) ∧
    (∃ (s : State) (l : Load) (v : Verdict), s.load = some l ∧ s.ready = true ∧ ({ s with load := none } : State).commitFault l.bind
       l.img = some v) ∧
    (∃ (s : State) (l : Load) (e : BindEntry), s.load = some l ∧ s.ready = true ∧ l.bind.mode ≠ 1 ∧ l.img.kind = 0 ∧ s.residentImage
       l.img = none ∧ ({ s with load := none } : State).commitFault l.bind l.img = none ∧ l.bind.entries = [e] ∧ (∀ i, (s.strm i).job
       ≠ some l.bind.job)) ∧
    (∃ (s : State) (l : Load), s.settled ∧ s.load = some l ∧ s.ready = false) :=
  ⟨⟨up, by decide +kernel⟩,
   ⟨{ loading with load := some ⟨5, bindOne, slow, []⟩ }, ⟨5, bindOne, slow, []⟩, ⟨0x1B, 0x0A, 0, 1000001, 5280⟩, by decide +kernel⟩,
   ⟨{ loading with load := some ⟨5, bindOne, image, []⟩, images := [] }, ⟨5, bindOne, image, []⟩,
      { entry with ringSlots := 48, statusQ := 1, statsQ := 2 }, ⟨rfl, by decide +kernel, by decide, rfl, rfl, by decide +kernel, rfl, fun i h => nomatch (show
      (none : Option Nat) = some 0 from h)⟩⟩,
   ⟨{ up with load := some ⟨5, bindOne, image, []⟩, sup := Sup.reset }, ⟨5, bindOne, image, []⟩,
      by unfold State.settled; decide +kernel⟩⟩

theorem witness_StopsAndGroups :
    (∃ (s : State) (w : Word), s.settled ∧ s.nextBlock w.toNat = none) ∧
    (∃ (s : State) (j : Fin 256) (w : Word), s.loaderFree = true ∧ s.restarts = false ∧ s.job j = none ∧ s.stopBlock w.toNat j 0 =
       true) ∧
    (∃ (s : State) (j : Fin 256) (w : Word), s.loaderFree = true ∧ s.restarts = false ∧ s.job j = none ∧ s.stopBlock w.toNat j 1 =
       true) ∧
    (∃ (s : State) (j : Fin 256) (w : Word) (x : Job), s.loaderFree = true ∧ s.restarts = false ∧ s.job j = some x ∧ s.stopBlock
       w.toNat j 0 = true) ∧
    (∃ (s : State) (j : Fin 256) (w : Word) (x : Job), s.loaderFree = true ∧ s.restarts = false ∧ s.job j = some x ∧ s.stopBlock
       w.toNat j 1 = true) ∧
    (∃ (e : BindEntry), e.stream < 64) ∧
    (∃ (s : State) (j : Fin 256) (m : BitVec 64) (w : Word), s.stopBlock w.toNat j 2 = true ∧ s.releaseMask w.toNat = m.toNat ∧
       s.loaderFree = true ∧ s.restarts = false ∧ ((bitsOf 64 m.toNat).all fun i => (s.strm i).held && (s.strm i).job == some j.val)
       = false) ∧
    (∃ (s : State) (j : Fin 256) (m : BitVec 64) (w : Word), s.stopBlock w.toNat j 2 = true ∧ s.releaseMask w.toNat = m.toNat ∧
       s.loaderFree = true ∧ s.restarts = false ∧ (∀ i ∈ bitsOf 64 m.toNat, (s.strm i).held = true ∧ (s.strm i).job = some j.val)) ∧
    (∃ (s : State) (g : Fin 256) (d : GroupDef) (w : Word), s.defineBlock w.toNat g d = true ∧ s.loaderFree = true ∧ s.restarts =
       false ∧ s.groupRefusedDef g d = true) ∧
    (∃ (s : State) (g : Fin 256) (d : GroupDef) (w : Word), s.defineBlock w.toNat g d = true ∧ s.loaderFree = true ∧ s.restarts =
       false ∧ s.groupRefusedDef g d = false) ∧
    (∃ (s : State) (g : Fin 256) (w : Word) (j : Nat) (x : Job), s.clearBlock w.toNat g = true ∧ s.loaderFree = true ∧ s.restarts =
       false ∧ j < 8 ∧ s.job j = some x ∧ x.bind.groupId = g.val ∧ g.val ≠ 0) ∧
    (∃ (s : State) (g : Fin 256) (w : Word), s.clearBlock w.toNat g = true ∧ s.loaderFree = true ∧ s.restarts = false ∧ (∀ j x, s.job
       j = some x → x.bind.groupId ≠ g.val)) :=
  ⟨⟨up, 5, by unfold State.settled; decide +kernel⟩,
   ⟨waitingFor (block 2 255 0 []), 255, 5, by decide +kernel⟩,
   ⟨waitingFor (block 2 255 1 []), 255, 5, by decide +kernel⟩,
   ⟨{ waitingFor (block 2 7 0 []) with jobs := [(7, some job)] }, 7, 5, job, by decide +kernel⟩,
   ⟨{ waitingFor (block 2 7 1 []) with jobs := [(7, some job)] }, 7, 5, job, by decide +kernel⟩,
   ⟨{ entry with stream := 63 }, by decide +kernel⟩,
   ⟨waitingFor (release 7 0x8000000000000000), 7, 0x8000000000000000, 5, by decide +kernel⟩,
   ⟨{ waitingFor (release 7 0x8000000000000000) with strms := [(63, { Strm.init with job := some 7, held := true })] }, 7,
      0x8000000000000000, 5, by decide +kernel⟩,
   ⟨waitingFor (define_ 16), 16, twoMembers, 5, by decide +kernel⟩,
   ⟨waitingFor (define_ 15), 15, twoMembers, 5, by decide +kernel⟩,
   ⟨{ waitingFor (clear 15) with jobs := [(7, some { job with bind := { binding with groupId := 15 } })] }, 15, 5, 7, { job with bind
      := { binding with groupId := 15 } }, by decide +kernel⟩,
   ⟨waitingFor (clear 255), 255, 5, ⟨by decide +kernel, by decide +kernel, by decide +kernel, fun j x h => nomatch (show (none :
      Option Job) = some x from h)⟩⟩⟩

theorem witness_TensorSteps :
    (∃ (s : State) (j : Fin 8), s.settled ∧ ((s.job j).all fun x => x.due.isEmpty || x.kind != 1 || x.phase != .running ||
       x.open_.isSome || s.pwr.state != .active || s.stepWaits j) = true) ∧
    (∃ (s : State) (j : Fin 8) (x : Job) (m : Image) (d : StepDue) (l : List StepDue), s.job j = some x ∧ s.jobImage j = some m ∧
       x.due = d :: l ∧ x.kind = 1 ∧ x.phase = .running ∧ x.open_ = none ∧ s.pwr.state = .active ∧ s.stepWaits j = false ∧ d.void ≠
       0) ∧
    (∃ (s : State) (j : Fin 8) (x : Job) (m : Image) (d : StepDue) (l : List StepDue), s.job j = some x ∧ s.jobImage j = some m ∧
       x.due = d :: l ∧ x.kind = 1 ∧ x.phase = .running ∧ x.open_ = none ∧ s.pwr.state = .active ∧ s.stepWaits j = false ∧ d.void = 0
       ∧ (d.shape.zip m.shapes).any (fun z => decide (z.2 < z.1)) = true) ∧
    (∃ (s : State) (j : Fin 8) (x : Job) (m : Image) (d : StepDue) (l : List StepDue), s.job j = some x ∧ s.jobImage j = some m ∧
       x.due = d :: l ∧ x.kind = 1 ∧ x.phase = .running ∧ x.open_ = none ∧ s.pwr.state = .active ∧ s.stepWaits j = false ∧ d.void = 0
       ∧ (d.shape.zip m.shapes).any (fun z => decide (z.2 < z.1)) = false ∧ m.nothing d.shape = true) ∧
    (∃ (s : State) (j : Fin 8) (x : Job) (m : Image) (d : StepDue) (l : List StepDue), s.job j = some x ∧ s.jobImage j = some m ∧
       x.due = d :: l ∧ x.kind = 1 ∧ x.phase = .running ∧ x.open_ = none ∧ s.pwr.state = .active ∧ s.stepWaits j = false ∧ 0 ∈
       d.shape) ∧
    (∃ (s : State) (j : Fin 8) (x : Job) (m : Image) (d : StepDue) (l : List StepDue), s.job j = some x ∧ s.jobImage j = some m ∧
       x.due = d :: l ∧ x.kind = 1 ∧ x.phase = .running ∧ x.open_ = none ∧ s.pwr.state = .active ∧ s.stepWaits j = false ∧ d.void = 0
       ∧ (d.shape.zip m.shapes).any (fun z => decide (z.2 < z.1)) = false ∧ m.nothing d.shape = false ∧ x.shed = false ∧ (s.setJob j
       (some ({ x with due := l, open_ := some d } : Job))).stepBuffers x.bind.outQ (m.outBytes d.shape) = none) ∧
    (∃ (s : State) (j : Fin 8) (x : Job) (m : Image) (d : StepDue) (l : List StepDue) (u : State) (b : List (Nat × Nat)), s.job j =
       some x ∧ s.jobImage j = some m ∧ x.due = d :: l ∧ x.kind = 1 ∧ x.phase = .running ∧ x.open_ = none ∧ s.pwr.state = .active ∧
       s.stepWaits j = false ∧ d.void = 0 ∧ (d.shape.zip m.shapes).any (fun z => decide (z.2 < z.1)) = false ∧ m.nothing d.shape =
       false ∧ x.shed = false ∧ (s.setJob j (some ({ x with due := l, open_ := some d } : Job))).stepBuffers x.bind.outQ (m.outBytes
       d.shape) = some (u, b)) :=
  ⟨⟨up, 7, by unfold State.settled; decide +kernel⟩,
   ⟨stepping (stepOf [1, 1, 1, 1] 3) [], 7, tensorJob (stepOf [1, 1, 1, 1] 3), tensorImage [], stepOf [1, 1, 1, 1] 3, [],
      by decide +kernel⟩,
   ⟨stepping (stepOf [1, 1, 1, 2] 0) [], 7, tensorJob (stepOf [1, 1, 1, 2] 0), tensorImage [], stepOf [1, 1, 1, 2] 0, [],
      by decide +kernel⟩,
   ⟨stepping (stepOf [1, 1, 1, 0] 0) [], 7, tensorJob (stepOf [1, 1, 1, 0] 0), tensorImage [], stepOf [1, 1, 1, 0] 0, [],
      by decide +kernel⟩,
   ⟨stepping (stepOf [1, 1, 1, 0] 0) [], 7, tensorJob (stepOf [1, 1, 1, 0] 0), tensorImage [], stepOf [1, 1, 1, 0] 0, [],
      by decide +kernel⟩,
   ⟨stepping (stepOf [1, 1, 1, 1] 0) [128], 7, tensorJob (stepOf [1, 1, 1, 1] 0), tensorImage [128], stepOf [1, 1, 1, 1] 0, [],
      by decide +kernel⟩,
   ⟨stepping (stepOf [1, 1, 1, 1] 0) [], 7, tensorJob (stepOf [1, 1, 1, 1] 0), tensorImage [], stepOf [1, 1, 1, 1] 0, [],
      (stepping (stepOf [1, 1, 1, 1] 0) []).setJob 7 (some { tensorJob (stepOf [1, 1, 1, 1] 0) with due := [], open_ := some (stepOf [1, 1, 1, 1] 0) }), [], by decide +kernel⟩⟩

theorem witness_RetiredPages :
    (∃ (s : State) (a : Nat), s.settled ∧ inDram a 1 = true ∧ s.dram.draining = false ∧ s.pageState (pageNum a) = 3 ∧ lockOf s.dram
       (pageNum a) = none) ∧
    (∃ (s : State) (a : Nat) (b : List (Option Byte)), s.settled ∧ inDram a 1 = true ∧ s.dram.draining = false ∧ 1 ≤ b.length ∧ a %
       64 + b.length ≤ 64 ∧ s.pageState (pageNum a) = 3 ∧ lockOf s.dram (pageNum a) = none) :=
  ⟨⟨retired, lastByte, by unfold State.settled; decide +kernel⟩,
   ⟨retired, lastByte, [some 1], by unfold State.settled; decide +kernel⟩⟩

theorem witness_DramAccesses :
    (∃ (s : State) (a : Nat) (b : List (Option Byte)), s.settled ∧ inDram a 1 = true ∧ s.dram.draining = true ∧ 1 ≤ b.length ∧ a % 64
       + b.length ≤ 64) ∧
    (∃ (s : State) (a : Nat) (n : Nat), s.settled ∧ inDram a 1 = true ∧ s.dram.draining = true ∧ inDram a n = true) ∧
    (∃ (s : State) (a : Nat), s.settled ∧ inDram a 1 = true ∧ s.dram.draining = true) ∧
    (∃ (s : State) (a : Nat) (b : List (Option Byte)) (l : PageLock), s.settled ∧ inDram a 1 = true ∧ s.dram.draining = false ∧ 1 ≤
       b.length ∧ a % 64 + b.length ≤ 64 ∧ s.dram.locks = [l] ∧ l.page = pageNum a ∧ l.copy = false) ∧
    (∃ (s : State) (a : Nat), s.settled ∧ inDram a 1 = true ∧ s.dram.draining = false ∧ s.pageState (pageNum a) = 0 ∧ lockOf s.dram
       (pageNum a) = none ∧ s.mergeOf (pageNum a) = none) ∧
    (∃ (s : State) (a : Nat), inDram a 1 = true ∧ s.dram.draining = false ∧ s.pageState (pageNum a) = 1 ∧ lockOf s.dram (pageNum a) =
       none ∧ s.failedLanes (chanOf (pageNum a)) = 0 ∧ (∀ w, w < 146 → s.flip (pageNum a) w = 0)) ∧
    (∃ (s : State) (a : Nat), s.settled ∧ inDram a 1 = true ∧ s.dram.draining = false ∧ lockOf s.dram (pageNum a) = none ∧
       s.needsRecon (pageNum a) ((a - dramBase) % 1024 / 64) = true) ∧
    (∃ (s : State) (a : Nat) (b : List (Option Byte)), s.settled ∧ inDram a 1 = true ∧ s.dram.draining = false ∧ 1 ≤ b.length ∧ a %
       64 + b.length ≤ 64 ∧ s.pageState (pageNum a) ≠ 3 ∧ lockOf s.dram (pageNum a) = none ∧ (mergeBytes ((s.mergeOf (pageNum
       a)).getD ⟨pageNum a, [], s.clk.up⟩).bytes ((a - dramBase) % 1024) b).length ≠ 1024 ∧ s.mergeCount (chanOf (pageNum a)) < 23) :=
  ⟨⟨withDram (fun d => { d with draining := true, merge := [⟨lastPage, [(1023, 9)], 0⟩] }), lastByte, [some 1],
      by unfold State.settled; decide +kernel⟩,
   ⟨withDram (fun d => { d with draining := true, merge := [⟨lastPage, [(1023, 9)], 0⟩] }), dramBase, 0x200000000,
      by unfold State.settled; decide +kernel⟩,
   ⟨withDram (fun d => { d with draining := true, merge := [⟨lastPage, [(1023, 9)], 0⟩] }), lastByte,
      by unfold State.settled; decide +kernel⟩,
   ⟨withDram (fun d => { d with locks := [lock lastPage] }), lastByte, [none], lock lastPage,
      by unfold State.settled; decide +kernel⟩,
   ⟨up, lastByte, by unfold State.settled; decide +kernel⟩,
   ⟨{ valid with dram := { valid.dram with merge := [⟨lastPage, [(1023, 9)], 0⟩] } }, lastByte, by decide +kernel⟩,
   ⟨flagged [flaggedWord 127], lastByte, by unfold State.settled; decide +kernel⟩,
   ⟨valid, lastByte, [some 1], by unfold State.settled; decide +kernel⟩⟩

theorem witness_DrainsAndErrors :
    (∃ (s : State) (p : Nat), s.settled ∧ s.mergeOf p = none ∧ s.dram.draining = false) ∧
    (∃ (s : State), s.settled ∧ s.dram.merge = [] ∧ s.dram.draining = true) ∧
    (∃ (s : State) (p : Nat) (m : Merge), s.mergeOf p = some m ∧ lockOf s.dram p = none ∧ s.pageState p ≠ 3 ∧ s.failedLanes (chanOf
       p) = 0 ∧ (∀ w, w < 146 → s.flip p w = 0)) ∧
    (∃ (s : State) (p : Nat), s.settled ∧ (∀ l ∈ s.dram.locks, l.page = p → l.copy = true)) ∧
    (∃ (s : State) (p : Nat) (l : PageLock), s.dram.locks = [l] ∧ l.page = p ∧ l.copy = false ∧ l.waits = [] ∧ s.recovers p = true ∧
       s.metaLost p = false) ∧
    (∃ (s : State) (p : Nat) (l : PageLock), s.dram.locks = [l] ∧ l.page = p ∧ l.copy = false ∧ l.waits = [] ∧ s.recovers p = false ∧
       s.metaLost p = false) ∧
    (∃ (s : State) (a : Nat) (n : Nat), s.settled ∧ inDram a n = true ∧ s.dram.draining = false ∧ (a % 64 ≠ 0 ∨ n % 64 ≠ 0)) ∧
    (∃ (s : State) (a : Nat) (n : Nat), s.settled ∧ inDram a n = true ∧ a % 64 = 0 ∧ n % 64 = 0 ∧ 0 < n ∧ s.dram.draining = false ∧
       s.dram.locks = [] ∧ s.dram.merge = []) ∧
    (∃ (s : State), s.settled) :=
  ⟨⟨up, lastPage, by unfold State.settled; decide +kernel⟩,
   ⟨withDram (fun d => { d with draining := true }), by unfold State.settled; decide +kernel⟩,
   ⟨{ valid with dram := { valid.dram with merge := [⟨lastPage, [(1023, 9)], 0⟩] } }, lastPage, ⟨lastPage, [(1023, 9)], 0⟩,
      by decide +kernel⟩,
   ⟨up, lastPage, ⟨⟨rfl, by decide +kernel⟩, fun l h => nomatch h⟩⟩,
   ⟨{ flagged [flaggedWord 0] with dram := { (flagged [flaggedWord 0]).dram with locks := [lock lastPage] } }, lastPage, lock lastPage,
      by decide +kernel⟩,
   ⟨{ flagged ((List.range 18).map fun k => flaggedWord (8 * k)) with dram := { (flagged ((List.range 18).map fun k => flaggedWord (8
      * k))).dram with locks := [lock lastPage] } }, lastPage, lock lastPage, by decide +kernel⟩,
   ⟨up, dramBase, 65, by unfold State.settled; decide +kernel⟩,
   ⟨valid, dramBase, 0x200000000, by unfold State.settled; decide +kernel⟩,
   ⟨withDram (fun d => { d with buckets := [(0, ⟨1, false⟩)] }), by unfold State.settled; decide +kernel⟩⟩

theorem witness_ScrubsAndRepairs :
    (∃ (s : State), s.settled ∧ (bitAt (s.reg pgDrc 8) 0 = false ∨ s.dram.selfRefresh = true)) ∧
    (∃ (s : State), s.settled ∧ bitAt (s.reg pgDrc 8) 0 = true ∧ s.dram.selfRefresh = false ∧ s.dram.state = [] ∧ s.dram.scrubSkip =
       [] ∧ s.dram.scrubPage ≠ 0) ∧
    (∃ (s : State) (p : Nat) (l : List Nat), bitAt (s.reg pgDrc 8) 0 = true ∧ s.dram.selfRefresh = false ∧ s.dram.scrubSkip = [] ∧
       s.scrubList s.dram.scrubPage = p :: l ∧ s.scrubBusy p = false ∧ s.scrubList (p + 1) ≠ [] ∧ s.failedLanes (chanOf p) = 0 ∧ (∀
       w, w < 146 → s.flip p w = 0)) ∧
    (∃ (s : State) (w : Word), s.settled ∧ (s.dram.copies.map (·.1)).contains (fld w 0 23) = false ∧ s.pageState (fld w 0 23) ≠ 3 ∧
       s.sparesUsed (bankKey (fld w 0 23)) < 32) ∧
    (∃ (s : State) (w : Word), (s.dram.copies.map (·.1)).contains (fld w 0 23) = false ∧ s.pageState (fld w 0 23) ≠ 3 ∧ 32 ≤
       s.sparesUsed (bankKey (fld w 0 23))) ∧
    (∃ (s : State) (p : Nat) (k : Nat), s.dram.copies = [(p, k)] ∧ s.dram.locks = [] ∧ s.pageState p = 0 ∧ s.mergeOf p = none) ∧
    (∃ (s : State) (n : Fin 32) (w : Word), s.settled ∧ bitAt w 0 = true ∧ s.owned = true ∧ (s.sess n).peer = false ∧ (s.sess
       n).unowned = false ∧ s.dram.burning = none ∧ s.pwr.state = .idle ∧ s.pwr.trans = none ∧ 0 < s.fuse.fieldLeft) ∧
    (∃ (s : State) (n : Fin 32) (w : Word), s.settled ∧ bitAt w 0 = true ∧ s.owned = true ∧ (s.sess n).peer = false ∧ (s.sess
       n).unowned = false ∧ s.dram.burning = none ∧ s.pwr.state = .active) ∧
    (∃ (s : State), s.dram.burning.isSome = true) ∧
    (∃ (s : State) (w : Word), s.settled ∧ bitAt w 0 = true ∧ s.dram.importing = true) ∧
    (∃ (s : State) (w : Word) (r : State × RangeRead), bitAt w 0 = true ∧ s.dram.importing = false ∧
       (let a := (s.reg pgDrc
       0x138).toNat + 2 ^ 32 * s.rfld pgDrc 0x13C 0 16; dramBase ≤ a ∧ a + 2048 ≤ dramEnd ∧
       s.quiet.dramRead 12 a 2048 = r) ∧
       importList 256 r.2.data = []) ∧
    (∃ (s : State), s.settled ∧ s.dram.importing = true ∧ (s.dram.copies.any fun c => c.2 == 12) = false) :=
  ⟨⟨up.setRfld pgDrc 8 0 1 0, by unfold State.settled; decide +kernel⟩,
   ⟨(withDram (fun d => { d with scrubPage := 1 })).setRfld pgDrc 8 0 1 1, by unfold State.settled; decide +kernel⟩,
   ⟨({ valid with dram := { valid.dram with state := [(5, 1), (lastPage, 1)] } } : State).setRfld pgDrc 8 0 1 1, 5, [lastPage],
      by decide +kernel⟩,
   ⟨up, 0x7FFFFF, by unfold State.settled; decide +kernel⟩,
   ⟨withDram (fun d => { d with soft := List.replicate 32 lastPage }), 0x7FFFFF, by decide +kernel⟩,
   ⟨withDram (fun d => { d with copies := [(lastPage, 12)] }), lastPage, 12, by decide +kernel⟩,
   ⟨ownedIdle, 31, 1, by unfold State.settled; decide +kernel⟩,
   ⟨{ ownedIdle with pwr := up.pwr }, 31, 1, by unfold State.settled; decide +kernel⟩,
   ⟨withDram (fun d => { d with burning := some 0 }), by decide +kernel⟩,
   ⟨withDram (fun d => { d with importing := true }), 1, by unfold State.settled; decide +kernel⟩,
   ⟨up.setReg pgDrc 0x13C 0x10, 1, (up.setReg pgDrc 0x13C 0x10).quiet.dramRead 12 0x1000000000 2048, by decide +kernel⟩,
   ⟨withDram (fun d => { d with importing := true }), by unfold State.settled; decide +kernel⟩⟩

theorem witness_LaneVisits :
    (∃ (s : State) (c : Fin 128) (g : Fin 2), s.settled ∧ (bitAt (s.reg pgCal 8) 0 = false ∨ s.dram.selfRefresh = true ∨ s.visit c g
       ≠ none ∨ s.nextLane c g = none)) ∧
    (∃ (s : State) (c : Fin 128) (g : Fin 2) (k : Nat), s.settled ∧ bitAt (s.reg pgCal 8) 0 = true ∧ s.dram.selfRefresh = false ∧
       s.visit c g = none ∧ s.nextLane c g = some k) ∧
    (∃ (s : State) (c : Fin 128) (g : Fin 2) (m : Swatch), s.settled ∧ (s.visit c g = none ∨ m.complete = false)) ∧
    (∃ (s : State) (c : Fin 128) (g : Fin 2) (m : Swatch) (v : Visit), s.visit c g = some v ∧ m.complete = true ∧ (32 < m.spread ∨
       m.run < 8)) ∧
    (∃ (s : State) (c : Fin 128) (g : Fin 2) (m : Swatch) (v : Visit), s.settled ∧ s.visit c g = some v ∧ v.passes = [] ∧ m.complete
       = true ∧ m.spread ≤ 32 ∧ 8 ≤ m.run) ∧
    (∃ (s : State) (c : Fin 128) (g : Fin 2) (m : Swatch) (v : Visit) (a : Nat × Nat), s.visit c g = some v ∧ v.passes = [a] ∧
       m.complete = true ∧ m.spread ≤ 32 ∧ 8 ≤ m.run ∧ passAgree a ((s.passOf m).fine, (s.passOf m).thr) = true) ∧
    (∃ (s : State) (c : Fin 128) (g : Fin 2) (m : Swatch) (v : Visit) (a : Nat × Nat) (b : Nat × Nat), s.visit c g = some v ∧
       v.passes = [a, b] ∧ m.complete = true ∧ m.spread ≤ 32 ∧ 8 ≤ m.run ∧ passAgree a ((s.passOf m).fine, (s.passOf m).thr) = false
       ∧ passAgree b ((s.passOf m).fine, (s.passOf m).thr) = false ∧ (s.lane c (if v.step4 then v.lane else 72 + g.val)).disagree =
       0) ∧
    (∃ (m : Swatch) (k : Fin 64), m.delays[k].2 ≤ 2 * m.delays[k].1 ∧ (∀ j : Fin 64, j < k → 2 * m.delays[j].1 < m.delays[j].2)) ∧
    (∃ (m : Swatch) (a : Fin 64) (b : Fin 64), a ≤ b ∧ (∀ t : Fin 64, m.checks[t].2 = 0 ↔ a ≤ t ∧ t ≤ b)) :=
  ⟨⟨up.setRfld pgCal 8 0 1 0, 127, 1, by unfold State.settled; decide +kernel⟩,
   ⟨up.setRfld pgCal 8 0 1 1, 127, 1, 36, by unfold State.settled; decide +kernel⟩,
   ⟨up, 127, 1, pass, by unfold State.settled; decide +kernel⟩,
   ⟨visiting (visitOf true false []), 127, 1, wide, visitOf true false [], by decide +kernel⟩,
   ⟨visiting (visitOf true true []), 127, 1, pass, visitOf true true [], by unfold State.settled; decide +kernel⟩,
   ⟨visiting (visitOf true true [(48, 42)]), 127, 1, pass, visitOf true true [(48, 42)], (48, 42), by decide +kernel⟩,
   ⟨visiting (visitOf false false [(47, 40), (0, 0)]), 127, 1, pass, visitOf false false [(47, 40), (0, 0)], (47, 40), (0, 0),
      by decide +kernel⟩,
   ⟨pass, 50, by decide +kernel⟩,
   ⟨pass, 30, 50, by decide +kernel⟩⟩

theorem witness_CameraLanesAndSaves :
    (∃ (s : State) (p : Fin 16) (m : Swatch), s.settled ∧ (p.val < 8 ∨ s.receives p = false ∨ m.complete = false)) ∧
    (∃ (s : State) (p : Fin 16) (l : Fin 4) (m : Swatch), s.settled ∧ 8 ≤ p.val ∧ s.receives p = true ∧ m.complete = true ∧
       (s.camLane p l).passes = []) ∧
    (∃ (s : State) (p : Fin 16) (l : Fin 4) (m : Swatch) (a : Nat × Nat), s.settled ∧ 8 ≤ p.val ∧ s.receives p = true ∧ m.complete =
       true ∧ (s.camLane p l).passes = [a] ∧ passAgree a ((s.passOf m).fine, (s.passOf m).thr) = true) ∧
    (∃ (s : State) (p : Fin 16) (l : Fin 4) (m : Swatch) (a : Nat × Nat) (b : Nat × Nat), s.settled ∧ 8 ≤ p.val ∧ s.receives p = true
       ∧ m.complete = true ∧ (s.camLane p l).passes = [a, b] ∧ passAgree a ((s.passOf m).fine, (s.passOf m).thr) = false ∧ passAgree
       b ((s.passOf m).fine, (s.passOf m).thr) = false ∧ (s.camLane p l).disagree = 2) ∧
    (∃ (s : State) (p : Fin 16) (l : Fin 4), s.settled ∧ (s.camLane p l).pending = none) ∧
    (∃ (s : State) (p : Fin 16) (l : Fin 4) (n : Nat × Nat), s.settled ∧ (s.camLane p l).pending = some n) ∧
    (∃ (s : State) (w : Word), s.settled ∧ bitAt w 0 = false) ∧
    (∃ (s : State) (w : Word), s.settled ∧ s.pwr.state ≠ .standby ∧ s.pwr.trans = none ∧ bitAt w 0 = true ∧ s.cal.save.isSome = true) ∧
    (∃ (s : State) (w : Word), s.settled ∧ s.pwr.state ≠ .standby ∧ s.pwr.trans = none ∧ bitAt w 0 = true ∧ s.cal.save = none ∧
       ((s.reg pgCal 0x100).toNat + 2 ^ 32 * (s.reg pgCal 0x104).toNat) % 128 = 0 ∧ inDram ((s.reg pgCal 0x100).toNat + 2 ^ 32 *
       (s.reg pgCal 0x104).toNat) 39104 = true) ∧
    (∃ (s : State) (w : Word), bitAt w 0 = true ∧ s.pwr.state = .standby ∧ s.pwr.trans = none ∧ s.tooHot = false) ∧
    (∃ (s : State) (r : Nat × List Byte), s.cal.save = some r) :=
  ⟨⟨camOn 7, 7, pass, by unfold State.settled; decide +kernel⟩,
   ⟨camOn 15, 15, 3, pass, by unfold State.settled; decide +kernel⟩,
   ⟨camLaneOn { up.camLane 15 3 with passes := [(48, 42)] }, 15, 3, pass, (48, 42), by unfold State.settled; decide +kernel⟩,
   ⟨camLaneOn { up.camLane 15 3 with passes := [(47, 40), (0, 0)], disagree := 2 }, 15, 3, pass, (47, 40), (0, 0),
      by unfold State.settled; decide +kernel⟩,
   ⟨up, 15, 3, by unfold State.settled; decide +kernel⟩,
   ⟨camLaneOn { up.camLane 15 3 with pending := some (63, 63) }, 15, 3, (63, 63), by unfold State.settled; decide +kernel⟩,
   ⟨up, 2, by unfold State.settled; decide +kernel⟩,
   ⟨{ up with cal := { up.cal with save := some (0, []) } }, 1, by unfold State.settled; decide +kernel⟩,
   ⟨(up.setReg pgCal 0x104 0x11).setReg pgCal 0x100 0xFFFF6700, 1, by unfold State.settled; decide +kernel⟩,
   ⟨at_ .standby, 1, by decide +kernel⟩,
   ⟨{ up with cal := { up.cal with save := some (0x1000000000, [1]) } }, (0x1000000000, [1]), by decide +kernel⟩⟩

theorem witness_QueueContextsAndDoorbells :
    (∃ (s : State) (q : Fin 16384) (i : Fin 16), s.settled ∧ (s.queue q).ctx.en = false ∧ i.val ≠ 2) ∧
    (∃ (s : State) (q : Fin 16384) (i : Fin 16), s.settled ∧ (s.queue q).ctx.en = true ∧ i.val ≠ 2) ∧
    (∃ (s : State) (q : Fin 16384) (w : Word), s.settled ∧ (s.queue q).ctx.en = false ∧ (s.queue q).ctx.owner = 0xFF ∧ ctxOk (ctxPut
       (s.queue q).ctx 2 (putFld w 8 1 1)) = true ∧ (ctxPut (s.queue q).ctx 2 (putFld w 8 1 1)).startLoad = true ∧ (s.chan (ctxPut
       (s.queue q).ctx 2 (putFld w 8 1 1)).channel).stopQ ≠ some q.val) ∧
    (∃ (s : State) (q : Fin 16384) (w : Word), s.settled ∧ (s.queue q).ctx.en = false ∧ (s.queue q).ctx.owner = 0xFF ∧ ctxOk (ctxPut
       (s.queue q).ctx 2 (putFld w 8 1 1)) = true ∧ (ctxPut (s.queue q).ctx 2 (putFld w 8 1 1)).startLoad = false ∧ (s.chan (ctxPut
       (s.queue q).ctx 2 (putFld w 8 1 1)).channel).stopQ ≠ some q.val ∧ (s.queue q).held = [] ∧ (s.queue q).pend = none) ∧
    (∃ (s : State) (q : Fin 16384) (w : Word), s.settled ∧ (s.queue q).ctx.en = false ∧ (s.queue q).ctx.owner = 0xFF ∧ ctxOk (ctxPut
       (s.queue q).ctx 2 (putFld w 8 1 1)) = false) ∧
    (∃ (s : State) (q : Fin 16384) (w : Word), s.settled ∧ (s.queue q).ctx.en = true ∧ (ctxPut (s.queue q).ctx 2 (putFld w 8 1
       0)).mode / 2 = (s.queue q).ctx.mode / 2 ∧ (ctxPut (s.queue q).ctx 2 (putFld w 8 1 0)).log2 = (s.queue q).ctx.log2 ∧ (ctxPut
       (s.queue q).ctx 2 (putFld w 8 1 0)).channel = (s.queue q).ctx.channel ∧ (s.queue q).ctx.owner = 0xFF) ∧
    (∃ (s : State), s.settled ∧ bitAt (s.reg pgQm 8) 0 = false) ∧
    (∃ (s : State) (q : Fin 16384), s.settled ∧ bitAt (s.reg pgQm 8) 0 = true ∧ (s.queue q).ctx.dir = 0 ∧ ((s.queue q).ctx.delivery =
       1 ∨ (s.queue q).ctx.delivery = 2)) ∧
    (∃ (s : State) (q : Fin 16384), s.settled ∧ bitAt (s.reg pgQm 8) 0 = true ∧ ((s.queue q).ctx.dir = 1 ∨ ((s.queue q).ctx.dir = 0 ∧
       (s.queue q).ctx.delivery ≠ 1 ∧ (s.queue q).ctx.delivery ≠ 2 ∧ (s.queue q).ctx.area = false ∧ (s.queue q).held = [] ∧ (s.queue
       q).pend = none))) ∧
    (∃ (s : State) (q : Fin 16384) (v : Word), s.settled ∧ bitAt (s.reg pgQm 8) 0 = true ∧ (s.queue q).ctx.dir = 0 ∧ (s.queue
       q).ctx.delivery ≠ 1 ∧ (s.queue q).ctx.delivery ≠ 2 ∧ (s.queue q).ctx.area = true ∧ seqAhead v.toNat (s.queue q).ctx.cons =
       true ∧ seqDist v.toNat (s.queue q).ctx.cons ≤ (s.queue q).ctx.slots ∧ seqAhead v.toNat (s.queue q).ctx.prod = false ∧ (s.queue
       q).held = [] ∧ (s.queue q).pend = none) :=
  ⟨⟨up, 16383, 15, by unfold State.settled; decide +kernel⟩,
   ⟨queueOn (ctx 3), 16383, 0, by unfold State.settled; decide +kernel⟩,
   ⟨queueOn (ctx 2), 16383, 0x007F8210, by unfold State.settled; decide +kernel⟩,
   ⟨queueOn (ctx 2), 16383, 0x007F0204, by unfold State.settled; decide +kernel⟩,
   ⟨queueOn (ctx 2), 16383, 0x007F0203, by unfold State.settled; decide +kernel⟩,
   ⟨queueOn (ctx 3), 16383, 0x007F0204, by unfold State.settled; decide +kernel⟩,
   ⟨(queueOn (ctx 3)).setRfld pgQm 8 0 1 0, by unfold State.settled; decide +kernel⟩,
   ⟨queueOn (ctx 0x11), 16383, by unfold State.settled; decide +kernel⟩,
   ⟨queueOn (ctx 3), 16383, by unfold State.settled; decide +kernel⟩,
   ⟨queueOn { ctx 0x21 with prod := 16 }, 16383, 16, by unfold State.settled; decide +kernel⟩⟩

theorem witness_DmaChannels :
    (∃ (s : State) (d : Fin 128), s.settled ∧ ((s.chan d).state ≠ .idle ∨ s.dmaQueue d = none)) ∧
    (∃ (s : State) (d : Fin 128) (q : Nat) (k : Desc), s.settled ∧ (s.chan d).state = .idle ∧ s.dmaQueue d = some q ∧ s.dmaNext q =
       some k ∧ refusedDesc k = false ∧ 0 < k.length ∧ s.dmaWindow q k.addr k.length false = true ∧ s.dmaWindow q k.dest k.length
       true = true ∧ s.groupOff k.addr k.length = none ∧ s.groupOff k.dest k.length = none ∧ 0 < s.poolRoom 0 (s.poolUser q)) ∧
    (∃ (s : State) (d : Fin 128) (q : Nat) (k : Desc), (s.chan d).state = .idle ∧ s.dmaQueue d = some q ∧ s.dmaNext q = some k ∧
       refusedDesc k = true ∧ k.kind ≠ 7) ∧
    (∃ (s : State) (d : Fin 128) (q : Nat) (k : Desc), (s.chan d).state = .idle ∧ s.dmaQueue d = some q ∧ s.dmaNext q = some k ∧
       refusedDesc k = false ∧ 0 < k.length ∧ s.dmaWindow q k.addr k.length false = false) ∧
    (∃ (s : State) (d : Fin 128) (q : Nat) (k : Desc) (g : Nat × Nat), (s.chan d).state = .idle ∧ s.dmaQueue d = some q ∧ s.dmaNext q
       = some k ∧ refusedDesc k = false ∧ 0 < k.length ∧ s.dmaWindow q k.addr k.length false = true ∧ s.dmaWindow q k.dest k.length
       true = true ∧ s.groupOff k.addr k.length = some g) ∧
    (∃ (s : State) (d : Fin 128) (a : Nat), s.settled ∧ a < 2 ^ 48 ∧ (s.chan d).desc.isSome = true ∧ (s.chan d).state = .active ∧
       (s.chan d).failed = 0) ∧
    (∃ (s : State) (d : Fin 128), s.settled ∧ (s.chan d).failed ≠ 0) ∧
    (∃ (s : State) (d : Fin 128), s.settled ∧ (s.chan d).failed ≠ 0 ∧ (s.chan d).tries < 2) ∧
    (∃ (s : State) (d : Fin 128), (s.chan d).failed ≠ 0 ∧ 2 ≤ (s.chan d).tries) ∧
    (∃ (s : State) (d : Fin 128) (k : Desc), (s.chan d).desc = some k ∧ (s.chan d).state = .active ∧ (s.chan d).failed = 0 ∧ k.length
       = 0) ∧
    (∃ (s : State) (d : Fin 128) (k : Desc), (s.chan d).desc = some k ∧ (s.chan d).state = .active ∧ (s.chan d).failed = 0 ∧
       k.evtHalf = true ∧ 1 ≤ k.length ∧ (s.chan d).half = false ∧ s.groupOff k.addr k.length = none ∧ s.groupOff k.dest k.length =
       none ∧ (s.dmaMove d (cdiv k.length 2)).2 = none) ∧
    (∃ (s : State) (d : Fin 128), s.settled ∧ (s.chan d).state = .idle) ∧
    (∃ (s : State) (d : Fin 128), s.settled ∧ (s.chan d).state = .active) ∧
    (∃ (s : State) (d : Fin 128), s.settled ∧ ((s.chan d).state = .stopped ∨ (s.chan d).state = .halted) ∧ (∀ q, (s.queue q).held =
       [] ∧ (s.queue q).pend = none)) :=
  ⟨⟨up, 127, by unfold State.settled; decide +kernel⟩,
   ⟨copyQueue copyDesc, 127, 16383, copyDesc, by unfold State.settled; decide +kernel⟩,
   ⟨copyQueue { copyDesc with kind := 15 }, 127, 16383, { copyDesc with kind := 15 }, by decide +kernel⟩,
   ⟨copyQueue { copyDesc with addr := 0x11FC000000 }, 127, 16383, { copyDesc with addr := 0x11FC000000 }, by decide +kernel⟩,
   ⟨(copyQueue fromFive).setTile 5 { Tile.init with groups := [(0, ⟨1, none⟩)] }, 127, 16383, fromFive, (5, 0), by decide +kernel⟩,
   ⟨moving copyDesc id, 127, 0xFFFFFFFFFFFF, by unfold State.settled; decide +kernel⟩,
   ⟨moving copyDesc (fun x => { x with failed := 2, tries := 2 }), 127, by unfold State.settled; decide +kernel⟩,
   ⟨moving copyDesc (fun x => { x with failed := 2, tries := 1 }), 127, by unfold State.settled; decide +kernel⟩,
   ⟨moving copyDesc (fun x => { x with failed := 2, tries := 2 }), 127, by decide +kernel⟩,
   ⟨moving { copyDesc with length := 0 } id, 127, { copyDesc with length := 0 }, by decide +kernel⟩,
   ⟨moving { copyDesc with evtHalf := true } id, 127, { copyDesc with evtHalf := true }, by decide +kernel⟩,
   ⟨up, 127, by unfold State.settled; decide +kernel⟩,
   ⟨moving copyDesc id, 127, by unfold State.settled; decide +kernel⟩,
   ⟨up.setChan 127 { Channel.init with state := .halted }, 127, ⟨⟨rfl, by decide +kernel⟩, .inr rfl, fun _ => ⟨rfl, rfl⟩⟩⟩⟩

theorem witness_DmaCopiesBytes :
    ∃ (s : State) (d : Fin 128) (k : Desc) (t : Fin 6) (v : Fin 6), (s.chan d).desc = some k ∧ (s.chan d).done = 0 ∧ 0 < k.length ∧
       tileBase t ≤ k.addr ∧ k.addr + k.length ≤ tileBase t + 0x2000000 ∧ tileBase v ≤ k.dest ∧ k.dest + k.length ≤ tileBase v +
       0x2000000 ∧ s.groupOff k.addr k.length = none ∧ (s.tile t).storedErrs = [] ∧ (s.tile v).storedErrs = [] :=
  ⟨moving { copyDesc with addr := 0x41FFFFC0, aux0 := 0x4BFFFFC0 } id, 127, { copyDesc with addr := 0x41FFFFC0, aux0 := 0x4BFFFFC0 }, 0,
     5, by decide +kernel⟩

theorem witness_RegistersOverKweal :
    (∃ (s : State) (n : Fin 32), s.settled ∧ s.isOpen n = false) ∧
    (∃ (s : State) (n : Fin 32) (a : Nat) (c : Nat), s.isOpen n = true ∧ (s.sess n).peer = false ∧ a % 4 = 0 ∧ s.runOk a c = true) ∧
    (∃ (s : State) (n : Fin 32) (a : Nat) (c : Nat), s.isOpen n = true ∧ (s.sess n).peer = false ∧ (a % 4 ≠ 0 ∨ s.runOk a c = false)) ∧
    (∃ (s : State) (n : Fin 32), s.isOpen n = true ∧ ((s.sess n).peer = true ∨ (s.sess n).unowned = true)) ∧
    (∃ (s : State) (n : Fin 32) (a : Nat) (l : List Word), s.isOpen n = true ∧ (s.sess n).peer = false ∧ (s.sess n).unowned = false ∧
       (a % 4 ≠ 0 ∨ s.runOk a l.length = false)) ∧
    (∃ (s : State) (n : Fin 32) (a : Nat) (b : Nat) (l : List Word), s.isOpen n = true ∧ (s.sess n).peer = false ∧
       (s.sess n).unowned = false ∧ a % 4 = 0 ∧ s.runOk a l.length = true ∧
       (runAddrs a l.length).find? (fun x => !hostMayWrite x) = some b) ∧
    (∃ (s : State) (n : Fin 32) (a : Nat) (l : List Word), s.isOpen n = true ∧ (s.sess n).peer = false ∧ (s.sess n).unowned = false ∧
       a % 4 = 0 ∧ s.runOk a l.length = true ∧ (∀ x ∈ runAddrs a l.length, hostMayWrite x = true)) ∧
    (∃ (s : State) (a : Nat), s.settled ∧ (a % 4 ≠ 0 ∨ s.runOk a 1 = false)) ∧
    (∃ (s : State) (a : Nat), a % 4 = 0 ∧ s.runOk a 1 = true) :=
  ⟨⟨up, 31, by unfold State.settled; decide +kernel⟩,
   ⟨session id, 31, 0x30F00, 64, by decide +kernel⟩,
   ⟨session id, 31, 0x30F04, 64, by decide +kernel⟩,
   ⟨session (fun l => { l with peer := true }), 31, by decide +kernel⟩,
   ⟨session id, 31, 0x30015, [0], by decide +kernel⟩,
   ⟨session id, 31, 0x30014, 0x30018, [0, 0], by decide +kernel⟩,
   ⟨session id, 31, 0x30010, [0, 0xFFFFFFFF], by decide +kernel⟩,
   ⟨up, 0x30012, by unfold State.settled; decide +kernel⟩,
   ⟨up, 0x30014, by decide +kernel⟩⟩

theorem witness_FramesReceived :
    (∃ (s : State) (a : Arrival), s.settled ∧ (s.netUp = false ∨ (s.eth a.port).link = false)) ∧
    (∃ (s : State) (a : Arrival), s.settled ∧ s.netUp = true ∧ (s.eth a.port).link = true ∧ a.wire ≤ 9216 ∧ (s.eth a.port).verifies a
       = false) ∧
    (∃ (s : State) (a : Arrival), s.settled ∧ s.netUp = true ∧ (s.eth a.port).link = true ∧ a.wire ≤ 9216 ∧ (s.eth a.port).keys =
       none ∧ s.hears a = true ∧ a.magic = 0x574B ∧ a.version = 1 ∧ a.length = a.frame.payload.length ∧ a.frame.session < 32 ∧
       (a.frame.type ≠ 10 ∨ (s.sess a.frame.session).state ≠ 3)) ∧
    (∃ (s : State) (a : Arrival), s.netUp = true ∧ (s.eth a.port).link = true ∧ a.wire ≤ 9216 ∧ (s.eth a.port).keys = none ∧
       s.hears a = true ∧ a.magic = 0x574B ∧ a.version = 1 ∧ a.length = a.frame.payload.length ∧ a.frame.session < 32 ∧
       a.frame.type = 10 ∧ (s.sess a.frame.session).state = 3) ∧
    (∃ (s : State) (a : Arrival), s.settled ∧ s.netUp = true ∧ (s.eth a.port).link = true ∧ (9216 < a.wire ∨ ((s.eth a.port).keys =
       none ∧ s.hears a = true ∧ (a.magic ≠ 0x574B ∨ a.version ≠ 1 ∨ a.length ≠ a.frame.payload.length)))) ∧
    (∃ (s : State) (a : Arrival), s.settled ∧ s.netUp = true ∧ (s.eth a.port).link = true ∧ a.wire ≤ 9216 ∧ (s.eth a.port).keys =
       none ∧ s.hears a = false) ∧
    (∃ (s : State) (a : Arrival) (k : PortKeys), s.netUp = true ∧ (s.eth a.port).link = true ∧ a.wire ≤ 9216 ∧ (s.eth a.port).keys =
       some k ∧ k.host.an = a.an.val ∧ k.hostOld = none ∧ a.verified = true ∧ s.hears a = true ∧ a.magic = 0x574B ∧ a.version = 1 ∧
       a.length = a.frame.payload.length ∧ a.frame.session < 32 ∧ a.frame.type ≠ 7 ∧ a.frame.type ≠ 9 ∧ (s.sess
       a.frame.session).state = 2 ∧ (s.ackTo (a.frame.session) a.frame.ack a.frame.window).asleep = false ∧ (seqDist a.frame.seq
       ((s.ackTo (a.frame.session) a.frame.ack a.frame.window).link (a.frame.session)).rxNext) = 0) ∧
    (∃ (s : State) (a : Arrival) (k : PortKeys), s.netUp = true ∧ (s.eth a.port).link = true ∧ a.wire ≤ 9216 ∧ (s.eth a.port).keys =
       some k ∧ k.host.an = a.an.val ∧ k.hostOld = none ∧ a.verified = true ∧ s.hears a = true ∧ a.magic = 0x574B ∧ a.version = 1 ∧
       a.length = a.frame.payload.length ∧ a.frame.session < 32 ∧ a.frame.type ≠ 7 ∧ a.frame.type ≠ 9 ∧ (s.sess
       a.frame.session).state = 2 ∧ (s.ackTo (a.frame.session) a.frame.ack a.frame.window).asleep = false ∧ 1 ≤ (seqDist a.frame.seq
       ((s.ackTo (a.frame.session) a.frame.ack a.frame.window).link (a.frame.session)).rxNext) ∧ (seqDist a.frame.seq ((s.ackTo
       (a.frame.session) a.frame.ack a.frame.window).link (a.frame.session)).rxNext) ≤ 64) ∧
    (∃ (s : State) (a : Arrival) (k : PortKeys), s.netUp = true ∧ (s.eth a.port).link = true ∧ a.wire ≤ 9216 ∧ (s.eth a.port).keys =
       some k ∧ k.host.an = a.an.val ∧ k.hostOld = none ∧ a.verified = true ∧ s.hears a = true ∧ a.magic = 0x574B ∧ a.version = 1 ∧
       a.length = a.frame.payload.length ∧ a.frame.session < 32 ∧ a.frame.type ≠ 7 ∧ a.frame.type ≠ 9 ∧ (s.sess
       a.frame.session).state = 2 ∧ (s.ackTo (a.frame.session) a.frame.ack a.frame.window).asleep = false ∧ 64 < (seqDist a.frame.seq
       ((s.ackTo (a.frame.session) a.frame.ack a.frame.window).link (a.frame.session)).rxNext) ∧ seqAhead ((s.ackTo (a.frame.session)
       a.frame.ack a.frame.window).link (a.frame.session)).rxNext a.frame.seq = true) ∧
    (∃ (s : State) (a : Arrival) (k : PortKeys), s.netUp = true ∧ (s.eth a.port).link = true ∧ a.wire ≤ 9216 ∧ (s.eth a.port).keys =
       some k ∧ k.host.an = a.an.val ∧ k.hostOld = none ∧ a.verified = true ∧ s.hears a = true ∧ a.magic = 0x574B ∧ a.version = 1 ∧
       a.length = a.frame.payload.length ∧ a.frame.session < 32 ∧ a.frame.type ≠ 7 ∧ a.frame.type ≠ 9 ∧ (s.sess
       a.frame.session).state = 2 ∧ (s.ackTo (a.frame.session) a.frame.ack a.frame.window).asleep = false ∧ 64 < (seqDist a.frame.seq
       ((s.ackTo (a.frame.session) a.frame.ack a.frame.window).link (a.frame.session)).rxNext) ∧ seqAhead ((s.ackTo (a.frame.session)
       a.frame.ack a.frame.window).link (a.frame.session)).rxNext a.frame.seq = false) :=
  ⟨⟨up, arrival (kframe 1), by unfold State.settled; decide +kernel⟩,
   ⟨keyed keys id, { arrival (kframe 1) with an := 2 }, by unfold State.settled; decide +kernel⟩,
   ⟨session id, arrival (kframe 1), by unfold State.settled; decide +kernel⟩,
   ⟨session fun l => { l with state := 3 }, arrival { kframe 1 with type := 10 }, by decide +kernel⟩,
   ⟨session id, { arrival (kframe 1) with wire := 9217 }, by unfold State.settled; decide +kernel⟩,
   ⟨session id, { arrival (kframe 1) with udp := 0xB807 }, by unfold State.settled; decide +kernel⟩,
   ⟨keyed keys id, arrival (kframe 1), keys, by decide +kernel⟩,
   ⟨keyed keys id, arrival (kframe 65), keys, by decide +kernel⟩,
   ⟨keyed keys id, arrival (kframe 0), keys, by decide +kernel⟩,
   ⟨keyed keys id, arrival (kframe 66), keys, by decide +kernel⟩⟩

theorem witness_AcksAndResends :
    (∃ (s : State) (n : Fin 32), s.settled ∧ (s.sess n).state ≠ 2) ∧
    (∃ (s : State) (n : Fin 32), s.settled ∧ (s.sess n).state = 2 ∧ (s.sess n).queued = [] ∧ (∀ u ∈ (s.sess n).unacked, u.push =
       none) ∧ (s.sess n).txNext < 2 ^ 32) ∧
    (∃ (s : State) (d : Nat) (r : Fin 65536), s.settled ∧ ((s.link d).state ≠ 2 ∨ r.val = 2)) ∧
    (∃ (s : State) (n : Fin 32) (r : Fin 65536) (u : Unacked), s.settled ∧ (s.sess n).state = 2 ∧ r.val ≠ 2 ∧ (s.sess n).unacked =
       [u] ∧ u.push = none ∧ (s.sess n).queued = [] ∧ u.seq < 2 ^ 32) ∧
    (∃ (s : State) (d : Nat), s.settled ∧ (s.link d).ackOwed = false) ∧
    (∃ (s : State) (n : Fin 32), s.settled ∧ (s.sess n).ackOwed = true ∧ s.sends (s.sess n).port = true) ∧
    (∃ (s : State) (d : Nat), s.settled ∧ ((s.link d).unacked = [] ∨ (s.link d).state ≠ 2)) ∧
    (∃ (s : State) (n : Fin 32) (u : Unacked) (l : List Unacked), s.settled ∧ (s.sess n).state = 2 ∧ (s.sess n).unacked = u :: l ∧
       u.resends < s.maxRetx ∧ s.sends (s.sess n).port = true) ∧
    (∃ (s : State) (n : Fin 32) (u : Unacked) (l : List Unacked), (s.sess n).state = 2 ∧ (s.sess n).unacked = u :: l ∧ s.maxRetx ≤
       u.resends) ∧
    (∃ (s : State) (n : Fin 32), (s.sess n).state = 2 ∧ (s.sess n).peer = false) ∧
    (∃ (s : State) (n : Fin 32), s.settled ∧ ((s.sess n).state ≠ 2 ∨ (s.sess n).peer = false)) ∧
    (∃ (s : State) (n : Fin 32), s.settled ∧ (s.sess n).state = 2 ∧ (s.sess n).peer = true ∧ s.sends (s.sess n).port = true) ∧
    (∃ (s : State) (n : Fin 32), s.settled ∧ (s.sess n).state ≠ 2) ∧
    (∃ (s : State) (n : Fin 32), (s.sess n).state = 2 ∧ (s.sess n).unowned = true) ∧
    (∃ (s : State) (n : Fin 32), (s.sess n).state = 2 ∧ (s.sess n).unowned = false) :=
  ⟨⟨up, 31, by unfold State.settled; decide +kernel⟩,
   ⟨session (fun l => { l with unacked := [waits 0 3] }), 31, by unfold State.settled; decide +kernel⟩,
   ⟨session id, 31, 2, by unfold State.settled; decide +kernel⟩,
   ⟨session (fun l => { l with unacked := [waits 0xFFFFFFFF 3] }), 31, 1, waits 0xFFFFFFFF 3,
      by unfold State.settled; decide +kernel⟩,
   ⟨up, 31, by unfold State.settled; decide +kernel⟩,
   ⟨session (fun l => { l with ackOwed := true }), 31, by unfold State.settled; decide +kernel⟩,
   ⟨session id, 31, by unfold State.settled; decide +kernel⟩,
   ⟨session (fun l => { l with unacked := [waits 0 0] }), 31, waits 0 0, [], by unfold State.settled; decide +kernel⟩,
   ⟨session (fun l => { l with unacked := [waits 0 15] }), 31, waits 0 15, [], by decide +kernel⟩,
   ⟨session id, 31, by decide +kernel⟩,
   ⟨session id, 31, by unfold State.settled; decide +kernel⟩,
   ⟨session (fun l => { l with peer := true }), 31, by unfold State.settled; decide +kernel⟩,
   ⟨up, 31, by unfold State.settled; decide +kernel⟩,
   ⟨session (fun l => { l with unowned := true }), 31, by decide +kernel⟩,
   ⟨session id, 31, by decide +kernel⟩⟩

theorem witness_Transfers :
    (∃ (s : State) (n : Fin 32) (l : List (Fin 65536 × Word)), s.isOpen n = true ∧ (s.sess n).peer = false ∧ (s.sess n).unowned =
       false ∧ 1 ≤ l.length ∧ l.length ≤ 176) ∧
    (∃ (s : State) (n : Fin 32) (f : BulkFrag) (r : Nat × Nat), s.isOpen n = true ∧ s.putFault n f = some r) ∧
    (∃ (s : State) (n : Fin 32) (f : BulkFrag), s.isOpen n = true ∧ s.putFault n f = none ∧ f.space = 0 ∧ f.more = false) ∧
    (∃ (s : State) (n : Fin 32) (f : BulkFrag), s.settled ∧ s.isOpen n = true ∧ s.putFault n f = none ∧ f.space = 1 ∧ f.more = false
       ∧ (s.sess n).bulk = []) ∧
    (∃ (s : State) (n : Fin 32) (f : BulkFrag), s.settled ∧ s.isOpen n = true ∧ s.putFault n f = none ∧ f.space = 1 ∧ f.more = true ∧
       (s.sess n).bulk = []) ∧
    (∃ (s : State) (n : Fin 32) (f : BulkFrag), s.isOpen n = true ∧ (s.sess n).peer = true ∧ s.putFault n { f with space := 3 } =
       none ∧ f.more = true) ∧
    (∃ (s : State) (n : Fin 32) (f : BulkFrag), s.isOpen n = true ∧ (s.sess n).peer = false ∧ (s.sess n).unowned = false ∧ f.space =
       0 ∧ (f.bytes = 0 ∨ 0x1000000 < f.bytes)) ∧
    (∃ (s : State) (n : Fin 32) (f : BulkFrag), s.isOpen n = true ∧ (s.sess n).peer = false ∧ (s.sess n).unowned = false ∧ f.space =
       1 ∧ 0 < f.bytes ∧ f.addr + f.bytes ≤ 20) ∧
    (∃ (s : State), s.settled ∧ (∀ r ∈ s.net.events, (s.sess r.session).state ≠ 2)) ∧
    (∃ (s : State) (r : EventRec), s.net.events = [r] ∧ (s.sess r.session).state = 2 ∧ s.net.lostEvents = 0) ∧
    (∃ (s : State) (q : Fin 16384), s.settled ∧ ((s.queue q).ctx.en = false ∨ (s.queue q).ctx.dir ≠ 0 ∨ seqAhead (s.queue q).ctx.prod
       (s.queue q).ctx.cons = false)) ∧
    (∃ (s : State) (q : Fin 16384), (s.queue q).ctx.en = true ∧ (s.queue q).ctx.dir = 0 ∧ (s.queue q).ctx.delivery = 2 ∧ seqAhead
       (s.queue q).ctx.prod (s.queue q).ctx.cons = true ∧ (s.eth (s.rfld 0x701 (entryReg ((s.queue q).ctx.session % 128) 0) 1
       2)).link = false ∧ (s.readDesc q (s.queue q).ctx.cons).2.kind = 1 ∧ (s.readDesc q (s.queue q).ctx.cons).2.aux0 ≠ 0) ∧
    (∃ (s : State) (q : Fin 16384), (s.queue q).ctx.en = true ∧ (s.queue q).ctx.dir = 0 ∧ (s.queue q).ctx.delivery = 2 ∧ seqAhead
       (s.queue q).ctx.prod (s.queue q).ctx.cons = true ∧ (s.eth (s.rfld 0x701 (entryReg ((s.queue q).ctx.session % 128) 0) 1
       2)).link = true ∧ (s.rfld 0x701 (entryReg ((s.queue q).ctx.session % 128) 0) 0 1 = 0 ∨ s.sends (s.rfld 0x701 (entryReg
       ((s.queue q).ctx.session % 128) 0) 1 2) = false ∨ (s.eth (s.rfld 0x701 (entryReg ((s.queue q).ctx.session % 128) 0) 1 2)).keys
       = none)) ∧
    (∃ (s : State) (q : Fin 16384), (s.queue q).ctx.en = true ∧ (s.queue q).ctx.dir = 0 ∧ (s.queue q).ctx.delivery = 2 ∧ seqAhead
       (s.queue q).ctx.prod (s.queue q).ctx.cons = true ∧ (s.eth (s.rfld 0x701 (entryReg ((s.queue q).ctx.session % 128) 0) 1
       2)).link = true ∧ s.rfld 0x701 (entryReg ((s.queue q).ctx.session % 128) 0) 0 1 = 1 ∧ s.sends (s.rfld 0x701 (entryReg
       ((s.queue q).ctx.session % 128) 0) 1 2) = true ∧ (s.eth (s.rfld 0x701 (entryReg ((s.queue q).ctx.session % 128) 0) 1 2)).keys
       ≠ none ∧ (s.readDesc q (s.queue q).ctx.cons).2.kind = 1) ∧
    (∃ (s : State) (q : Fin 16384), (s.queue q).ctx.en = true ∧ (s.queue q).ctx.dir = 0 ∧ (s.queue q).ctx.delivery = 2 ∧ seqAhead
       (s.queue q).ctx.prod (s.queue q).ctx.cons = true ∧ (s.eth (s.rfld 0x701 (entryReg ((s.queue q).ctx.session % 128) 0) 1
       2)).link = true ∧ s.rfld 0x701 (entryReg ((s.queue q).ctx.session % 128) 0) 0 1 = 1 ∧ s.sends (s.rfld 0x701 (entryReg
       ((s.queue q).ctx.session % 128) 0) 1 2) = true ∧ (s.eth (s.rfld 0x701 (entryReg ((s.queue q).ctx.session % 128) 0) 1 2)).keys
       ≠ none ∧ (s.readDesc q (s.queue q).ctx.cons).2.kind = 0 ∧ (∀ v ∈ s.net.video, v.queue = q.val → v.seq ≠ (s.readDesc q (s.queue
       q).ctx.cons).2.frameSeq)) ∧
    (∃ (s : State) (q : Fin 16384) (v : Video) (l : List Video), (s.queue q).ctx.en = true ∧ (s.queue q).ctx.dir = 0 ∧ (s.queue
       q).ctx.delivery = 2 ∧ seqAhead (s.queue q).ctx.prod (s.queue q).ctx.cons = true ∧ (s.eth (s.rfld 0x701 (entryReg ((s.queue
       q).ctx.session % 128) 0) 1 2)).link = true ∧ s.rfld 0x701 (entryReg ((s.queue q).ctx.session % 128) 0) 0 1 = 1 ∧ s.sends
       (s.rfld 0x701 (entryReg ((s.queue q).ctx.session % 128) 0) 1 2) = true ∧ (s.eth (s.rfld 0x701 (entryReg ((s.queue
       q).ctx.session % 128) 0) 1 2)).keys ≠ none ∧ (s.readDesc q (s.queue q).ctx.cons).2.kind = 0 ∧ s.net.video = v :: l ∧ v.queue =
       q.val ∧ v.seq = (s.readDesc q (s.queue q).ctx.cons).2.frameSeq) ∧
    (∃ (s : State) (p : Nat) (d : Desc) (v : Video), 0 < (packetsOf (s.payloadLimit p) (v.units (d.aux1 % 65536) (d.aux1 % 65536 +
       d.aux1 / 65536)))) ∧
    (∃ (s : State) (q : Fin 16384), s.settled ∧ ((s.queue q).ctx.en = false ∨ 32 ≤ (s.queue q).ctx.session ∨ (s.sess (s.queue
       q).ctx.session).state ≠ 2)) ∧
    (∃ (s : State) (q : Fin 16384), (s.queue q).ctx.en = true ∧ (s.queue q).ctx.session < 32 ∧ (s.sess (s.queue q).ctx.session).state
       = 2 ∧ seqAhead (s.queue q).ctx.prod (s.queue q).sent = true ∧ (s.queue q).ctx.dir = 0 ∧ (s.queue q).ctx.delivery = 1 ∧
       (s.readDesc q (s.queue q).sent).2.length = 0) :=
  ⟨⟨session id, 31, [(65535, 1)], by decide +kernel⟩,
   ⟨session id, 31, { fragment 0 0x1000000000 false with off := 16 }, (9, 16), by decide +kernel⟩,
   ⟨session id, 31, fragment 0 0x11FBFFFFE0 false, by decide +kernel⟩,
   ⟨session id, 31, fragment 1 0 false, by unfold State.settled; decide +kernel⟩,
   ⟨session id, 31, fragment 1 0 true, by unfold State.settled; decide +kernel⟩,
   ⟨session (fun l => { l with peer := true }), 31, fragment 3 0 true, by decide +kernel⟩,
   ⟨session id, 31, { fragment 0 0x1000000000 false with bytes := 0x1000001 }, by decide +kernel⟩,
   ⟨session id, 31, { fragment 1 19 false with bytes := 1 }, by decide +kernel⟩,
   ⟨{ up with net := { up.net with events := [record] } }, by unfold State.settled; decide +kernel⟩,
   ⟨{ session id with net := { (session id).net with events := [record] } }, record, by decide +kernel⟩,
   ⟨up, 16383, by unfold State.settled; decide +kernel⟩,
   ⟨outQueue 0x11 127 (bandDesc 64) up, 16383, by decide +kernel⟩,
   ⟨outQueue 0x11 127 (bandDesc 64) (entryOn false (keyed keys id)), 16383, by decide +kernel⟩,
   ⟨outQueue 0x11 127 (bandDesc 64) (entryOn true (keyed keys id)), 16383, by decide +kernel⟩,
   ⟨outQueue 0x11 127 { bandDesc 64 with kind := 0 } (entryOn true (keyed keys id)), 16383, by decide +kernel⟩,
   ⟨outQueue 0x11 127 { bandDesc 64 with kind := 0 } (entryOn true playing), 16383, video, [], by decide +kernel⟩,
   ⟨up, 3, { bandDesc 64 with kind := 0, aux1 := 0x10000 }, video, by decide +kernel⟩,
   ⟨up, 16383, by unfold State.settled; decide +kernel⟩,
   ⟨outQueue 9 31 (bandDesc 0) (session id), 16383, by decide +kernel⟩⟩

theorem witness_PortsAndReservations :
    (∃ (s : State) (w : Word), s.settled ∧ bitAt w 0 = false) ∧
    (∃ (s : State) (w : Word), s.settled ∧ bitAt w 0 = true) ∧
    (∃ (s : State) (p : Fin 4), s.settled ∧ (s.eth p).link = false) ∧
    (∃ (s : State) (p : Fin 4), s.settled ∧ (s.eth p).link = true ∧ s.openOn p = []) ∧
    (∃ (s : State) (p : Fin 4) (v : Fin 8), s.settled ∧ (s.eth p).link = false ∧ s.rfld pgNet (portReg p) 0 3 ≠ 0 ∧ v.val ≠ 0 ∧
       v.val ≤ 4 ∧ (s.eth p).speed = v.val) ∧
    (∃ (s : State) (p : Fin 4) (w : Word), s.settled ∧ fld w 0 3 = s.rfld pgNet (portReg p) 0 3) ∧
    (∃ (s : State) (p : Fin 4) (w : Word), fld w 0 3 ≠ s.rfld pgNet (portReg p) 0 3) ∧
    (∃ (s : State) (p : Fin 4), s.settled ∧ s.netUp = true ∧ (s.eth p).link = true ∧ (s.eth p).keys = none ∧
       bitAt (s.reg pgNet 8) 0 = true ∧ s.reg pgNet (portReg p + 0x10) ≠ 0) ∧
    (∃ (s : State) (p : Fin 4) (v : Bool), s.settled ∧ s.netUp = true ∧ (s.eth p).link = true ∧ ((s.eth p).keys = none ∨ v = false)) ∧
    (∃ (s : State) (p : Fin 4) (m : GptpMsg), s.settled ∧ s.netUp = true ∧ (s.eth p).link = true ∧ (s.eth p).keys ≠ none ∧
       m.offset.natAbs ≤ 1000) :=
  ⟨⟨up, 0xFFFFFFFE, by unfold State.settled; decide +kernel⟩,
   ⟨up, 0xFFFFFFFF, by unfold State.settled; decide +kernel⟩,
   ⟨up, 3, by unfold State.settled; decide +kernel⟩,
   ⟨up.setEth 3 { EthPort.init with link := true }, 3, by unfold State.settled; decide +kernel⟩,
   ⟨(up.setEth 3 { EthPort.init with speed := 4 }).setReg pgNet (portReg 3) 4, 3, 4, by unfold State.settled; decide +kernel⟩,
   ⟨up.setReg pgNet (portReg 3) 4, 3, 0xFFFFFFFC, by unfold State.settled; decide +kernel⟩,
   ⟨up.setReg pgNet (portReg 3) 4, 3, 3, by decide +kernel⟩,
   ⟨((session id).setRfld pgNet 8 0 1 1).setReg pgNet (portReg 3 + 0x10) 1, 3, by unfold State.settled; decide +kernel⟩,
   ⟨session id, 3, false, by unfold State.settled; decide +kernel⟩,
   ⟨keyed keys id, 3, ⟨1000, true, false, true⟩, by unfold State.settled; decide +kernel⟩⟩

theorem witness_GroupMembers :
    (∃ (s : State) (n : Fin 32) (w : Word) (g : PeerGroup), s.settled ∧ (s.sess n).state = 2 ∧ (s.sess n).peer = true ∧ s.group
       (s.sess n).group = some g ∧ g.got.contains ((s.sess n).member, w.toNat) = false) ∧
    (∃ (s : State) (n : Fin 32), s.settled ∧ ((s.sess n).state ≠ 2 ∨ (s.sess n).peer = false)) ∧
    (∃ (s : State) (n : Fin 32), (s.sess n).state = 2 ∧ (s.sess n).peer = true ∧ s.group (s.sess n).group = none) ∧
    (∃ (s : State) (n : Fin 32) (g : PeerGroup), (s.sess n).state = 2 ∧ (s.sess n).peer = true ∧ s.group (s.sess n).group = some g) ∧
    (∃ (s : State) (n : Fin 32), (s.sess n).state = 2 ∧ (s.sess n).peer = true ∧ s.group ((s.sess n).group) = none) ∧
    (∃ (s : State) (n : Fin 32) (g : PeerGroup), (s.sess n).state = 2 ∧ (s.sess n).peer = true ∧ s.group ((s.sess n).group) = some g) ∧
    (∃ (s : State) (j : Nat), s.job j = none) ∧
    (∃ (s : State) (j : Nat) (x : Job) (y : Job) (d : StepDue), s.job j = some x ∧ x.kind = 1 ∧ (s.cancelJob j).job j = some y ∧
       y.open_ = some d) ∧
    (∃ (s : State) (n : Fin 32) (g : PeerGroup), (s.sess n).state = 2 ∧ (s.sess n).peer = true ∧ s.group (s.sess n).group = some g ∧
       s.groupJobs (s.sess n).group = [] ∧ g.lost.contains (s.sess n).member = false) ∧
    (∃ (s : State) (g : Fin 16), s.settled ∧ (s.group g = none ∨ ∃ p, s.group g = some p ∧ p.rejoin = false)) ∧
    (∃ (s : State) (g : Fin 16) (p : PeerGroup), s.settled ∧ s.group g = some p ∧ p.rejoin = true ∧ s.groupOpen g p = true ∧ (∀ m, m
       < p.members.length → m ≠ p.self → (m, rejoinStep) ∈ p.got) ∧ s.groupJobs g = []) ∧
    (∃ (s : State) (g : Fin 16) (p : PeerGroup), s.group g = some p ∧ p.rejoin = true ∧ s.groupOpen g p = true ∧ (∀ m, m <
       p.members.length → m ≠ p.self → (m, rejoinStep) ∈ p.got)) ∧
    (∃ (s : State) (g : Fin 16) (p : PeerGroup) (j : Nat) (x : Job), s.group g = some p ∧ p.rejoin = true ∧ s.groupOpen g p = true ∧
       (∀ m, m < p.members.length → m ≠ p.self → (m, rejoinStep) ∈ p.got) ∧ s.groupJobs g = [j] ∧ s.job j = some x ∧ x.kind = 1 ∧
       x.open_ = none) ∧
    (∃ (s : State) (g : Fin 16) (p : PeerGroup) (m : Nat), s.settled ∧ s.group g = some p ∧ m < p.members.length ∧ m ≠ p.self ∧ (m,
       rejoinStep) ∉ p.got) :=
  ⟨⟨grouped groupOfTwo, 31, 0xFFFFFFFF, groupOfTwo, by unfold State.settled; decide +kernel⟩,
   ⟨session id, 31, by unfold State.settled; decide +kernel⟩,
   ⟨session (fun l => { l with peer := true, group := 15, member := 1 }), 31, by decide +kernel⟩,
   ⟨grouped groupOfTwo, 31, groupOfTwo, by decide +kernel⟩,
   ⟨session (fun l => { l with peer := true, group := 15, member := 1 }), 31, by decide +kernel⟩,
   ⟨grouped groupOfTwo, 31, groupOfTwo, by decide +kernel⟩,
   ⟨up, 7, by decide +kernel⟩,
   ⟨{ up with jobs := [(7, some openJob)] }, 7, openJob, openJob, stepOf [1, 1, 1, 1] 0, by decide +kernel⟩,
   ⟨grouped groupOfTwo, 31, groupOfTwo, by decide +kernel⟩,
   ⟨up, 15, by unfold State.settled; decide +kernel⟩,
   ⟨grouped { groupOfTwo with rejoin := true, got := [(1, rejoinStep)] }, 15,
      { groupOfTwo with rejoin := true, got := [(1, rejoinStep)] }, ⟨⟨rfl, by decide +kernel⟩, rfl, rfl, by decide +kernel, by decide,
      by decide +kernel⟩⟩,
   ⟨grouped { groupOfTwo with rejoin := true, got := [(1, rejoinStep)] }, 15, { groupOfTwo with rejoin := true, got := [(1,
      rejoinStep)] }, ⟨rfl, rfl, by decide +kernel, by decide⟩⟩,
   ⟨{ grouped { groupOfTwo with rejoin := true, got := [(1, rejoinStep)] } with
        images := [⟨0x1100000000, 0x1000, { image with group := true }⟩]
        jobs := [(7, some { job with kind := 1, bind := { binding with groupId := 15, entries := [] } })] },
      15, { groupOfTwo with rejoin := true, got := [(1, rejoinStep)] }, 7,
      { job with kind := 1, bind := { binding with groupId := 15, entries := [] } },
      ⟨rfl, rfl, by decide +kernel, by decide, by decide +kernel, rfl, rfl, rfl⟩⟩,
   ⟨grouped groupOfTwo, 15, groupOfTwo, 1, by unfold State.settled; decide +kernel⟩⟩

theorem witness_SessionsEstablished :
    (∃ (s : State), s.settled ∧ s.netUp = false) ∧
    (∃ (s : State) (p : Fin 4) (m : HelloMsg), s.settled ∧ s.pwr.state ≠ .standby ∧ s.netUp = true ∧ (s.eth p).keys ≠ none ∧
       m.verified = false) ∧
    (∃ (s : State) (p : Fin 4) (m : HelloMsg), s.pwr.state ≠ .standby ∧ s.netUp = true ∧ (s.eth p).keys = none ∧
       (1 < m.role.val ∨ m.scis = [] ∨ 4 < m.scis.length ∨ ∃ x ∈ m.scis, 4 ≤ x.2.val)) ∧
    (∃ (s : State) (p : Fin 4) (n : Nat) (m : HelloMsg) (c : BitVec 64 × Fin 256), s.pwr.state ≠ .standby ∧ s.netUp = true ∧
       (s.eth p).keys = none ∧ m.role.val = 0 ∧ m.scis = [c] ∧ c.2.val < 4 ∧ s.hostNumber m.sessionReq.val = some n ∧
       (s.sess n).state ≠ 3 ∧ s.scFull n [(c.1.toNat, c.2.val)] = false) ∧
    (∃ (s : State) (a : Nat) (x : Exchange) (m : QuoteMsg), s.exchange a = some x ∧ x.peer = true ∧
       (if x.initiator then x.stage = 1 else x.stage = 2) ∧ m.genuine = false) ∧
    (∃ (s : State) (a : Nat) (x : Exchange) (m : QuoteMsg), s.exchange a = some x ∧ x.peer = true ∧
       (if x.initiator then x.stage = 1 else x.stage = 2) ∧ m.genuine = true ∧ m.ownerHash.toNat ≠ s.ownerHash) ∧
    (∃ (s : State) (a : Nat) (x : Exchange) (m : QuoteMsg), s.exchange a = some x ∧ x.peer = true ∧
       (if x.initiator then x.stage = 1 else x.stage = 2) ∧ m.genuine = true ∧ m.ownerHash.toNat = s.ownerHash ∧ x.initiator = false ∧
       s.settled) ∧
    (∃ (s : State) (d : Nat), s.settled ∧ (s.link d).state ≠ 2) ∧
    (∃ (s : State) (d : Nat), (s.link d).state = 2) ∧
    (∃ (s : State) (a : Nat) (x : Exchange) (m : KemAuthMsg), s.exchange a = some x ∧ x.initiator = false ∧ x.stage = 2 ∧
       s.kemFault x m ≠ 0) ∧
    (∃ (x : Exchange), x.peer = false) ∧
    (∃ (s : State) (a : Nat) (x : Exchange) (m : KemAuthMsg), s.exchange a = some x ∧ x.initiator = false ∧ x.stage = 2 ∧
       s.kemFault x m = 0 ∧ s.scFull x.session x.scis = false) ∧
    (∃ (s : State) (a : Nat) (x : Exchange) (m : FinishMsg), s.exchange a = some x ∧ x.initiator = true ∧ x.stage = 3 ∧ m.genuine = false) ∧
    (∃ (s : State) (a : Nat) (x : Exchange) (m : FinishMsg), s.exchange a = some x ∧ x.initiator = true ∧ x.stage = 3 ∧
       m.genuine = true ∧ 16 ≤ m.session.val ∧ m.session.val < 32 ∧ (∀ y ∈ m.saks, y.1.val < 4)) :=
  ⟨⟨{ up with pins := { up.pins with porstLow := true } }, by unfold State.settled; decide +kernel⟩,
   ⟨keyed keys id, 3, helloMsg, by unfold State.settled; decide +kernel⟩,
   ⟨session id, 3, { helloMsg with role := 2 }, by decide +kernel⟩,
   ⟨session id, 3, 0, helloMsg, (1, 3), by decide +kernel⟩,
   ⟨exchanging (exchange true true 1), 9, exchange true true 1, ⟨false, 0, []⟩, by decide +kernel⟩,
   ⟨exchanging (exchange true false 2), 9, exchange true false 2, ⟨true, 1, []⟩, by decide +kernel⟩,
   ⟨exchanging (exchange true false 2), 9, exchange true false 2, ⟨true, 0, []⟩, by unfold State.settled; decide +kernel⟩,
   ⟨up, 31, by unfold State.settled; decide +kernel⟩,
   ⟨session id, 31, by decide +kernel⟩,
   ⟨exchanging (exchange false false 2), 9, exchange false false 2, ⟨true, false, []⟩, by decide +kernel⟩,
   ⟨exchange false false 2, by decide +kernel⟩,
   ⟨exchanging (exchange false false 2), 9, exchange false false 2, ⟨true, true, []⟩, by decide +kernel⟩,
   ⟨exchanging (exchange true true 3), 9, exchange true true 3, ⟨31, false, []⟩, by decide +kernel⟩,
   ⟨exchanging (exchange true true 3), 9, exchange true true 3, ⟨31, true, [(3, 0, 1, 2)]⟩, by decide +kernel⟩⟩

theorem witness_PortKeysChange :
    (∃ (s : State) (n : Fin 32), s.settled ∧ (s.sess n).state ≠ 2 ∧ s.pwr.state ≠ .standby) ∧
    (∃ (s : State) (n : Fin 32), (s.sess n).state = 2 ∧ s.pwr.state ≠ .standby) ∧
    (∃ (s : State) (n : Fin 32) (m : RekeyMsg) (k : PortKeys), s.pwr.state ≠ .standby ∧ (s.sess n).state = 2 ∧
       (s.sess n).unowned = false ∧ m.port.val < 4 ∧ m.dir.val = 1 ∧ m.genuine = true ∧ (s.eth m.port).keys = some k) ∧
    (∃ (s : State) (n : Fin 32) (m : RekeyMsg), s.pwr.state ≠ .standby ∧ (s.sess n).state = 2 ∧ (s.sess n).unowned = false ∧
       (4 ≤ m.port.val ∨ m.dir.val ≠ 1)) ∧
    (∃ (s : State) (n : Fin 32) (p : Fin 4) (k : PortKeys) (a : Sak) (w : List Nat), s.settled ∧ (s.sess n).state = 2 ∧
       (s.eth p).keys = some k ∧ k.txNext = some (a, w) ∧ w.filter (fun j => j != n.val && (s.sess j).state == 2) = [] ∧ a.an < 256) ∧
    (∃ (s : State) (p : Fin 4), s.settled ∧ ((s.eth p).keys = none ∨ ∃ k, (s.eth p).keys = some k ∧ k.txNext.isSome = true)) ∧
    (∃ (s : State) (p : Fin 4) (k : PortKeys), (s.eth p).keys = some k ∧ k.txNext = none) ∧
    (∃ (s : State) (n : Fin 32) (c : BitVec 64) (p : Fin 4), s.pwr.state ≠ .standby ∧ (s.sess n).state = 2 ∧ (s.sess n).peer = false ∧
       (s.eth p).keys ≠ none ∧ ((s.eth p).scis.any fun x => x.1 == c.toNat) = false ∧ 8 ≤ (s.eth p).scis.length) ∧
    (∃ (s : State) (n : Fin 32) (c : BitVec 64) (p : Fin 4), s.pwr.state ≠ .standby ∧ (s.sess n).state = 2 ∧ (s.sess n).peer = false ∧
       (s.eth p).keys ≠ none ∧ ((s.eth p).scis.any fun x => x.1 == c.toNat) = false ∧ (s.eth p).scis.length < 8 ∧ s.settled) :=
  ⟨⟨up, 31, by unfold State.settled; decide +kernel⟩,
   ⟨session id, 31, by decide +kernel⟩,
   ⟨keyed keys id, 31, ⟨3, 3, 1, true, 9⟩, keys, by decide +kernel⟩,
   ⟨keyed keys id, 31, ⟨4, 3, 1, true, 9⟩, by decide +kernel⟩,
   ⟨keyed { keys with txNext := some (⟨255, 8⟩, [31]) } id, 31, 3, { keys with txNext := some (⟨255, 8⟩, [31]) }, ⟨255, 8⟩, [31],
      by unfold State.settled; decide +kernel⟩,
   ⟨up, 3, by unfold State.settled; decide +kernel⟩,
   ⟨keyed keys id, 3, keys, by decide +kernel⟩,
   ⟨(keyed keys id).setEth 3 { (keyed keys id).eth 3 with scis := (List.range 8).map fun k => (k, 0) }, 31, 8, 3, by decide +kernel⟩,
   ⟨(keyed keys id).setEth 3 { (keyed keys id).eth 3 with scis := (List.range 7).map fun k => (k, 0) }, 31, 8, 3,
      by unfold State.settled; decide +kernel⟩⟩

theorem witness_OwnershipAndRollback :
    (∃ (s : State) (n : Fin 32) (m : EnrollMsg), s.settled ∧ s.pwr.state ≠ .standby ∧ (s.sess n).state = 2 ∧ (s.sess n).peer = false ∧
       (s.sess n).unowned = !s.owned ∧ s.ownable = true ∧ s.fuse.slots.length < 8 ∧ (s.owned = false ∨ m.genuine = true)) ∧
    (∃ (s : State) (n : Fin 32), s.pwr.state ≠ .standby ∧ (s.sess n).state = 2 ∧ (s.sess n).peer = false ∧ (s.sess n).unowned = s.owned) ∧
    (∃ (s : State) (n : Fin 32), s.settled ∧ s.pwr.state ≠ .standby ∧ (s.sess n).state = 2 ∧ (s.sess n).peer = false ∧
       (s.sess n).unowned = false ∧ s.owned = true ∧ s.ownable = true ∧ s.fuse.slots.length < 8) ∧
    (∃ (s : State) (n : Fin 32), s.pwr.state ≠ .standby ∧ (s.sess n).state = 2 ∧ (s.sess n).peer = false ∧
       ((s.sess n).unowned = true ∨ s.owned = false)) ∧
    (∃ (s : State) (h : Nat) (k : List Nat), s.sec.burn = some (.owner h k false)) ∧
    (∃ (s : State) (n : Fin 32), s.settled ∧ s.pwr.state ≠ .standby ∧ ((s.sess n).state ≠ 2 ∨ (s.sess n).peer = true)) ∧
    (∃ (s : State) (n : Fin 32), s.pwr.state ≠ .standby ∧ (s.sess n).state = 2 ∧ (s.sess n).peer = false) ∧
    (∃ (s : State), s.settled ∧ (s.pwr.booting = false ∨ s.sec.netBoot = false ∨ 4 ≤ s.pwr.step)) ∧
    (∃ (s : State), s.settled ∧ s.pwr.booting = true ∧ s.sec.netBoot = true ∧ s.pwr.step < 4) ∧
    (∃ (s : State) (w : Word), s.settled ∧ bitAt w 31 = true ∧ s.sec.burn = none ∧ s.pwr.state ≠ .idle ∧ s.pwr.state ≠ .standby) ∧
    (∃ (s : State) (w : Word), s.settled ∧ bitAt w 31 = true ∧ s.sec.burn = none ∧ s.pwr.state = .idle ∧ fld w 0 8 ≤ 128 ∧
       fld w 8 1 = 0 ∧ fld w 0 8 ≤ s.sec.fwVersion ∧ s.fuse.fw < fld w 0 8) ∧
    (∃ (s : State) (k : Nat) (v : Nat) (u : Nat), s.sec.burn = some (.rollback k v u)) :=
  ⟨⟨owning Fuse.factory true, 31, ⟨1, [], false⟩, by unfold State.settled; decide +kernel⟩,
   ⟨owning Fuse.factory false, 31, by decide +kernel⟩,
   ⟨owning ownedIdle.fuse false, 31, by unfold State.settled; decide +kernel⟩,
   ⟨owning Fuse.factory true, 31, by decide +kernel⟩,
   ⟨{ up with sec := { up.sec with burn := some (.owner 5 [] false) } }, 5, [], by decide +kernel⟩,
   ⟨up, 31, by unfold State.settled; decide +kernel⟩,
   ⟨session id, 31, by decide +kernel⟩,
   ⟨up, by unfold State.settled; decide +kernel⟩,
   ⟨{ State.reset with sec := { Sec.reset with netBoot := true } }, by unfold State.settled; decide +kernel⟩,
   ⟨up, 0x80000001, by unfold State.settled; decide +kernel⟩,
   ⟨{ at_ .idle with sec := { up.sec with fwVersion := 128 }, fuse := { Fuse.factory with fw := 127 } }, 0x80000080,
      by unfold State.settled; decide +kernel⟩,
   ⟨{ up with sec := { up.sec with burn := some (.rollback 1 128 0) } }, 1, 128, 0, by decide +kernel⟩⟩

theorem witness_FreezeReleases :
    (∃ (s : State) (w : Word), s.settled ∧ bitAt w 31 = true ∧ 0x10 ≤ fld w 0 8 ∧ s.sec.frozen.contains (fld w 0 8) = true ∧
       s.sec.relPending = [] ∧ s.sec.givingUp.contains (fld w 0 8) = true) ∧
    (∃ (s : State) (w : Word), s.settled ∧ bitAt w 31 = true ∧ 0x10 ≤ fld w 0 8 ∧ fld w 0 8 < 0x90 ∧
       s.sec.frozen.contains (fld w 0 8) = true ∧ s.sec.relPending = [] ∧ s.sec.givingUp.contains (fld w 0 8) = false) ∧
    (∃ (s : State) (w : Word), s.settled ∧ (bitAt w 31 = false ∨ s.sec.frozen.contains (fld w 0 8) = false)) ∧
    (∃ (s : State) (m : Fin 256), s.settled ∧ s.sec.relPending.contains m.val = false) ∧
    (∃ (s : State) (m : Fin 256), s.settled ∧ s.sec.relPending = [m.val] ∧ s.sec.frozen.contains m.val = true ∧ 0x10 ≤ m.val ∧
       m.val < 0x90) :=
  ⟨⟨frozen [0x8F] [], 0x8000008F, by unfold State.settled; decide +kernel⟩,
   ⟨frozen [] [], 0x8000008F, by unfold State.settled; decide +kernel⟩,
   ⟨up, 0, by unfold State.settled; decide +kernel⟩,
   ⟨up, 255, by unfold State.settled; decide +kernel⟩,
   ⟨frozen [0x8F] [0x8F], 0x8F, by unfold State.settled; decide +kernel⟩⟩

theorem witness_EventsAndRestarts :
    (∃ (s : State), s.settled) ∧
    (∃ (s : State) (p : Fin 4096), s.settled ∧ s.eventBits p ≠ 0) ∧
    (∃ (s : State) (p : Fin 4096) (w : Word) (b : Nat), s.settled ∧ b < s.eventBits p ∧ bitAt w b = true) ∧
    (∃ (s : State) (p : Fin 4096), s.settled ∧ s.eventBits p = 0) ∧
    (∃ (s : State) (w : Word), s.settled ∧ (bitAt w 31 = false ∨ s.job (fld w 0 3) = none)) ∧
    (∃ (s : State) (w : Word) (x : Job), bitAt w 31 = true ∧ s.job (fld w 0 3) = some x) ∧
    (∃ (s : State) (j : Fin 8), s.settled ∧ s.sec.relPending = [] ∧ ((s.job j).all fun x => x.phase != .restarting) = true) ∧
    (∃ (s : State) (j : Fin 8) (x : Job), s.settled ∧ s.sec.relPending = [] ∧ s.job j = some x ∧ x.phase = .restarting ∧ x.kind = 1 ∧
       x.bind.queues 1 = [] ∧ (∀ t, t < 6 → s.persistRanges t = []) ∧ x.bind.eventQ = 0xFFFF ∧ bitAt (s.reg pgNet 0x100) 31 = false ∧
       s.sup.busy = []) ∧
    (∃ (s : State), s.settled ∧ (∀ x ∈ s.progressItems, x ∉ s.sched.progress)) ∧
    (∃ (s : State) (x : Nat × Nat × Nat × Nat), x ∈ s.progressItems ∧ x ∈ s.sched.progress) :=
  ⟨⟨up, by unfold State.settled; decide +kernel⟩,
   ⟨up, 0x30, by unfold State.settled; decide +kernel⟩,
   ⟨up, 0x30, 1, 0, by unfold State.settled; decide +kernel⟩,
   ⟨up, 0xFFF, by unfold State.settled; decide +kernel⟩,
   ⟨up, 0x80000007, by unfold State.settled; decide +kernel⟩,
   ⟨{ up with jobs := [(7, some job)] }, 0x80000007, job, by decide +kernel⟩,
   ⟨up, 7, by unfold State.settled; decide +kernel⟩,
   ⟨{ up with jobs := [(7, some { job with phase := .restarting, kind := 1 })] }, 7, { job with phase := .restarting, kind := 1 },
      by unfold State.settled; decide +kernel⟩,
   ⟨up, by unfold State.settled; decide +kernel⟩,
   ⟨{ pairReady frame with sched := { up.sched with progress := [(0, 0, 1, 0)] } }, (0, 0, 1, 0), by decide +kernel⟩⟩

theorem witness_StepRunsFrontCommand :
    ∃ (c : Instr) (rest : List Instr) (s : State), answers (step { s with pending := c :: rest }) = true ∧
      (nextOf (step { s with pending := c :: rest })).pending = rest :=
  ⟨.crystalStart, [.ppsPulse], up, by decide +kernel⟩

theorem witness_BandsOfAFrame :
    (∃ (f : Frame) (b : Nat), 0 < f.bandRows ∧ f.bandRows % 2 = 0 ∧ f.height % 2 = 0 ∧ 0 < f.height ∧ b < f.bandCount ∧
      b + 1 < f.bandCount) ∧
    (∃ (f : Frame) (b : Nat), 0 < f.bandRows ∧ f.bandRows % 2 = 0 ∧ f.height % 2 = 0 ∧ 0 < f.height ∧ b < f.bandCount ∧
      b + 1 = f.bandCount ∧ f.bottom b - f.top b < f.bandRows) :=
  ⟨⟨frame4k, 66, by decide⟩, ⟨frame4k, 67, by decide⟩⟩

theorem witness_StripesOfABand :
    (∃ f : Frame, 0 < f.stripeW ∧ f.stripeW % 2 = 0 ∧ f.width % 2 = 0 ∧ 0 < f.width ∧ f.width ≤ f.stripeW) ∧
    (∃ (f : Frame) (j : Nat), 0 < f.stripeW ∧ f.stripeW % 2 = 0 ∧ f.width % 2 = 0 ∧ 0 < f.width ∧ f.stripeW < f.width ∧
      j + 1 < f.stripeCount) ∧
    (∃ f : Frame, 0 < f.stripeW ∧ f.width = f.stripeW + 2) :=
  ⟨⟨frame, by decide⟩, ⟨frame4k, 4, by decide⟩, ⟨{ frame with width := 66 }, by decide⟩⟩

theorem witness_CanonicalNaN : ∃ f : FFmt, f = fp32 ∨ f = fp16 ∨ f = bf16 ∨ f = e4m3 ∨ f = e5m2 := ⟨e5m2, by decide⟩

theorem witness_EveryCommandCompletes :
    (∃ c : Instr, c.wf = true) ∧ (∃ (c : Instr) (s : State), c.wf = false ∧ exec c s = .refused (.illFormed "THERMAL_SAMPLE")) :=
  ⟨⟨.crystalStart, rfl⟩, ⟨.thermalSample [1], up, rfl, rfl⟩⟩

theorem witness_ReplaceFollowsConditions :
    ∃ s t : State, s.flt.replaced = s.replaceDue ∧ step s = .next t ∧ t.flt.replaced = true :=
  ⟨{ up with pending := [.engineSelftestDone 5 255 false], engines := [(5, { Engine.init with selftest := 3 })] },
    nextOf (step { up with pending := [.engineSelftestDone 5 255 false], engines := [(5, { Engine.init with selftest := 3 })] }),
    by decide +kernel, next_of_answers (by decide +kernel), by decide +kernel⟩

theorem witness_ResetState : ∃ i : Nat, i < 16 := ⟨15, by decide⟩

theorem witness_ParameterSetPair :
    (∃ a : Nat, a < ctxBase ∧ (idType (pageOf (pageIndex a)).1).isSome = true ∧
      [PageKind.cam, .rfe, .stat, .ofm, .crs].contains (pageOf (pageIndex a)).1 = true ∧ a % 4096 = 0x30) ∧
    (∃ a : Nat, a < ctxBase ∧ (idType (pageOf (pageIndex a)).1).isSome = true ∧
      [PageKind.cam, .rfe, .stat, .ofm, .crs].contains (pageOf (pageIndex a)).1 = false ∧ a % 4096 = 0x30) ∧
    (∃ (s : State) (a : Nat), a < ctxBase ∧ (idType (pageOf (pageIndex a)).1).isSome = true ∧
      [PageKind.cam, .rfe, .stat, .ofm, .crs].contains (pageOf (pageIndex a)).1 = true ∧ a % 4096 = 0x34 ∧ s.runOk a 1 = true) ∧
    (∃ (s : State) (a : Nat), a < ctxBase ∧ (idType (pageOf (pageIndex a)).1).isSome = true ∧
      [PageKind.cam, .rfe, .stat, .ofm, .crs].contains (pageOf (pageIndex a)).1 = false ∧ a % 4096 = 0x34 ∧ s.runOk a 1 = true ∧
      s.settled) :=
  ⟨⟨0x880030, by decide⟩, ⟨0x700030, by decide⟩, ⟨up, 0x880034, by decide +kernel⟩,
    ⟨up, 0x700034, by unfold State.settled; decide +kernel⟩⟩

end Sys2Proof.Tests
end

section
/-! SUPPORT. Bands and stripes of a frame (R20, R21): quotients rounded up, and where the rows and columns of each part lie. -/

namespace Sys2Proof.Machine

open Sys2Proof

/-- The parts of size `b` that `a` is cut into are those that begin below `a`. -/
theorem lt_cdiv_iff {a b k : Nat} (hb : 0 < b) : k < cdiv a b ↔ k * b < a := by
  rw [cdiv, ← Nat.succ_le_iff, Nat.le_div_iff_mul_le hb, Nat.succ_mul]
  omega

/-- A band of the frame begins at a row of the frame. -/
theorem top_lt_height {f : Frame} {b : Nat} (hH : 0 < f.bandRows) (hb : b < f.bandCount) : b * f.bandRows < f.height :=
  (lt_cdiv_iff hH).1 hb

/-- The last band ends with the frame. -/
theorem height_le_last_band {f : Frame} {b : Nat} (hH : 0 < f.bandRows) (hb : b + 1 = f.bandCount) :
    f.height ≤ (b + 1) * f.bandRows :=
  not_lt.1 fun h => absurd ((lt_cdiv_iff hH).2 h) (by rw [Frame.bandCount] at hb; omega)

/-- Settles O53: the start of each band lies in the frame exactly for the bands that are counted (`lt_cdiv_iff`). -/
theorem bandsOfAFrame : Obligations.BandsOfAFrame := by
  unfold Obligations.BandsOfAFrame
  intro f hH hHeven hFeven _
  refine ⟨rfl, fun b hb => ⟨rfl, rfl, ?_, fun hnext => ?_, fun hlast => ?_⟩⟩
  · have htop := top_lt_height hH hb
    simp only [Frame.top, Frame.bottom, Nat.succ_mul]
    omega
  · have hnext' := top_lt_height hH hnext
    rw [Frame.top, Frame.bottom, min_eq_left hnext'.le, Nat.succ_mul, Nat.add_sub_cancel_left]
  · have hbottom : f.bottom b = f.height := min_eq_right (height_le_last_band hH hlast)
    have htop : b * f.bandRows % 2 = 0 := by rw [Nat.mul_mod, hHeven, Nat.mul_zero, Nat.zero_mod]
    refine ⟨hbottom, ?_⟩
    rw [hbottom, Frame.top]
    omega

/-- A frame 3 columns wide whose stripes are 1 column wide: its width is that of a stripe and 2 columns more, as the last clause of
`Obligations.StripesOfABand` asks, and its stripes are not of even width, as Table 02-2 asks and that clause does not. -/
def oneColumnStripes : Frame :=
  { seq := 0, rxCount := 0, tStart := 0, width := 3, height := 2, exps := 1, bandRows := 2, stripeW := 1, halo := 0, interval := 0,
    ts := 0, k := 0, cause := 0, pset := [], slot0 := 0, pairs := 0, ended := false, rows := 0, bands := [], flags := 0, extra := 0,
    widthLines := 0, crcs := 0, lost := 0, replayed := 0, firstLost := 0xFFFF, zeroLen := false, aborted := false, outs := [],
    crops := [], listSeq := 0, stat := RawStat.init, luma := [], lumaPix := 0, prev := [], excluded := false }

/-- Stripes of 1 column cut 3 columns into three. -/
theorem oneColumnStripes_stripeCount : oneColumnStripes.stripeCount = 3 := by decide

/-- Refutes O54: its last clause leaves out that stripes are of even width (Table 02-2), and a frame of width w + 2 with w = 1 has
three stripes, not two. -/
theorem not_stripesOfABand : ¬ Obligations.StripesOfABand := by
  unfold Obligations.StripesOfABand
  rintro ⟨-, hlast⟩
  have htwo := (hlast oneColumnStripes Nat.one_pos rfl).1
  rw [oneColumnStripes_stripeCount] at htwo
  exact absurd htwo (by decide)

end Sys2Proof.Machine
end

section
/-! SUPPORT. Row pairs (R17, R62 to R72): what the ring's writes leave of streams and slots, when no band falls due, and what a
committed pair leaves behind. -/

namespace Sys2Proof.Machine

open Sys2Proof

/-! Writes of the blocks leave streams and slots. -/

/-- Streams and their slots are the same in both states. -/
def State.sameStreams (s t : State) : Prop := t.strms = s.strms ∧ t.slots = s.slots

theorem sameStreams_refl (s : State) : s.sameStreams s := ⟨rfl, rfl⟩

theorem sameStreams_trans {s t u : State} (h : s.sameStreams t) (k : t.sameStreams u) : s.sameStreams u :=
  ⟨k.1.trans h.1, k.2.trans h.2⟩

theorem strm_of_sameStreams {s t : State} (h : s.sameStreams t) (i : Nat) : t.strm i = s.strm i := by
  rw [State.strm, State.strm, h.1]

theorem slot_of_sameStreams {s t : State} (h : s.sameStreams t) (i : Nat) : t.slot i = s.slot i := by
  rw [State.slot, State.slot, h.2]

/-- The DRAM controller changes no stream and no slot. -/
theorem sameStreams_of_DrcFrame {s t : State} (h : DrcFrame s t) : s.sameStreams t := ⟨h.strms, h.slots⟩

theorem fabRefuse_sameStreams (s : State) (t : Nat) (f : Nat × Nat) : s.sameStreams (s.fabRefuse t f) := by
  unfold State.fabRefuse State.smemCause
  dsimp only
  split <;> exact ⟨by simp, by simp⟩

theorem freezeMaster_sameStreams (s : State) (id a j : Nat) : s.sameStreams (s.freezeMaster id a j) := by
  unfold State.freezeMaster
  split
  · exact sameStreams_refl s
  · exact ⟨by simp, by simp⟩

theorem freezeBlock_sameStreams (s : State) (id a : Nat) : s.sameStreams (s.freezeBlock id a) := by
  unfold State.freezeBlock
  split
  · exact sameStreams_refl s
  · exact freezeMaster_sameStreams s id a 0

theorem memWrite_sameStreams (s : State) (w a : Nat) (l : List Byte) : s.sameStreams (s.memWrite w a l).1 := by
  unfold State.memWrite
  split
  · exact sameStreams_of_DrcFrame (dramWrite_frame s w a l)
  · split
    · split
      · exact fabRefuse_sameStreams ..
      · exact ⟨by simp, by simp⟩
    · exact sameStreams_refl s

/-- What a block writes, in its windows or not, changes no stream and no slot. -/
theorem blockWrite_sameStreams (s : State) (id w a : Nat) (l : List Byte) : s.sameStreams (s.blockWrite id w a l) := by
  unfold State.blockWrite
  dsimp only
  split
  · exact sameStreams_refl s
  · split
    · split
      · exact sameStreams_trans (memWrite_sameStreams ..) (freezeBlock_sameStreams ..)
      · exact memWrite_sameStreams ..
    · exact freezeBlock_sameStreams ..

/-- A fold of changes that leave streams and slots leaves them. -/
theorem sameStreams_forEach {α : Type} (l : List α) (f : α → State → State) (hf : ∀ (x : α) (s : State), s.sameStreams (f x s)) (s : State) :
    s.sameStreams (forEach l f s) := forEach_rel State.sameStreams sameStreams_refl sameStreams_trans l f hf s

/-- Writing one exposure of a pair into the ring changes no stream and no slot. -/
theorem ringWrite_sameStreams (s : State) (f : Frame) (i base e : Nat) (a b : List Nat) :
    s.sameStreams (s.ringWrite f i base e a b) :=
  sameStreams_forEach _ _ (fun _ s => sameStreams_forEach _ _ (fun _ _ => blockWrite_sameStreams ..) s) s

/-! Bands that a pair does not make due (R23). -/

/-- No band of a frame is due while the frame goes on and the pairs committed reach no trigger. -/
theorem due_eq_false {g : Frame} (hend : g.ended = false) (htrig : ∀ b, b + 1 < g.bandCount → 2 * g.pairs ≤ g.trigger b) (b : Nat) :
    g.due b = false := by
  have := htrig b
  simp only [Frame.due, hend, Bool.false_and, Bool.false_or, Bool.and_eq_false_iff, decide_eq_false_iff_not]
  omega

/-- With no band due the check for bands that become ready changes nothing. -/
theorem checkReady_of_none_due {s : State} {i : Nat} (h : ∀ g ∈ (s.strm i).frames, ∀ b, g.due b = false) : s.checkReady i = s := by
  unfold State.checkReady
  dsimp only
  rw [if_pos]
  simp only [List.isEmpty_iff, List.flatten_eq_nil_iff, List.mem_map]
  rintro _ ⟨g, hg, rfl⟩
  simp [h g hg]

/-! The commit of a pair (R69, R70). -/

/-- A frame with one pair more: its first ring slot, its statistics and the levels kept for the next pair are the commit's. -/
def Frame.committed (f : Frame) (slot0 : Nat) (st : RawStat) (prev : List (List Row)) : Frame :=
  { f with pairs := f.pairs + 1, slot0 := slot0, stat := st, prev := prev }

/-- A stream after a commit: its frame replaced by `g`, the ring's head moved on within its slots, nothing waiting. -/
def Strm.committed (t : Strm) (en : BindEntry) (g : Frame) : Strm :=
  { t with frames := t.frames.map fun x => if x.seq = g.seq then g else x
           ringHead := (t.ringHead + 1) % max en.ringSlots 1
           stalled := false }

/-- The state when the data of a pair of frame `f` lies in the ring of `w`: frame `g` takes the place of `f`, the head moves on, and
the pair's rows leave the line store that `s` holds. -/
def State.pairStored (s w : State) (i : Nat) (en : BindEntry) (f g : Frame) : State :=
  let v := w.setFrame i g
  let u := v.setStrm i { v.strm i with ringHead := ((s.strm i).ringHead + 1) % max en.ringSlots 1, stalled := false }
  u.setSlot i { u.slot i with store := (s.slot i).store.filter fun x =>
    !(x.frame == f.rxCount && decide (x.row ≤ 2 * f.pairs + 1)) }

/-- The stream of a stored pair is the committed one. -/
theorem pairStored_strm {s w : State} (h : s.sameStreams w) (i : Nat) (en : BindEntry) (f g : Frame) :
    (s.pairStored w i en f g).strm i = (s.strm i).committed en g := by
  simp only [State.pairStored, State.setFrame, setSlot_strm, setStrm_strm, if_pos, strm_of_sameStreams h]
  rfl

/-- The line store of a stored pair has its rows no more. -/
theorem pairStored_store (s w : State) (i : Nat) (en : BindEntry) (f g : Frame) :
    ((s.pairStored w i en f g).slot i).store =
      (s.slot i).store.filter fun x => !(x.frame == f.rxCount && decide (x.row ≤ 2 * f.pairs + 1)) := by
  simp only [State.pairStored, setSlot_slot, if_pos]

section Commit

variable {s : State} {i : Nat} {f : Frame} {en : BindEntry} {rows : List (Row × Row) × Bool}
  (hf : (s.slot i).store.head?.bind (fun w => (s.strm i).frames.find? fun g => g.rxCount == w.frame) = some f)
  (hen : (s.strm i).entry = some en) (hrows : pairRows (s.slot i) f = some rows)

include hf hen hrows

/-- A pair whose ring slot is free is written and stored, and then bands become ready. -/
theorem commitPair_of_free (hfree : (s.strm i).slotBusy en.ringSlots (s.strm i).ringHead = false) :
    ∃ (w : State) (slot0 : Nat) (st : RawStat) (prev : List (List Row)), s.sameStreams w ∧
      s.commitPair i = (s.pairStored w i en f (f.committed slot0 st prev)).drawn.checkReady i := by
  obtain ⟨pairs, repl⟩ := rows
  simp only [State.commitPair, hf, hen, hrows, hfree, Bool.false_eq_true, if_false]
  exact ⟨_, _, _, _, sameStreams_forEach _ _ (fun _ _ => ringWrite_sameStreams ..) s, rfl⟩

/-- A pair whose ring slot is busy waits, and raises RING_STALL when it begins to. -/
theorem commitPair_of_busy (hbusy : (s.strm i).slotBusy en.ringSlots (s.strm i).ringHead = true) (hst : (s.strm i).stalled = false) :
    s.commitPair i = (s.setStrm i { s.strm i with stalled := true }).event pgRfe 2 := by
  obtain ⟨pairs, repl⟩ := rows
  simp [State.commitPair, hf, hen, hrows, hbusy, hst]

end Commit

/-- The frames of a stream after a commit that makes no band due have no band due. -/
theorem committed_none_due {t : Strm} {f : Frame} (en : BindEntry) (slot0 : Nat) (st : RawStat) (prev : List (List Row))
    (hf : f ∈ t.frames)
    (h : ∀ g ∈ t.frames, g.ended = false ∧ ∀ b, b + 1 < g.bandCount → 2 * (g.pairs + 1) ≤ g.trigger b) :
    ∀ g ∈ (t.committed en (f.committed slot0 st prev)).frames, ∀ b, g.due b = false := by
  intro g hg
  obtain ⟨x, hx, rfl⟩ := List.mem_map.1 hg
  split
  · exact due_eq_false (g := f.committed slot0 st prev) (h f hf).1 (h f hf).2
  · obtain ⟨hend, htrig⟩ := h x hx
    exact due_eq_false hend fun b hb => (Nat.mul_le_mul_left 2 (Nat.le_succ _)).trans (htrig b hb)

/-- A waiting pair resumed is committed. -/
theorem ringResume_of_stalled {s : State} {i : Nat} (h : (s.strm i).stalled = true) : s.ringResume i = s.commitPair i := if_pos h

/-- A stream without a waiting pair has nothing to resume. -/
theorem ringResume_of_not_stalled {s : State} {i : Nat} (h : (s.strm i).stalled = false) : s.ringResume i = s := by
  simp [State.ringResume, h]

/-- Settles O15: a pair with a free slot is committed and makes no band due, one with a busy slot waits, and only a waiting pair is
resumed. -/
theorem rowPairs : Obligations.RowPairs := by
  unfold Obligations.RowPairs
  refine ⟨?_, ?_, ?_⟩
  · intro s i f en rows hf hen hrows hfree hdue
    obtain ⟨_, _, hfind⟩ := Option.bind_eq_some_iff.1 hf
    have hmem : f ∈ (s.strm i).frames := List.mem_of_find?_eq_some hfind
    obtain ⟨w, slot0, st, prev, hw, hcommit⟩ := commitPair_of_free hf hen hrows hfree
    set u := (s.pairStored w i en f (f.committed slot0 st prev)).drawn
    have hstrm : u.strm i = (s.strm i).committed en (f.committed slot0 st prev) :=
      pairStored_strm hw i en f _
    have hnone : u.checkReady i = u := checkReady_of_none_due (by
      rw [hstrm]; exact committed_none_due en slot0 st prev hmem hdue)
    rw [hnone] at hcommit
    refine ⟨u, congrArg done hcommit, fun hst => congrArg done ((ringResume_of_stalled hst).trans hcommit), ?_, ?_, ?_,
      pairStored_store ..⟩
    · rw [hstrm]; rfl
    · rw [hstrm]; rfl
    · rw [hstrm]
      exact ⟨f.committed slot0 st prev, List.mem_map.2 ⟨f, hmem, if_pos rfl⟩, rfl, rfl⟩
  · intro s i f en rows hs hf hen hrows hbusy hst
    exact done_eq (commitPair_of_busy hf hen hrows hbusy hst) (settled_event (settled_setStrm hs ..) ..)
  · intro s i hs hst
    exact done_eq (ringResume_of_not_stalled hst) hs

end Sys2Proof.Machine
end

section
/-! SUPPORT. Box lists (R181 to R183, R288) and the release of bands (R25, R35, R37). -/

namespace Sys2Proof.Machine

open Sys2Proof

/-! What a failure writes into its page. -/

/-- A failure's cause word is the one given. -/
theorem fail_reg_cause (s : State) (p b c a : Nat) : (s.fail p b c a).reg p 0x24 = BitVec.ofNat 32 c := by
  rw [State.fail, event_reg, if_neg (by simp [radr])]
  simp only [State.cause, setReg_reg, radr]
  simp

/-- An event's bit is set. -/
theorem event_reg_bit (s : State) (p b : Nat) (hb : b < 32) : bitAt ((s.event p b).reg p 0x10) b = true := by
  rw [event_reg, if_pos rfl, bitAt, BitVec.toNat_or, Nat.testBit_or, BitVec.toNat_ofNat, Nat.testBit_mod_two_pow]
  simp [hb]

/-! Box lists at the CRS. -/

/-- The LIST descriptor `d` stands at the head of queue `q`, and the CRS takes it: the queue is enabled, holds descriptors of host
software, has one ahead of its consumer, and neither its channel nor the CRS has stopped. -/
structure State.listAhead (s : State) (q : Nat) (d : Desc) : Prop where
  en : (s.queue q).ctx.en = true
  dir : (s.queue q).ctx.dir = 1
  ahead : seqAhead (s.queue q).ctx.avail (s.queue q).ctx.cons = true
  running : s.chanStopped q = false
  unfrozen : s.sec.frozen.contains 0x92 = false
  desc : (s.readDesc q (s.queue q).ctx.cons).2 = d
  kind : d.kind = 6

/-- Nothing is taken from a queue that is disabled, of another direction, empty or stopped. -/
theorem boxListArrive_of_idle {s : State} {q : Nat} (h : (s.queue q).ctx.en = false ∨ (s.queue q).ctx.dir ≠ 1 ∨
    seqAhead (s.queue q).ctx.avail (s.queue q).ctx.cons = false ∨ s.chanStopped q = true) : s.boxListArrive q = s := by
  unfold State.boxListArrive
  dsimp only
  rw [if_neg]
  rcases h with h | h | h | h <;> simp [h]

/-- A LIST descriptor with a reserved word set goes back with a format status. -/
theorem boxListArrive_of_reserved {s : State} {q : Nat} {d : Desc} (h : s.listAhead q d) (haux : d.aux0 ≠ 0 ∨ d.aux1 ≠ 0) :
    s.boxListArrive q = ((s.backDesc q 8 { d with length := 0 }).bump pgQm 0x20 16 16 1).qmFail 4 5 q := by
  obtain ⟨hen, hdir, hahead, hrun, hcrs, hdesc, hkind⟩ := h
  unfold State.boxListArrive
  simp only [hen, hdir, hahead, hrun, hcrs, hdesc]
  simp [hkind, haux]

/-- A list that is read goes back with its descriptor once it is judged. -/
theorem boxListArrive_of_read {s : State} {q : Nat} {d : Desc} {r : State × RangeRead} (h : s.listAhead q d) (h0 : d.aux0 = 0)
    (h1 : d.aux1 = 0) (hok : s.blockOk 0x92 d.addr (max d.length 1) = true)
    (hr : s.blockRead 0x92 (who 9 (((s.boxBinding q).map (·.1)).getD 0)) d.addr d.length = r) (hvalid : r.2.valid = true)
    (hpoison : r.2.poison = false) (herror : r.2.error = false) :
    s.boxListArrive q = (r.1.judgeList q r.2.data).backDesc q 0 { d with srcInvalid := false } := by
  obtain ⟨hen, hdir, hahead, hrun, hcrs, hdesc, hkind⟩ := h
  unfold State.boxListArrive
  simp only [hen, hdir, hahead, hrun, hcrs, hdesc, hr]
  simp [hkind, h0, h1, hok, hvalid, hpoison, herror]

section Judge

variable {s : State} {q i j : Nat} {b : List Byte} {l : BoxList} (hl : boxListOf (b.take (32 + 24 * 1024)) s.clk.ptp = l)
  (hbind : s.boxBinding q = some (i, j)) (hmax : leAt b 6 2 ≤ 1024) (hlen : 32 + 24 * leAt b 6 2 ≤ b.length)

include hl hbind

/-- A list for another stream or job than its queue's is refused. -/
theorem judgeList_refused (hother : l.stream ≠ i ∨ l.job ≠ j) :
    s.judgeList q b = (s.bump pgCrs 0x104 16 16 1).fail pgCrs 0 (1 + 256 * l.stream) 0 := by
  simp only [State.judgeList, hbind, hl]
  exact if_pos (.inr (.inr hother))

include hmax hlen

/-- A list of its queue's stream and job is stale when its frame has opened, and else it is kept. -/
theorem judgeList_bound (hstream : l.stream = i) (hjob : l.job = j) :
    s.judgeList q b = if l.frameSeq ≠ 0xFFFFFFFF ∧ seqAhead (s.strm i).nextSeq l.frameSeq = true then
        (s.bump pgCrs 0x104 0 16 1).fail pgCrs 1 (2 + 256 * i) 0
      else s.setStrm i { s.strm i with lists := (s.strm i).lists ++ [l] } := by
  simp only [State.judgeList, hbind, hl]
  exact if_neg (by omega)

end Judge

/-! The release of bands. -/

/-- What a port has counted so far is no part of a frame's number, outputs or bands. -/
theorem portView_keeps (s : State) (i : Nat) (f : Frame) :
    (s.portView i f).seq = f.seq ∧ (s.portView i f).outs = f.outs ∧ (s.portView i f).bands = f.bands := by
  unfold State.portView
  split
  · split <;> exact ⟨rfl, rfl, rfl⟩
  · exact ⟨rfl, rfl, rfl⟩

/-- The change of one band leaves their number. -/
@[simp] theorem setBand_length (f : Frame) (b : Nat) (g : Band → Band) : (f.setBand b g).bands.length = f.bands.length := by
  simp [Frame.setBand]

/-- A band marked as released is released. -/
theorem setBand_released (f : Frame) (b : Nat) (hb : b < f.bands.length) :
    (((f.setBand b fun x => { x with released := true }).bands.map (·.released)).getD b false) = true := by
  simp [Frame.setBand, hb]

/-- The frame once band `b` is released: the band's mark, and what its lines bring to the flags, counts and statistics (R35, R73). -/
def State.withReleased (s : State) (i : Nat) (f : Frame) (b : Nat) : Frame :=
  let x := f.bands.getD b ⟨none, 0, [], false, false, true, false⟩
  let v := s.portView i f
  { v with
    bands := (v.setBand b fun x => { x with released := true }).bands
    flags := v.flags ||| (if x.replayed && !x.dropped then 0x40 else 0)
    replayed := if x.replayed && !x.dropped then v.replayed + 1 else v.replayed
    luma := if x.dropped then v.luma else lumaRelease v.luma b
    lumaPix := if x.dropped then v.lumaPix else v.lumaPix + v.width * (v.bottom b - v.top b) }

theorem releaseBand_of_no_frame {s : State} {i : Nat} (h : (s.strm i).frames = []) : s.releaseBand i = s := by
  simp only [State.releaseBand, h]

theorem releaseBand_of_no_band {s : State} {i : Nat} {f : Frame} {l : List Frame} (h : (s.strm i).frames = f :: l)
    (hb : f.nextBand = none) : s.releaseBand i = s := by
  simp only [State.releaseBand, h, hb]

/-- The next band of the oldest frame is released: a descriptor for each output, and the last band closes the frame. -/
theorem releaseBand_of_next {s : State} {i b j : Nat} {f : Frame} {l : List Frame} (h : (s.strm i).frames = f :: l)
    (hb : f.nextBand = some b) (hj : (s.strm i).job = some j) :
    let g := s.withReleased i f b
    let u := forEach f.outs (fun o s => s.bandDesc i j g b o) (s.setFrame i { g with extra := f.extra, widthLines := f.widthLines
                                                                                     crcs := f.crcs, rows := f.rows })
    s.releaseBand i = if g.released = g.bandCount then
        (match u.frameOf i f.seq with
        | some x => u.closeFrame i x false false
        | none => u)
      else u := by
  obtain ⟨hseq, houts, -⟩ := portView_keeps s i f
  simp only [State.releaseBand, h, hb, hj, State.withReleased, hseq, houts] <;> rfl

/-- Settles O28: clause by clause, what the CRS does with a list and what a release does with the oldest frame. -/
theorem boxListsAndBands : Obligations.BoxListsAndBands := by
  unfold Obligations.BoxListsAndBands
  refine ⟨?_, ?_, ?_, ?_, ?_, ?_, ?_⟩
  · intro s q hs h
    exact done_eq (boxListArrive_of_idle h) hs
  · intro s q d hen hdir hahead hrun hcrs hdesc hkind haux
    exact ⟨_, congrArg done (boxListArrive_of_reserved ⟨hen, hdir, hahead, hrun, hcrs, hdesc, hkind⟩ haux),
      fail_reg_cause .., event_reg_bit _ _ _ (by decide)⟩
  · intro s q d r hen hdir hahead hrun hcrs hdesc hkind h0 h1 hok hr hvalid hpoison herror
    exact congrArg done (boxListArrive_of_read ⟨hen, hdir, hahead, hrun, hcrs, hdesc, hkind⟩ h0 h1 hok hr hvalid hpoison herror)
  · intro s q i j b hbind l hmax hlen
    refine ⟨fun hstream hjob hopen => ?_, fun hstream hjob hnum hstale => ?_, judgeList_refused rfl hbind⟩
    · rw [judgeList_bound rfl hbind hmax hlen hstream hjob, if_neg]
      rintro ⟨hnum, hstale⟩
      rcases hopen with h | h
      · exact hnum h
      · exact absurd (h.symm.trans hstale) Bool.false_ne_true
    · rw [judgeList_bound rfl hbind hmax hlen hstream hjob, if_pos ⟨hnum, hstale⟩]
  · intro s i hs h
    exact done_eq (releaseBand_of_no_frame h) hs
  · intro s i f l hs h hb
    exact done_eq (releaseBand_of_no_band h hb) hs
  · intro s i f l b j h hb hj hlt
    obtain ⟨hseq, houts, hbands⟩ := portView_keeps s i f
    refine ⟨s.withReleased i f b, setBand_released _ _ (by rwa [hbands]), hseq, houts, ?_,
      congrArg done (releaseBand_of_next h hb hj)⟩
    rw [State.withReleased, setBand_length, hbands]

end Sys2Proof.Machine
end

section
/-! SUPPORT. Register words after an operation (R400 to R402): which word an operation writes, and what it leaves beside it. -/

namespace Sys2Proof.Machine

open Sys2Proof

/-- Words at different offsets are different words, whatever their pages. -/
theorem radr_ne {p o p' o' : Nat} (h : o ≠ o' := by decide) (ho : o < 4096 := by decide) (ho' : o' < 4096 := by decide) :
    radr p o ≠ radr p' o' :=
  fun k => h ((radr_eq p o p' o' ho ho').1 k).2

/-- Words of different pages are different words. -/
theorem radr_ne_of_page {p o p' o' : Nat} (h : p ≠ p') (ho : o < 4096) (ho' : o' < 4096) : radr p o ≠ radr p' o' :=
  fun k => h ((radr_eq p o p' o' ho ho').1 k).1

/-- A camera port's page is not FLT's. -/
theorem pgCam_ne_pgFlt (p : Nat) : pgCam p ≠ pgFlt := by unfold pgCam pgFlt; omega

theorem setReg_reg_ne (s : State) (x : Word) {p o p' o' : Nat} (h : radr p' o' ≠ radr p o) :
    (s.setReg p o x).reg p' o' = s.reg p' o' := by rw [setReg_reg, if_neg h]

/-- A field set changes its word alone. -/
theorem setRfld_reg_ne (s : State) (lo n v : Nat) {p o p' o' : Nat} (h : radr p' o' ≠ radr p o) :
    (s.setRfld p o lo n v).reg p' o' = s.reg p' o' := setReg_reg_ne s _ h

/-- The word of a field set. -/
@[simp] theorem setRfld_reg_same (s : State) (p o lo n v : Nat) : (s.setRfld p o lo n v).reg p o = putFld (s.reg p o) lo n v :=
  setReg_reg_same ..

/-- A counter counted up changes its word alone. -/
theorem bump_reg_ne (s : State) (lo n v : Nat) {p o p' o' : Nat} (h : radr p' o' ≠ radr p o) :
    (s.bump p o lo n v).reg p' o' = s.reg p' o' := setRfld_reg_ne s _ _ _ h

/-- An event changes EVT_RAW of its page alone. -/
theorem event_reg_ne (s : State) (b : Nat) {p p' o' : Nat} (h : radr p' o' ≠ radr p 0x10) :
    (s.event p b).reg p' o' = s.reg p' o' := by rw [event_reg, if_neg h]

/-- An event clears no bit of EVT_RAW. -/
theorem event_reg_keeps (s : State) (p b k : Nat) (h : bitAt (s.reg p 0x10) k = true) :
    bitAt ((s.event p b).reg p 0x10) k = true := by
  rw [event_reg, if_pos rfl, bitAt, BitVec.toNat_or, Nat.testBit_or, Bool.or_eq_true]
  exact .inl h

/-- A record of the journal, which has no standing part, changes no register. -/
theorem log_reg (s : State) {k : Nat} (h : standingKind k = false) (c : Nat) (l : List Byte) (p o : Nat) :
    (s.log k c l).reg p o = s.reg p o := by
  simp only [State.log, h, Bool.false_eq_true, if_false]
  rfl

/-- A fault leaves the registers of every page but FLT's. -/
theorem fault_reg_ne (s : State) (c u j : Nat) {p o : Nat} (h : p ≠ pgFlt) (ho : o < 4096) :
    (s.fault c u j).reg p o = s.reg p o := by
  have hne : ∀ {o'}, o' < 4096 → radr p o ≠ radr pgFlt o' := fun ho' => radr_ne_of_page h ho ho'
  rw [State.fault, event_reg_ne _ _ (hne (by decide)), log_reg _ rfl, bump_reg_ne _ _ _ _ (hne (by decide)), State.cause,
    setReg_reg_ne _ _ (hne (by decide)), setReg_reg_ne _ _ (hne (by decide)), setReg_reg_ne _ _ (hne (by decide))]

/-- A fault's class, unit and job stand in FLT.ERR_CAUSE (R346). -/
theorem fault_reg_cause (s : State) (c u j : Nat) :
    (s.fault c u j).reg pgFlt 0x24 = BitVec.ofNat 32 (c + u % 256 * 256 + j % 8 * 65536) := by
  rw [State.fault, event_reg_ne _ _ radr_ne, log_reg _ rfl,
    bump_reg_ne _ _ _ _ radr_ne, State.cause, setReg_reg_ne _ _ radr_ne,
    setReg_reg_ne _ _ radr_ne, setReg_reg_same]

/-- A fault raises FLT's FAULT event. -/
theorem fault_reg_event (s : State) (c u j : Nat) : bitAt ((s.fault c u j).reg pgFlt 0x10) 0 = true :=
  event_reg_bit _ _ _ (by decide)

end Sys2Proof.Machine
end

section
/-! SUPPORT. What the end of a command looks at, and memory: most commands of a camera port leave both. -/

namespace Sys2Proof.Machine

open Sys2Proof

/-- A part of the state that every change of a fold keeps is kept by the fold. -/
theorem forEach_keeps {α β : Type} (v : State → β) (l : List α) (f : α → State → State) (h : ∀ x s, v (f x s) = v s) (s : State) :
    v (forEach l f s) = v s :=
  forEach_rel (fun s t => v t = v s) (fun _ => rfl) (fun h k => k.trans h) l f h s

/-- Memory, with what the fault manager and REPLACE_N look at when a command ends (R346, R353). -/
def State.vitals (s : State) :
    List Host.Cell × Sparse Engine × Sparse Tile × List Nat × Sparse Gusset × Sparse Lane × List Due × Bool :=
  (s.mem, s.engines, s.tiles, s.dram.retired, s.cal.gusset, s.cal.lanes, s.flt.due, s.flt.replaced)

/-- A state whose vitals are those of a settled one is settled. -/
theorem settled_of_vitals {s t : State} (hs : s.settled) (h : t.vitals = s.vitals) : t.settled := by
  simp only [State.vitals, Prod.mk.injEq] at h
  obtain ⟨-, heng, htile, hret, hgus, hlane, hdue, hrep⟩ := h
  exact settled_congr hs heng htile hret hgus hlane hdue hrep

/-- A command that leaves the vitals of a settled state answers what its operation gives. -/
theorem done_of_vitals {s t : State} (hs : s.settled) (h : t.vitals = s.vitals) : done t = .next t :=
  done_of_settled (settled_of_vitals hs h)

/-- An operation whose result is known and leaves the vitals of a settled state. -/
theorem done_eq_of_vitals {s t u : State} (hs : s.settled) (e : u = t) (h : t.vitals = s.vitals) : done u = .next t :=
  by rw [e, done_of_vitals hs h]

/-- States with the same vitals have the same memory. -/
theorem sameMemory_of_vitals {s t : State} (h : t.vitals = s.vitals) : s.sameMemory t := by
  have hmem : t.mem = s.mem := congrArg Prod.fst h
  intro a
  rw [State.byte, State.byte, hmem]

/-! Each operation leaves the vitals. `(rfl)` stands in parentheses so that simp rewrites with the lemma and the kernel need not compare
the states that it speaks of. -/

@[simp] theorem setReg_vitals (s : State) (p o : Nat) (x : Word) : (s.setReg p o x).vitals = s.vitals := (rfl)
@[simp] theorem setRfld_vitals (s : State) (p o lo n v : Nat) : (s.setRfld p o lo n v).vitals = s.vitals := (rfl)
@[simp] theorem bump_vitals (s : State) (p o lo n v : Nat) : (s.bump p o lo n v).vitals = s.vitals := (rfl)
@[simp] theorem setSlot_vitals (s : State) (i : Nat) (v : Slot) : (s.setSlot i v).vitals = s.vitals := (rfl)
@[simp] theorem setPort_vitals (s : State) (p : Nat) (v : CamPort) : (s.setPort p v).vitals = s.vitals := (rfl)
@[simp] theorem emit_vitals (s : State) (x : Wire) : (s.emit x).vitals = s.vitals := (rfl)
@[simp] theorem event_vitals (s : State) (p b : Nat) : (s.event p b).vitals = s.vitals := by simp [State.vitals]
@[simp] theorem fail_vitals (s : State) (p b c a : Nat) : (s.fail p b c a).vitals = s.vitals := by simp [State.vitals]
@[simp] theorem fault_vitals (s : State) (c u j : Nat) : (s.fault c u j).vitals = s.vitals := by simp [State.vitals]

end Sys2Proof.Machine
end

section
/-! SUPPORT. Control transactions of a camera port (R57): what their end writes, and the commands that begin and end them. -/

namespace Sys2Proof.Machine

open Sys2Proof

/-! The end of a transaction. -/

@[simp] theorem cciEnd_vitals (s : State) (p b : Nat) : (s.cciEnd p b).vitals = s.vitals := by
  rw [State.cciEnd, event_vitals, setReg_vitals, setPort_vitals]

@[simp] theorem cciEnd_out (s : State) (p b : Nat) : (s.cciEnd p b).out = s.out := by
  rw [State.cciEnd, event_out, setReg_out, setPort_out]

/-- No transaction runs once one has ended. -/
theorem cciEnd_idle (s : State) (p b : Nat) : ((s.cciEnd p b).port p).cciBusy = false := by
  simp [State.cciEnd]

/-- An end writes CCI_STATUS and EVT_RAW alone. -/
theorem cciEnd_reg_ne (s : State) (p b : Nat) {p' o' : Nat} (hst : radr p' o' ≠ radr (pgCam p) 0x208)
    (hev : radr p' o' ≠ radr (pgCam p) 0x10) : (s.cciEnd p b).reg p' o' = s.reg p' o' := by
  rw [State.cciEnd, event_reg_ne _ _ hev, setReg_reg_ne _ _ hst, setPort_reg]

/-- The status bits of an end are set, DONE with them. -/
theorem cciEnd_status (s : State) (p b k : Nat) (hk : k < 32) (h : (b + 2).testBit k = true) :
    bitAt ((s.cciEnd p b).reg (pgCam p) 0x208) k = true := by
  rw [State.cciEnd, event_reg_ne _ _ radr_ne, setReg_reg_same, bitAt, BitVec.toNat_or,
    Nat.testBit_or, BitVec.toNat_ofNat, Nat.testBit_mod_two_pow, h]
  simp [hk]

/-- An end raises CCI_DONE. -/
theorem cciEnd_event (s : State) (p b : Nat) : bitAt ((s.cciEnd p b).reg (pgCam p) 0x10) 9 = true :=
  event_reg_bit _ _ _ (by decide)

/-- An end clears no event. -/
theorem cciEnd_event_keeps (s : State) (p b k : Nat) (h : bitAt (s.reg (pgCam p) 0x10) k = true) :
    bitAt ((s.cciEnd p b).reg (pgCam p) 0x10) k = true :=
  event_reg_keeps _ _ _ _ (by rwa [setReg_reg_ne _ _ radr_ne, setPort_reg])

/-! The commands. -/

/-- The bytes that a GO sends: WLEN of them, at most 16, from CCI_DATA. -/
def State.cciSent (s : State) (p : Nat) (w : Word) : List Byte :=
  (List.range (min (fld w 8 5) 16)).map fun k => BitVec.ofNat 8 (s.rfld (pgCam p) (0x210 + 4 * (k / 4)) (8 * (k % 4)) 8)

section Write

variable {s : State} {p : Nat} {w : Word}

/-- A write without GO keeps its fields. -/
theorem cciWrite_of_no_go (h : bitAt w 31 = false) : s.cciWrite p w = s.setReg (pgCam p) 0x200 (w &&& 0x601F1FFF) := by
  simp only [State.cciWrite, h, Bool.not_false, if_true]

variable (hgo : bitAt w 31 = true)

include hgo

/-- GO while a transaction runs sets its status bit alone. -/
theorem cciWrite_of_busy (hbusy : (s.port p).cciBusy = true) :
    s.cciWrite p w = (s.setReg (pgCam p) 0x200 (w &&& 0x601F1FFF)).setRfld (pgCam p) 0x208 5 1 1 := by
  simp only [State.cciWrite, hgo, hbusy, Bool.not_true, Bool.false_eq_true, if_false, if_true]

variable (hidle : (s.port p).cciBusy = false)

include hidle

/-- GO over an A-PHY link that is down ends at once with LINK. -/
theorem cciWrite_of_link_down (hp : p < 8) (hlink : bitAt (s.reg (pgCam p) 0xC) 0 = false) :
    s.cciWrite p w = ((s.setReg (pgCam p) 0x200 (w &&& 0x601F1FFF)).setRfld (pgCam p) 0x208 8 5 0).cciEnd p 16 := by
  simp [State.cciWrite, hgo, hidle, hp, hlink]

/-- GO where no link is down starts a transaction on the wires. -/
theorem cciWrite_of_start (hlink : p < 8 → bitAt (s.reg (pgCam p) 0xC) 0 = true) :
    s.cciWrite p w = (((s.setReg (pgCam p) 0x200 (w &&& 0x601F1FFF)).setRfld (pgCam p) 0x208 8 5 0).setPort p
      { s.port p with cciBusy := true, cciRead := min (fld w 16 5) 16 }).emit
        (.cci p w.toNat (s.rfld (pgCam p) 0x204 0 7) (s.cciSent p w)) := by
  have hup : ¬ (p < 8 ∧ bitAt (s.reg (pgCam p) 0xC) 0 = false) := fun ⟨hp, h⟩ => by simp [hlink hp] at h
  simp [State.cciWrite, hgo, hidle, hup, State.cciSent]

end Write

/-- The bytes that a target answers go to CCI_DATA. -/
@[simp] theorem cciData_vitals (s : State) (p : Nat) (d : List Byte) : (s.cciData p d).vitals = s.vitals :=
  forEach_keeps State.vitals _ _ (fun _ _ => setRfld_vitals ..) s

/-- The answer of the target ends a transaction that runs. -/
theorem cciDone_of_busy {s : State} {p : Nat} (h : (s.port p).cciBusy = true) (nack : Bool) (data : List Byte) :
    ∃ u : State, u.vitals = s.vitals ∧ s.cciDone p nack data = u.cciEnd p (if nack then 4 else 0) := by
  simp only [State.cciDone, h, if_true]
  exact ⟨_, by rw [setRfld_vitals, cciData_vitals], rfl⟩

theorem cciDone_of_idle {s : State} {p : Nat} (h : (s.port p).cciBusy = false) (nack : Bool) (data : List Byte) :
    s.cciDone p nack data = s := by simp [State.cciDone, h]

theorem cciTimeout_of_busy {s : State} {p : Nat} (h : (s.port p).cciBusy = true) : s.cciTimeout p = s.cciEnd p 8 := if_pos h

theorem cciTimeout_of_idle {s : State} {p : Nat} (h : (s.port p).cciBusy = false) : s.cciTimeout p = s := by
  simp [State.cciTimeout, h]

/-- Settles O13: a write keeps its fields or starts or ends a transaction, and each end is `State.cciEnd` with its status bits. -/
theorem cameraControl : Obligations.CameraControl := by
  unfold Obligations.CameraControl
  refine ⟨?_, ?_, ?_, ?_, ?_, ?_⟩
  · intro s p w hs
    exact ⟨fun hgo => done_eq_of_vitals hs (cciWrite_of_no_go hgo) (by simp),
      fun hgo hbusy => done_eq_of_vitals hs (cciWrite_of_busy hgo hbusy) (by simp)⟩
  · intro s p w hs hgo hidle hp hlink
    have hv : ((((s.setReg (pgCam p) 0x200 (w &&& 0x601F1FFF)).setRfld (pgCam p) 0x208 8 5 0).cciEnd p 16)).vitals = s.vitals := by simp
    refine ⟨_, done_eq_of_vitals hs (cciWrite_of_link_down hgo hidle hp hlink) hv, ?_, cciEnd_idle ..,
      cciEnd_status _ _ _ _ (by decide) (by decide), cciEnd_status _ _ _ _ (by decide) (by decide), cciEnd_event ..,
      sameMemory_of_vitals hv⟩
    rw [cciEnd_out, setRfld_out, setReg_out]
  · intro s p w hs hgo hidle hlink
    refine ⟨_, s.cciSent p w, done_eq_of_vitals hs (cciWrite_of_start hgo hidle hlink) (by simp), by simp [State.emit],
      by simp [State.cciSent], by simp, ?_, sameMemory_of_vitals (by simp)⟩
    rw [emit_reg, setPort_reg, setRfld_reg_ne _ _ _ _ radr_ne, setReg_reg_same]
  · intro s p nack data hs hidle
    exact ⟨done_eq (cciDone_of_idle hidle nack data) hs, done_eq (cciTimeout_of_idle hidle) hs⟩
  · intro s p nack data hs hbusy
    obtain ⟨u, hu, hdone⟩ := cciDone_of_busy hbusy nack data
    have hv := (cciEnd_vitals u p (if nack then 4 else 0)).trans hu
    refine ⟨_, done_eq_of_vitals hs hdone hv, cciEnd_idle .., cciEnd_status _ _ _ _ (by decide) ?_, fun hn => ?_, cciEnd_event ..,
      sameMemory_of_vitals hv⟩
    · cases nack <;> decide
    · subst hn
      exact cciEnd_status _ _ _ _ (by decide) (by decide)
  · intro s p hs hbusy
    have hv := cciEnd_vitals s p 8
    exact ⟨_, done_eq_of_vitals hs (cciTimeout_of_busy hbusy) hv, cciEnd_idle .., cciEnd_status _ _ _ _ (by decide) (by decide),
      cciEnd_status _ _ _ _ (by decide) (by decide), cciEnd_event .., sameMemory_of_vitals hv⟩

end Sys2Proof.Machine
end

section
/-! SUPPORT. A camera port that comes up or goes down (R41, R54, R55): its line store, its lanes and its slots. -/

namespace Sys2Proof.Machine

open Sys2Proof

/-! What the slots and the lanes of a port leave. -/

/-- Registers, control transactions and vitals are the same in both states. -/
structure State.portApart (s t : State) : Prop where
  regs : t.regs = s.regs
  cam : t.cam = s.cam
  vitals : t.vitals = s.vitals

theorem portApart_refl (s : State) : s.portApart s := ⟨rfl, rfl, rfl⟩

theorem portApart_trans {s t u : State} (h : s.portApart t) (k : t.portApart u) : s.portApart u :=
  ⟨k.regs.trans h.regs, k.cam.trans h.cam, k.vitals.trans h.vitals⟩

theorem setSlot_portApart (s : State) (i : Nat) (v : Slot) : s.portApart (s.setSlot i v) := ⟨rfl, rfl, rfl⟩

theorem setCamLane_portApart (s : State) (p l : Nat) (v : CamLane) : s.portApart (s.setCamLane p l v) := ⟨rfl, rfl, rfl⟩

theorem forEach_portApart {α : Type} (l : List α) (f : α → State → State) (hf : ∀ (x : α) (s : State), s.portApart (f x s))
    (s : State) : s.portApart (forEach l f s) := forEach_rel State.portApart portApart_refl portApart_trans l f hf s

theorem reg_of_portApart {s t : State} (h : s.portApart t) (p o : Nat) : t.reg p o = s.reg p o := by
  rw [State.reg, State.reg, h.regs]

/-- Swatches dropped change lanes alone. -/
theorem dropSwatch_portApart (s : State) (p : Nat) : s.portApart (s.dropSwatch p) :=
  forEach_portApart _ _ (fun l s => by
    split
    · exact portApart_refl s
    · exact setCamLane_portApart ..) s

/-- The start of a port's lanes changes lanes alone. -/
theorem camLanesStart_portApart (s : State) (p : Nat) : s.portApart (s.camLanesStart p) := by
  unfold State.camLanesStart
  split
  · exact portApart_refl s
  · refine forEach_portApart _ _ (fun l s => ?_) s
    dsimp only
    split <;> exact setCamLane_portApart ..

@[simp] theorem camLanesStart_slots (s : State) (p : Nat) : (s.camLanesStart p).slots = s.slots := by
  unfold State.camLanesStart
  split
  · rfl
  · refine forEach_keeps State.slots _ _ (fun l s => ?_) s
    dsimp only
    split <;> rfl

/-! The line store divided. -/

/-- Slots replaced one after another hold what each replacement gives, whatever else is replaced after it. -/
theorem forEach_setSlot {α : Type} (P : Slot → Prop) (k : α → Nat) (g : α → State → Slot) (hg : ∀ x s, P (g x s)) {l : List α} {x : α}
    (hx : x ∈ l) (s : State) : P ((forEach l (fun x s => s.setSlot (k x) (g x s)) s).slot (k x)) := by
  suffices h : ∀ s : State, (P (s.slot (k x)) ∨ x ∈ l) → P ((forEach l (fun x s => s.setSlot (k x) (g x s)) s).slot (k x)) from
    h s (.inr hx)
  clear hx
  induction l with
  | nil => exact fun s h => h.resolve_right List.not_mem_nil
  | cons y l ih =>
    intro s h
    rw [forEach_cons]
    refine ih _ ?_
    rw [setSlot_slot]
    by_cases hk : k x = k y
    · rw [if_pos hk]
      exact .inl (hg y s)
    · rw [if_neg hk]
      exact h.imp_right fun hm => (List.mem_cons.1 hm).resolve_left fun e => hk (congrArg k e)

/-- The slots of a port while its line store is divided; PORT_STATUS then shows the depth. -/
theorem divide_eq (s : State) (p : Nat) : ∃ (u : State) (v : Nat), s.portApart u ∧ s.divide p = u.setRfld (pgCam p) 0xC 4 8 v ∧
    ∀ n < 4, (u.slot (4 * p + n)).store = [] ∧ (u.slot (4 * p + n)).idle = .discard :=
  ⟨_, _, forEach_portApart _ _ (fun _ _ => setSlot_portApart ..) s, by rw [State.divide], fun _ hn =>
    forEach_setSlot (fun x => x.store = [] ∧ x.idle = .discard) (fun n => 4 * p + n) _ (fun _ _ => ⟨rfl, rfl⟩) (List.mem_range.2 hn) s⟩

/-! PORT_EN = 1. -/

theorem portEnable_of_enabled {s : State} {p : Nat} (h : bitAt (s.reg (pgCam p) 8) 0 = true) :
    s.portEnable p = s.setRfld (pgCam p) 0xC 16 1 0 := by simp [State.portEnable, h]

theorem portEnable_of_refused {s : State} {p : Nat} (h : bitAt (s.reg (pgCam p) 8) 0 = false)
    (hphy : phyOk p (s.reg (pgCam p) 0x100) = false) : s.portEnable p = s.setRfld (pgCam p) 0xC 16 1 1 := by
  simp [State.portEnable, h, hphy]

/-- A port that takes effect: PORT_EN set and CFG_ERR cleared, the line store divided, and the lanes started. -/
theorem portEnable_of_accepted {s : State} {p : Nat} (h : bitAt (s.reg (pgCam p) 8) 0 = false)
    (hphy : phyOk p (s.reg (pgCam p) 0x100) = true) :
    s.portEnable p = (((s.setRfld (pgCam p) 8 0 1 1).setRfld (pgCam p) 0xC 16 1 0).divide p).camLanesStart p := by
  simp [State.portEnable, h, hphy]

/-! A port without open frames that goes down. -/

/-- A slot without an open frame only takes the rule for packets outside frames. -/
theorem endFrame_of_closed {s : State} {i : Nat} (h : (s.slot i).rx = none) (rule : IdleRule) :
    s.endFrame i rule = s.setSlot i { s.slot i with idle := rule } := by
  simp only [State.endFrame, h]

/-- Slots without an open frame that are closed change alone. -/
theorem forEach_endFrame_of_closed (l : List Nat) (rule : IdleRule) {s : State} (h : ∀ i ∈ l, (s.slot i).rx = none) :
    s.portApart (forEach l (fun i s => s.endFrame i rule) s) := by
  induction l generalizing s with
  | nil => exact portApart_refl s
  | cons i l ih =>
    rw [forEach_cons, endFrame_of_closed (h i List.mem_cons_self)]
    refine portApart_trans (setSlot_portApart ..) (ih fun j hj => ?_)
    rw [setSlot_slot]
    split
    · exact h i List.mem_cons_self
    · exact h j (List.mem_cons_of_mem i hj)

/-- A port none of whose frames is open, closed with its swatches dropped: slots and lanes alone change. -/
theorem closePort_of_closed {s : State} {p : Nat} (h : ∀ n < 4, (s.slot (4 * p + n)).rx = none) :
    s.portApart ((s.closeSlots p).dropSwatch p) := by
  refine portApart_trans (forEach_endFrame_of_closed _ _ fun i hi => ?_) (dropSwatch_portApart ..)
  obtain ⟨n, hn, rfl⟩ := List.mem_map.1 hi
  rw [Nat.add_comm]
  exact h n (List.mem_range.1 hn)

/-! The transaction of a link that is down. -/

@[simp] theorem cciLink_vitals (s : State) (p : Nat) : (s.cciLink p).vitals = s.vitals := by
  unfold State.cciLink
  split
  · exact cciEnd_vitals ..
  · rfl

/-- No transaction runs over an A-PHY link that is down. -/
theorem cciLink_idle (s : State) {p : Nat} (hp : p < 8) : ((s.cciLink p).port p).cciBusy = false := by
  by_cases h : (s.port p).cciBusy = true
  · simp only [State.cciLink, hp, h, decide_true, Bool.and_self, if_true]
    exact cciEnd_idle ..
  · simp [State.cciLink, h]

/-- A link that is down writes CCI_STATUS and EVT_RAW at most. -/
theorem cciLink_reg_ne (s : State) (p : Nat) {p' o' : Nat} (hst : radr p' o' ≠ radr (pgCam p) 0x208)
    (hev : radr p' o' ≠ radr (pgCam p) 0x10) : (s.cciLink p).reg p' o' = s.reg p' o' := by
  unfold State.cciLink
  split
  · exact cciEnd_reg_ne s p _ hst hev
  · rfl

/-- A link that is down clears no event. -/
theorem cciLink_event_keeps (s : State) (p k : Nat) (h : bitAt (s.reg (pgCam p) 0x10) k = true) :
    bitAt ((s.cciLink p).reg (pgCam p) 0x10) k = true := by
  unfold State.cciLink
  split
  · exact cciEnd_event_keeps s p _ k h
  · exact h

/-- The words of a port that is off: PORT_EN 0, its link down and without a gear. -/
def State.portDisabled (s : State) (p : Nat) : State :=
  ((s.setRfld (pgCam p) 8 0 1 0).setRfld (pgCam p) 0xC 0 1 0).setRfld (pgCam p) 0xC 1 3 0

@[simp] theorem portDisabled_vitals (s : State) (p : Nat) : (s.portDisabled p).vitals = s.vitals := by
  rw [State.portDisabled, setRfld_vitals, setRfld_vitals, setRfld_vitals]

/-- PORT_EN of a port that is off. -/
theorem portDisabled_enable (s : State) (p : Nat) : bitAt ((s.portDisabled p).reg (pgCam p) 8) 0 = false := by
  rw [State.portDisabled, setRfld_reg_ne _ _ _ _ radr_ne, setRfld_reg_ne _ _ _ _ radr_ne, setRfld_reg_same,
    bitAt_putFld _ _ _ _ _ (by decide)]
  simp

/-- PORT_STATUS of a port that is off. -/
theorem portDisabled_status (s : State) (p : Nat) :
    (s.portDisabled p).reg (pgCam p) 0xC = putFld (putFld (s.reg (pgCam p) 0xC) 0 1 0) 1 3 0 := by
  rw [State.portDisabled, setRfld_reg_same, setRfld_reg_same, setRfld_reg_ne _ _ _ _ radr_ne]

/-- A status word without link and gear. -/
theorem linkDown_status (w : Word) :
    bitAt (putFld (putFld w 0 1 0) 1 3 0) 0 = false ∧ fld (putFld (putFld w 0 1 0) 1 3 0) 1 3 = 0 := by
  rw [bitAt_putFld _ _ _ _ _ (by decide), bitAt_putFld _ _ _ _ _ (by decide), fld_putFld_same _ _ _ _ (by decide)]
  simp

/-- PORT_EN = 0 on an enabled port. -/
theorem portDisable_of_enabled {s : State} {p : Nat} (hen : bitAt (s.reg (pgCam p) 8) 0 = true) :
    s.portDisable p = (((s.closeSlots p).dropSwatch p).portDisabled p).cciLink p := by
  simp only [State.portDisable, hen, if_true, State.portDisabled]

/-- The words of a port whose link has gone down, with the fault of class 0x14. -/
def State.linkGone (s : State) (p : Nat) : State :=
  ((((s.setRfld (pgCam p) 0xC 0 1 0).setRfld (pgCam p) 0xC 1 3 0).bump (pgCam p) 0x10C 16 16 1).event (pgCam p) 0).fault 0x14 p
    (s.portJob p)

@[simp] theorem linkGone_vitals (s : State) (p : Nat) : (s.linkGone p).vitals = s.vitals := by simp [State.linkGone]

@[simp] theorem linkGone_slot (s : State) (p i : Nat) : (s.linkGone p).slot i = s.slot i := by simp [State.linkGone]

/-- PORT_STATUS of a link that has gone down. -/
theorem linkGone_status (s : State) (p : Nat) :
    (s.linkGone p).reg (pgCam p) 0xC = putFld (putFld (s.reg (pgCam p) 0xC) 0 1 0) 1 3 0 := by
  rw [State.linkGone, fault_reg_ne _ _ _ _ (pgCam_ne_pgFlt p) (by decide), event_reg_ne _ _ radr_ne, bump_reg_ne _ _ _ _ radr_ne,
    setRfld_reg_same, setRfld_reg_same]

/-- A link that has gone down raises LINK_DOWN. -/
theorem linkGone_event (s : State) (p : Nat) : bitAt ((s.linkGone p).reg (pgCam p) 0x10) 0 = true := by
  rw [State.linkGone, fault_reg_ne _ _ _ _ (pgCam_ne_pgFlt p) (by decide)]
  exact event_reg_bit _ _ _ (by decide)

/-- The fault of a link that has gone down names the port and its job. -/
theorem linkGone_cause (s : State) (p : Fin 16) :
    (s.linkGone p).reg pgFlt 0x24 = BitVec.ofNat 32 (0x14 + 256 * p.val + 65536 * (s.portJob p % 8)) := by
  have := p.isLt
  rw [State.linkGone, fault_reg_cause]
  exact congrArg _ (by omega)

/-- A link lost by a port that receives. -/
theorem linkDown_of_receives {s : State} {p : Nat} (hrec : s.receives p = true) :
    s.linkDown p = (((s.linkGone p).closeSlots p).dropSwatch p).cciLink p := by
  simp only [State.linkDown, hrec, if_true, State.linkGone]

/-- Settles O9: PORT_EN writes, the link and the gear, one lemma each; what goes down does so by `closePort_of_closed` and `cciLink`. -/
theorem cameraPortControl : Obligations.CameraPortControl := by
  unfold Obligations.CameraPortControl
  refine ⟨?_, ?_, ?_, ?_, ?_, ?_, ?_⟩
  · intro s p hs hen hphy
    obtain ⟨u, v, hu, hdiv, hslot⟩ := divide_eq ((s.setRfld (pgCam p) 8 0 1 1).setRfld (pgCam p) 0xC 16 1 0) p
    have ht := camLanesStart_portApart (u.setRfld (pgCam p) 0xC 4 8 v) p
    have hv : ((u.setRfld (pgCam p) 0xC 4 8 v).camLanesStart p).vitals = s.vitals := by
      rw [ht.vitals, setRfld_vitals, hu.vitals, setRfld_vitals, setRfld_vitals]
    refine ⟨_, done_eq_of_vitals hs ((portEnable_of_accepted hen hphy).trans (by rw [hdiv])) hv, ?_, ?_, fun n hn => ?_,
      sameMemory_of_vitals hv⟩
    · rw [reg_of_portApart ht, setRfld_reg_ne _ _ _ _ radr_ne, reg_of_portApart hu, setRfld_reg_ne _ _ _ _ radr_ne,
        setRfld_reg_same, bitAt_putFld _ _ _ _ _ (by decide)]
      simp
    · rw [reg_of_portApart ht, setRfld_reg_same, reg_of_portApart hu, setRfld_reg_same, bitAt_putFld _ _ _ _ _ (by decide),
        bitAt_putFld _ _ _ _ _ (by decide)]
      simp
    · rw [State.slot, camLanesStart_slots, setRfld_slots]
      exact hslot n hn
  · intro s p hs hen hphy
    exact done_eq_of_vitals hs (portEnable_of_refused hen hphy) (by simp)
  · intro s p hs hen
    exact done_eq_of_vitals hs (portEnable_of_enabled hen) (by simp)
  · intro s p g hs
    refine done_eq_of_vitals hs ?_ (by split <;> simp)
    simp only [State.linkUp, Bool.and_eq_true, Bool.not_eq_true', and_assoc]
  · intro s p g hs
    refine done_eq_of_vitals hs ?_ (by split <;> simp)
    simp only [State.gearChange, Bool.and_eq_true, decide_eq_true_eq]
  · intro s p hs hen hrx
    have hu := closePort_of_closed hrx
    set u := (s.closeSlots p).dropSwatch p
    have hv : ((u.portDisabled p).cciLink p).vitals = s.vitals := by rw [cciLink_vitals, portDisabled_vitals, hu.vitals]
    refine ⟨_, done_eq_of_vitals hs (portDisable_of_enabled hen) hv, ?_, ?_, ?_, fun hp => cciLink_idle _ hp, sameMemory_of_vitals hv⟩
    · rw [cciLink_reg_ne _ _ radr_ne radr_ne, portDisabled_enable]
    · rw [cciLink_reg_ne _ _ radr_ne radr_ne, portDisabled_status, (linkDown_status _).1]
    · rw [State.rfld, cciLink_reg_ne _ _ radr_ne radr_ne, portDisabled_status, (linkDown_status _).2]
  · intro s p hs hrec hrx
    have hu : (s.linkGone p).portApart (((s.linkGone p).closeSlots p).dropSwatch p) :=
      closePort_of_closed fun n hn => by rw [linkGone_slot, hrx n hn]
    set u := ((s.linkGone p).closeSlots p).dropSwatch p
    have hv : (u.cciLink p).vitals = s.vitals := by rw [cciLink_vitals, hu.vitals, linkGone_vitals]
    have hst : (u.cciLink p).reg (pgCam p) 0xC = putFld (putFld (s.reg (pgCam p) 0xC) 0 1 0) 1 3 0 := by
      rw [cciLink_reg_ne _ _ radr_ne radr_ne, reg_of_portApart hu, linkGone_status]
    refine ⟨_, done_eq_of_vitals hs (linkDown_of_receives hrec) hv, ?_, ?_, ?_, ?_, fun hp => cciLink_idle _ hp,
      sameMemory_of_vitals hv⟩
    · rw [hst, (linkDown_status _).1]
    · rw [State.rfld, hst, (linkDown_status _).2]
    · refine cciLink_event_keeps _ _ _ ?_
      rw [reg_of_portApart hu, linkGone_event]
    · rw [cciLink_reg_ne _ _ radr_ne radr_ne, reg_of_portApart hu, linkGone_cause]

end Sys2Proof.Machine
end

section
/-! SUPPORT. Stream slots (R42, R50, R51, R53, R56): the close of a frame that no pipeline takes, the writes of STREAMn_CFG, and the
time limits. -/

namespace Sys2Proof.Machine

open Sys2Proof

/-! The registers of a slot. -/

/-- The port of a slot. -/
theorem slot_port (p : Fin 16) (n : Fin 4) : (4 * p.val + n.val) / 4 = p := by omega

/-- A slot's counters lie between the other words of its port's page. -/
theorem slotReg_bounds (i : Nat) : 0x120 ≤ (slotReg i).2 ∧ (slotReg i).2 < 0x200 := by
  simp only [slotReg]
  omega

/-- A counter of a slot leaves the words before the slots'. -/
theorem bump_reg_low (s : State) (lo n v : Nat) {p o p' o' : Nat} (h : 0x120 ≤ o') (h' : o' < 4096) (ho : o < 0x120) :
    (s.bump p' o' lo n v).reg p o = s.reg p o := bump_reg_ne s _ _ _ (radr_ne (by omega) (by omega) h')

/-- The offset of STREAMn_CFG in its port's page. -/
def cfgOff (i : Nat) : Nat := 0x120 + 0x20 * (i % 4)

theorem cfgOff_bounds (i : Nat) : 0x120 ≤ cfgOff i ∧ cfgOff i < 0x200 := by unfold cfgOff; omega

/-- STREAMn_CFG lies in its port's page. -/
theorem camA_eq (i : Nat) : camA i = radr (pgCam (i / 4)) (cfgOff i) := Nat.add_assoc ..

theorem slotEn_eq (s : State) (i : Nat) : s.slotEn i = bitAt (s.reg (pgCam (i / 4)) (cfgOff i)) 0 := by
  rw [State.slotEn, camA_eq, State.reg]

/-- EN of a slot written, as a write of STREAMn_CFG does. -/
def State.putEn (s : State) (i : Nat) (b : Bool) : State :=
  { s with regs := sset resetWord s.regs (camA i) (putFld (sget resetWord s.regs (camA i)) 0 1 (b2n b)) }

@[simp] theorem putEn_vitals (s : State) (i : Nat) (b : Bool) : (s.putEn i b).vitals = s.vitals := (rfl)
@[simp] theorem putEn_slot (s : State) (i : Nat) (b : Bool) (j : Nat) : (s.putEn i b).slot j = s.slot j := (rfl)

/-- EN reads as written. -/
theorem putEn_slotEn (s : State) (i : Nat) (b : Bool) : (s.putEn i b).slotEn i = b := by
  simp only [State.slotEn, State.putEn, sget_sset_same]
  rw [bitAt_putFld _ _ _ _ _ (by decide)]
  cases b <;> simp [b2n]

/-- A field of PORT_STATUS set leaves EN of the slots. -/
theorem setStatus_slotEn (s : State) (p lo n v i : Nat) : (s.setRfld (pgCam p) 0xC lo n v).slotEn i = s.slotEn i := by
  have := cfgOff_bounds i
  rw [slotEn_eq, slotEn_eq, setRfld_reg_ne _ _ _ _ (radr_ne (by omega) (by omega) (by decide))]

theorem slotEn_of_portApart {s t : State} (h : s.portApart t) (i : Nat) : t.slotEn i = s.slotEn i := by
  rw [State.slotEn, State.slotEn, h.regs]

theorem portApart_ite {s t u : State} {c : Prop} [Decidable c] (ht : s.portApart t) (hu : s.portApart u) :
    s.portApart (if c then t else u) := by split <;> assumption

/-! Staging. -/

/-- A masked write leaves a bit that it writes as it was. -/
theorem bitAt_masked {x w : Word} (m : Word) {k : Nat} (hk : k < 32) (h : bitAt w k = bitAt x k) :
    bitAt ((x &&& ~~~ m) ||| (w &&& m)) k = bitAt x k := by
  simp only [bitAt, BitVec.testBit_toNat] at *
  simp only [BitVec.getLsbD_or, BitVec.getLsbD_and, BitVec.getLsbD_not, h, hk, decide_true, Bool.true_and]
  cases x.getLsbD k <;> cases m.getLsbD k <;> rfl

/-- A failure writes the words of its page below 0x30 alone. -/
theorem fail_reg_ne (s : State) (q b c a : Nat) {p o : Nat} (h : 0x30 ≤ o) (ho : o < 4096) : (s.fail q b c a).reg p o = s.reg p o := by
  rw [State.fail, event_reg_ne _ _ (radr_ne (by omega) ho (by decide)), State.cause,
    setReg_reg_ne _ _ (radr_ne (by omega) ho (by decide)), setReg_reg_ne _ _ (radr_ne (by omega) ho (by decide)),
    setReg_reg_ne _ _ (radr_ne (by omega) ho (by decide))]

@[simp] theorem stage_vitals (s : State) (i a : Nat) (w : Word) : (s.stage i a w).vitals = s.vitals := by
  unfold State.stage
  split
  · exact fail_vitals ..
  · rfl

@[simp] theorem stage_slots (s : State) (i a : Nat) (w : Word) : (s.stage i a w).slots = s.slots := by
  unfold State.stage
  split
  · exact fail_slots ..
  · rfl

/-- Staging a value of STREAMn_CFG that repeats EN leaves EN. -/
theorem stage_slotEn (s : State) (i : Nat) (w : Word) :
    (s.stage i (camA i) (putFld w 0 1 (b2n (s.slotEn i)))).slotEn i = s.slotEn i := by
  have hb := cfgOff_bounds i
  unfold State.stage
  split
  · rw [slotEn_eq, slotEn_eq, fail_reg_ne _ _ _ _ _ (by omega) (by omega)]
  · simp only [State.slotEn, sget_sset_same]
    refine bitAt_masked _ (by decide) ?_
    rw [bitAt_putFld _ _ _ _ _ (by decide)]
    cases bitAt (sget resetWord s.regs (camA i)) 0 <;> simp [b2n]

/-! Going live. -/

@[simp] theorem reportCommits_vitals (s : State) : s.reportCommits.vitals = s.vitals := by
  unfold State.reportCommits
  dsimp only
  split
  · rfl
  · split
    · rw [event_vitals, setRfld_vitals]; rfl
    · rfl

@[simp] theorem reportCommits_slots (s : State) : s.reportCommits.slots = s.slots := by
  unfold State.reportCommits
  dsimp only
  split
  · rfl
  · split
    · rw [event_slots, setRfld_slots]
    · rfl

/-- The report of commits writes words of RFE alone. -/
theorem reportCommits_slotEn (s : State) (i : Nat) : s.reportCommits.slotEn i = s.slotEn i := by
  have hb := cfgOff_bounds i
  unfold State.reportCommits
  dsimp only
  split
  · rfl
  · split
    · rw [slotEn_eq, event_reg_ne _ _ (radr_ne (by omega) (by omega) (by decide)),
        setRfld_reg_ne _ _ _ _ (radr_ne (by omega) (by omega) (by decide)), slotEn_eq]
      rfl
    · rfl

@[simp] theorem goLive_vitals (s : State) (i : Nat) : (s.goLive i).vitals = s.vitals := by
  unfold State.goLive
  split
  · rfl
  · rw [reportCommits_vitals]
    rfl

@[simp] theorem goLive_slots (s : State) (i : Nat) : (s.goLive i).slots = s.slots := by
  unfold State.goLive
  split
  · rfl
  · rw [reportCommits_slots]
    rfl

/-- A set that goes live is no change of EN, which is no part of it (R76). -/
theorem goLive_slotEn (s : State) {i : Nat} (hi : i < 64) : (s.goLive i).slotEn i = s.slotEn i := by
  have hb := cfgOff_bounds i
  have hne : camA i ≠ rfeA i := by unfold camA rfeA; omega
  unfold State.goLive
  split
  · rfl
  · extract_lets old s1 t s2 s3 s4 ps s5
    have h5 : s5.slotEn i = s4.slotEn i := rfl
    have h4 : s4.slotEn i = s3.slotEn i := by
      rw [slotEn_eq, slotEn_eq, setRfld_reg_ne _ _ _ _ (radr_ne (by omega) (by omega) (by omega))]
    have h3 : s3.slotEn i = s2.slotEn i := congrArg (bitAt · 0) (sget_sset_other _ _ _ hne)
    rw [reportCommits_slotEn, h5, h4, h3]
    rfl

/-- A set that waits goes live once its slot is off. -/
def State.takeSet (s : State) (i : Nat) : State := if s.pendingSet i then s.goLive i else s

theorem takeSet_vitals (s : State) (i : Nat) : (s.takeSet i).vitals = s.vitals := by
  rw [State.takeSet, apply_ite State.vitals, goLive_vitals, ite_self]

theorem takeSet_slots (s : State) (i : Nat) : (s.takeSet i).slots = s.slots := by
  rw [State.takeSet, apply_ite State.slots, goLive_slots, ite_self]

theorem takeSet_slotEn (s : State) {i : Nat} (hi : i < 64) : (s.takeSet i).slotEn i = s.slotEn i := by
  unfold State.takeSet
  split
  · exact goLive_slotEn s hi
  · rfl

/-! Writes of STREAMn_CFG. -/

/-- What a write of STREAMn_CFG stages, with EN as it stands. -/
def State.staged (s : State) (i : Nat) (w : Word) : State := s.stage i (camA i) (putFld w 0 1 (b2n (s.slotEn i)))

/-- A write of STREAMn_CFG stages its fields; EN = 1 then takes effect or sets CFG_ERR, and EN = 0 closes the slot's frame and lets a
set that waits go live. -/
theorem writeSlotCfg_eq (s : State) (i : Nat) (w : Word) :
    s.writeSlotCfg i w =
      if bitAt w 0 then
        if (s.staged i w).slotOk i then
          let u := ((s.staged i w).putEn i true).setRfld (pgCam (i / 4)) 0xC 16 1 0
          if s.slotEn i then u else u.setSlot i { u.slot i with idle := .discard }
        else (s.staged i w).setRfld (pgCam (i / 4)) 0xC 16 1 1
      else
        let u := ((s.staged i w).endFrame i .discard).putEn i false
        if u.pendingSet i then u.goLive i else u := by
  unfold State.writeSlotCfg
  rfl

/-! The close of a frame that no pipeline takes. -/

/-- Rows put and counted are all that missing rows bring. -/
theorem fillTo_keeps {β : Type} (v : State → β) (hslot : ∀ (s : State) i x, v (s.setSlot i x) = v s)
    (hbump : ∀ (s : State) i, v (s.bump (slotReg i).1 (slotReg i).2 16 16 1) = v s) (s : State) (i e k : Nat) :
    v (s.fillTo i e k) = v s := by
  unfold State.fillTo
  split
  · rfl
  · refine forEach_keeps v _ _ (fun j s => ?_) s
    split
    · rw [hbump, State.putRow, hslot]
    · rfl

/-- The rows that the close of frame `r` of slot i finds missing, placed and counted. -/
def State.filled (s : State) (i : Nat) (r : RxFrame) : State :=
  forEach (List.range r.exps) (fun e s => s.fillTo i e (min r.height (r.next.foldl max 0))) s

theorem filled_keeps {β : Type} (v : State → β) (hslot : ∀ (s : State) i x, v (s.setSlot i x) = v s)
    (hbump : ∀ (s : State) i, v (s.bump (slotReg i).1 (slotReg i).2 16 16 1) = v s) (s : State) (i : Nat) (r : RxFrame) :
    v (s.filled i r) = v s := forEach_keeps v _ _ (fun e s => fillTo_keeps v hslot hbump s i e _) s

theorem filled_strm (s : State) (i : Nat) (r : RxFrame) (j : Nat) : (s.filled i r).strm j = s.strm j :=
  filled_keeps (fun s => s.strm j) (fun _ _ _ => setSlot_strm ..) (fun _ _ => bump_strm ..) s i r

theorem filled_vitals (s : State) (i : Nat) (r : RxFrame) : (s.filled i r).vitals = s.vitals :=
  filled_keeps State.vitals (fun _ _ _ => setSlot_vitals ..) (fun _ _ => bump_vitals ..) s i r

theorem filled_reg (s : State) (i : Nat) (r : RxFrame) {p o : Nat} (ho : o < 0x120) : (s.filled i r).reg p o = s.reg p o :=
  filled_keeps (fun s => s.reg p o) (fun _ _ _ => setSlot_reg ..) (fun s i => by
    have := slotReg_bounds i
    exact bump_reg_low s _ _ _ (by omega) (by omega) ho) s i r

/-- A frame that no pipeline takes closes with its missing rows placed and counted. -/
theorem endFrame_of_unfed {s : State} {i : Nat} {r : RxFrame} (hrx : (s.slot i).rx = some r) (hf : (s.strm i).frames = [])
    (rule : IdleRule) : s.endFrame i rule = (s.filled i r).setSlot i { (s.filled i r).slot i with rx := none, idle := rule } := by
  have hfeeds : (s.filled i r).feeds i = none := by rw [State.feeds, filled_strm, hf, List.find?_nil]
  simp only [State.endFrame, hrx, ← State.filled.eq_1, hfeeds]
  refine checkReady_of_none_due fun g hg => ?_
  rw [setSlot_strm, filled_strm, hf] at hg
  exact absurd hg List.not_mem_nil

/-- What a close leaves of a slot whose stream has no frame in the pipeline: no frame open, the rule for packets outside frames, and the
vitals and the words before the slots' counters as they were. -/
theorem closed_of_unfed {s : State} {i : Nat} (hf : (s.strm i).frames = []) (rule : IdleRule) :
    ((s.endFrame i rule).slot i).rx = none ∧ ((s.endFrame i rule).slot i).idle = rule ∧ (s.endFrame i rule).vitals = s.vitals ∧
      ∀ p o, o < 0x120 → (s.endFrame i rule).reg p o = s.reg p o := by
  cases hrx : (s.slot i).rx with
  | none =>
    rw [endFrame_of_closed hrx, setSlot_slot, if_pos rfl]
    exact ⟨hrx, rfl, setSlot_vitals .., fun _ _ _ => setSlot_reg ..⟩
  | some r =>
    rw [endFrame_of_unfed hrx hf, setSlot_slot, if_pos rfl]
    exact ⟨rfl, rfl, (setSlot_vitals ..).trans (filled_vitals ..), fun _ _ ho => (setSlot_reg ..).trans (filled_reg s i r ho)⟩

/-! Time limits. -/

theorem feMissing_of_full {s : State} {i : Nat} {r : RxFrame} (hrx : (s.slot i).rx = some r) (hfull : r.full = true) :
    s.feMissing i = (s.bump (slotReg i).1 ((slotReg i).2 + 4) 8 8 1).endFrame i .reopen := by
  simp only [State.feMissing, hrx, hfull, if_true]

theorem frameTimeout_of_open {s : State} {i : Nat} {r : RxFrame} (hrx : (s.slot i).rx = some r) (hper : psPeriod s.live i ≠ 0) :
    s.frameTimeout i = ((s.bump (slotReg i).1 ((slotReg i).2 + 4) 20 4 1).event (pgCam (i / 4)) 5).endFrame i .reopen := by
  simp [State.frameTimeout, hrx, hper]

/-- Settles O10: EN as `writeSlotCfg` takes it, and the time limits that close a frame by `closed_of_unfed`. -/
theorem streamSlots : Obligations.StreamSlots := by
  unfold Obligations.StreamSlots
  refine ⟨?_, ?_, ?_, ?_, ?_⟩
  · intro s p n w hs i s1
    have hport : i / 4 = p.val := slot_port p n
    have hw : bitAt (putFld w 0 1 1) 0 = true := by rw [bitAt_putFld _ _ _ _ _ (by decide)]; simp
    have hen : s1.slotEn i = s.slotEn i := stage_slotEn ..
    have hv1 : s1.vitals = s.vitals := stage_vitals ..
    have hcfg : s.staged i (putFld w 0 1 1) = s1 := rfl
    cases hok : s1.slotOk i with
    | false =>
      have hv : (s1.setRfld (pgCam (i / 4)) 0xC 16 1 1).vitals = s.vitals := (setRfld_vitals ..).trans hv1
      have hwrite : s.writeSlotCfg i (putFld w 0 1 1) = s1.setRfld (pgCam (i / 4)) 0xC 16 1 1 := by
        rw [writeSlotCfg_eq, if_pos hw, hcfg, if_neg (by simp [hok])]
      refine ⟨_, done_eq_of_vitals hs hwrite hv, ?_, ?_, sameMemory_of_vitals hv⟩
      · rw [setStatus_slotEn, hen, Bool.or_false]
      · rw [hport, setRfld_reg_same, bitAt_putFld _ _ _ _ _ (by decide)]
        simp
    | true =>
      set u := (s1.putEn i true).setRfld (pgCam (i / 4)) 0xC 16 1 0 with hu
      have hwrite : s.writeSlotCfg i (putFld w 0 1 1) =
          if s.slotEn i then u else u.setSlot i { u.slot i with idle := .discard } := by
        rw [writeSlotCfg_eq, if_pos hw, hcfg, if_pos hok]
      have ht := portApart_ite (c := s.slotEn i = true) (portApart_refl u) (setSlot_portApart u i { u.slot i with idle := .discard })
      have hv := ht.vitals.trans (show u.vitals = s.vitals by rw [hu, setRfld_vitals, putEn_vitals, hv1])
      refine ⟨_, done_eq_of_vitals hs hwrite hv, ?_, ?_, sameMemory_of_vitals hv⟩
      · rw [slotEn_of_portApart ht, hu, setStatus_slotEn, putEn_slotEn, Bool.or_true]
      · rw [reg_of_portApart ht, hu, hport, setRfld_reg_same, bitAt_putFld _ _ _ _ _ (by decide)]
        simp
  · intro s p n w hs hrx
    set i := 4 * p.val + n.val
    have hw : bitAt (putFld w 0 1 0) 0 = false := by rw [bitAt_putFld _ _ _ _ _ (by decide)]; simp
    have hslot : (s.staged i (putFld w 0 1 0)).slot i = s.slot i := by rw [State.slot, State.staged, stage_slots, State.slot]
    have hend := endFrame_of_closed (hslot ▸ hrx) IdleRule.discard
    set u := ((s.staged i (putFld w 0 1 0)).endFrame i .discard).putEn i false with hu
    have hwrite : s.writeSlotCfg i (putFld w 0 1 0) = u.takeSet i := by rw [writeSlotCfg_eq, if_neg (by simp [hw]), State.takeSet]
    have hv : (u.takeSet i).vitals = s.vitals := by
      rw [takeSet_vitals, hu, putEn_vitals, hend, setSlot_vitals, State.staged, stage_vitals]
    refine ⟨_, done_eq_of_vitals hs hwrite hv, ?_, ?_, sameMemory_of_vitals hv⟩
    · rw [takeSet_slotEn _ (by omega), hu, putEn_slotEn]
    · rw [State.slot, takeSet_slots, ← State.slot, hu, putEn_slot, hend, setSlot_slot, if_pos rfl]
  · intro s p n r hs hrx hfull hf
    set i := 4 * p.val + n.val
    set s1 := s.bump (slotReg i).1 ((slotReg i).2 + 4) 8 8 1 with hs1
    obtain ⟨hnone, hidle, hend, -⟩ := closed_of_unfed (s := s1) (i := i) (by rwa [hs1, bump_strm]) .reopen
    have hv : (s1.endFrame i .reopen).vitals = s.vitals := by rw [hend, hs1, bump_vitals]
    exact ⟨_, done_eq_of_vitals hs (feMissing_of_full hrx hfull) hv, hnone, hidle, sameMemory_of_vitals hv⟩
  · intro s p n r hs hrx hper hf
    set i := 4 * p.val + n.val
    set s1 := (s.bump (slotReg i).1 ((slotReg i).2 + 4) 20 4 1).event (pgCam (i / 4)) 5 with hs1
    obtain ⟨hnone, hidle, hend, hreg⟩ := closed_of_unfed (s := s1) (i := i) (by rwa [hs1, event_strm, bump_strm]) .reopen
    have hv : (s1.endFrame i .reopen).vitals = s.vitals := by rw [hend, hs1, event_vitals, bump_vitals]
    refine ⟨_, done_eq_of_vitals hs (frameTimeout_of_open hrx hper) hv, hnone, hidle, ?_, sameMemory_of_vitals hv⟩
    rw [hreg _ _ (by decide), hs1, show i / 4 = p.val from slot_port p n]
    exact event_reg_bit _ _ _ (by decide)
  · intro s p n hs
    refine done_eq_of_vitals hs ?_ (by split <;> simp)
    simp only [State.streamAbsent, slot_port, Bool.and_eq_true, Bool.not_eq_true', decide_eq_true_eq, and_assoc]

end Sys2Proof.Machine
end

section
/-! SUPPORT. Packets of frames and lines (R44 to R47, R50 to R52, R279): the header's count, the slot that a channel belongs to, and
the frame that a start opens and an end closes. -/

namespace Sys2Proof.Machine

open Sys2Proof

/-! What every packet does first. -/

/-- A header counts at most a correction. -/
theorem header_keeps {β : Type} (v : State → β) (s : State) (p : Nat) (c : Bool) (h : v (s.bump (pgCam p) 0x104 0 16 1) = v s) :
    v (s.header p c) = v s := by
  unfold State.header
  split
  · exact h
  · rfl

@[simp] theorem header_vitals (s : State) (p : Nat) (c : Bool) : (s.header p c).vitals = s.vitals :=
  header_keeps State.vitals s p c (bump_vitals ..)
@[simp] theorem header_slot (s : State) (p : Nat) (c : Bool) (i : Nat) : (s.header p c).slot i = s.slot i :=
  header_keeps (fun s => s.slot i) s p c (bump_slot ..)
@[simp] theorem header_strm (s : State) (p : Nat) (c : Bool) (i : Nat) : (s.header p c).strm i = s.strm i :=
  header_keeps (fun s => s.strm i) s p c (bump_strm ..)
@[simp] theorem header_live (s : State) (p : Nat) (c : Bool) : (s.header p c).live = s.live :=
  header_keeps State.live s p c (bump_live ..)
@[simp] theorem header_pset (s : State) (p : Nat) (c : Bool) : (s.header p c).pset = s.pset :=
  header_keeps State.pset s p c (bump_pset ..)
@[simp] theorem header_cal (s : State) (p : Nat) (c : Bool) : (s.header p c).cal = s.cal :=
  header_keeps State.cal s p c (bump_cal ..)

theorem pendingSet_of_pset {s t : State} (h : t.pset = s.pset) (i : Nat) : t.pendingSet i = s.pendingSet i := by
  rw [State.pendingSet, State.pendingOf, h, State.pendingSet, State.pendingOf]

/-- A header leaves every word but PORT's header count. -/
theorem header_reg (s : State) (q : Nat) (c : Bool) {p o : Nat} (h : o ≠ 0x104) (ho : o < 4096) :
    (s.header q c).reg p o = s.reg p o :=
  header_keeps (fun s => s.reg p o) s q c (bump_reg_ne _ _ _ _ (radr_ne h ho (by decide)))

/-- A header leaves what the first frame waits for. -/
theorem header_lanesReady (s : State) (p : Nat) (c : Bool) : (s.header p c).lanesReady p = s.lanesReady p := by
  simp only [State.lanesReady, State.rfld, State.camLane, header_cal,
    header_reg s p c (p := pgCam p) (o := 0x100) (by decide) (by decide)]

@[simp] theorem unmatched_vitals (s : State) (p : Nat) : (s.unmatched p).vitals = s.vitals := by
  rw [State.unmatched, event_vitals, bump_vitals]

/-! A frame start. -/

section FrameStart

variable {s : State} {p vc : Nat} {c : Bool}

theorem frameStart_of_off (h : s.receives p = false) : s.frameStart p vc c = s := by simp [State.frameStart, h]

variable (h : s.receives p = true)

include h

theorem frameStart_of_unclaimed (hc : (s.header p c).claim p vc = none) : s.frameStart p vc c = (s.header p c).unmatched p := by
  simp [State.frameStart, h, hc]

variable {i e : Nat} (hc : (s.header p c).claim p vc = some (i, e)) (hrx : (s.slot i).rx = none)

include hc hrx

/-- The first frame start of a slot opens a frame once the lanes are measured. -/
theorem frameStart_of_ready (hl : s.lanesReady p = true) :
    s.frameStart p vc c = (((s.header p c).notAbsent i).openFrame i s.clk.ptp).noteStart i e := by
  have hrx' : (((s.header p c).notAbsent i).slot i).rx = none := by simp [State.notAbsent, hrx]
  have hl' : ((s.header p c).notAbsent i).lanesReady p = true := (header_lanesReady s p c).trans hl
  simp only [State.frameStart, h, hc, hrx', hl', Bool.not_true, Bool.false_eq_true, if_false, if_true]

/-- Before that it only ends an absence. -/
theorem frameStart_of_unmeasured (hl : s.lanesReady p = false) : s.frameStart p vc c = (s.header p c).notAbsent i := by
  have hrx' : (((s.header p c).notAbsent i).slot i).rx = none := by simp [State.notAbsent, hrx]
  have hl' : ((s.header p c).notAbsent i).lanesReady p = false := (header_lanesReady s p c).trans hl
  simp only [State.frameStart, h, hc, hrx', hl', Bool.not_true, Bool.false_eq_true, if_false]

end FrameStart

/-- The open frame of slot i as its start leaves it (R46, R50): the live set's geometry, no row placed, nothing counted. -/
def freshRx (m : Sparse Word) (i ts : Nat) : RxFrame :=
  { tStart := ts, width := psWidth m i, height := psHeight m i, exps := psExps m i, dt := psDt m i, lineNum := psLineNum m i,
    starts := [], ends := [], base := none, pendLine := [], next := List.replicate (psExps m i) 0, recent := [], extra := 0,
    widthLines := 0, crcs := 0, flags := 0 }

/-- A frame of a stream that no job binds opens at its port alone. -/
theorem openFrame_of_unbound {s : State} {i : Nat} (hset : s.pendingSet i = false) (hjob : (s.strm i).job = none) (ts : Nat) :
    s.openFrame i ts = s.setSlot i { s.slot i with rx := some (freshRx s.live i ts), count := (s.slot i).count + 1,
                                                   lastStart := some ts, causeFive := false } := by
  simp [State.openFrame, hset, hjob, freshRx]

/-- A change of the open frame. -/
theorem markRx_of_open {s : State} {i : Nat} {r : RxFrame} (h : (s.slot i).rx = some r) (f : RxFrame → RxFrame) :
    s.markRx i f = s.setSlot i { s.slot i with rx := some (f r) } := by simp only [State.markRx, h]

@[simp] theorem markRx_vitals (s : State) (i : Nat) (f : RxFrame → RxFrame) : (s.markRx i f).vitals = s.vitals := by
  unfold State.markRx
  split
  · exact setSlot_vitals ..
  · rfl

@[simp] theorem markRx_strm (s : State) (i : Nat) (f : RxFrame → RxFrame) (j : Nat) : (s.markRx i f).strm j = s.strm j := by
  unfold State.markRx
  split <;> rfl

section Opened

variable {s : State} {i : Nat} (hset : s.pendingSet i = false) (hjob : (s.strm i).job = none) (ts e : Nat)

include hset hjob

theorem opened_vitals : (((s.notAbsent i).openFrame i ts).noteStart i e).vitals = s.vitals := by
  rw [State.noteStart, markRx_vitals, openFrame_of_unbound (s := s.notAbsent i) hset hjob, setSlot_vitals, State.notAbsent,
    setSlot_vitals]

/-- The slot after a frame start of exposure e that opened a frame. -/
theorem opened_slot : (((s.notAbsent i).openFrame i ts).noteStart i e).slot i =
    { s.slot i with rx := some { freshRx s.live i ts with starts := [e] }, count := (s.slot i).count + 1, lastStart := some ts,
                    absent := false, causeFive := false } := by
  rw [State.noteStart, openFrame_of_unbound (s := s.notAbsent i) hset hjob, markRx_of_open (by rw [setSlot_slot, if_pos rfl]),
    setSlot_slot, if_pos rfl, setSlot_slot, if_pos rfl, State.notAbsent, setSlot_slot, if_pos rfl]
  rfl

end Opened

/-! A frame end. -/

section FrameEnd

variable {s : State} {p vc : Nat} {c : Bool}

theorem frameEndPacket_of_off (h : s.receives p = false) : s.frameEndPacket p vc c = s := by simp [State.frameEndPacket, h]

variable (h : s.receives p = true)

include h

theorem frameEndPacket_of_unclaimed (hc : (s.header p c).claim p vc = none) :
    s.frameEndPacket p vc c = (s.header p c).unmatched p := by simp [State.frameEndPacket, h, hc]

/-- The end of the last exposure's frame closes the slot's. -/
theorem frameEndPacket_of_last {i e : Nat} {r : RxFrame} (hc : (s.header p c).claim p vc = some (i, e))
    (hrx : (s.slot i).rx = some r) (hlast : r.exps ≤ (if r.ends.contains e then r.ends else r.ends ++ [e]).length) :
    s.frameEndPacket p vc c = ((s.header p c).markRx i fun r' =>
      { r' with ends := if r.ends.contains e then r.ends else r.ends ++ [e] }).endFrame i .orphan := by
  simp only [State.frameEndPacket, h, hc, header_slot, hrx, hlast, Bool.not_true, Bool.false_eq_true, if_false, if_true]

end FrameEnd

/-! Line starts and ends. -/

section Line

variable {s : State} {p vc line : Nat} {c : Bool}

theorem lineStart_of_off (h : s.receives p = false) : s.lineStart p vc line c = s := by simp [State.lineStart, h]

theorem lineEnd_of_off (h : s.receives p = false) : s.lineEnd p vc c = s := by simp [State.lineEnd, h]

variable (h : s.receives p = true)

include h

theorem lineStart_of_unclaimed (hc : (s.header p c).claim p vc = none) : s.lineStart p vc line c = (s.header p c).unmatched p := by
  simp [State.lineStart, h, hc]

theorem lineEnd_of_unclaimed (hc : (s.header p c).claim p vc = none) : s.lineEnd p vc c = (s.header p c).unmatched p := by
  simp [State.lineEnd, h, hc]

variable {i e : Nat} (hc : (s.header p c).claim p vc = some (i, e))

include hc

theorem lineEnd_of_claimed : s.lineEnd p vc c = s.header p c := by simp [State.lineEnd, h, hc]

/-- The first line start of a frame sets the number of its first row: no row is missing before it. -/
theorem lineStart_of_first {r : RxFrame} (hrx : (s.slot i).rx = some r) (hnum : r.lineNum = true) (hbase : r.base = none)
    (hnext : r.next = List.replicate r.exps 0) :
    s.lineStart p vc line c = (s.header p c).setSlot i { s.slot i with rx := some { r with
      base := some line, pendLine := sset (fun _ => 0) r.pendLine e (line + 1) } } := by
  simp [State.lineStart, h, hc, hrx, hnum, hbase, hnext, rowIndex, State.fillRows]

end Line

/-- Settles O11: a lemma for each packet, with a frame that a stream without a job opens and one that no pipeline takes closed. -/
theorem framePackets : Obligations.FramePackets := by
  unfold Obligations.FramePackets
  refine ⟨?_, ?_, ?_, ?_, ?_, ?_, ?_⟩
  · intro s p vc line c hs h
    exact ⟨done_eq (frameStart_of_off h) hs, done_eq (frameEndPacket_of_off h) hs, done_eq (lineStart_of_off h) hs,
      done_eq (lineEnd_of_off h) hs⟩
  · intro s p vc line c hs h hc t
    have ht : t.vitals = s.vitals := (unmatched_vitals (s.header p c) p).trans (header_vitals ..)
    exact ⟨done_eq_of_vitals hs (frameStart_of_unclaimed h hc) ht, done_eq_of_vitals hs (frameEndPacket_of_unclaimed h hc) ht,
      done_eq_of_vitals hs (lineStart_of_unclaimed h hc) ht, done_eq_of_vitals hs (lineEnd_of_unclaimed h hc) ht⟩
  · intro s p vc c i e hs h hc hrx hjob hset hl
    have hset' : (s.header p c).pendingSet i = false := by rwa [pendingSet_of_pset (header_pset s p c)]
    have hjob' : ((s.header p c).strm i).job = none := by rwa [header_strm]
    have hv := (opened_vitals hset' hjob' s.clk.ptp e).trans (header_vitals s p c)
    refine ⟨_, { freshRx s.live i s.clk.ptp with starts := [e] }, done_eq_of_vitals hs (frameStart_of_ready h hc hrx hl) hv,
      ?_, rfl, rfl, rfl, rfl, rfl, ?_, ?_, sameMemory_of_vitals hv⟩ <;>
    simp [opened_slot hset' hjob']
  · intro s p vc c i e hs h hc hrx hl
    have hv : ((s.header p c).notAbsent i).vitals = s.vitals := (setSlot_vitals ..).trans (header_vitals ..)
    refine ⟨_, done_eq_of_vitals hs (frameStart_of_unmeasured h hc hrx hl) hv, ?_, ?_, sameMemory_of_vitals hv⟩ <;>
    simp [State.notAbsent, hrx]
  · intro s p vc c i e r hs h hc hrx hlast hf
    set s1 := (s.header p c).markRx i fun r' => { r' with ends := if r.ends.contains e then r.ends else r.ends ++ [e] } with hs1
    obtain ⟨hnone, hidle, hend, -⟩ := closed_of_unfed (s := s1) (i := i) (by rwa [hs1, markRx_strm, header_strm]) .orphan
    have hv : (s1.endFrame i .orphan).vitals = s.vitals := by rw [hend, hs1, markRx_vitals, header_vitals]
    exact ⟨_, done_eq_of_vitals hs (frameEndPacket_of_last h hc hrx hlast) hv, hnone, hidle, sameMemory_of_vitals hv⟩
  · intro s p vc line c i e hs h hc
    exact done_eq_of_vitals hs (lineEnd_of_claimed h hc) (header_vitals ..)
  · intro s p vc line c i e r hs h hc hrx hnum hbase hnext
    exact done_eq_of_vitals hs (lineStart_of_first h hc hrx hnum hbase hnext) ((setSlot_vitals ..).trans (header_vitals ..))

end Sys2Proof.Machine
end

section
/-! SUPPORT. Long packets and headers that cannot be corrected (R43 to R49, R54): what is counted, and how a row is taken by an open
frame. -/

namespace Sys2Proof.Machine

open Sys2Proof

/-! The counts of a long packet. -/

/-- What a long packet counts before it is looked at: its retransmissions and its header. -/
def State.longHead (s : State) (p : Nat) (c : Bool) (x : Nat) : State := (s.retransmitted p x).header p c

theorem retransmitted_keeps {β : Type} (v : State → β) (s : State) (p x : Nat) (h : v (s.bump (pgCam p) 0x10C 0 16 x) = v s) :
    v (s.retransmitted p x) = v s := by
  unfold State.retransmitted
  split
  · exact h
  · rfl

@[simp] theorem longHead_vitals (s : State) (p : Nat) (c : Bool) (x : Nat) : (s.longHead p c x).vitals = s.vitals :=
  (header_vitals ..).trans (retransmitted_keeps State.vitals s p x (bump_vitals ..))
@[simp] theorem longHead_slot (s : State) (p : Nat) (c : Bool) (x i : Nat) : (s.longHead p c x).slot i = s.slot i :=
  (header_slot ..).trans (retransmitted_keeps (fun s => s.slot i) s p x (bump_slot ..))
@[simp] theorem longHead_strm (s : State) (p : Nat) (c : Bool) (x i : Nat) : (s.longHead p c x).strm i = s.strm i :=
  (header_strm ..).trans (retransmitted_keeps (fun s => s.strm i) s p x (bump_strm ..))

/-! Packets without a row. -/

theorem discardPacket_of_off {s : State} {p : Nat} {c : Bool} (h : s.receives p = false) : s.discardPacket p c = s := by
  simp [State.discardPacket, h]

theorem discardPacket_of_receives {s : State} {p : Nat} {c : Bool} (h : s.receives p = true) : s.discardPacket p c = s.header p c :=
  if_pos h

/-- A data type of blanking or embedded data (Table 03-3). -/
abbrev blankType (dt : Nat) : Prop := dt = 0x10 ∨ dt = 0x11 ∨ dt = 0x12

section LongPacket

variable {s : State} {p vc dt : Nat} {data : List Byte} {ok c : Bool} {x : Nat}

theorem longPacket_of_off (h : s.receives p = false) : s.longPacket p vc dt data ok c x = s := by simp [State.longPacket, h]

variable (h : s.receives p = true)

include h

theorem longPacket_of_blank (hb : blankType dt) : s.longPacket p vc dt data ok c x = s.longHead p c x := by
  rw [State.longPacket, h, Bool.not_true, if_neg Bool.false_ne_true, State.takeLong, if_pos hb, State.longHead]

variable (hb : ¬ blankType dt)

include hb

theorem longPacket_of_unclaimed (hc : (s.longHead p c x).claim p vc = none) :
    s.longPacket p vc dt data ok c x = (s.longHead p c x).unmatched p := by
  rw [State.longPacket, h, Bool.not_true, if_neg Bool.false_ne_true, State.takeLong, if_neg hb, ← State.longHead]
  simp only [hc]

variable {i e : Nat} {r : RxFrame} (hc : (s.longHead p c x).claim p vc = some (i, e)) (hrx : (s.slot i).rx = some r)

include hc hrx

theorem longPacket_of_other_type (hdt : dt ≠ r.dt) :
    s.longPacket p vc dt data ok c x = ((s.longHead p c x).bump (pgCam p) 0x108 16 16 1).event (pgCam p) 8 := by
  rw [State.longPacket, h, Bool.not_true, if_neg Bool.false_ne_true, State.takeLong, if_neg hb, ← State.longHead]
  simp only [hc, longHead_slot, hrx, hdt, ne_eq, not_false_eq_true, if_true]

/-- A long packet of the open frame's data type is its next row's. -/
theorem longPacket_of_row (hdt : dt = r.dt) :
    s.longPacket p vc dt data ok c x = (s.longHead p c x).payload p i e dt data ok := by
  rw [State.longPacket, h, Bool.not_true, if_neg Bool.false_ne_true, State.takeLong, if_neg hb, ← State.longHead]
  simp only [hc, longHead_slot, hrx, hdt, ne_eq, not_true_eq_false, if_false]

end LongPacket

/-- A slot that a channel belongs to is one of its port. -/
theorem claim_port {s : State} {p vc i e : Nat} (h : s.claim p vc = some (i, e)) : i / 4 = p := by
  obtain ⟨j, hj, hje⟩ := List.exists_of_findSome?_eq_some h
  obtain ⟨n, hn, rfl⟩ := List.mem_map.1 hj
  have hlt := List.mem_range.1 hn
  dsimp only at hje
  split at hje
  · obtain ⟨rfl, -⟩ := Prod.mk.inj (Option.some.inj hje)
    omega
  · exact absurd hje (by simp)

/-! A row. -/

@[simp] theorem markRx_reg (s : State) (i : Nat) (f : RxFrame → RxFrame) (p o : Nat) : (s.markRx i f).reg p o = s.reg p o := by
  unfold State.markRx
  split <;> rfl

/-- The open frame with row `w` placed. -/
def RxFrame.placed (r : RxFrame) (w : Row) : RxFrame :=
  { r with next := r.next.set w.exp (w.row + 1)
           recent := (w :: r.recent.filter fun q => q.exp != w.exp) ++ (r.recent.filter fun q => q.exp == w.exp).take 1 }

theorem putRow_rx (s : State) (i : Nat) (r : RxFrame) (w : Row) : ((s.putRow i r w).slot i).rx = some (r.placed w) := by
  rw [State.putRow, setSlot_slot, if_pos rfl, RxFrame.placed]

@[simp] theorem putRow_vitals (s : State) (i : Nat) (r : RxFrame) (w : Row) : (s.putRow i r w).vitals = s.vitals := setSlot_vitals ..
@[simp] theorem putRow_reg (s : State) (i : Nat) (r : RxFrame) (w : Row) (p o : Nat) : (s.putRow i r w).reg p o = s.reg p o :=
  setSlot_reg ..

/-- A frame without line numbers places its rows one after another. -/
theorem rowIndex_of_unnumbered {r : RxFrame} (h : r.lineNum = false) (e : Nat) : rowIndex r e = some (r.next.getD e 0) := by
  simp [rowIndex, h]

/-- No row is substituted before one that is not behind the next. -/
theorem fillRows_of_next {s : State} {i : Nat} {r : RxFrame} (h : (s.slot i).rx = some r) {e k : Nat} (hk : k ≤ r.next.getD e 0) :
    s.fillRows i e k = s := by
  simp only [State.fillRows, h, Nat.sub_eq_zero_of_le hk, List.range_zero, List.map_nil, forEach_nil]

/-- A row of the full width is taken as it is. -/
theorem fitRow_of_width {w : Nat} {px : List Nat} (h : px.length = w) : fitRow w px = (px, false) := by
  subst h
  simp [fitRow]

/-- The frame whose pending line number of exposure e is used up. -/
def RxFrame.lineUsed (r : RxFrame) (e : Nat) : RxFrame := { r with pendLine := sset (fun _ => 0) r.pendLine e 0 }

/-- The open frame of slot i with the pending line number of exposure e used up. -/
def State.markLine (s : State) (i e : Nat) : State := s.markRx i (·.lineUsed e)

@[simp] theorem markLine_vitals (s : State) (i e : Nat) : (s.markLine i e).vitals = s.vitals := markRx_vitals ..
@[simp] theorem markLine_strm (s : State) (i e j : Nat) : (s.markLine i e).strm j = s.strm j := markRx_strm ..
@[simp] theorem markLine_reg (s : State) (i e p o : Nat) : (s.markLine i e).reg p o = s.reg p o := markRx_reg ..

theorem markLine_slot {s : State} {i : Nat} {r : RxFrame} (h : (s.slot i).rx = some r) (e : Nat) :
    (s.markLine i e).slot i = { s.slot i with rx := some (r.lineUsed e) } := by
  rw [State.markLine, markRx_of_open h, setSlot_slot, if_pos rfl]

/-- A row with room in the open frame r of slot i: pixels are placed at index k, a payload that failed is substituted (R48, R49). -/
def State.placeRow (s : State) (i e k : Nat) (r : RxFrame) : Option (List Nat) → State
  | some (q :: l) =>
    let w := fitRow r.width (q :: l)
    let u := s.putRow i r ⟨(s.slot i).count, e, k, w.1, false, false⟩
    if w.2 then u.markRx i fun r => { r with widthLines := r.widthLines + 1, flags := r.flags ||| 8 } else u
  | _ => (s.putRow i r (substitute (s.slot i).count r e k)).bump (slotReg i).1 (slotReg i).2 16 16 1

/-- Pixels of the full width are placed as they are. -/
theorem placeRow_of_width (s : State) (i e k : Nat) {r : RxFrame} {px : List Nat} (hpx : px.length = r.width) (hw : 0 < r.width) :
    s.placeRow i e k r (some px) = s.putRow i r ⟨(s.slot i).count, e, k, px, false, false⟩ := by
  obtain ⟨q, l, rfl⟩ := List.exists_cons_of_length_pos (hpx ▸ hw)
  simp only [State.placeRow, fitRow_of_width hpx, Bool.false_eq_true, if_false]

theorem placeRow_of_lost (s : State) (i e k : Nat) (r : RxFrame) : s.placeRow i e k r none =
    (s.putRow i r (substitute (s.slot i).count r e k)).bump (slotReg i).1 (slotReg i).2 16 16 1 := rfl

/-- A substituted row stands at the index and in the exposure that it is for. -/
theorem substitute_place (frame : Nat) (r : RxFrame) (e k : Nat) :
    (substitute frame r e k).exp = e ∧ (substitute frame r e k).row = k := by
  unfold substitute
  split
  · rename_i q hq
    have hfound := List.find?_some hq
    simp only [Bool.and_eq_true, beq_iff_eq] at hfound
    obtain ⟨hexp, -⟩ := hfound
    exact ⟨hexp, rfl⟩
  · exact ⟨rfl, rfl⟩

/-- The next row of a frame without line numbers closes the frame when it finds its slot's part of the line store full, and is else
placed at the next index. -/
theorem takeRow_of_next {s : State} {i e : Nat} {r : RxFrame} (hrx : (s.slot i).rx = some r) (hnum : r.lineNum = false)
    (hlt : r.next.getD e 0 < r.height) (px : Option (List Nat)) :
    s.takeRow i e px = if (s.slot i).fullFor r.dt (r.width * dtBits r.dt) then (s.markLine i e).overflow i
      else (s.markLine i e).placeRow i e (r.next.getD e 0) (r.lineUsed e) px := by
  have hx := markLine_slot hrx e
  have hfill : (s.markLine i e).fillRows i e (r.next.getD e 0) = s.markLine i e := fillRows_of_next (congrArg Slot.rx hx) le_rfl
  simp only [State.takeRow, hrx, rowIndex_of_unnumbered hnum]
  rw [if_neg (not_le.2 hlt)]
  simp only [← RxFrame.lineUsed.eq_1, ← State.markLine.eq_1, hfill, hx, State.placeRow]
  rfl

/-- A frame that no pipeline takes is closed by LS_OVERFLOW (R54). -/
theorem overflow_of_unfed {s : State} {i : Nat} (hf : (s.strm i).frames = []) :
    ((s.overflow i).slot i).rx = none ∧ ((s.overflow i).slot i).idle = .discard ∧ (s.overflow i).vitals = s.vitals ∧
      bitAt ((s.overflow i).reg (pgCam (i / 4)) 0x10) 4 = true := by
  set v := (s.bump (slotReg i).1 ((slotReg i).2 + 4) 16 4 1).event (pgCam (i / 4)) 4 with hv
  obtain ⟨hnone, hidle, hend, hreg⟩ := closed_of_unfed (s := v) (i := i) (by rwa [hv, event_strm, bump_strm]) .discard
  rw [State.overflow, ← hv, hend, hreg _ _ (by decide), hv, event_vitals, bump_vitals]
  exact ⟨hnone, hidle, rfl, event_reg_bit _ _ _ (by decide)⟩

/-! A payload whose CRC fails. -/

/-- The open frame with one failed payload or header more (R45, R46). -/
def RxFrame.failedOne (r : RxFrame) : RxFrame := { r with crcs := r.crcs + 1, flags := r.flags ||| 0x10 }

/-- What a payload whose CRC fails counts and raises before its row is substituted. -/
def State.crcFailed (s : State) (p i : Nat) : State :=
  (((s.bump (slotReg i).1 (slotReg i).2 0 16 1).event (pgCam p) 3).fault 0x13 p (((s.strm i).job).getD 0)).markRx i (·.failedOne)

theorem payload_of_ok (s : State) (p i e dt : Nat) (data : List Byte) :
    s.payload p i e dt data true = s.takeRow i e (some (unpack dt data)) := if_pos rfl

theorem payload_of_failed (s : State) (p i e dt : Nat) (data : List Byte) :
    s.payload p i e dt data false = (s.crcFailed p i).takeRow i e none := by
  simp only [State.payload, Bool.false_eq_true, if_false, State.crcFailed]
  rfl

@[simp] theorem crcFailed_vitals (s : State) (p i : Nat) : (s.crcFailed p i).vitals = s.vitals := by simp [State.crcFailed]
@[simp] theorem crcFailed_strm (s : State) (p i j : Nat) : (s.crcFailed p i).strm j = s.strm j := by simp [State.crcFailed]

theorem crcFailed_slot {s : State} {i : Nat} {r : RxFrame} (h : (s.slot i).rx = some r) (p : Nat) :
    (s.crcFailed p i).slot i = { s.slot i with rx := some r.failedOne } := by
  have h' : (((((s.bump (slotReg i).1 (slotReg i).2 0 16 1).event (pgCam p) 3).fault 0x13 p (((s.strm i).job).getD 0)).slot i).rx) =
      some r := by simp [h]
  rw [State.crcFailed, markRx_of_open h', setSlot_slot, if_pos rfl, fault_slot, event_slot, bump_slot]

/-- It raises CRC_ERR of the port and FLT's FAULT. -/
theorem crcFailed_events (s : State) (p i : Nat) :
    bitAt ((s.crcFailed p i).reg (pgCam p) 0x10) 3 = true ∧ bitAt ((s.crcFailed p i).reg pgFlt 0x10) 0 = true := by
  rw [State.crcFailed, markRx_reg, markRx_reg, fault_reg_ne _ _ _ _ (pgCam_ne_pgFlt p) (by decide)]
  exact ⟨event_reg_bit _ _ _ (by decide), fault_reg_event ..⟩

/-! The row of a frame that no pipeline takes. -/

section Payload

variable {s : State} {p i e dt : Nat} {data : List Byte} {r : RxFrame} (hrx : (s.slot i).rx = some r) (hnum : r.lineNum = false)
  (hlt : r.next.getD e 0 < r.height)

include hrx hnum hlt

/-- A row of the frame's width is placed at the next index. -/
theorem payload_placed (hfull : (s.slot i).fullFor r.dt (r.width * dtBits r.dt) = false) (hpx : (unpack dt data).length = r.width)
    (hw : 0 < r.width) : s.payload p i e dt data true = (s.markLine i e).putRow i (r.lineUsed e)
      ⟨(s.slot i).count, e, r.next.getD e 0, unpack dt data, false, false⟩ := by
  rw [payload_of_ok, takeRow_of_next hrx hnum hlt, hfull, if_neg Bool.false_ne_true,
    placeRow_of_width _ _ _ _ (r := r.lineUsed e) hpx hw, markLine_slot hrx]

/-- A payload whose CRC fails is substituted at the next index. -/
theorem payload_substituted (hfull : (s.slot i).fullFor r.dt (r.width * dtBits r.dt) = false) :
    s.payload p i e dt data false = (((s.crcFailed p i).markLine i e).putRow i (r.failedOne.lineUsed e)
      (substitute (s.slot i).count (r.failedOne.lineUsed e) e (r.next.getD e 0))).bump (slotReg i).1 (slotReg i).2 16 16 1 := by
  have hslot := crcFailed_slot hrx p
  have hopen : ((s.crcFailed p i).slot i).rx = some r.failedOne := congrArg Slot.rx hslot
  have hroom : ((s.crcFailed p i).slot i).fullFor r.failedOne.dt (r.failedOne.width * dtBits r.failedOne.dt) = false := by
    rw [hslot]; exact hfull
  rw [payload_of_failed, takeRow_of_next hopen hnum hlt, hroom, if_neg Bool.false_ne_true, placeRow_of_lost, markLine_slot hopen, hslot]
  rfl

/-- A row that finds its slot's part of the line store full closes the frame, whether its payload came whole or not. -/
theorem payload_overflow (hfull : (s.slot i).fullFor r.dt (r.width * dtBits r.dt) = true) (hf : (s.strm i).frames = []) (ok : Bool) :
    ∃ u : State, u.vitals = s.vitals ∧ (u.strm i).frames = [] ∧ s.payload p i e dt data ok = u.overflow i := by
  cases ok with
  | true =>
    refine ⟨s.markLine i e, markLine_vitals .., by rw [markLine_strm, hf], ?_⟩
    rw [payload_of_ok, takeRow_of_next hrx hnum hlt, if_pos hfull]
  | false =>
    have hslot := crcFailed_slot hrx p
    refine ⟨(s.crcFailed p i).markLine i e, by rw [markLine_vitals, crcFailed_vitals], by rw [markLine_strm, crcFailed_strm, hf], ?_⟩
    rw [payload_of_failed, takeRow_of_next (congrArg Slot.rx hslot) hnum hlt, hslot]
    exact if_pos hfull

end Payload

/-! A header that cannot be corrected. -/

theorem markRx_rx (s : State) (i : Nat) (f : RxFrame → RxFrame) (j : Nat) :
    ((s.markRx i f).slot j).rx = if j = i then (s.slot j).rx.map f else (s.slot j).rx := by
  cases h : (s.slot i).rx with
  | none =>
    simp only [State.markRx, h]
    split
    · rename_i hj
      rw [hj, h, Option.map_none]
    · rfl
  | some r =>
    rw [markRx_of_open h, setSlot_slot]
    split
    · rename_i hj
      rw [hj, h, Option.map_some]
    · rfl

/-- A change of the open frames of different slots changes each once. -/
theorem forEach_markRx_rx (f : RxFrame → RxFrame) {l : List Nat} (hl : l.Nodup) (s : State) (j : Nat) :
    ((forEach l (fun i s => s.markRx i f) s).slot j).rx = if j ∈ l then (s.slot j).rx.map f else (s.slot j).rx := by
  induction l generalizing s with
  | nil => simp
  | cons i l ih =>
    obtain ⟨hi, hl⟩ := List.nodup_cons.1 hl
    rw [forEach_cons, ih hl, markRx_rx]
    by_cases hj : j = i
    · subst hj
      simp [hi]
    · simp [hj]

/-- What an uncorrectable header counts and raises before the open frames are marked. -/
def State.headerLost (s : State) (p : Nat) : State :=
  ((s.bump (pgCam p) 0x104 16 16 1).event (pgCam p) 2).fault 0x13 p (s.portJob p)

/-- The slots of a port. -/
def slotsOf (p : Nat) : List Nat := (List.range 4).map (· + 4 * p)

theorem slotsOf_nodup (p : Nat) : (slotsOf p).Nodup := List.nodup_range.map (add_left_injective _)

theorem mem_slotsOf (p : Nat) {n : Nat} (hn : n < 4) : 4 * p + n ∈ slotsOf p :=
  List.mem_map.2 ⟨n, List.mem_range.2 hn, Nat.add_comm ..⟩

theorem badHeader_of_off {s : State} {p : Nat} (h : s.receives p = false) : s.badHeader p = s := by simp [State.badHeader, h]

theorem badHeader_of_receives {s : State} {p : Nat} (h : s.receives p = true) :
    s.badHeader p = forEach (slotsOf p) (fun i s => s.markRx i (·.failedOne)) (s.headerLost p) := if_pos h

@[simp] theorem headerLost_vitals (s : State) (p : Nat) : (s.headerLost p).vitals = s.vitals := by simp [State.headerLost]
@[simp] theorem headerLost_slot (s : State) (p i : Nat) : (s.headerLost p).slot i = s.slot i := by simp [State.headerLost]

/-- It raises HDR_ERR of the port. -/
theorem headerLost_event (s : State) (p : Nat) : bitAt ((s.headerLost p).reg (pgCam p) 0x10) 2 = true := by
  rw [State.headerLost, fault_reg_ne _ _ _ _ (pgCam_ne_pgFlt p) (by decide)]
  exact event_reg_bit _ _ _ (by decide)

/-- Its fault names the port and its job. -/
theorem headerLost_cause (s : State) (p : Fin 16) :
    (s.headerLost p).reg pgFlt 0x24 = BitVec.ofNat 32 (0x13 + 256 * p.val + 65536 * (s.portJob p % 8)) := by
  have := p.isLt
  rw [State.headerLost, fault_reg_cause]
  exact congrArg _ (by omega)

/-- Settles O12: a packet's counts by `longHead`, its row by `takeRow_of_next`, and a lost header by `forEach_markRx_rx`. -/
theorem rowPackets : Obligations.RowPackets := by
  unfold Obligations.RowPackets
  intro blank head
  refine ⟨?_, ?_, ?_, ?_, ?_⟩
  · intro s p vc dt data ok c x hs h
    exact ⟨done_eq (longPacket_of_off h) hs, done_eq (discardPacket_of_off h) hs, done_eq (badHeader_of_off h) hs⟩
  · intro s p vc dt data ok c x hs h
    refine ⟨done_eq_of_vitals hs (discardPacket_of_receives h) (header_vitals ..), fun hb => ?_, fun hb hc => ?_⟩
    · exact done_eq_of_vitals hs (longPacket_of_blank h hb) (longHead_vitals ..)
    · exact done_eq_of_vitals hs (longPacket_of_unclaimed h hb hc) ((unmatched_vitals ..).trans (longHead_vitals ..))
  · intro s p vc dt data ok c x i e r hs h hb hc hrx hdt
    refine done_eq_of_vitals hs (longPacket_of_other_type h hb hc hrx hdt) ?_
    exact (event_vitals ..).trans ((bump_vitals ..).trans (longHead_vitals ..))
  · intro s p vc dt data ok c x i e r n hs h hb hc hrx hdt hnum hf hn hlt
    subst hn
    have hrow := longPacket_of_row (data := data) (ok := ok) h hb hc hrx hdt
    have hport : i / 4 = p.val := claim_port hc
    set u := s.longHead p c x with hu
    have huv : u.vitals = s.vitals := longHead_vitals ..
    have hux : u.slot i = s.slot i := longHead_slot ..
    have hrx' : (u.slot i).rx = some r := hux ▸ hrx
    refine ⟨fun hfull hok hpx hw => ?_, fun hfull hok => ?_, fun hfull => ?_⟩
    · subst hok
      rw [payload_placed hrx' hnum hlt (hux ▸ hfull) hpx hw, hux] at hrow
      have hv : ((u.markLine i e).putRow i (r.lineUsed e) ⟨(s.slot i).count, e, r.next.getD e 0, unpack dt data, false, false⟩).vitals =
          s.vitals := by rw [putRow_vitals, markLine_vitals, huv]
      exact ⟨_, _, done_eq_of_vitals hs hrow hv, putRow_rx .., rfl, rfl, rfl, sameMemory_of_vitals hv⟩
    · subst hok
      rw [payload_substituted hrx' hnum hlt (hux ▸ hfull), hux] at hrow
      set v := ((u.crcFailed p i).markLine i e).putRow i (r.failedOne.lineUsed e)
        (substitute (s.slot i).count (r.failedOne.lineUsed e) e (r.next.getD e 0)) with hvdef
      have hv : (v.bump (slotReg i).1 (slotReg i).2 16 16 1).vitals = s.vitals := by
        rw [bump_vitals, hvdef, putRow_vitals, markLine_vitals, crcFailed_vitals, huv]
      have hreg : ∀ q, (v.bump (slotReg i).1 (slotReg i).2 16 16 1).reg q 0x10 = (u.crcFailed p i).reg q 0x10 := fun q => by
        have := slotReg_bounds i
        rw [bump_reg_low _ _ _ _ (by omega) (by omega) (by decide), hvdef, putRow_reg, markLine_reg]
      obtain ⟨hcrc, hflt⟩ := crcFailed_events u p i
      refine ⟨_, _, done_eq_of_vitals hs hrow hv, (congrArg Slot.rx (bump_slot ..)).trans (putRow_rx ..), ?_, rfl, ?_, ?_,
        sameMemory_of_vitals hv⟩
      · obtain ⟨hexp, hindex⟩ := substitute_place (s.slot i).count (r.failedOne.lineUsed e) e (r.next.getD e 0)
        rw [RxFrame.placed, hexp, hindex]
        rfl
      · rw [hreg, hcrc]
      · rw [hreg, hflt]
    · obtain ⟨v, hvv, hvf, hover⟩ := payload_overflow (data := data) (dt := dt) (p := p) hrx' hnum hlt (hux ▸ hfull)
        (by rw [hu, longHead_strm, hf]) ok
      obtain ⟨hnone, hidle, hvit, hevent⟩ := overflow_of_unfed hvf
      have hv := hvit.trans (hvv.trans huv)
      exact ⟨_, done_eq_of_vitals hs (hrow.trans hover) hv, hnone, hidle, hport ▸ hevent, sameMemory_of_vitals hv⟩
  · intro s p hs h
    set t := forEach (slotsOf p) (fun i s => s.markRx i (·.failedOne)) (s.headerLost p) with ht
    have hreg : ∀ q o, t.reg q o = (s.headerLost p).reg q o := fun q o =>
      forEach_keeps (fun s => s.reg q o) _ _ (fun _ _ => markRx_reg ..) _
    have hv : t.vitals = s.vitals := (forEach_keeps State.vitals _ _ (fun _ _ => markRx_vitals ..) _).trans (headerLost_vitals ..)
    refine ⟨t, done_eq_of_vitals hs (badHeader_of_receives h) hv, fun n hn r hrx => ?_, ?_, ?_, sameMemory_of_vitals hv⟩
    · rw [ht, forEach_markRx_rx _ (slotsOf_nodup p), if_pos (mem_slotsOf p hn), headerLost_slot, hrx]
      rfl
    · rw [hreg, headerLost_event]
    · rw [hreg, headerLost_cause]

end Sys2Proof.Machine
end

section
/-! SUPPORT. Parameter sets (R67, R76 to R79): what a write of PSET_COMMIT does, and the live words of a set that goes live. -/

namespace Sys2Proof.Machine

open Sys2Proof

/-! Staging values copied. -/

/-- Values of `g` written at the keys of a list: those keys read as `g` has them, the others as before. -/
theorem sget_foldl_sset {α : Type} [DecidableEq α] (d g : Nat → α) (l : List Nat) (m : Sparse α) (k : Nat) :
    sget d (l.foldl (fun m a => sset d m a (g a)) m) k = if k ∈ l then g k else sget d m k := by
  induction l generalizing m with
  | nil => simp
  | cons a l ih =>
    rw [List.foldl_cons, ih, sget_sset]
    by_cases hl : k ∈ l
    · simp [hl]
    · by_cases ha : k = a <;> simp [hl, ha]

@[simp] theorem reportCommits_live (s : State) : s.reportCommits.live = s.live := by
  unfold State.reportCommits
  dsimp only
  split
  · rfl
  · split
    · rw [event_live, setRfld_live]
    · rfl

/-- The live set of a stream whose pending commit goes live is its staged one (R77). -/
theorem goLive_live {s : State} {i a : Nat} (hpend : s.pendingOf i ≠ []) (ha : a ∈ psetAddrs i) :
    psWord (s.goLive i).live a = psWord s.regs a := by
  obtain ⟨c, hlast⟩ : ∃ c, (s.pendingOf i).getLast? = some c := ⟨_, List.getLast?_eq_some_getLast hpend⟩
  simp only [State.goLive, hlast, reportCommits_live, setRfld_live, setStrm_live, psWord, sget_foldl_sset, if_pos ha]

/-! Commits. -/

/-- A commit accepted with the sequence value `seq` waits for the streams that PSET_MASK names. -/
def State.commitAccepted (s : State) (seq : Nat) : State :=
  { s with pset := { s.pset with
      count := s.pset.count + 1
      commits := s.pset.commits ++ [⟨s.pset.count + 1, seq, s.clk.ptp, s.named⟩] } }

@[simp] theorem commitAccepted_vitals (s : State) (seq : Nat) : (s.commitAccepted seq).vitals = s.vitals := (rfl)
@[simp] theorem commitAccepted_regs (s : State) (seq : Nat) : (s.commitAccepted seq).regs = s.regs := rfl

/-- A stream that an accepted commit names has it pending. -/
theorem commitAccepted_pendingOf {s : State} {i : Nat} (hi : i ∈ s.named) (seq : Nat) : (s.commitAccepted seq).pendingOf i ≠ [] := by
  simp [State.pendingOf, State.commitAccepted, hi]

theorem commit_of_unnamed {s : State} (h : s.named = []) (seq : Nat) : s.commit seq = s.fail pgRfe 1 (1 + 256 * 0xFF) 0 := by
  simp [State.commit, h]

theorem commit_of_failing {s : State} {i : Nat} (h : s.named.find? (fun i => s.stageCase s.named i != 0) = some i) (seq : Nat) :
    s.commit seq = s.fail pgRfe 1 (s.stageCase s.named i + 256 * i) 0 := by
  have hne : s.named.isEmpty = false := List.isEmpty_eq_false_iff.2 (List.ne_nil_of_mem (List.mem_of_find?_eq_some h))
  simp [State.commit, hne, h]

/-- An accepted commit is pending for every stream named, and the disabled ones take it at once (R77). -/
theorem commit_of_accepted {s : State} (hne : s.named ≠ []) (hok : ∀ i ∈ s.named, s.stageCase s.named i = 0) (seq : Nat) :
    s.commit seq = forEach (s.named.filter fun i => !s.slotEn i) (fun i s => s.goLive i) (s.commitAccepted seq) := by
  have hfind : s.named.find? (fun i => s.stageCase s.named i != 0) = none :=
    List.find?_eq_none.2 fun i hi => by simp [hok i hi]
  have hempty : s.named.isEmpty = false := List.isEmpty_eq_false_iff.2 hne
  simp [State.commit, hempty, hfind, State.commitAccepted]

/-- With every stream named enabled, an accepted commit only becomes pending. -/
theorem commit_of_enabled {s : State} (hne : s.named ≠ []) (hok : ∀ i ∈ s.named, s.stageCase s.named i = 0 ∧ s.slotEn i = true)
    (seq : Nat) : s.commit seq = s.commitAccepted seq := by
  have hnone : (s.named.filter fun i => !s.slotEn i) = [] := List.filter_eq_nil_iff.2 fun i hi => by simp [(hok i hi).2]
  rw [commit_of_accepted hne fun i hi => (hok i hi).1, hnone, forEach_nil]

/-- An accepted commit of one disabled stream goes live at once. -/
theorem commit_of_disabled {s : State} {i : Nat} (hnamed : s.named = [i]) (hok : s.stageCase [i] i = 0) (hen : s.slotEn i = false)
    (seq : Nat) : s.commit seq = (s.commitAccepted seq).goLive i := by
  rw [commit_of_accepted (by simp [hnamed]) (by simpa [hnamed] using hok)]
  simp [hnamed, hen]

/-! Writes of staging words and of curve tables. -/

/-- A write of a staging word other than STREAMn_CFG has no effect beyond `State.stage`. -/
theorem execStageWrite_of_stream {a i : Nat} (ha : stageStream a = some i) (hcfg : a ≠ camA i) (w : Word) (s : State) :
    execStageWrite a w s = done (s.stage i a w) := by
  simp only [execStageWrite, ha, State.stageAt, if_neg hcfg]

theorem curveWrite_vitals (s : State) (t k : Nat) (w : Word) : (s.curveWrite t k w).vitals = s.vitals := by
  unfold State.curveWrite
  split
  · exact fail_vitals ..
  · rfl

/-- Settles O16: a commit by the lemma for its outcome and `goLive_live`, and the writes of a staging word and of a curve table, which
leave the vitals. -/
theorem parameterSets : Obligations.ParameterSets := by
  unfold Obligations.ParameterSets
  refine ⟨?_, ?_, ?_, ?_, ?_, ?_⟩
  · intro s w hs h
    exact done_eq_of_vitals hs (commit_of_unnamed h _) (fail_vitals ..)
  · intro s w i hs h
    exact done_eq_of_vitals hs (commit_of_failing h _) (fail_vitals ..)
  · intro s w hs hne hok
    exact done_eq_of_vitals hs (commit_of_enabled hne hok _) (commitAccepted_vitals ..)
  · intro s w i hs hnamed hok hen
    have hv : ((s.commitAccepted (fld w 0 16)).goLive i).vitals = s.vitals := (goLive_vitals ..).trans (commitAccepted_vitals ..)
    exact ⟨_, done_eq_of_vitals hs (commit_of_disabled hnamed hok hen _) hv,
      fun a ha => goLive_live (commitAccepted_pendingOf (by simp [hnamed]) _) ha, sameMemory_of_vitals hv⟩
  · intro s a i w hs ha hcfg mask v
    exact (execStageWrite_of_stream ha hcfg w s).trans (done_of_vitals hs (stage_vitals ..))
  · intro s c k w hs v
    exact done_of_vitals hs (curveWrite_vitals ..)

end Sys2Proof.Machine
end

section
/-! SUPPORT. What a command can answer (R84, R314): a next state, or a refusal of its form. -/

namespace Sys2Proof.Machine

open Sys2Proof

/-- The end of a command is a next state. -/
theorem completes_done (s : State) : completes (done s) := ⟨_, rfl⟩

/-! Commands that choose between several next states. -/

theorem completes_execMergeDrain (page : Nat) (found : DrainFinds) (s : State) : completes (execMergeDrain page found s) := by
  unfold execMergeDrain
  dsimp only
  split
  · exact completes_done _
  · exact completes_done _
  · split <;> exact completes_done _

theorem completes_execReconstructDone (page : Nat) (s : State) : completes (execReconstructDone page s) := by
  unfold execReconstructDone
  dsimp only
  split <;> exact completes_done _

theorem completes_execSpareCopyDone (page : Nat) (s : State) : completes (execSpareCopyDone page s) := by
  unfold execSpareCopyDone
  dsimp only
  split <;> exact completes_done _

theorem completes_execScrubVisit (upsets : List (Nat × Nat)) (s : State) : completes (execScrubVisit upsets s) := by
  unfold execScrubVisit
  dsimp only
  split
  · split
    · exact completes_done _
    · split
      · exact completes_done _
      · split <;> exact completes_done _
  · exact completes_done _

theorem completes_execBurnDone (s : State) : completes (execBurnDone s) := by
  unfold execBurnDone
  dsimp only
  split <;> exact completes_done _

theorem completes_execImportDone (s : State) : completes (execImportDone s) := by
  unfold execImportDone
  dsimp only
  split <;> exact completes_done _

/-! Commands whose operands may have a form that no event has (log 93). -/

/-- A command that asks for a form answers a next state where it has it and refuses itself by name elsewhere. -/
theorem answers_of_guard {b : Bool} {p : Prop} [Decidable p] (hb : b = true ↔ p) (m : String)
    {o : Host.Outcome State Fault Refusal} (ho : completes o) :
    if b then completes (if p then o else .refused (.illFormed m))
    else ∃ m', (if p then o else .refused (.illFormed m)) = Host.Outcome.refused (Refusal.illFormed m') := by
  by_cases hp : p
  · rw [if_pos (hb.2 hp), if_pos hp]
    exact ho
  · rw [if_neg (fun h => hp (hb.1 h)), if_neg hp]
    exact ⟨m, rfl⟩

/-- Settles O57: the commands that ask for a form do so as `Instr.wf` does (log 93), and every other command ends with `done`. -/
theorem everyCommandCompletes : Obligations.EveryCommandCompletes := by
  unfold Obligations.EveryCommandCompletes
  intro c s
  cases c
  case dramRead req leaf a upsets =>
    refine answers_of_guard Iff.rfl "DRAM_READ" ?_
    split
    · exact completes_done _
    · dsimp only
      split
      · exact completes_done _
      · split <;> exact completes_done _
  case dramWrite req leaf a bytes =>
    refine answers_of_guard Iff.rfl "DRAM_WRITE" ?_
    split
    · exact completes_done _
    · dsimp only
      split <;> exact completes_done _
  case dramInvalidate req a n =>
    refine answers_of_guard Iff.rfl "DRAM_INVALIDATE" ?_
    dsimp only
    split
    · exact completes_done _
    · split <;> exact completes_done _
  case dmaAccessTimeout d a => exact answers_of_guard decide_eq_true_iff "DMA_ACCESS_TIMEOUT" (completes_done _)
  case linkTransferError d a => exact answers_of_guard decide_eq_true_iff "LINK_TRANSFER_ERROR" (completes_done _)
  case thermalSample t => exact answers_of_guard decide_eq_true_iff "THERMAL_SAMPLE" (completes_done _)
  case stageWrite a w =>
    change if (stageStream a).isSome then completes (execStageWrite a w s) else ∃ m, execStageWrite a w s = .refused (.illFormed m)
    unfold execStageWrite
    cases stageStream a with
    | some i => exact completes_done _
    | none => exact ⟨_, rfl⟩
  case mergeDrain page found => exact completes_execMergeDrain page found s
  case reconstructDone page => exact completes_execReconstructDone page s
  case spareCopyDone page => exact completes_execSpareCopyDone page s
  case scrubVisit upsets => exact completes_execScrubVisit upsets s
  case burnDone => exact completes_execBurnDone s
  case importDone => exact completes_execImportDone s
  all_goals exact completes_done _

end Sys2Proof.Machine
end

section
/-! SUPPORT. The queues of an engine's units (Table 05-4, R83, R85, R89): writing an engine twice, when nothing can start, and how a
command of an idle engine runs. -/

namespace Sys2Proof.Machine

open Sys2Proof

/-! Maps written twice. -/

section Sparse

variable {α : Type}

theorem sdrop_sput (m : Sparse α) (k : Nat) (v : α) : sdrop (sput m k v) k = sdrop m k := by
  induction m with
  | nil => simp [sput, sdrop]
  | cons p m ih =>
    obtain ⟨j, w⟩ := p
    by_cases hlt : j < k
    · simp [sput, sdrop, hlt, hlt.ne, ih]
    · simp [sput, sdrop, hlt]

theorem sdrop_sdrop (m : Sparse α) (k : Nat) : sdrop (sdrop m k) k = sdrop m k := by
  induction m with
  | nil => rfl
  | cons p m ih =>
    obtain ⟨j, w⟩ := p
    by_cases h : j = k <;> simp [sdrop, h, ih]

/-- Of two values written to a key the second one stays. -/
theorem sset_sset [DecidableEq α] (d : Nat → α) (m : Sparse α) (k : Nat) (v w : α) : sset d (sset d m k v) k w = sset d m k w := by
  have h : sdrop (sset d m k v) k = sdrop m k := by
    unfold sset
    split
    · exact sdrop_sdrop m k
    · rw [sdrop_sput, sdrop_sdrop]
  rw [sset, h]
  rfl

end Sparse

@[simp] theorem setEng_setEng (s : State) (e : Nat) (v w : Engine) : (s.setEng e v).setEng e w = s.setEng e w := by
  simp only [State.setEng, sset_sset]

/-! What an engine's accesses look at is not its engine. `(rfl)` stands in parentheses so that simp rewrites with these
lemmas and the kernel need not compare the states. -/

@[simp] theorem setEng_region (s : State) (e : Nat) (v : Engine) (t r : Nat) : (s.setEng e v).region t r = s.region t r := (rfl)
@[simp] theorem setEng_addrOf (s : State) (e : Nat) (v : Engine) (t : Nat) (p : Place) : (s.setEng e v).addrOf t p = s.addrOf t p := (rfl)
@[simp] theorem setEng_lines (s : State) (e : Nat) (v : Engine) (t : Nat) (p : Place) (n : Nat) :
    (s.setEng e v).lines t p n = s.lines t p n := (rfl)
@[simp] theorem setEng_mayUse (s : State) (e : Nat) (v : Engine) (j : Nat) (d : Region) : (s.setEng e v).mayUse j d = s.mayUse j d := (rfl)
@[simp] theorem setEng_bgroup (s : State) (e : Nat) (v : Engine) (t g : Nat) : (s.setEng e v).bgroup t g = s.bgroup t g := (rfl)
@[simp] theorem setEng_badWords (s : State) (e : Nat) (v : Engine) (t : Nat) (l : List (Nat × Place × Nat)) :
    (s.setEng e v).badWords t l = s.badWords t l := (rfl)
@[simp] theorem setEng_spanFault (s : State) (e : Nat) (v : Engine) (t j : Nat) (wr : Bool) (r : Nat × Place × Nat) :
    (s.setEng e v).spanFault t j wr r = s.spanFault t j wr r := by
  simp only [State.spanFault, setEng_region, setEng_addrOf, setEng_mayUse, setEng_bgroup]

/-! The queues of an engine. -/

/-- A queue replaced changes that queue alone. -/
theorem engSetQueue_eq (g : Engine) (u : EngUnit) (l : List Issued) : g.setQueue u l =
    { g with matrixQ := if u = .matrix then l else g.matrixQ
             vectorQ := if u = .vector then l else g.vectorQ
             moverQ := if u = .mover then l else g.moverQ } := by cases u <;> rfl

theorem engSetQueue_queue (g : Engine) (u v : EngUnit) (l : List Issued) : (g.setQueue u l).queue v = if u = v then l else g.queue v := by
  cases u <;> cases v <;> rfl

/-- Every command in the queues of an engine has been started. -/
def Engine.allStarted (g : Engine) : Prop := ∀ u, ∀ c ∈ g.queue u, c.started = true

theorem allStarted_of_queues {g h : Engine} (hq : ∀ u, ∀ c ∈ h.queue u, c ∈ g.queue u) (hg : g.allStarted) : h.allStarted :=
  fun u c hc => hg u c (hq u c hc)

/-- What a stopped stripe leaves in the queues was in them. -/
theorem mem_queue_of_halt (g : Engine) (u : EngUnit) (c : Issued) (h : c ∈ g.halt.queue u) : c ∈ g.queue u := by
  cases u <;> exact List.mem_of_mem_filter h

theorem mem_queue_of_abandon (g : Engine) (k : Nat) (l : List Nat) (u : EngUnit) (c : Issued) (h : c ∈ (g.abandon k l).queue u) :
    c ∈ g.queue u := mem_queue_of_halt g u c (by cases u <;> exact h)

/-! What starts. -/

section Start

variable {s : State} {e : Nat}

/-- A unit all of whose commands have been started starts none. -/
theorem startNext_of_started {u : EngUnit} (h : ∀ c ∈ (s.eng e).queue u, c.started = true) : s.startNext e u = s := by
  have hnone : ((s.eng e).queue u).dropWhile (·.started) = [] := List.dropWhile_eq_nil_iff.2 h
  unfold State.startNext
  simp only [hnone]
  cases (s.eng e).running <;> rfl

/-- No line goes onto the ring while the mover's first command is no started PUT. -/
theorem sendPut_of_no_put (h : ∀ c l, (s.eng e).moverQ = c :: l → c.started = false ∨ c.cmd.isPut = false) : s.sendPut e = s := by
  unfold State.sendPut
  dsimp only
  split
  · rename_i c l hq
    split
    · rename_i p hp
      rcases h c l hq with hc | hc
      · simp [hc]
      · simp [hp, UnitCmd.isPut] at hc
    · rfl
  · rfl

/-- An engine whose commands have all been started, and which has no PUT in its mover, starts nothing. -/
theorem pump_of_started (h : (s.eng e).allStarted) (hput : ∀ c l, (s.eng e).moverQ = c :: l → c.cmd.isPut = false) : s.pump e = s := by
  have hu : ∀ u, s.startNext e u = s := fun u => startNext_of_started (h u)
  simp only [State.pump, sendPut_of_no_put fun c l hq => .inr (hput c l hq), List.foldl_cons, List.foldl_nil, hu]

/-- An engine with empty queues starts nothing. -/
theorem pump_of_empty (h : ∀ u, (s.eng e).queue u = []) : s.pump e = s :=
  pump_of_started (fun u c hc => by simp [h u] at hc) fun c l hq => by
    have hm : (s.eng e).moverQ = [] := h .mover
    simp [hm] at hq

/-- With one command waiting, what its unit starts is all that the engine does. -/
theorem pump_of_one {u : EngUnit} (hone : ∀ v, v ≠ u → (s.eng e).queue v = []) (hsend : s.sendPut e = s)
    (hend : ((s.startNext e u).eng e).allStarted) : s.pump e = s.startNext e u := by
  have hother : ∀ v, v ≠ u → s.startNext e v = s := fun v hv => startNext_of_started (by simp [hone v hv])
  have hafter : ∀ v, (s.startNext e u).startNext e v = s.startNext e u := fun v => startNext_of_started (hend v)
  simp only [State.pump, hsend, List.foldl_cons, List.foldl_nil]
  cases u
  · simp only [hafter]
  · simp only [hother .matrix (by decide), hafter]
  · simp only [hother .matrix (by decide), hother .vector (by decide), hafter]

end Start

/-! A command of an idle engine (R89). -/

/-- The lines that a command has to send. -/
def UnitCmd.toSend : UnitCmd → Nat
  | .put p => p.lines
  | _ => 0

/-- The state once engine e has issued command c, before it starts. -/
def State.issued (s : State) (e : Nat) (x : Exec) (c : UnitCmd) : State :=
  let g := s.eng e
  s.setEng e { g.setQueue c.unit [⟨g.issue, c, false, c.toSend⟩] with issue := g.issue + 1, exec := some { x with stripeTack := false } }

/-- What a command reads depends on the weight buffers of its engine alone. -/
theorem reads_congr {g h : Engine} (h0 : h.buf0 = g.buf0) (h1 : h.buf1 = g.buf1) (ha : h.activeBuf = g.activeBuf) (c : UnitCmd) :
    c.reads h = c.reads g := by
  cases c <;> simp only [UnitCmd.reads, h0, h1, ha]

/-- A stripe that executes may go on after a command without a STRIPE tack. -/
theorem running_stripeTack {g h : Engine} {x : Exec} (hr : g.running = some x) (hx : h.exec = some { x with stripeTack := false })
    (hf : h.frozen = g.frozen) (hn : h.fenced = g.fenced) (ht : h.resetting = g.resetting) :
    h.running = some { x with stripeTack := false } := by
  unfold Engine.running at hr ⊢
  rw [hx, hf, hn, ht]
  split at hr
  · split at hr
    · exact absurd hr nofun
    · rename_i hgo
      obtain rfl := Option.some.inj hr
      simp only [if_neg hgo]
  · exact absurd hr nofun

theorem exec_of_running {g : Engine} {x : Exec} (h : g.running = some x) : g.exec = some x ∧ x.abandoned = false := by
  unfold Engine.running at h
  split at h
  · split at h
    · exact absurd h nofun
    · rename_i y hy hgo
      obtain rfl := Option.some.inj h
      simp only [Bool.or_eq_true, not_or, Bool.not_eq_true] at hgo
      exact ⟨hy, hgo.1.1.1⟩
  · exact absurd h nofun

/-- A command alone in the queues of its engine may start (R83, R85). -/
theorem mayStart_alone {g : Engine} {c : UnitCmd} (n m : Nat) (hother : ∀ v, v ≠ c.unit → g.queue v = []) :
    g.mayStart [] ⟨n, c, false, m⟩ = true := by
  cases c with
  | mm c =>
    have hv : g.vectorQ = [] := hother .vector (by simp [UnitCmd.unit])
    simp [Engine.mayStart, hv]
  | drain c =>
    have hm : g.matrixQ = [] := hother .matrix (by simp [UnitCmd.unit])
    simp [Engine.mayStart, hm]
  | _ => rfl

section Idle

variable {s : State} {e : Nat} {x : Exec} {c : UnitCmd} (h : s.idleFor e x c)

include h

/-- The issued command waits alone in its unit's queue. -/
theorem issued_queue (v : EngUnit) : ((s.issued e x c).eng e).queue v = if c.unit = v then [⟨(s.eng e).issue, c, false, c.toSend⟩] else [] := by
  obtain ⟨-, -, -, -, hq, -⟩ := h
  have hv : ((s.issued e x c).eng e).queue v = ((s.eng e).setQueue c.unit [⟨(s.eng e).issue, c, false, c.toSend⟩]).queue v := by
    simp only [State.issued, setEng_eng, if_pos]
    cases v <;> rfl
  rw [hv, engSetQueue_queue, hq v]

/-- The unit starts the issued command: the state is `State.starting`, and the command has its effect. -/
theorem startNext_issued : (s.issued e x c).startNext e c.unit =
    (((s.starting e x c c.toSend).runCmd e c).sendPut e).checkCmd e c := by
  have hqueue := issued_queue h
  obtain ⟨hrun, hsig, hslip, htack, hq, hneed, hland, hbad, hreads, hwrites⟩ := h
  set t := s.issued e x c with ht
  have hg : t.eng e = { (s.eng e).setQueue c.unit [⟨(s.eng e).issue, c, false, c.toSend⟩] with
      issue := (s.eng e).issue + 1, exec := some { x with stripeTack := false } } := by simp [ht, State.issued]
  have hrunning : (t.eng e).running = some { x with stripeTack := false } :=
    running_stripeTack hrun (by rw [hg]) (by rw [hg, engSetQueue_eq]) (by rw [hg, engSetQueue_eq]) (by rw [hg, engSetQueue_eq])
  have hr : c.reads (t.eng e) = c.reads (s.eng e) :=
    reads_congr (by rw [hg, engSetQueue_eq]) (by rw [hg, engSetQueue_eq]) (by rw [hg, engSetQueue_eq]) c
  have hmay : (t.eng e).mayStart [] ⟨(s.eng e).issue, c, false, c.toSend⟩ = true :=
    mayStart_alone _ _ fun v hv => by rw [hqueue v, if_neg hv.symm]
  have hlanded : t.landed e c = true := by
    have hsb : (t.eng e).sb = (s.eng e).sb := by rw [hg, engSetQueue_eq]
    simp only [State.landed, hr, hsb]
    exact hland
  have hspans : (((c.reads (t.eng e)).map fun r => (false, r)) ++ (c.writes.map fun w => (true, w))).findSome?
      (fun r => (t.spanFault e x.work.job r.1 r.2).map fun f => (r.2, f)) = none := by
    rw [hr, List.findSome?_eq_none_iff]
    intro r hmem
    rw [List.mem_append, List.mem_map, List.mem_map] at hmem
    rcases hmem with ⟨y, hy, rfl⟩ | ⟨y, hy, rfl⟩
    · rw [ht, State.issued, setEng_spanFault, hreads y hy, Option.map_none]
    · rw [ht, State.issued, setEng_spanFault, hwrites y hy, Option.map_none]
  have hwords : t.badWords e (c.reads (t.eng e)) = none := by
    rw [hr, ht, State.issued, setEng_badWords, hbad]
  have hstart : t.setEng e { (t.eng e).setQueue c.unit [⟨(s.eng e).issue, c, true, c.toSend⟩] with
      exec := some { x with stripeTack := false, slipFrom := none } } = s.starting e x c c.toSend := by
    rw [hg, ht]
    simp only [State.issued, State.starting, setEng_setEng]
    congr 1
    rw [← hslip]
    cases c.unit <;> rfl
  unfold State.startNext
  simp only [hrunning, hqueue, if_pos, List.takeWhile_cons, List.dropWhile_cons, Bool.false_eq_true, if_false, hmay, hlanded,
    Bool.and_self, hspans, hwords, List.nil_append, hslip, hstart]

end Idle

end Sys2Proof.Machine
end

section
/-! SUPPORT. Unit commands (R83 to R89, R101 to R103, R126 to R129, R144): what their data effects and checks leave of the queues, and
the run of a command that an idle engine issues. -/

namespace Sys2Proof.Machine

open Sys2Proof

/-! Results stored in the tile leave the engines. -/

@[simp] theorem putPos_engines (s : State) (t : Nat) (c : Conv) (r : Rounding) (dst : Place) (pitch p : Nat) (l : List Fl) :
    (s.putPos t c r dst pitch p l).engines = s.engines := by
  unfold State.putPos
  dsimp only
  split
  · rw [tileWrite_engines, forEach_keeps State.engines _ _ fun _ _ => tileWrite_engines ..]
  · rw [forEach_keeps State.engines _ _ fun _ _ => tileWrite_engines ..]

@[simp] theorem moveBits_engines (s : State) (t src sb dst db bits : Nat) : (s.moveBits t src sb dst db bits).engines = s.engines := by
  unfold State.moveBits State.setBits
  split <;> exact tileWrite_engines ..

@[simp] theorem fillSelvedge_engines (s : State) (t : Nat) (c : MoveCmd) (mode top bottom left right chans : Nat) (const : Word) (conv : Conv) :
    (s.fillSelvedge t c mode top bottom left right chans const conv).engines = s.engines := by
  unfold State.fillSelvedge
  refine forEach_keeps State.engines _ _ (fun r s => forEach_keeps State.engines _ _ (fun x s => ?_) s) s
  dsimp only
  split
  · rfl
  · split
    · split
      · rw [tileWrite_engines, forEach_keeps State.engines _ _ fun _ _ => tileWrite_engines ..]
      · rw [forEach_keeps State.engines _ _ fun _ _ => tileWrite_engines ..]
    · split
      · rw [tileWrite_engines, forEach_keeps State.engines _ _ fun _ _ => tileWrite_engines ..]
      · rw [forEach_keeps State.engines _ _ fun _ _ => tileWrite_engines ..]

@[simp] theorem runDrain_engines (s : State) (e : Nat) (c : DrainCmd) : (s.runDrain e c).engines = s.engines :=
  forEach_keeps State.engines _ _ (fun _ _ => putPos_engines ..) s

@[simp] theorem runVop_engines (s : State) (e : Nat) (c : VopCmd) : (s.runVop e c).engines = s.engines :=
  forEach_keeps State.engines _ _ (fun _ _ => putPos_engines ..) s

@[simp] theorem runVlut_engines (s : State) (e : Nat) (c : VlutCmd) : (s.runVlut e c).engines = s.engines :=
  forEach_keeps State.engines _ _ (fun _ _ => putPos_engines ..) s

@[simp] theorem runVred_engines (s : State) (e : Nat) (c : VredCmd) : (s.runVred e c).engines = s.engines := by
  unfold State.runVred
  dsimp only
  rw [drawn_engines]
  split
  · exact forEach_keeps State.engines _ _ (fun _ _ => putPos_engines ..) s
  · split
    · exact forEach_keeps State.engines _ _ (fun _ _ => putPos_engines ..) s
    · exact putPos_engines ..

@[simp] theorem runFft_engines (s : State) (e : Nat) (c : FftCmd) : (s.runFft e c).engines = s.engines :=
  forEach_keeps State.engines _ _ (fun _ s => forEach_keeps State.engines _ _ (fun _ _ => tileWrite_engines ..) s) s

/-- A change made at every position of a move leaves the engines when each does. -/
theorem forCells_engines (rows elems : Nat) (core : Option (Nat × Nat)) (f : Nat → Nat → State → State)
    (hf : ∀ r x s, (f r x s).engines = s.engines) (s : State) :
    (forEach (List.range rows) (fun r s => forEach (List.range elems) (fun x s =>
      if inCore core (r * elems + x) then f r x s else s) s) s).engines = s.engines :=
  forEach_keeps State.engines _ _ (fun r s => forEach_keeps State.engines _ _ (fun x s => by
    split
    · exact hf r x s
    · rfl) s) s

@[simp] theorem runMove_engines (s : State) (e : Nat) (c : MoveCmd) : (s.runMove e c).engines = s.engines := by
  have hmoves : ∀ (l : List Nat) (f : Nat → State → State), (∀ k s, (f k s).engines = s.engines) → ∀ s, (forEach l f s).engines = s.engines :=
    fun l f hf s => forEach_keeps State.engines l f hf s
  unfold State.runMove
  dsimp only
  split
  · exact forCells_engines _ _ _ _ (fun _ _ _ => moveBits_engines ..) s
  · exact forCells_engines _ _ _ _ (fun _ _ _ => moveBits_engines ..) s
  · exact forCells_engines _ _ _ _ (fun _ _ s => hmoves _ _ (fun _ _ => moveBits_engines ..) s) s
  · exact forCells_engines _ _ _ _ (fun _ _ s => hmoves _ _ (fun _ _ => moveBits_engines ..) s) s
  · exact forCells_engines _ _ _ _ (fun _ _ s => by
      rw [hmoves _ _ fun _ s => hmoves _ _ (fun _ _ => moveBits_engines ..) s, tileWrite_engines]) s
  · exact forCells_engines _ _ _ _ (fun _ _ _ => putPos_engines ..) s
  · exact fillSelvedge_engines ..

theorem eng_of_engines {s t : State} (h : t.engines = s.engines) (k : Nat) : t.eng k = s.eng k := by rw [State.eng, State.eng, h]

/-! Weights and accumulators leave the queues. -/

/-- Accumulator rows written leave everything else of the engine. -/
theorem setAccRows_keeps {β : Type} (v : Engine → β) (hv : ∀ g tile r l, v (g.setAccRow tile r l) = v g) (tile row0 : Nat)
    (row : List Word → Nat → List Word) (l : List Nat) (g : Engine) :
    v (l.foldl (fun g p => g.setAccRow tile (row0 + p) (row (g.accRow tile (row0 + p)) p)) g) = v g := by
  induction l generalizing g with
  | nil => rfl
  | cons p l ih => rw [List.foldl_cons, ih, hv]

/-- What an MM leaves of its engine: a part that neither the accumulator nor the choice of the buffer shows. -/
theorem runMm_keeps {β : Type} (v : Engine → β) (hacc : ∀ (g : Engine) a, v { g with acc := a } = v g)
    (hbuf : ∀ (g : Engine) b, v { g with activeBuf := b } = v g) (s : State) (e : Nat) (c : MmCmd) :
    v ((s.runMm e c).eng e) = v (s.eng e) := by
  have hend : (s.runMm e c).eng e = (List.range c.count).foldl (fun g p => g.setAccRow c.tile.val (c.row0 + p)
      (s.mmRow e s.free (if c.swap then { s.eng e with activeBuf := !(s.eng e).activeBuf } else s.eng e).active c
        (g.accRow c.tile.val (c.row0 + p)) p)) (if c.swap then { s.eng e with activeBuf := !(s.eng e).activeBuf } else s.eng e) := by
    simp only [State.runMm, drawn_eng, setEng_eng, if_pos]
  rw [hend, setAccRows_keeps v fun g _ _ _ => hacc g _]
  split
  · exact hbuf _ _
  · rfl

theorem runWset_keeps {β : Type} (v : Engine → β) (h0 : ∀ (g : Engine) b, v { g with buf0 := b } = v g)
    (h1 : ∀ (g : Engine) b, v { g with buf1 := b } = v g) (s : State) (e : Nat) (c : WsetCmd) :
    v ((s.runWset e c).eng e) = v (s.eng e) := by
  simp only [State.runWset, setEng_eng, if_pos]
  split
  · exact h0 _ _
  · exact h1 _ _

/-- The data effect of a command leaves the queues of its engine. -/
theorem runCmd_queue (s : State) (e : Nat) (c : UnitCmd) (u : EngUnit) : ((s.runCmd e c).eng e).queue u = (s.eng e).queue u := by
  cases c with
  | wset c => exact runWset_keeps (·.queue u) (fun _ _ => by cases u <;> rfl) (fun _ _ => by cases u <;> rfl) s e c
  | mm c => exact runMm_keeps (·.queue u) (fun _ _ => by cases u <;> rfl) (fun _ _ => by cases u <;> rfl) s e c
  | drain c => exact congrArg (·.queue u) (eng_of_engines (runDrain_engines s e c) e)
  | vop c => exact congrArg (·.queue u) (eng_of_engines (runVop_engines s e c) e)
  | vlut c => exact congrArg (·.queue u) (eng_of_engines (runVlut_engines s e c) e)
  | vred c => exact congrArg (·.queue u) (eng_of_engines (runVred_engines s e c) e)
  | fft c => exact congrArg (·.queue u) (eng_of_engines (runFft_engines s e c) e)
  | move c => exact congrArg (·.queue u) (eng_of_engines (runMove_engines s e c) e)
  | put c => rfl

/-! The lines of a PUT (R144). -/

/-- What counters of registers leave is left by the grants of the ring. -/
theorem grantRing_keeps {β : Type} (v : State → β) (hv : ∀ (s : State) p o l w n, v (s.bump p o l w n) = v s) (s : State)
    (t u leaf n : Nat) : v (s.grantRing t u leaf n) = v s := by
  have hgrant : ∀ (s : State) p i k l, v (s.grant p i k l) = v s := by
    intro s p i k l
    unfold State.grant
    dsimp only
    split
    · split
      · rw [hv, hv]
      · rw [hv]
    · rfl
  exact forEach_keeps v _ _ (fun _ s => by rw [forEach_keeps v _ _ fun _ _ => hgrant .., hgrant]) s

section Send

variable {s : State} {e : Nat} {c : Issued} {l : List Issued} {p : PutCmd}

/-- The lines that a started PUT can send now. -/
def State.sendable (s : State) (e : Nat) (c : Issued) (p : PutCmd) : Nat :=
  min c.waitCredits (sget (fun _ => 0) (s.eng e).credits (32 * p.tile.val + p.region.val))

/-- The `n` next lines of a PUT as they go onto the ring. -/
def State.putLines (s : State) (e : Nat) (c : Issued) (p : PutCmd) (n : Nat) : List RingLine :=
  (List.range n).map fun i => ⟨e, ((s.eng e).exec.map (·.run)).getD 0, p.region, (s.region p.tile p.region).base,
    p.line + (p.lines - c.waitCredits) + i, s.bytes (s.addrOf e p.src + 128 * (p.lines - c.waitCredits + i)) 128⟩

/-- An engine whose PUT has sent `n` lines. -/
def Engine.putSent (g : Engine) (c : Issued) (l : List Issued) (p : PutCmd) (n : Nat) : Engine :=
  { g with moverQ := { c with waitCredits := c.waitCredits - n } :: l
           credits := sset (fun _ => 0) g.credits (32 * p.tile.val + p.region.val)
             (sget (fun _ => 0) g.credits (32 * p.tile.val + p.region.val) - n)
           exec := g.exec.map fun x => { x with unacked := x.unacked + n } }

variable (hq : (s.eng e).moverQ = c :: l) (hc : c.cmd = .put p) (hstart : c.started = true)

include hq hc hstart

/-- A PUT without a line to send or a credit for one waits. -/
theorem sendPut_of_none (hn : s.sendable e c p = 0) : s.sendPut e = s := by
  unfold State.sendable at hn
  simp only [State.sendPut, hq, hc, hstart, hn, Nat.lt_irrefl, decide_false, Bool.and_false, Bool.false_eq_true, if_false]

/-- A PUT sends a line for each credit it has, as far as it has lines (R144). -/
theorem sendPut_of_some (hn : 0 < s.sendable e c p) : ∃ u : State, u.mem = s.mem ∧ u.tiles = s.tiles ∧
    (∀ k, u.eng k = if k = e then (s.eng e).putSent c l p (s.sendable e c p) else s.eng k) ∧
    s.sendPut e = u.setTile p.tile { s.tile p.tile with
      incoming := (s.tile p.tile).incoming ++ s.putLines e c p (s.sendable e c p) } := by
  let v := (s.setEng e ((s.eng e).putSent c l p (s.sendable e c p))).bump (pgSmem e) 0x114 0 32 (s.sendable e c p)
  let u := v.grantRing e p.tile.val (((s.eng e).exec.map fun x => x.work.leaf).getD 0) (s.sendable e c p)
  have hmem : u.mem = s.mem := grantRing_keeps State.mem (fun _ _ _ _ _ _ => bump_mem ..) ..
  have htiles : u.tiles = s.tiles := grantRing_keeps State.tiles (fun _ _ _ _ _ _ => bump_tiles ..) ..
  have heng : u.engines = v.engines := grantRing_keeps State.engines (fun _ _ _ _ _ _ => bump_engines ..) ..
  refine ⟨u, hmem, htiles, fun k => ?_, ?_⟩
  · rw [eng_of_engines heng, bump_eng, setEng_eng]
  · have htile : u.tile p.tile = s.tile p.tile := by rw [State.tile, State.tile, htiles]
    have hsend : s.sendPut e = u.setTile p.tile { u.tile p.tile with
        incoming := (u.tile p.tile).incoming ++ s.putLines e c p (s.sendable e c p) } := by
      obtain ⟨num, cmd, started, wait⟩ := c
      subst hc hstart
      unfold State.sendable at hn
      simp only [State.sendPut, hq, hn, decide_true, Bool.and_self, if_true]
      rfl
    rw [hsend, htile]

end Send

/-- Sending lines starts nothing and stops nothing. -/
theorem sendPut_allStarted {s : State} {e : Nat} (h : (s.eng e).allStarted) : ((s.sendPut e).eng e).allStarted := by
  by_cases hput : ∀ c l, (s.eng e).moverQ = c :: l → c.started = false ∨ c.cmd.isPut = false
  · rw [sendPut_of_no_put hput]
    exact h
  · push Not at hput
    obtain ⟨c, l, hq, hstart, hisput⟩ := hput
    have hst : c.started = true := h .mover c (by simp [Engine.queue, hq])
    obtain ⟨p, hp⟩ : ∃ p, c.cmd = .put p := by
      cases hc : c.cmd <;> simp_all [UnitCmd.isPut]
    rcases Nat.eq_zero_or_pos (s.sendable e c p) with hn | hn
    · rw [sendPut_of_none hq hp hst hn]
      exact h
    · obtain ⟨u, -, -, hu, hsend⟩ := sendPut_of_some hq hp hst hn
      rw [hsend, setTile_eng, hu, if_pos rfl]
      intro v d hd
      cases v
      · exact h .matrix d hd
      · exact h .vector d hd
      · rcases List.mem_cons.1 hd with rfl | hd
        · exact hst
        · exact h .mover d (by simp [Engine.queue, hq, hd])

/-! The checks of a command that has run (R86, R102, R103). -/

@[simp] theorem owe_eng (s : State) (d : Due) (k : Nat) : (s.owe d).eng k = s.eng k := (rfl)
@[simp] theorem owe_mem (s : State) (d : Due) : (s.owe d).mem = s.mem := (rfl)
@[simp] theorem owe_reg (s : State) (d : Due) (p o : Nat) : (s.owe d).reg p o = s.reg p o := (rfl)

/-- The check unit of an engine whose compare has reported a mismatch: the known-answer tests of the window's column run. -/
def Check.failing (c : Check) (forced : Bool) : Check := { c with kat := some c.window, forced := forced, inject := false }

theorem mismatch_eng (s : State) (e : Nat) (forced : Bool) (k : Nat) : (s.mismatch e forced).eng k =
    if k = e then { (s.eng e).abandon 3 [] with check := (s.eng e).check.failing forced } else s.eng k := by
  simp only [State.mismatch, fail_eng, bump_eng, setEng_eng]
  rfl

@[simp] theorem mismatch_mem (s : State) (e : Nat) (forced : Bool) : (s.mismatch e forced).mem = s.mem := by
  simp only [State.mismatch, fail_mem, bump_mem, setEng_mem]

theorem accParity_eng (s : State) (e tile row col k : Nat) : (s.accParity e tile row col).eng k =
    if k = e then (s.eng e).abandon 2 [] else s.eng k := by
  simp only [State.accParity, cause_eng, event_eng, setReg_eng, bump_eng, setEng_eng]

/-- The times of an engine's errors within the last second, with one now (class 0x0A, 0x0B). -/
def State.errorTimes (s : State) (e : Nat) : List Nat :=
  ((s.eng e).scalarErrs.filter fun t => decide (s.clk.up < t + 1000000000)) ++ [s.clk.up]

theorem datapathError_eng (s : State) (e cls k : Nat) : (s.datapathError e cls).eng k =
    if k = e then { (s.eng e).abandon cls [] with scalarErrs := s.errorTimes e } else s.eng k := by
  simp only [State.datapathError]
  split
  · simp only [owe_eng, setEng_eng]
    rfl
  · simp only [setEng_eng]
    rfl

/-- The checks of a command leave of the queues what they stop or all of it. -/
theorem checkCmd_allStarted {s : State} {e : Nat} (c : UnitCmd) (h : (s.eng e).allStarted) : ((s.checkCmd e c).eng e).allStarted := by
  have hkeep : ∀ {g h : Engine} (k : Nat), g.allStarted → (∀ u, h.queue u = (g.abandon k []).queue u) → h.allStarted := fun k hg hq =>
    allStarted_of_queues (fun u c hc => mem_queue_of_abandon _ k [] u c (hq u ▸ hc)) hg
  have hmis : ∀ b, ((s.mismatch e b).eng e).allStarted := fun b => by
    rw [mismatch_eng, if_pos rfl]
    exact hkeep 3 h fun u => by cases u <;> rfl
  have hacc : ∀ {s : State} t r k, (s.eng e).allStarted → ((s.accParity e t r k).eng e).allStarted := fun t r k hs => by
    rw [accParity_eng, if_pos rfl]
    exact hkeep 2 hs fun _ => rfl
  cases c with
  | mm m =>
    simp only [State.checkCmd]
    have hs1 : ((if (s.eng e).check.compares && ((s.eng e).check.inject || s.gussetDiffers e m) then
        s.mismatch e (s.eng e).check.inject else s).eng e).allStarted := by
      split
      · exact hmis _
      · exact h
    split
    · split
      · exact hacc _ _ _ hs1
      · exact hs1
    · exact hs1
  | drain d =>
    simp only [State.checkCmd]
    split
    · exact hacc _ _ _ h
    · exact h
  | vop v =>
    simp only [State.checkCmd]
    split
    · rw [datapathError_eng, if_pos rfl]
      exact hkeep 0x0A h fun u => by cases u <;> rfl
    · exact h
  | _ => exact h

/-! The run of a command (R89). -/

section Idle

variable {s : State} {e : Nat} {x : Exec} {c : UnitCmd} (h : s.idleFor e x c)

include h

theorem starting_queue (n : Nat) (v : EngUnit) :
    ((s.starting e x c n).eng e).queue v = if c.unit = v then [⟨(s.eng e).issue, c, true, n⟩] else [] := by
  obtain ⟨-, -, -, -, hq, -⟩ := h
  have hv : ((s.starting e x c n).eng e).queue v = ((s.eng e).setQueue c.unit [⟨(s.eng e).issue, c, true, n⟩]).queue v := by
    simp only [State.starting, setEng_eng, if_pos]
    cases v <;> rfl
  rw [hv, engSetQueue_queue, hq v]

theorem starting_allStarted (n : Nat) : ((s.starting e x c n).eng e).allStarted := by
  intro v d hd
  rw [starting_queue h] at hd
  split at hd
  · rw [List.mem_singleton.1 hd]
  · exact absurd hd List.not_mem_nil

/-- A command that an idle engine issues runs at once: it starts, sends what it can, and is checked. -/
theorem issueCmd_of_idle :
    s.issueCmd e c = (((s.starting e x c c.toSend).runCmd e c).sendPut e).checkCmd e c := by
  have hend : (((((s.starting e x c c.toSend).runCmd e c).sendPut e).checkCmd e c).eng e).allStarted :=
    checkCmd_allStarted c <| sendPut_allStarted fun u d hd =>
      starting_allStarted h _ u d (runCmd_queue (s.starting e x c c.toSend) e c u ▸ hd)
  have hissue : s.issueCmd e c = (s.issued e x c).pump e := by
    obtain ⟨hrun, hsig, -, htack, hq, hneed, -⟩ := h
    have hidle : ((s.eng e).tack.isSome || x.signalled || c.needless || decide (16 ≤ ((s.eng e).queue c.unit).length)) = false := by
      simp [htack, hsig, hneed, hq]
    unfold State.issueCmd
    simp only [hrun]
    rw [if_neg (by rw [hidle]; decide), hq, List.nil_append]
    cases c <;> rfl
  have hsend : (s.issued e x c).sendPut e = s.issued e x c := sendPut_of_no_put fun d l hd => by
    have hm := issued_queue h .mover
    simp only [Engine.queue, hd] at hm
    split at hm
    · exact .inl (by rw [(List.cons.inj hm).1])
    · exact absurd hm nofun
  rw [hissue, pump_of_one (u := c.unit) (fun v hv => by rw [issued_queue h v, if_neg hv.symm]) hsend (by rwa [startNext_issued h]),
    startNext_issued h]

/-- A command that is no PUT sends nothing. -/
theorem issueCmd_of_no_put (hput : c.isPut = false) : s.issueCmd e c = ((s.starting e x c 0).runCmd e c).checkCmd e c := by
  have h0 : c.toSend = 0 := by
    cases c with
    | put p => exact absurd hput (by simp [UnitCmd.isPut])
    | _ => rfl
  rw [issueCmd_of_idle h, h0, sendPut_of_no_put]
  intro d l hd
  have hm := starting_queue h 0 .mover
  rw [← runCmd_queue (s.starting e x c 0) e c .mover] at hm
  simp only [Engine.queue, hd] at hm
  split at hm
  · exact .inr (by rw [(List.cons.inj hm).1]; exact hput)
  · exact absurd hm nofun

end Idle

end Sys2Proof.Machine
end

section
/-! SUPPORT. What the units compute of an idle engine's operands (R83, R84, R87, R88, R113 to R129): reads that do not look at the engine,
and bytes stored in its tile. -/

namespace Sys2Proof.Machine

open Sys2Proof

/-! Memory after a write to a tile. -/

theorem byte_of_mem {s t : State} (h : t.mem = s.mem) (a : Nat) : t.byte a = s.byte a := by rw [State.byte, State.byte, h]

theorem sameMemory_of_mem {s t : State} (h : t.mem = s.mem) : s.sameMemory t := byte_of_mem h

/-- Bytes written to a tile lie where they were written, and every other byte is as before. -/
theorem tileWrite_byte (s : State) (t a : Nat) (l : List Byte) (x : Nat) :
    (s.tileWrite t a l).byte x = if a ≤ x ∧ x < a + l.length then l.getD (x - a) 0 else s.byte x := setBytes_byte s a l x

theorem tileWrite_stores (s : State) (t a : Nat) (l : List Byte) : s.stores (s.tileWrite t a l) a l := by
  refine ⟨List.ext_getElem (by simp [State.bytes]) fun i hi hl => ?_, fun x hx => ?_⟩
  · simp only [State.bytes, List.getElem_map, List.getElem_range, tileWrite_byte]
    rw [if_pos (by omega), Nat.add_sub_cancel_left, List.getD_eq_getElem _ _ hl]
  · rw [tileWrite_byte, if_neg hx]

/-- What is stored after a change that leaves memory, and left alone by another one, is stored between the outer states. -/
theorem stores_of_mem {s s' t t' : State} {a : Nat} {l : List Byte} (h : s'.stores t a l) (hs : s'.mem = s.mem) (ht : t'.mem = t.mem) :
    s.stores t' a l := by
  have hb := byte_of_mem ht
  have hbytes : ∀ n, t'.bytes a n = t.bytes a n := fun n => by simp only [State.bytes, hb]
  refine ⟨(hbytes _).trans h.1, fun x hx => ?_⟩
  · rw [hb, h.2 x hx, byte_of_mem hs]

/-! Reads of the operands. `(rfl)` stands in parentheses so that simp rewrites with these lemmas and the kernel need not compare the
states. -/

@[simp] theorem setEng_mem' (s : State) (e : Nat) (v : Engine) : (s.setEng e v).mem = s.mem := (rfl)
@[simp] theorem setEng_byte (s : State) (e : Nat) (v : Engine) (a : Nat) : (s.setEng e v).byte a = s.byte a := (rfl)
@[simp] theorem setEng_bytes (s : State) (e : Nat) (v : Engine) (a n : Nat) : (s.setEng e v).bytes a n = s.bytes a n := (rfl)
@[simp] theorem setEng_bitsAt (s : State) (e : Nat) (v : Engine) (a b n : Nat) : (s.setEng e v).bitsAt a b n = s.bitsAt a b n := by
  simp only [State.bitsAt, setEng_bytes]
@[simp] theorem setEng_code (s : State) (e : Nat) (v : Engine) (t : Nat) (a : Arr) (p k : Nat) :
    (s.setEng e v).code t a p k = s.code t a p k := by
  simp only [State.code, setEng_bitsAt, setEng_byte, setEng_addrOf]
@[simp] theorem setEng_elem (s : State) (e : Nat) (v : Engine) (t : Nat) (a : Arr) (p k : Nat) :
    (s.setEng e v).elem t a p k = s.elem t a p k := by
  simp only [State.elem, setEng_code]
@[simp] theorem setEng_f32At (s : State) (e : Nat) (v : Engine) (t : Nat) (p : Place) (i : Nat) :
    (s.setEng e v).f32At t p i = s.f32At t p i := by
  simp only [State.f32At, setEng_bytes, setEng_addrOf]
@[simp] theorem setEng_drainWord (s : State) (e : Nat) (v : Engine) (t d : Nat) (tabs : List (List Nat)) (c : DrainCmd) (w : Word) (p n : Nat) :
    (s.setEng e v).drainWord t d tabs c w p n = s.drainWord t d tabs c w p n := by
  simp only [State.drainWord, setEng_f32At]
@[simp] theorem setEng_dot (s : State) (e : Nat) (v : Engine) (t d k : Nat) (b : WeightBuf) (a : Arr) (p n : Nat) :
    (s.setEng e v).dot t d k b a p n = s.dot t d k b a p n := by
  simp only [State.dot, State.products, setEng_code, setEng_elem]
@[simp] theorem setEng_mmRow (s : State) (e : Nat) (v : Engine) (t d : Nat) (b : WeightBuf) (c : MmCmd) (old : List Word) (p : Nat) :
    (s.setEng e v).mmRow t d b c old p = s.mmRow t d b c old p := by
  simp only [State.mmRow, setEng_dot]

/-! One position of one channel block (R114, R116, R159). -/

/-- A format without block scales gives a code for each value and no scale byte. -/
theorem convert_length {c : Conv} (h : c.fmt.mx = false) (r : Rounding) (l : List Fl) : (convert c r l).1.length = l.length := by
  simp only [convert, h, Bool.false_eq_true, if_false]
  split <;> simp

/-- The first position of a result that fits one channel block is written as `posBytes`. -/
theorem putPos_of_block (s : State) (t : Nat) {c : Conv} (hmx : c.fmt.mx = false) (r : Rounding) (dst : Place) (pitch : Nat) {l : List Fl}
    (hl : 0 < l.length) (hfit : l.length ≤ c.fmt.chans) :
    s.putPos t c r dst pitch 0 l = s.tileWrite t (s.addrOf t dst) (posBytes c r pitch l) := by
  have hlen := convert_length hmx r l
  have hone : cdiv l.length c.fmt.chans = 1 := by
    rw [cdiv, Nat.div_eq_of_lt_le] <;> omega
  have htake : (convert c r l).1.take c.fmt.chans = (convert c r l).1 := List.take_of_length_le (by omega)
  simp only [State.putPos, hmx, hone, Bool.false_eq_true, if_false, List.range_one, forEach_cons, forEach_nil, Nat.mul_zero, Nat.zero_mul,
    Nat.add_zero, List.drop_zero, htake, hlen, posBytes]

end Sys2Proof.Machine
end

section
/-! SUPPORT. The unit commands of an idle engine (R83, R84, R87 to R89, R126 to R129, R144, R169): what the start of a command leaves of
the engine, and commands that no check stops. -/

namespace Sys2Proof.Machine

open Sys2Proof

/-! What the start of a command leaves. -/

section Starting

variable {s : State} {e : Nat} {x : Exec} {c : UnitCmd} {n : Nat}

/-- A part of the engine that neither its queues, its issue numbers nor its stripe show is left by a start. -/
theorem starting_keeps {β : Type} (v : Engine → β) (hq : ∀ g u l, v (Engine.setQueue g u l) = v g)
    (hx : ∀ (g : Engine) i y, v { g with issue := i, exec := y } = v g) : v ((s.starting e x c n).eng e) = v (s.eng e) := by
  simp only [State.starting, setEng_eng, if_pos, hx, hq]

@[simp] theorem starting_check : ((s.starting e x c n).eng e).check = (s.eng e).check :=
  starting_keeps Engine.check (fun _ u _ => by cases u <;> rfl) fun _ _ _ => rfl
@[simp] theorem starting_buf0 : ((s.starting e x c n).eng e).buf0 = (s.eng e).buf0 :=
  starting_keeps Engine.buf0 (fun _ u _ => by cases u <;> rfl) fun _ _ _ => rfl
@[simp] theorem starting_buf1 : ((s.starting e x c n).eng e).buf1 = (s.eng e).buf1 :=
  starting_keeps Engine.buf1 (fun _ u _ => by cases u <;> rfl) fun _ _ _ => rfl
@[simp] theorem starting_activeBuf : ((s.starting e x c n).eng e).activeBuf = (s.eng e).activeBuf :=
  starting_keeps Engine.activeBuf (fun _ u _ => by cases u <;> rfl) fun _ _ _ => rfl
@[simp] theorem starting_active : ((s.starting e x c n).eng e).active = (s.eng e).active :=
  starting_keeps Engine.active (fun _ u _ => by cases u <;> rfl) fun _ _ _ => rfl
@[simp] theorem starting_accRow (t r : Nat) : ((s.starting e x c n).eng e).accRow t r = (s.eng e).accRow t r :=
  starting_keeps (·.accRow t r) (fun _ u _ => by cases u <;> rfl) fun _ _ _ => rfl
@[simp] theorem starting_tables : ((s.starting e x c n).eng e).tables = (s.eng e).tables :=
  starting_keeps Engine.tables (fun _ u _ => by cases u <;> rfl) fun _ _ _ => rfl
@[simp] theorem starting_credits : ((s.starting e x c n).eng e).credits = (s.eng e).credits :=
  starting_keeps Engine.credits (fun _ u _ => by cases u <;> rfl) fun _ _ _ => rfl
@[simp] theorem starting_exec : ((s.starting e x c n).eng e).exec = some { x with stripeTack := false } := by
  simp only [State.starting, setEng_eng, if_pos]
@[simp] theorem starting_mem : (s.starting e x c n).mem = s.mem := (rfl)
@[simp] theorem starting_free : (s.starting e x c n).free = s.free := (rfl)
@[simp] theorem starting_tile (k : Nat) : (s.starting e x c n).tile k = s.tile k := (rfl)

/-- The function tables of the stripe that starts a command are those it had. -/
theorem starting_userTables (hx : (s.eng e).exec = some x) : (s.starting e x c n).userTables e = s.userTables e := by
  have hjob : (s.starting e x c n).job = s.job := (rfl)
  simp only [State.userTables, starting_exec, starting_tables, hjob, hx, Option.bind_some]

end Starting

/-! Checks that find nothing. -/

/-- The outcome of an MM without an accumulator upset is the compare of the gusset column alone. -/
theorem checkCmd_mm (s : State) (e : Nat) {c : MmCmd} (h : ∀ r k, c.upset ≠ .accParity r k) : s.checkCmd e (.mm c) =
    if (s.eng e).check.compares && ((s.eng e).check.inject || s.gussetDiffers e c) then s.mismatch e (s.eng e).check.inject else s := by
  simp only [State.checkCmd]

theorem checkCmd_drain (s : State) (e : Nat) {c : DrainCmd} (h : c.upset = .clean) : s.checkCmd e (.drain c) = s := by
  simp only [State.checkCmd, h]

theorem checkCmd_vop (s : State) (e : Nat) {c : VopCmd} (h : c.upset = .clean) : s.checkCmd e (.vop c) = s := by
  simp only [State.checkCmd, h]
  exact if_neg (by decide)

@[simp] theorem runMm_check (s : State) (e : Nat) (c : MmCmd) : ((s.runMm e c).eng e).check = (s.eng e).check :=
  runMm_keeps Engine.check (fun _ _ => rfl) (fun _ _ => rfl) s e c

/-! The commands. -/

section Idle

variable {s : State} {e : Nat} {x : Exec}

theorem issueCmd_wset {c : WsetCmd} (h : s.idleFor e x (.wset c)) : s.issueCmd e (.wset c) = (s.starting e x (.wset c) 0).runWset e c :=
  issueCmd_of_no_put h rfl

/-- The compare decides what an MM leaves beside its data effect. -/
theorem issueCmd_mm {c : MmCmd} (h : s.idleFor e x (.mm c)) (hup : ∀ r k, c.upset ≠ .accParity r k) :
    s.issueCmd e (.mm c) = if (s.eng e).check.compares &&
        ((s.eng e).check.inject || ((s.starting e x (.mm c) 0).runMm e c).gussetDiffers e c) then
      ((s.starting e x (.mm c) 0).runMm e c).mismatch e (s.eng e).check.inject else (s.starting e x (.mm c) 0).runMm e c := by
  have hcheck : (((s.starting e x (.mm c) 0).runMm e c).eng e).check = (s.eng e).check := by simp
  have hrun : s.issueCmd e (.mm c) = _ :=
    (issueCmd_of_no_put h rfl).trans (checkCmd_mm ((s.starting e x (.mm c) 0).runMm e c) e hup)
  rw [hrun, hcheck]

theorem issueCmd_drain {c : DrainCmd} (h : s.idleFor e x (.drain c)) (hup : c.upset = .clean) :
    s.issueCmd e (.drain c) = (s.starting e x (.drain c) 0).runDrain e c :=
  (issueCmd_of_no_put h rfl).trans (checkCmd_drain _ e hup)

theorem issueCmd_vop {c : VopCmd} (h : s.idleFor e x (.vop c)) (hup : c.upset = .clean) :
    s.issueCmd e (.vop c) = (s.starting e x (.vop c) 0).runVop e c :=
  (issueCmd_of_no_put h rfl).trans (checkCmd_vop _ e hup)

theorem issueCmd_vlut {c : VlutCmd} (h : s.idleFor e x (.vlut c)) : s.issueCmd e (.vlut c) = (s.starting e x (.vlut c) 0).runVlut e c :=
  issueCmd_of_no_put h rfl

theorem issueCmd_vred {c : VredCmd} (h : s.idleFor e x (.vred c)) : s.issueCmd e (.vred c) = (s.starting e x (.vred c) 0).runVred e c :=
  issueCmd_of_no_put h rfl

theorem issueCmd_fft {c : FftCmd} (h : s.idleFor e x (.fft c)) : s.issueCmd e (.fft c) = (s.starting e x (.fft c) 0).runFft e c :=
  issueCmd_of_no_put h rfl

theorem issueCmd_move {c : MoveCmd} (h : s.idleFor e x (.move c)) : s.issueCmd e (.move c) = (s.starting e x (.move c) 0).runMove e c :=
  issueCmd_of_no_put h rfl

/-- An MM over selvedge zeros alone is not issued (R169). -/
theorem issueCmd_needless {c : UnitCmd} (h : c.needless = true) : s.issueCmd e c = s := by
  unfold State.issueCmd
  simp only [h, Bool.or_true, Bool.true_or, if_true]
  split <;> rfl

/-- A PUT of an idle engine sends a line for each credit, as far as it has lines, and keeps the rest of its credits (R144). -/
theorem issueCmd_put {c : PutCmd} (h : s.idleFor e x (.put c)) :
    let key := 32 * c.tile.val + c.region.val
    let n := min c.lines (sget (fun _ => 0) (s.eng e).credits key)
    ((s.issueCmd e (.put c)).tile c.tile).incoming = (s.tile c.tile).incoming ++ (List.range n).map (fun i =>
      (⟨e, x.run, c.region, (s.region c.tile c.region).base, c.line + i, s.bytes (s.addrOf e c.src + 128 * i) 128⟩ : RingLine)) ∧
    sget (fun _ => 0) ((s.issueCmd e (.put c)).eng e).credits key = sget (fun _ => 0) (s.eng e).credits key - n ∧
    (s.issueCmd e (.put c)).mem = s.mem := by
  intro key n
  let d : Issued := ⟨(s.eng e).issue, .put c, true, c.lines⟩
  have hissue : s.issueCmd e (.put c) = (s.starting e x (.put c) c.lines).sendPut e := issueCmd_of_idle h
  have hq : ((s.starting e x (.put c) c.lines).eng e).moverQ = [d] := starting_queue h c.lines .mover
  have hn : (s.starting e x (.put c) c.lines).sendable e d c = n := by simp [State.sendable, n, key, d]
  rw [hissue]
  rcases Nat.eq_zero_or_pos n with h0 | hpos
  · rw [sendPut_of_none hq rfl rfl (hn.trans h0), starting_tile, starting_credits, starting_mem, h0]
    simp
  · obtain ⟨u, hmem, -, heng, hsend⟩ := sendPut_of_some hq rfl rfl (hn.symm ▸ hpos)
    rw [hn] at heng hsend
    rw [hsend, setTile_tile, if_pos rfl, setTile_eng, heng, if_pos rfl]
    refine ⟨?_, ?_, hmem⟩
    · simp only [State.putLines, starting_exec, Option.map_some, Option.getD_some, d, Nat.sub_self, Nat.add_zero, Nat.zero_add]
      rfl
    · simp [Engine.putSent, key]

end Idle

/-- Settles O17: an idle engine's command runs at once (`issueCmd_of_idle`), and no check stops it under the clauses' conditions. -/
theorem unitCommandsStart : Obligations.UnitCommandsStart := by
  unfold Obligations.UnitCommandsStart
  refine ⟨?_, ?_, ?_, ?_, ?_, ?_, ?_, ?_, ?_, ?_⟩
  · exact fun s e x c h => congrArg done (issueCmd_wset h)
  · intro s e x c h hup hinj hdiff
    refine congrArg done ((issueCmd_mm h (by simp [hup])).trans ?_)
    rw [hinj, hdiff, Bool.or_self, Bool.and_false, if_neg Bool.false_ne_true]
  · exact fun s e c hs hz => (congrArg done (issueCmd_needless (c := .mm c) hz)).trans (done_of_settled hs)
  · exact fun s e x c h hup => congrArg done (issueCmd_drain h hup)
  · exact fun s e x c h hup => congrArg done (issueCmd_vop h hup)
  · exact fun s e x c h => congrArg done (issueCmd_vlut h)
  · exact fun s e x c h => congrArg done (issueCmd_vred h)
  · exact fun s e x c h => congrArg done (issueCmd_fft h)
  · exact fun s e x c h => congrArg done (issueCmd_move h)
  · intro s e x c h
    obtain ⟨hin, hcr, hmem⟩ := issueCmd_put h
    exact ⟨s.issueCmd e (.put c), rfl, hin, hcr, sameMemory_of_mem hmem⟩

end Sys2Proof.Machine
end

section
/-! SUPPORT. What the unit commands leave (R83, R84, R87, R117 to R128): the accumulator rows of an MM, and the bytes that the other
units store. -/

namespace Sys2Proof.Machine

open Sys2Proof

/-! Accumulator rows. -/

theorem accRow_setAccRow (g : Engine) (tile r q : Nat) (l : List Word) :
    (g.setAccRow tile r l).accRow tile q = if q = r then l else g.accRow tile q := by
  simp only [Engine.setAccRow, Engine.accRow, sget_sset]
  split
  · rw [if_pos (by omega)]
  · rw [if_neg (by omega)]

/-- Rows changed one after another from `row0` on: each of them is made from what it was, and the others stay. -/
theorem accRow_setAccRows (tile row0 : Nat) (row : List Word → Nat → List Word) (g : Engine) (n q : Nat) :
    ((List.range n).foldl (fun g p => g.setAccRow tile (row0 + p) (row (g.accRow tile (row0 + p)) p)) g).accRow tile q =
      if row0 ≤ q ∧ q < row0 + n then row (g.accRow tile q) (q - row0) else g.accRow tile q := by
  induction n generalizing q with
  | zero => simp
  | succ n ih =>
    rw [List.range_succ, List.foldl_append, List.foldl_cons, List.foldl_nil, accRow_setAccRow, ih, ih]
    by_cases hq : q = row0 + n
    · subst hq
      rw [if_pos rfl, if_neg (by omega), if_pos (by omega), Nat.add_sub_cancel_left]
    · rw [if_neg hq]
      congr 1
      rw [eq_iff_iff]
      omega

section Starting

variable {s : State} {e : Nat} {x : Exec} {c : UnitCmd} {n : Nat}

@[simp] theorem starting_addrOf (t : Nat) (p : Place) : (s.starting e x c n).addrOf t p = s.addrOf t p := (rfl)
@[simp] theorem starting_bytes (a m : Nat) : (s.starting e x c n).bytes a m = s.bytes a m := (rfl)
@[simp] theorem starting_elem (t : Nat) (a : Arr) (p k : Nat) : (s.starting e x c n).elem t a p k = s.elem t a p k := by
  simp only [State.starting, setEng_elem]
@[simp] theorem starting_drainWord (t d : Nat) (tabs : List (List Nat)) (c' : DrainCmd) (w : Word) (p m : Nat) :
    (s.starting e x c n).drainWord t d tabs c' w p m = s.drainWord t d tabs c' w p m := by
  simp only [State.starting, setEng_drainWord]
@[simp] theorem starting_mmRow (t d : Nat) (b : WeightBuf) (c' : MmCmd) (old : List Word) (p : Nat) :
    (s.starting e x c n).mmRow t d b c' old p = s.mmRow t d b c' old p := by
  simp only [State.starting, setEng_mmRow]

end Starting

/-- The weights that an MM reads: those of the active buffer, which SWAP changes. -/
def Engine.mmBuf (g : Engine) (c : MmCmd) : WeightBuf := if c.swap then (if g.activeBuf then g.buf0 else g.buf1) else g.active

/-- An MM makes each of its rows from what the row was (R84). -/
theorem runMm_accRow (s : State) (e : Nat) (c : MmCmd) (q : Nat) : ((s.runMm e c).eng e).accRow c.tile q =
    if c.row0 ≤ q ∧ q < c.row0 + c.count then
      s.mmRow e s.free ((s.eng e).mmBuf c) c ((s.eng e).accRow c.tile q) (q - c.row0) else (s.eng e).accRow c.tile q := by
  simp only [State.runMm, drawn_eng, setEng_eng, if_pos]
  rw [accRow_setAccRows c.tile.val c.row0 (fun old p => s.mmRow e s.free _ c old p)]
  unfold Engine.mmBuf
  cases c.swap with
  | false => rfl
  | true =>
    have hact : ({ s.eng e with activeBuf := !(s.eng e).activeBuf } : Engine).active =
        if (s.eng e).activeBuf then (s.eng e).buf0 else (s.eng e).buf1 := by
      unfold Engine.active
      cases (s.eng e).activeBuf <;> rfl
    simp only [if_true, hact]
    rfl

@[simp] theorem runMm_mem (s : State) (e : Nat) (c : MmCmd) : (s.runMm e c).mem = s.mem := (rfl)

/-- A mismatch leaves the accumulator. -/
theorem mismatch_accRow (s : State) (e : Nat) (b : Bool) (t q : Nat) : ((s.mismatch e b).eng e).accRow t q = (s.eng e).accRow t q := by
  rw [mismatch_eng, if_pos rfl]
  rfl

/-! Stored results. -/

theorem putPos_stores (s : State) (t : Nat) {c : Conv} (hmx : c.fmt.mx = false) (r : Rounding) (dst : Place) (pitch : Nat) {l : List Fl}
    (hl : 0 < l.length) (hfit : l.length ≤ c.fmt.chans) :
    s.stores (s.putPos t c r dst pitch 0 l) (s.addrOf t dst) (posBytes c r pitch l) := by
  rw [putPos_of_block s t hmx r dst pitch hl hfit]
  exact tileWrite_stores s t _ _

theorem drain_stores (s : State) (e : Nat) {c : DrainCmd} (hrows : c.rows = 1) (hcore : c.core = none) (hmx : c.conv.fmt.mx = false)
    (hpos : 0 < c.chans) (hfit : c.chans ≤ c.conv.fmt.chans) :
    s.stores (s.runDrain e c) (s.addrOf e c.dst) (posBytes c.conv .nearest c.pitch
      ((List.range c.chans).map fun n => s.drainWord e s.free (s.userTables e) c (((s.eng e).accRow c.tile c.row0).getD n 0) 0 n)) := by
  have hone : (List.range c.rows).filter (inCore c.core) = [0] := by rw [hrows, hcore]; rfl
  simp only [State.runDrain, hone, forEach_cons, forEach_nil]
  exact stores_of_mem (putPos_stores s e hmx _ _ _ (by simpa using hpos) (by simpa using hfit)) rfl rfl

theorem vlut_stores (s : State) (e : Nat) {c : VlutCmd} (hone : c.positions = 1) (hmx : c.conv.fmt.mx = false) (hpos : 0 < c.elems)
    (hfit : c.elems ≤ c.conv.fmt.chans) :
    s.stores (s.runVlut e c) (s.addrOf e c.dst) (posBytes c.conv .nearest c.pitch ((List.range c.elems).map fun k =>
      applyFn s.free k c.fn.code (f32Of c.fn.a) (f32Of c.fn.b) c.conv.sat (s.userTables e) (s.elem e c.src 0 k))) := by
  simp only [State.runVlut, hone, List.range_one, forEach_cons, forEach_nil, Nat.zero_mul, Nat.zero_add]
  exact stores_of_mem (putPos_stores s e hmx _ _ _ (by simpa using hpos) (by simpa using hfit)) rfl rfl

theorem vred_stores (s : State) (e : Nat) {c : VredCmd} (hpool : c.pool = none) (hlanes : c.alongLanes = true) (hone : c.positions = 1)
    (hmx : c.conv.fmt.mx = false) :
    s.stores (s.runVred e c) (s.addrOf e c.dst) (posBytes c.conv .nearest c.pitch
      [reduce c.op s.free 0 ((List.range c.elems).map fun k => s.elem e c.src 0 k)]) := by
  have hchans : 1 ≤ c.conv.fmt.chans := by cases h : c.conv.fmt <;> decide
  simp only [State.runVred, hpool, hlanes, hone, if_true, List.range_one, forEach_cons, forEach_nil]
  exact stores_of_mem (putPos_stores s e hmx _ _ _ (by simp) (by simpa using hchans)) rfl rfl

theorem vop_stores (s : State) (e : Nat) {c : VopCmd} {a b : Arr} (hop : c.op = .add) (hsrcs : c.srcs = [a, b]) (hone : c.positions = 1)
    (hcore : c.core = none) (hweight : c.weight = none) (hresize : c.resize = none) (hmx : c.conv.fmt.mx = false) (hpos : 0 < c.elems)
    (hfit : c.elems ≤ c.conv.fmt.chans) :
    s.stores (s.runVop e c) (s.addrOf e c.dst) (posBytes c.conv .nearest c.pitch
      ((List.range c.elems).map fun k => flAdd (s.elem e a 0 k) (s.elem e b 0 k))) := by
  have hcells : (List.range c.positions).filter (inCore c.core) = [0] := by rw [hone, hcore]; rfl
  have hmode : c.mode = .nearest := by simp [VopCmd.mode, hop]
  simp only [State.runVop, hcells, hmode, forEach_cons, forEach_nil, hresize, hweight, hsrcs, hop]
  exact stores_of_mem (putPos_stores s e hmx _ _ _ (by simpa using hpos) (by simpa using hfit)) rfl rfl

/-- A position of whole bytes copied (R160). -/
theorem copy_stores (s : State) (e : Nat) {c : MoveCmd} {n : Nat} (hkind : c.kind = .copy) (hrows : c.rows = 1) (helems : c.elems = 1)
    (hbits : c.bits = 8 * n) (hcore : c.core = none) :
    s.stores (s.runMove e c) (s.addrOf e c.dst) (s.bytes (s.addrOf e c.src) n) := by
  have hzero : ∀ a b, posBit a b 0 0 = 0 := fun a b => by simp [posBit]
  have hmove : s.runMove e c = s.tileWrite e (s.addrOf e c.dst) (s.bytes (s.addrOf e c.src) n) := by
    simp [State.runMove, State.moveBits, hkind, hrows, helems, hbits, hcore, hzero, inCore]
  rw [hmove]
  exact tileWrite_stores ..

/-- A transform has as many results as points. -/
theorem dft_length (d k : Nat) (inverse : Bool) {n : Nat} {l : List (Fl × Fl)} (h : l.length = n) : (dft d k n inverse l).length = n := by
  unfold dft
  dsimp only
  split
  · simp [h]
  · split <;> simp

/-- A change that keeps the bytes outside a range, repeated over a list of places, keeps them. -/
theorem forEach_sameMemoryBut {α : Type} (a n : Nat) (l : List α) (f : α → State → State)
    (hf : ∀ x ∈ l, ∀ s : State, s.sameMemoryBut (f x s) a n) (s : State) : s.sameMemoryBut (forEach l f s) a n := by
  induction l generalizing s with
  | nil => exact fun _ _ => rfl
  | cons x l ih =>
    intro y hy
    rw [forEach_cons, ih (fun z hz => hf z (List.mem_cons_of_mem _ hz)) _ y hy, hf x List.mem_cons_self s y hy]

/-- One transform of adjacent points writes within its points (R88). -/
theorem fft_sameMemoryBut (s : State) (e : Nat) {c : FftCmd} (hone : c.count = 1) (hstride : c.stride = 8) :
    s.sameMemoryBut (s.runFft e c) (s.addrOf e c.src) (8 * c.points) := by
  simp only [State.runFft, hone, hstride, List.range_one, forEach_cons, forEach_nil, Nat.zero_mul, Nat.add_zero]
  refine forEach_sameMemoryBut _ _ _ _ (fun p hp s x hx => ?_) s
  have hp2 : p.2 < c.points := by
    have h := List.snd_lt_of_mem_zipIdx hp
    rwa [dft_length _ _ _ (by simp)] at h
  rw [tileWrite_byte, if_neg]
  rw [List.length_append, leBytes_length, leBytes_length]
  omega

/-! The buffers and rows that an idle engine's commands leave. -/

theorem runWset_active (s : State) (e : Nat) (c : WsetCmd) : ((s.runWset e c).eng e).active = (s.eng e).active := by
  simp only [State.runWset, setEng_eng, if_pos, Engine.active]
  cases (s.eng e).activeBuf <;> simp

/-- WSET fills the buffer that is not active (R83). -/
theorem runWset_inactive (s : State) (e : Nat) (c : WsetCmd) :
    (if (s.eng e).activeBuf then ((s.runWset e c).eng e).buf0 else ((s.runWset e c).eng e).buf1) =
      ⟨s.bytes (s.addrOf e c.src) (weightBytes c.wFmt c.aFmt), c.wFmt, c.aFmt⟩ := by
  simp only [State.runWset, setEng_eng, if_pos]
  cases (s.eng e).activeBuf <;> rfl

/-- What an MM of an idle engine leaves, whatever the compare finds. -/
theorem issueCmd_mm_results {s : State} {e : Nat} {x : Exec} {c : MmCmd} (h : s.idleFor e x (.mm c)) (hup : c.upset = .clean) :
    (s.issueCmd e (.mm c)).mem = s.mem ∧ ∀ q, ((s.issueCmd e (.mm c)).eng e).accRow c.tile q =
      if c.row0 ≤ q ∧ q < c.row0 + c.count then s.mmRow e s.free ((s.eng e).mmBuf c) c ((s.eng e).accRow c.tile q) (q - c.row0)
      else (s.eng e).accRow c.tile q := by
  have hrun : ∀ q, (((s.starting e x (.mm c) 0).runMm e c).eng e).accRow c.tile q =
      if c.row0 ≤ q ∧ q < c.row0 + c.count then s.mmRow e s.free ((s.eng e).mmBuf c) c ((s.eng e).accRow c.tile q) (q - c.row0)
      else (s.eng e).accRow c.tile q := fun q => by
    simp only [runMm_accRow, Engine.mmBuf, starting_mmRow, starting_accRow, starting_active, starting_activeBuf, starting_buf0,
      starting_buf1, starting_free]
  rw [issueCmd_mm h (by simp [hup])]
  split
  · exact ⟨by rw [mismatch_mem, runMm_mem, starting_mem], fun q => by rw [mismatch_accRow, hrun]⟩
  · exact ⟨by rw [runMm_mem, starting_mem], hrun⟩

/-- Settles O18: an idle engine's command leaves what its data effect computes; the effect is read off for each kind of command. -/
theorem unitCommandResults : Obligations.UnitCommandResults := by
  unfold Obligations.UnitCommandResults
  refine ⟨?_, ?_, ?_, ?_, ?_, ?_, ?_, ?_⟩
  · intro s e x c h
    refine ⟨_, congrArg done (issueCmd_wset h), ?_, ?_, fun _ => rfl⟩
    · rw [runWset_active, starting_active]
    · have hbuf := runWset_inactive (s.starting e x (.wset c) 0) e c
      simpa only [starting_activeBuf, starting_bytes, starting_addrOf] using hbuf
  · intro s e x c h hup g b
    obtain ⟨hmem, hacc⟩ := issueCmd_mm_results h hup
    have hcount : c.count = min c.rows (128 - c.row0) := rfl
    refine ⟨_, rfl, fun p hp hr => ?_, fun r hr hout => ?_, sameMemory_of_mem hmem⟩
    · refine (hacc _).trans ?_
      rw [if_pos (by omega), Nat.add_sub_cancel_left]
      rfl
    · exact (hacc _).trans (if_neg (by omega))
  · intro s e x c h hup hrows hcore hmx hpos hfit
    have hst := drain_stores (s.starting e x (.drain c) 0) e hrows hcore hmx hpos hfit
    simp only [starting_drainWord, starting_userTables (exec_of_running h.1).1, starting_addrOf, starting_accRow, starting_free] at hst
    exact ⟨_, congrArg done (issueCmd_drain h hup), stores_of_mem hst rfl rfl⟩
  · intro s e x c a b h hup hop hsrcs hone hcore hweight hresize hmx hpos hfit
    have hst := vop_stores (s.starting e x (.vop c) 0) e hop hsrcs hone hcore hweight hresize hmx hpos hfit
    simp only [starting_elem, starting_addrOf] at hst
    exact ⟨_, congrArg done (issueCmd_vop h hup), stores_of_mem hst rfl rfl⟩
  · intro s e x c h hone hmx hpos hfit
    have hst := vlut_stores (s.starting e x (.vlut c) 0) e hone hmx hpos hfit
    simp only [starting_elem, starting_userTables (exec_of_running h.1).1, starting_addrOf, starting_free] at hst
    exact ⟨_, congrArg done (issueCmd_vlut h), stores_of_mem hst rfl rfl⟩
  · intro s e x c h hpool hlanes hone hmx
    have hst := vred_stores (s.starting e x (.vred c) 0) e hpool hlanes hone hmx
    simp only [starting_elem, starting_addrOf, starting_free] at hst
    exact ⟨_, congrArg done (issueCmd_vred h), stores_of_mem hst rfl rfl⟩
  · intro s e x c n h hkind hrows helems hbits hcore
    have hst := copy_stores (s.starting e x (.move c) 0) e hkind hrows helems hbits hcore
    simp only [starting_bytes, starting_addrOf] at hst
    exact ⟨_, congrArg done (issueCmd_move h), stores_of_mem hst rfl rfl⟩
  · intro s e x c h hone hstride
    exact ⟨_, congrArg done (issueCmd_fft h), fft_sameMemoryBut (s.starting e x (.fft c) 0) e hone hstride⟩

end Sys2Proof.Machine
end

section
/-! SUPPORT. The check unit (R101 to R105, Table 05-6): what a mismatch and its outcomes leave of the engine and of its page. -/

namespace Sys2Proof.Machine

open Sys2Proof

/-! Registers of an engine's page. -/

theorem pgEng_ne_pgFlt (e : Nat) : pgEng e ≠ pgFlt := by simp only [pgEng, pgFlt]; omega

/-- A record of the retention log changes FLT's registers alone. -/
theorem log_reg_of_page (s : State) (k c : Nat) (l : List Byte) {p o : Nat} (h : p ≠ pgFlt) (ho : o < 4096) :
    (s.log k c l).reg p o = s.reg p o := by
  cases hk : standingKind k with
  | false => exact log_reg s hk c l p o
  | true =>
    simp only [State.log, hk, if_true]
    split
    · rfl
    · exact event_reg_ne s 5 (radr_ne_of_page h ho (by decide))

@[simp] theorem setEng_reg' (s : State) (e : Nat) (v : Engine) (p o : Nat) : (s.setEng e v).reg p o = s.reg p o := (rfl)
@[simp] theorem drawn_reg' (s : State) (p o : Nat) : s.drawn.reg p o = s.reg p o := (rfl)

/-- Delay added to an engine shows in SLIP_MAX alone (R227). -/
theorem addSlip_reg_ne (s : State) (e n : Nat) {p o : Nat} (h : radr p o ≠ radr (pgEng e) 0x104) :
    (s.addSlip e n).reg p o = s.reg p o := by
  simp only [State.addSlip, State.maxRfld, setRfld_reg_ne _ _ _ _ h, setEng_reg']

theorem addSlip_eng (s : State) (e n k : Nat) : (s.addSlip e n).eng k =
    if k = e then { s.eng e with slip := satAdd 16 (s.eng e).slip n } else s.eng k := by
  simp only [State.addSlip, maxRfld_eng, setEng_eng]

theorem settled_addSlip {s : State} (h : s.settled) (e n : Nat) : (s.addSlip e n).settled := by
  unfold State.addSlip
  exact settled_maxRfld (settled_setEng h e _ (by rfl)) ..

/-! The mismatch. -/

theorem settled_mismatch {s : State} (h : s.settled) (e : Nat) (b : Bool) : (s.mismatch e b).settled := by
  unfold State.mismatch
  exact settled_fail (settled_bump (settled_setEng h e _ (by rfl)) ..) ..

theorem mismatch_event (s : State) (e : Nat) (b : Bool) : bitAt ((s.mismatch e b).reg (pgEng e) 0x10) 0 = true :=
  event_reg_bit _ _ _ (by decide)

/-- A mismatch under way: the tests of the window's column run, and INJECT has acted. -/
theorem mismatch_check (s : State) (e : Nat) (b : Bool) : ((s.mismatch e b).eng e).check = (s.eng e).check.failing b := by
  rw [mismatch_eng, if_pos rfl]

theorem mismatch_abandons {s : State} {e : Nat} {x : Exec} (h : (s.eng e).exec = some x) (b : Bool) :
    ((s.mismatch e b).eng e).exec.map (·.abandoned) = some true := by
  rw [mismatch_eng, if_pos rfl]
  simp only [Engine.abandon, h, Option.map_some]

@[simp] theorem runMm_exec (s : State) (e : Nat) (c : MmCmd) : ((s.runMm e c).eng e).exec = (s.eng e).exec :=
  runMm_keeps Engine.exec (fun _ _ => rfl) (fun _ _ => rfl) s e c

/-- An MM whose compare reports a mismatch (R102, R103). -/
theorem issueCmd_mm_mismatch {s : State} {e : Nat} {x : Exec} {c : MmCmd} (h : s.idleFor e x (.mm c))
    (hup : ∀ r k, c.upset ≠ .accParity r k) (hcmp : (s.eng e).check.compares = true)
    (hbad : (s.eng e).check.inject = true ∨ ((s.starting e x (.mm c) 0).runMm e c).gussetDiffers e c = true) :
    ((s.issueCmd e (.mm c)).eng e).check = (s.eng e).check.failing (s.eng e).check.inject ∧
    ((s.issueCmd e (.mm c)).eng e).exec.map (·.abandoned) = some true ∧
    bitAt ((s.issueCmd e (.mm c)).reg (pgEng e) 0x10) 0 = true := by
  have hor : ((s.eng e).check.inject || ((s.starting e x (.mm c) 0).runMm e c).gussetDiffers e c) = true := by
    rwa [Bool.or_eq_true]
  rw [issueCmd_mm h hup, hcmp, hor, Bool.and_self, if_pos rfl]
  exact ⟨by rw [mismatch_check, runMm_check, starting_check], mismatch_abandons ((runMm_exec _ e c).trans starting_exec) _,
    mismatch_event _ e _⟩

/-! The window. -/

section Window

variable {s : State} {e : Nat} (hact : s.pwr.state = .active)

include hact

theorem windowNext_inject (k : Bool) (hcmp : (s.eng e).check.compares = true) (hinj : (s.eng e).check.inject = true) :
    s.windowNext e k false = s.mismatch e true := by
  have hkat : (s.eng e).check.kat.isSome = false := by
    simp only [Check.compares, Bool.and_eq_true, Option.isNone_iff_eq_none] at hcmp
    rw [hcmp.2, Option.isSome_none]
  simp [State.windowNext, hkat, hact, hcmp, hinj]

variable (hkat : (s.eng e).check.kat = none)

include hkat

theorem windowNext_step (k : Bool) (hinj : (s.eng e).check.inject = false) (hwin : (s.eng e).check.window < 256) :
    s.windowNext e k false = s.setEng e { s.eng e with check := { (s.eng e).check with window := (s.eng e).check.window + 1 } } := by
  simp [State.windowNext, hkat, hact, hinj, hwin]

/-- A passed test of the gusset column ends a rotation (R101). -/
theorem windowNext_rotation (hwin : (s.eng e).check.window = 256) : s.windowNext e true false =
    (s.setEng e { s.eng e with check := { (s.eng e).check with window := 0 } }).bump (pgEng e) 0x114 0 16 1 := by
  simp [State.windowNext, hkat, hact, hwin, Check.compares]

end Window

/-! The outcomes of the known-answer tests. -/

/-- The check unit once the tests of a mismatch have ended. -/
def Check.tested (c : Check) : Check := { c with kat := none, forced := false }

theorem takeOver_check (s : State) (e col : Nat) :
    ((s.takeOver e col).eng e).check = { (s.eng e).check with state := 1, spared := col } := by
  unfold State.takeOver
  dsimp only
  split
  · rw [drawn_eng, addSlip_eng, if_pos rfl, event_eng, log_eng, setEng_eng, if_pos rfl]
  · rw [event_eng, log_eng, setEng_eng, if_pos rfl]

theorem takeOver_event (s : State) (e col : Nat) : bitAt ((s.takeOver e col).reg (pgEng e) 0x10) 1 = true := by
  unfold State.takeOver
  dsimp only
  split
  · rw [drawn_reg', addSlip_reg_ne _ _ _ radr_ne]
    exact event_reg_bit _ _ _ (by decide)
  · exact event_reg_bit _ _ _ (by decide)

theorem takeOver_reg_0x120 (s : State) (e col : Nat) : (s.takeOver e col).reg (pgEng e) 0x120 = s.reg (pgEng e) 0x120 := by
  unfold State.takeOver
  dsimp only
  split
  · rw [drawn_reg', addSlip_reg_ne _ _ _ radr_ne, event_reg_ne _ _ radr_ne, log_reg_of_page _ _ _ _ (pgEng_ne_pgFlt e) (by decide),
      setEng_reg']
  · rw [event_reg_ne _ _ radr_ne, log_reg_of_page _ _ _ _ (pgEng_ne_pgFlt e) (by decide), setEng_reg']

theorem settled_takeOver {s : State} (h : s.settled) (e col : Nat) : (s.takeOver e col).settled := by
  have hout := settled_event (settled_log (settled_setEng h e { s.eng e with check := { (s.eng e).check with state := 1, spared := col } }
    rfl) 2 6 (logBody e 0 col)) (pgEng e) 1
  unfold State.takeOver
  dsimp only
  split
  · exact settled_drawn (settled_addSlip hout ..)
  · exact hout

theorem gussetOff_check (s : State) (e : Nat) : ((s.gussetOff e).eng e).check = { (s.eng e).check with state := 2 } := by
  simp only [State.gussetOff, fault_eng, event_eng, log_eng, setEng_eng, if_pos]

theorem gussetOff_event (s : State) (e : Nat) : bitAt ((s.gussetOff e).reg (pgEng e) 0x10) 2 = true := by
  rw [State.gussetOff, fault_reg_ne _ _ _ _ (pgEng_ne_pgFlt e) (by decide)]
  exact event_reg_bit _ _ _ (by decide)

theorem gussetOff_fault (s : State) (e : Nat) : bitAt ((s.gussetOff e).reg pgFlt 0x10) 0 = true := fault_reg_event ..

theorem gussetOff_reg_0x120 (s : State) (e : Nat) : (s.gussetOff e).reg (pgEng e) 0x120 = s.reg (pgEng e) 0x120 := by
  rw [State.gussetOff, fault_reg_ne _ _ _ _ (pgEng_ne_pgFlt e) (by decide), event_reg_ne _ _ radr_ne,
    log_reg_of_page _ _ _ _ (pgEng_ne_pgFlt e) (by decide), setEng_reg']

theorem settled_gussetOff {s : State} (h : s.settled) (e : Nat) : (s.gussetOff e).settled := by
  unfold State.gussetOff
  exact settled_fault (settled_event (settled_log (settled_setEng h e _ (by rfl)) ..) ..) ..

section Outcome

variable {s : State} {e col : Nat} (hkat : (s.eng e).check.kat = some col)

include hkat

/-- Both columns failed: the engine goes to the fault manager (class 0x09). -/
theorem katDone_both (hforced : (s.eng e).check.forced = false) : s.katDone e false false =
    ((s.setEng e { s.eng e with check := { (s.eng e).check.tested with state := 3 } }).event (pgEng e) 3).owe (.fence e false 9) := by
  simp only [State.katDone, hkat, hforced, Bool.or_self, Bool.false_eq_true, if_false, owe_reg, owe_eng, event_eng, setEng_eng, if_pos,
    setEng_setEng, bne_self_eq_false, Bool.and_false]
  rfl

variable (hreq : bitAt (s.reg (pgEng e) 0x120) 0 = false)

include hreq

/-- A mismatch that INJECT has forced is a transient whatever the tests find (R105). -/
theorem katDone_forced (a b : Bool) (hforced : (s.eng e).check.forced = true)
    (hfew : ((s.eng e).check.transients.filter fun t => t.1 == col && decide (s.clk.up < t.2 + 1000000000)).length < 2) :
    s.katDone e a b = (s.setEng e { s.eng e with check := { (s.eng e).check.tested with
      transients := ((s.eng e).check.transients.filter fun t => decide (s.clk.up < t.2 + 1000000000)) ++ [(col, s.clk.up)] } }).bump
      (pgEng e) 0x118 0 8 1 := by
  have hcount : ¬ 3 ≤ ((((s.eng e).check.transients.filter fun t => decide (s.clk.up < t.2 + 1000000000)) ++
      [(col, s.clk.up)]).filter fun t => t.1 == col).length := by
    rw [List.filter_append, List.filter_filter, List.length_append]
    have hlast : ([(col, s.clk.up)].filter fun t => t.1 == col).length = 1 := by simp
    omega
  have hno : ∀ (t : State) p, t.reg (pgEng e) 0x120 = s.reg (pgEng e) 0x120 → (bitAt (t.reg (pgEng e) 0x120) 0 && p) = false :=
    fun t p ht => by rw [ht, hreq, Bool.false_and]
  simp only [State.katDone, hkat, hforced, Bool.true_or, if_true, if_neg hcount, setEng_setEng]
  rw [hno _ _ (by rw [bump_reg_ne _ _ _ _ radr_ne, setEng_reg']), if_neg Bool.false_ne_true]
  rfl

variable (hforced : (s.eng e).check.forced = false)

include hforced

theorem katDone_column : s.katDone e false true = (s.setEng e { s.eng e with check := (s.eng e).check.tested }).takeOver e col := by
  simp only [State.katDone, hkat, hforced, Bool.false_and, Bool.or_self, Bool.false_eq_true, if_false, if_true, takeOver_reg_0x120,
    setEng_reg', hreq]
  rfl

theorem katDone_gusset : s.katDone e true false = (s.setEng e { s.eng e with check := (s.eng e).check.tested }).gussetOff e := by
  simp only [State.katDone, hkat, hforced, Bool.and_false, Bool.or_self, Bool.false_eq_true, if_false, if_true, gussetOff_reg_0x120,
    setEng_reg', hreq, Bool.false_and]
  rfl

end Outcome

/-- Settles O21: a forced mismatch and a compare that finds a difference both go through `State.mismatch`; the tests of a forced one end
as a transient. -/
theorem injectedMismatch : Obligations.InjectedMismatch := by
  unfold Obligations.InjectedMismatch
  refine ⟨?_, ?_, ?_, ?_, ?_⟩
  · exact fun s e hs => done_of_settled (settled_setEng hs e _ (by rfl))
  · intro s e k hs hinj hcmp hact
    refine ⟨_, done_eq (windowNext_inject hact k hcmp hinj) (settled_mismatch hs e true), ?_, ?_, ?_, mismatch_event s e true⟩
    all_goals rw [mismatch_check]; rfl
  · intro s e x c h hup hinj hcmp
    obtain ⟨hcheck, hexec, -⟩ := issueCmd_mm_mismatch h (by simp [hup]) hcmp (.inl hinj)
    refine ⟨_, rfl, ?_, ?_, ?_, hexec⟩
    · exact (congrArg Check.kat hcheck).trans rfl
    · exact (congrArg Check.forced hcheck).trans hinj
    · exact (congrArg Check.inject hcheck).trans rfl
  · intro s e x c h hup hinj hcmp hdiff
    obtain ⟨hcheck, hexec, hevent⟩ := issueCmd_mm_mismatch h hup hcmp (.inr hdiff)
    refine ⟨_, rfl, ?_, ?_, hexec, hevent⟩
    · exact (congrArg Check.kat hcheck).trans rfl
    · exact (congrArg Check.forced hcheck).trans hinj
  · intro s e col a b hs hkat hforced hfew hreq
    refine ⟨_, done_eq (katDone_forced hkat hreq a b hforced hfew) (settled_bump (settled_setEng hs e _ (by rfl)) ..), ?_, ?_, ?_, ?_⟩
    · rw [bump_eng, setEng_eng, if_pos rfl]
      rfl
    · rw [bump_eng, setEng_eng, if_pos rfl]
      rfl
    · rw [bump_eng, setEng_eng, if_pos rfl]
      exact List.mem_append_right _ List.mem_cons_self
    · rw [State.bump, State.rfld, setRfld_reg_same, fld_putFld_same _ _ _ _ (by decide), Nat.mod_eq_of_lt (satAdd_lt ..)]
      rfl

/-- Settles O22: the window's step, and the outcome of the tests in each of their three failures. -/
theorem checkUnit : Obligations.CheckUnit := by
  unfold Obligations.CheckUnit
  refine ⟨?_, ?_, ?_⟩
  · exact fun s e k hs hkat hinj hact hwin => done_eq (windowNext_step hact hkat k hinj hwin) (settled_setEng hs e _ (by rfl))
  · exact fun s e hs hkat hact hwin =>
      done_eq (windowNext_rotation hact hkat hwin) (settled_bump (settled_setEng hs e _ (by rfl)) ..)
  · intro s e col hs hkat hforced hreq
    have htested := settled_setEng hs e { s.eng e with check := (s.eng e).check.tested } rfl
    refine ⟨⟨_, done_eq (katDone_column hkat hreq hforced) (settled_takeOver htested e col), ?_, ?_, ?_, takeOver_event _ e col⟩,
      ⟨_, done_eq (katDone_gusset hkat hreq hforced) (settled_gussetOff htested e), ?_, ?_, gussetOff_event _ e, gussetOff_fault _ e⟩,
      ⟨_, congrArg done (katDone_both hkat hforced), ?_, ?_, ?_⟩⟩
    · rw [takeOver_check]
    · rw [takeOver_check]
    · rw [takeOver_check, setEng_eng, if_pos rfl]
      rfl
    · rw [gussetOff_check]
    · rw [gussetOff_check, setEng_eng, if_pos rfl]
      rfl
    · rw [owe_eng, event_eng, setEng_eng, if_pos rfl]
    · have hdue : ((s.setEng e { s.eng e with check := { (s.eng e).check.tested with state := 3 } }).event (pgEng e) 3).flt.due = [] := by
        rw [event_flt, setEng_flt, hs.1]
      rw [State.owe, hdue]
      rfl
    · rw [owe_reg]
      exact event_reg_bit _ _ _ (by decide)

end Sys2Proof.Machine
end

section
/-! SUPPORT. The scheduler's placing of units, shedding for self-tests and credits returned (R146, R220, R221, R228): what each leaves of
the engines and of the registers. -/

namespace Sys2Proof.Machine

open Sys2Proof

/-! Placing. -/

/-- The state with other engines and other units waiting in the scheduler. -/
def State.withQueues (s : State) (l : Sparse Engine) (w : List Work) : State :=
  { s with engines := l, sched := { s.sched with waiting := w } }

/-- From the first state to the second, units have moved in work queues and among those that wait in the scheduler, and nothing else has
changed. -/
structure State.placesOnly (s t : State) : Prop where
  engines : ∀ k, t.eng k = { s.eng k with work := (t.eng k).work }
  rest : t = s.withQueues t.engines t.sched.waiting

theorem placesOnly_refl (s : State) : s.placesOnly s := ⟨fun _ => rfl, rfl⟩

theorem placesOnly_trans {s t u : State} (h : s.placesOnly t) (k : t.placesOnly u) : s.placesOnly u := by
  refine ⟨fun i => ?_, ?_⟩
  · have hk := k.engines i
    rw [h.engines i] at hk
    exact hk
  · exact (k.rest.trans (congrArg (·.withQueues u.engines u.sched.waiting) h.rest) :)

theorem placesOnly_forEach {α : Type} (l : List α) (f : α → State → State) (hf : ∀ x s, State.placesOnly s (f x s)) (s : State) :
    s.placesOnly (forEach l f s) := forEach_rel State.placesOnly placesOnly_refl placesOnly_trans l f hf s

theorem placesOnly_waitUnit (s : State) (w : Work) : s.placesOnly (s.waitUnit w) := ⟨fun _ => rfl, rfl⟩

/-- A work queue replaced. -/
theorem placesOnly_setWork (s : State) (e : Nat) (l : List Work) : s.placesOnly (s.setEng e { s.eng e with work := l }) := by
  refine ⟨fun k => ?_, rfl⟩
  rw [setEng_eng]
  split
  · rename_i h
    rw [h]
  · rfl

theorem placesOnly_enqueue (s : State) (e : Nat) (w : Work) : s.placesOnly (s.enqueue e w) := placesOnly_setWork s e _

theorem placesOnly_place (s : State) (w : Work) : s.placesOnly (s.place w) := by
  unfold State.place
  dsimp only
  split
  · split
    · exact placesOnly_enqueue ..
    · exact placesOnly_waitUnit ..
  · exact placesOnly_waitUnit ..

theorem placesOnly_placeWaiting (s : State) : s.placesOnly s.placeWaiting := by
  have hempty : s.placesOnly { s with sched := { s.sched with waiting := [] } } := ⟨fun _ => rfl, rfl⟩
  refine placesOnly_trans hempty (placesOnly_forEach _ _ (fun w t => ?_) _)
  dsimp only
  split
  · exact placesOnly_enqueue ..
  · exact placesOnly_waitUnit ..

theorem placesOnly_putBack (s : State) (e : Nat) (l : List Work) : s.placesOnly (s.putBack e l) :=
  placesOnly_trans (placesOnly_setWork s e _) (placesOnly_forEach _ _ (fun _ _ => placesOnly_waitUnit ..) _)

theorem placesOnly_placeFirst (s : State) (w : Work) : s.placesOnly (s.placeFirst w) := by
  unfold State.placeFirst
  split
  · exact placesOnly_putBack ..
  · exact placesOnly_waitUnit ..

/-- With nothing waiting in the scheduler nothing is placed. -/
theorem placeWaiting_of_none {s : State} (h : s.sched.waiting = []) : s.placeWaiting = s := by
  have hs : ({ s with sched := { s.sched with waiting := [] } } : State) = s := by rw [← h]
  rw [State.placeWaiting, h, forEach_nil, hs]

section Places

variable {s t : State} (h : s.placesOnly t)

include h

theorem placesOnly_reg (p o : Nat) : t.reg p o = s.reg p o := by rw [h.rest]; rfl
theorem placesOnly_mem : t.mem = s.mem := by rw [h.rest]; rfl

/-- A part of an engine other than its work queue. -/
theorem placesOnly_keeps {β : Type} (v : Engine → β) (hv : ∀ (g : Engine) l, v { g with work := l } = v g) (k : Nat) :
    v (t.eng k) = v (s.eng k) := by rw [h.engines k, hv]

end Places

/-! Shedding (R228). -/

/-- The state with other streams, jobs and words of SCHED, and what these bring with them. -/
def State.withShed (s t : State) : State :=
  { s with strms := t.strms, jobs := t.jobs, regs := t.regs, net := t.net, sched := { s.sched with shedTest := t.sched.shedTest } }

/-- From the first state to the second, streams and jobs have been shed or given back, and SCHED has told of it. -/
structure State.shedsOnly (s t : State) : Prop where
  regs : ∀ p o, p ≠ pgSched → o < 4096 → t.reg p o = s.reg p o
  rest : t = s.withShed t

theorem shedsOnly_refl (s : State) : s.shedsOnly s := ⟨fun _ _ _ _ => rfl, rfl⟩

theorem shedsOnly_trans {s t u : State} (h : s.shedsOnly t) (k : t.shedsOnly u) : s.shedsOnly u :=
  ⟨fun p o hp ho => (k.regs p o hp ho).trans (h.regs p o hp ho), (k.rest.trans (congrArg (·.withShed u) h.rest) :)⟩

theorem shedsOnly_setStrm (s : State) (i : Nat) (v : Strm) : s.shedsOnly (s.setStrm i v) := ⟨fun _ _ _ _ => rfl, rfl⟩

theorem shedsOnly_setJob (s : State) (i : Nat) (v : Option Job) : s.shedsOnly (s.setJob i v) := ⟨fun _ _ _ _ => rfl, rfl⟩

theorem shedsOnly_shedTest (s : State) (l : List Nat) : s.shedsOnly { s with sched := { s.sched with shedTest := l } } :=
  ⟨fun _ _ _ _ => rfl, rfl⟩

theorem shedsOnly_forEach {α : Type} (l : List α) (f : α → State → State) (hf : ∀ x s, State.shedsOnly s (f x s)) (s : State) :
    s.shedsOnly (forEach l f s) := forEach_rel State.shedsOnly shedsOnly_refl shedsOnly_trans l f hf s

theorem shedsOnly_shedUntil (s : State) (e n : Nat) : s.shedsOnly (s.shedUntil e n) := by
  induction n generalizing s with
  | zero => exact shedsOnly_refl s
  | succ n ih =>
    unfold State.shedUntil
    split
    · exact shedsOnly_refl s
    · split
      · exact shedsOnly_trans (shedsOnly_trans (shedsOnly_setStrm ..) (shedsOnly_shedTest ..)) (ih _)
      · exact shedsOnly_refl s

theorem shedsOnly_testVariants (s : State) : s.shedsOnly s.testVariants :=
  shedsOnly_forEach _ _ (fun j s => by
    dsimp only
    split
    · split
      · exact shedsOnly_setJob ..
      · exact shedsOnly_refl s
    · exact shedsOnly_refl s) s

/-- An event of SCHED changes EVT_RAW of its page and NET's store. -/
theorem shedsOnly_event (s : State) (b : Nat) : s.shedsOnly (s.event pgSched b) := by
  refine ⟨fun p o hp ho => event_reg_ne s b (radr_ne_of_page hp ho (by decide)), ?_⟩
  unfold State.event State.blockRecord State.record
  dsimp only
  split
  · split
    · split <;> rfl
    · rfl
  · rfl

theorem shedsOnly_judgeShed (s : State) : s.shedsOnly s.judgeShed := by
  have hback := shedsOnly_trans (shedsOnly_trans
    (shedsOnly_forEach s.sched.shedTest (fun i s => s.setStrm i { s.strm i with shedTest := false }) (fun _ _ => shedsOnly_setStrm ..) s)
    (shedsOnly_shedTest _ [])) (shedsOnly_testVariants _)
  have hevent : ∀ (t : State) b, t.shedsOnly (t.shedEvent b) := fun t b => by
    unfold State.shedEvent
    split
    · exact shedsOnly_event ..
    · split
      · exact shedsOnly_event ..
      · exact shedsOnly_refl t
  unfold State.judgeShed
  dsimp only
  refine shedsOnly_trans ?_ (hevent _ _)
  split
  · exact shedsOnly_trans hback (shedsOnly_shedUntil ..)
  · exact hback

section Sheds

variable {s t : State} (h : s.shedsOnly t)

include h

theorem shedsOnly_eng (k : Nat) : t.eng k = s.eng k := by rw [h.rest]; rfl
theorem shedsOnly_pwr : t.pwr = s.pwr := by rw [h.rest]; rfl

end Sheds

/-! Engines that come and go (R107, R228, R349). -/

/-- From the first state to the second, the engines have kept all but their work queues and their places in rotation, and every page but
SCHED's its words. -/
structure State.rotatesOnly (s t : State) : Prop where
  engines : ∀ k, t.eng k = { s.eng k with work := (t.eng k).work, inRotation := (t.eng k).inRotation, returning := (t.eng k).returning
                                          draining := (t.eng k).draining, selftest := (t.eng k).selftest }
  regs : ∀ p o, p ≠ pgSched → o < 4096 → t.reg p o = s.reg p o

theorem rotatesOnly_refl (s : State) : s.rotatesOnly s := ⟨fun _ => rfl, fun _ _ _ _ => rfl⟩

theorem rotatesOnly_trans {s t u : State} (h : s.rotatesOnly t) (k : t.rotatesOnly u) : s.rotatesOnly u := by
  refine ⟨fun i => ?_, fun p o hp ho => (k.regs p o hp ho).trans (h.regs p o hp ho)⟩
  have hk := k.engines i
  rw [h.engines i] at hk
  exact hk

theorem rotatesOnly_forEach {α : Type} (l : List α) (f : α → State → State) (hf : ∀ x s, State.rotatesOnly s (f x s)) (s : State) :
    s.rotatesOnly (forEach l f s) := forEach_rel State.rotatesOnly rotatesOnly_refl rotatesOnly_trans l f hf s

theorem rotatesOnly_of_placesOnly {s t : State} (h : s.placesOnly t) : s.rotatesOnly t :=
  ⟨fun k => by rw [h.engines k], fun p o _ _ => placesOnly_reg h p o⟩

theorem rotatesOnly_of_shedsOnly {s t : State} (h : s.shedsOnly t) : s.rotatesOnly t :=
  ⟨fun k => by rw [shedsOnly_eng h], h.regs⟩

/-- An engine's place in rotation changed. -/
theorem rotatesOnly_setEng (s : State) (e : Nat) (v : Engine) (hv : v = { s.eng e with
    work := v.work, inRotation := v.inRotation, returning := v.returning, draining := v.draining, selftest := v.selftest }) :
    s.rotatesOnly (s.setEng e v) := by
  refine ⟨fun k => ?_, fun _ _ _ _ => rfl⟩
  rw [setEng_eng]
  split
  · rename_i h
    rw [h]
    exact hv
  · rfl

theorem rotatesOnly_checkSelftest (s : State) (e : Nat) : s.rotatesOnly (s.checkSelftest e) := by
  unfold State.checkSelftest
  dsimp only
  split
  · exact rotatesOnly_setEng s e _ rfl
  · exact rotatesOnly_refl s

theorem rotatesOnly_drain (s : State) (e : Nat) : s.rotatesOnly (s.drain e) :=
  rotatesOnly_trans (rotatesOnly_setEng s e _ rfl) <| rotatesOnly_trans (rotatesOnly_of_shedsOnly (shedsOnly_judgeShed _)) <|
    rotatesOnly_trans (rotatesOnly_of_placesOnly (placesOnly_forEach _ _ (fun _ _ => placesOnly_place ..) _)) (rotatesOnly_checkSelftest ..)

theorem rotatesOnly_bringBack (s : State) : s.rotatesOnly s.bringBack := by
  unfold State.bringBack
  dsimp only
  refine rotatesOnly_trans ?_ (rotatesOnly_forEach _ _ (fun _ _ => rotatesOnly_drain ..) _)
  split
  · exact rotatesOnly_refl s
  · exact rotatesOnly_trans (rotatesOnly_forEach _ _ (fun e s => rotatesOnly_setEng s e _ rfl) _) <|
      rotatesOnly_trans (rotatesOnly_of_shedsOnly (shedsOnly_judgeShed _)) (rotatesOnly_of_placesOnly (placesOnly_placeWaiting _))

theorem rotatesOnly_comeBack (s : State) (e : Nat) : s.rotatesOnly (s.comeBack e) := by
  unfold State.comeBack
  dsimp only
  split
  · exact rotatesOnly_trans (rotatesOnly_setEng s e _ rfl) (rotatesOnly_bringBack _)
  · exact rotatesOnly_setEng s e _ rfl

/-- A part of an engine that neither its work queue nor its place in rotation show. -/
theorem rotatesOnly_keeps {s t : State} (h : s.rotatesOnly t) {β : Type} (v : Engine → β)
    (hv : ∀ (g : Engine) w i r d f, v { g with work := w, inRotation := i, returning := r, draining := d, selftest := f } = v g) (k : Nat) :
    v (t.eng k) = v (s.eng k) := by rw [h.engines k, hv]

end Sys2Proof.Machine
end

section
/-! SUPPORT. RUN, soft resets, hangs and self-tests of an engine (R106 to R111, R142, R146, R228, R343, R349, R350, R377, R392). -/

namespace Sys2Proof.Machine

open Sys2Proof

/-! Engines emptied (R95, R142, R146, R350). -/

/-- From the first state to the second, the engines have kept what a cancel or an eviction does not take, and the registers and memory are
the same. -/
structure State.emptiesOnly (s t : State) : Prop where
  engines : ∀ k, t.eng k = { s.eng k with
    work := (t.eng k).work, ready := (t.eng k).ready, sb := (t.eng k).sb, granted := (t.eng k).granted, exec := (t.eng k).exec
    matrixQ := (t.eng k).matrixQ, vectorQ := (t.eng k).vectorQ, moverQ := (t.eng k).moverQ, tack := (t.eng k).tack
    credits := (t.eng k).credits, check := (t.eng k).check }
  regs : t.regs = s.regs
  mem : t.mem = s.mem

theorem emptiesOnly_refl (s : State) : s.emptiesOnly s := ⟨fun _ => rfl, rfl, rfl⟩

theorem emptiesOnly_trans {s t u : State} (h : s.emptiesOnly t) (k : t.emptiesOnly u) : s.emptiesOnly u := by
  refine ⟨fun i => ?_, k.regs.trans h.regs, k.mem.trans h.mem⟩
  have hk := k.engines i
  rw [h.engines i] at hk
  exact hk

theorem emptiesOnly_of_placesOnly {s t : State} (h : s.placesOnly t) : s.emptiesOnly t :=
  ⟨fun k => by rw [h.engines k], by rw [h.rest]; rfl, placesOnly_mem h⟩

/-- A part of an engine that a cancel and an eviction leave. -/
theorem emptiesOnly_keeps {s t : State} (h : s.emptiesOnly t) {β : Type} (v : Engine → β)
    (hv : ∀ (g : Engine) w r b c x m n o k d y, v { g with
      work := w, ready := r, sb := b, granted := c, exec := x, matrixQ := m, vectorQ := n, moverQ := o, tack := k, credits := d
      check := y } = v g) (k : Nat) : v (t.eng k) = v (s.eng k) := by rw [h.engines k, hv]

theorem emptiesOnly_reg {s t : State} (h : s.emptiesOnly t) (p o : Nat) : t.reg p o = s.reg p o := by rw [State.reg, State.reg, h.regs]

/-- What an engine holds replaced. -/
theorem emptiesOnly_setEng (s : State) (e : Nat) (v : Engine) (hv : v = { s.eng e with
    work := v.work, ready := v.ready, sb := v.sb, granted := v.granted, exec := v.exec, matrixQ := v.matrixQ, vectorQ := v.vectorQ
    moverQ := v.moverQ, tack := v.tack, credits := v.credits, check := v.check }) : s.emptiesOnly (s.setEng e v) := by
  refine ⟨fun k => ?_, rfl, rfl⟩
  rw [setEng_eng]
  split
  · rename_i h
    rw [h]
    exact hv
  · rfl

theorem emptiesOnly_cancel (s : State) (e : Nat) (p : Work → Bool) : s.emptiesOnly (s.cancel e p) := by
  unfold State.cancel
  dsimp only
  exact emptiesOnly_setEng s e _ rfl

/-- Credits returned void scoreboard entries and end the sender's credits; the rest of the engines stays. -/
theorem returnCredits_engines (s : State) (e k : Nat) : (s.returnCredits e).eng k =
    { s.eng k with sb := ((s.returnCredits e).eng k).sb, credits := ((s.returnCredits e).eng k).credits } := by
  let R : State → State → Prop := fun s t => ∀ k, t.eng k = { s.eng k with sb := (t.eng k).sb, credits := (t.eng k).credits }
  have htrans : ∀ {s t u : State}, R s t → R t u → R s u := fun h h' i => by
    have hk := h' i
    rw [h i] at hk
    exact hk
  have hset : ∀ (s : State) j b c, R s (s.setEng j { s.eng j with sb := b, credits := c }) := fun s j b c i => by
    rw [setEng_eng]
    split
    · rename_i h
      rw [h]
    · rfl
  exact htrans (forEach_rel R (fun _ _ => rfl) htrans _ _ (fun c s => hset s _ _ _) s) (hset _ e _ _) k

theorem returnCredits_keeps {β : Type} (v : State → β) (hv : ∀ (s : State) e g, v (s.setEng e g) = v s) (s : State) (e : Nat) :
    v (s.returnCredits e) = v s := by
  unfold State.returnCredits
  dsimp only
  rw [hv, forEach_keeps v _ _ fun _ _ => hv ..]

theorem emptiesOnly_returnCredits (s : State) (e : Nat) : s.emptiesOnly (s.returnCredits e) := by
  exact ⟨fun k => (by rw [returnCredits_engines s e k]), returnCredits_keeps State.regs (fun _ _ _ => rfl) s e,
    returnCredits_keeps State.mem (fun _ _ _ => rfl) s e⟩

/-- The staging regions' heads are tile state. -/
theorem rewind_keeps {β : Type} (v : State → β) (hv : ∀ (s : State) l, v { s with tiles := l } = v s) (s : State) (e : Nat)
    (l : List ReadyEntry) : v (s.rewind e l) = v s :=
  forEach_keeps v _ _ (fun j s => by
    dsimp only
    split
    · exact hv s _
    · rfl) s

theorem emptiesOnly_rewind (s : State) (e : Nat) (l : List ReadyEntry) : s.emptiesOnly (s.rewind e l) := by
  refine ⟨fun k => ?_, rewind_keeps State.regs (fun _ _ => rfl) .., rewind_keeps State.mem (fun _ _ => rfl) ..⟩
  rw [rewind_keeps (fun s : State => s.eng k) (fun _ _ => rfl)]

/-- The stripes of the ready queue that a cancel has reached. -/
def Engine.reached (g : Engine) : List ReadyEntry := g.ready.filter fun r => r.gone != 0

/-- A cancel has reached the stripe that executes. -/
def Engine.execReached (g : Engine) : Bool :=
  match g.exec with
  | some x => g.reached.any fun r => sameUnit r.work x.work
  | none => false

/-- The engine without the stripes that a cancel has reached (R95, R96). -/
def Engine.dropReached (g : Engine) : Engine :=
  { g with
    ready := g.ready.filter fun r => r.gone == 0
    sb := g.sb.map fun b => if ownedBy g.reached b.owner then SbEntry.free else b
    granted := g.granted.filter fun x => !ownedBy g.reached x.2.2
    exec := if g.execReached then none else g.exec
    matrixQ := if g.execReached then [] else g.matrixQ
    vectorQ := if g.execReached then [] else g.vectorQ
    moverQ := if g.execReached then [] else g.moverQ
    tack := if g.execReached then none else g.tack }

/-- A cancel that has reached a stripe completes. -/
theorem finishCancel_of_reached {s : State} {e : Nat} (h : (s.eng e).reached.isEmpty = false) : s.finishCancel e =
    (((((s.setEng e (s.eng e).dropReached).when (s.eng e).execReached fun s => s.returnCredits e).rewind e (s.eng e).reached).putBack e
      (((s.eng e).reached.filter fun r => r.gone == 1).map (·.work)))).placeWaiting := by
  unfold State.finishCancel
  dsimp only
  rw [if_neg (by simpa only [Engine.reached] using ne_true_of_eq_false h)]
  rfl

theorem finishCancel_of_none {s : State} {e : Nat} (h : (s.eng e).reached.isEmpty = true) : s.finishCancel e = s := if_pos h

theorem emptiesOnly_finishCancel (s : State) (e : Nat) : s.emptiesOnly (s.finishCancel e) := by
  cases h : (s.eng e).reached.isEmpty with
  | true => rw [finishCancel_of_none h]; exact emptiesOnly_refl s
  | false =>
    rw [finishCancel_of_reached h]
    refine emptiesOnly_trans ?_ (emptiesOnly_trans (emptiesOnly_rewind ..) (emptiesOnly_of_placesOnly
      (placesOnly_trans (placesOnly_putBack ..) (placesOnly_placeWaiting _))))
    refine emptiesOnly_trans (emptiesOnly_setEng s e (s.eng e).dropReached rfl) ?_
    unfold State.when
    split
    · exact emptiesOnly_returnCredits ..
    · exact emptiesOnly_refl _

/-- A band is part of its stream. -/
theorem withBand_keeps {β : Type} (v : State → β) (hv : ∀ (s : State) i x, v (s.setStrm i x) = v s) (s : State) (w : Work) (f : Band → Band) :
    v (s.withBand w f) = v s := by
  unfold State.withBand
  split
  · rfl
  · split
    · exact hv ..
    · rfl

theorem withBand_eng (s : State) (w : Work) (f : Band → Band) (k : Nat) : (s.withBand w f).eng k = s.eng k :=
  withBand_keeps (fun s : State => s.eng k) (fun _ _ _ => rfl) s w f

/-- What an eviction leaves: the engine executes nothing, and every engine keeps what an eviction does not take. -/
theorem evict_empties (s : State) (e : Nat) : s.emptiesOnly (s.evict e) ∧ ((s.evict e).eng e).exec = none := by
  have hplace : ∀ {t u : State}, t.placesOnly u → (s.emptiesOnly t ∧ (t.eng e).exec = none) → s.emptiesOnly u ∧ (u.eng e).exec = none :=
    fun h ht => ⟨emptiesOnly_trans ht.1 (emptiesOnly_of_placesOnly h), by rw [placesOnly_keeps h Engine.exec fun _ _ => rfl, ht.2]⟩
  have hband : ∀ {t : State} w f, (s.emptiesOnly t ∧ (t.eng e).exec = none) →
      s.emptiesOnly (t.withBand w f) ∧ ((t.withBand w f).eng e).exec = none := fun w f ht =>
    ⟨emptiesOnly_trans ht.1 ⟨fun k => by rw [withBand_eng], withBand_keeps State.regs (fun _ _ _ => rfl) ..,
      withBand_keeps State.mem (fun _ _ _ => rfl) ..⟩, by rw [withBand_eng, ht.2]⟩
  have hcancelled : s.emptiesOnly (((s.setEng e { s.eng e with work := [] }).cancel e fun _ => true).finishCancel e) :=
    emptiesOnly_trans (emptiesOnly_setEng s e _ rfl) (emptiesOnly_trans (emptiesOnly_cancel ..) (emptiesOnly_finishCancel ..))
  have hstopped : ∀ {t : State} (v : Engine), s.emptiesOnly t → t.emptiesOnly (t.setEng e v) → v.exec = none →
      s.emptiesOnly (t.setEng e v) ∧ ((t.setEng e v).eng e).exec = none := fun v h hv hx =>
    ⟨emptiesOnly_trans h hv, by rw [setEng_eng, if_pos rfl, hx]⟩
  unfold State.evict
  dsimp only
  split
  · exact hplace (placesOnly_placeFirst ..) <| hband _ _ <| hplace (placesOnly_forEach _ _ (fun _ _ => placesOnly_place ..) _) <|
      hstopped _ hcancelled (emptiesOnly_setEng _ e _ rfl) rfl
  · exact hplace (placesOnly_forEach _ _ (fun _ _ => placesOnly_place ..) _) <|
      hstopped _ hcancelled (emptiesOnly_setEng _ e _ rfl) rfl

/-! RUN and resets (R111, R349). -/

/-- RUN written: the engine is in rotation when it may run and is fit (R111). -/
theorem engineRun_result (s : State) (e : Nat) (r : Bool) : bitAt ((s.engineRun e r).reg (pgEng e) 8) 0 = r ∧
    ((s.engineRun e r).eng e).inRotation =
      (r && !(s.eng e).fenced && !(s.eng e).resetting && !(s.eng e).frozen && (s.eng e).selftest != 3) := by
  have hplaced := placesOnly_placeWaiting
  refine ⟨?_, ?_⟩
  · rw [State.engineRun, placesOnly_reg (hplaced _), setEng_reg', setRfld_reg_same, bitAt_putFld _ _ _ _ _ (by decide)]
    cases r <;> rfl
  · rw [State.engineRun, placesOnly_keeps (hplaced _) Engine.inRotation fun _ _ => rfl, setEng_eng, if_pos rfl]
    simp only [setRfld_eng]

theorem softReset_of_resetting {s : State} {e : Nat} (h : (s.eng e).resetting = true) : s.softReset e = s := if_pos h

/-- A soft reset takes the engine out of rotation and empties it (R349, R350). -/
theorem softReset_result {s : State} {e : Nat} (h : (s.eng e).resetting = false) : ((s.softReset e).eng e).resetting = true ∧
    ((s.softReset e).eng e).inRotation = false ∧ ((s.softReset e).eng e).exec = none := by
  let g : Engine := { s.eng e with resetting := true, inRotation := false, returning := false, draining := false }
  have hreset : s.softReset e = ((s.setEng e g).returnCredits e).evict e := if_neg (by rw [h]; decide)
  have hempty := emptiesOnly_trans (emptiesOnly_returnCredits (s.setEng e g) e) (evict_empties ((s.setEng e g).returnCredits e) e).1
  have hg : (s.setEng e g).eng e = g := by rw [setEng_eng, if_pos rfl]
  rw [hreset]
  refine ⟨?_, ?_, (evict_empties _ e).2⟩
  · rw [emptiesOnly_keeps hempty Engine.resetting fun _ _ _ _ _ _ _ _ _ _ _ _ => rfl, hg]
  · rw [emptiesOnly_keeps hempty Engine.inRotation fun _ _ _ _ _ _ _ _ _ _ _ _ => rfl, hg]

theorem resetDone_of_reset {s : State} {e : Nat} (h : (s.eng e).resetting = true) (hhang : (s.eng e).hang < 2) :
    s.resetDone e = (s.event (pgEng e) 9).engineBack e := if_pos (by simp [h, hhang])

/-- An engine that serves again is out of reset, not frozen and off the hang ladder. -/
theorem engineBack_result (s : State) (e : Nat) : ((s.engineBack e).eng e).resetting = false ∧ ((s.engineBack e).eng e).frozen = false ∧
    ((s.engineBack e).eng e).hang = 0 := by
  have hback := fun (t : State) => rotatesOnly_comeBack t e
  unfold State.engineBack
  refine ⟨?_, ?_, ?_⟩
  · rw [rotatesOnly_keeps (hback _) Engine.resetting fun _ _ _ _ _ _ => rfl, setEng_eng, if_pos rfl]
  · rw [rotatesOnly_keeps (hback _) Engine.frozen fun _ _ _ _ _ _ => rfl, setEng_eng, if_pos rfl]
  · rw [rotatesOnly_keeps (hback _) Engine.hang fun _ _ _ _ _ _ => rfl, setEng_eng, if_pos rfl]

theorem engineBack_reg (s : State) (e : Nat) {p o : Nat} (hp : p ≠ pgSched) (ho : o < 4096) : (s.engineBack e).reg p o = s.reg p o := by
  unfold State.engineBack
  rw [(rotatesOnly_comeBack _ e).regs p o hp ho]
  rfl

theorem pgEng_ne_pgSched (e : Nat) : pgEng e ≠ pgSched := by simp only [pgEng, pgSched]; omega

/-! Scalar-core and vector-unit errors. -/

/-- The first error of the last second abandons the stripe and nothing more. -/
theorem datapathError_first {s : State} {e : Nat} (h : (s.eng e).scalarErrs = []) (cls : Nat) :
    s.datapathError e cls = s.setEng e { (s.eng e).abandon cls [] with scalarErrs := [s.clk.up] } := by
  simp only [State.datapathError, h]
  rfl

/-- Settles O24: what each of the commands does when it acts; a reset and its end through `State.emptiesOnly` and `State.rotatesOnly`. -/
theorem engineRunAndReset : Obligations.EngineRunAndReset := by
  unfold Obligations.EngineRunAndReset
  refine ⟨?_, ?_, ?_, ?_, ?_, ?_, ?_⟩
  · intro s e r
    obtain ⟨hbit, hrot⟩ := engineRun_result s e r
    refine ⟨_, rfl, hbit, ?_⟩
    rw [hrot]
    simp [and_assoc]
  · intro s e
    refine ⟨_, rfl, ?_⟩
    cases h : (s.eng e).resetting with
    | true => exact ⟨by rw [softReset_of_resetting h, h], nofun⟩
    | false =>
      obtain ⟨hreset, hrot, hexec⟩ := softReset_result h
      exact ⟨hreset, fun _ => ⟨hrot, hexec⟩⟩
  · intro s e h hhang
    obtain ⟨hreset, hfrozen, hladder⟩ := engineBack_result (s.event (pgEng e) 9) e
    refine ⟨_, congrArg done (resetDone_of_reset h hhang), hreset, hfrozen, hladder, ?_⟩
    rw [engineBack_reg _ _ (pgEng_ne_pgSched e) (by decide)]
    exact event_reg_bit _ _ _ (by decide)
  · intro s e hx hr hf
    exact congrArg done (if_pos (by rw [hx, hr, hf]; rfl))
  · intro s e hs hr hh
    refine done_eq (if_pos (by rw [hr, hh]; rfl)) ?_
    exact settled_setEng hs e _ (by rfl)
  · intro s e h
    exact congrArg done (if_pos h)
  · intro s e x hs hx hf herr
    have hrun : s.scalarMismatch e = s.setEng e { (s.eng e).abandon 0x0B [] with scalarErrs := [s.clk.up] } :=
      (if_pos (by rw [hx, hf]; rfl)).trans (datapathError_first herr 0x0B)
    refine ⟨_, done_eq hrun (settled_setEng hs e _ (by rfl)), ?_, ?_, ?_, fun _ => rfl⟩
    · rw [setEng_eng, if_pos rfl]
      simp only [Engine.abandon, hx, Option.map_some]
    · rw [setEng_eng, if_pos rfl]
    · rw [setEng_eng, if_pos rfl]
      rfl

end Sys2Proof.Machine
end

section
/-! SUPPORT. Self-tests of an engine (R106 to R108, R228, R377, R392): how a request is judged, and an engine that holds nothing. -/

namespace Sys2Proof.Machine

open Sys2Proof

/-! What is open and what loads the engines (R203, R204, R220). -/

theorem openItems_congr {s t : State} (hs : t.strms = s.strms) (hj : t.jobs = s.jobs) : t.openItems = s.openItems := by
  simp only [State.openItems, State.strm, State.job, hs, hj]

theorem activeItems_congr {s t : State} (hs : t.strms = s.strms) (hj : t.jobs = s.jobs) (hi : t.images = s.images) (hl : t.live = s.live) :
    t.activeItems = s.activeItems := by
  simp only [State.activeItems, State.jobItems, State.bindItems, State.tensorItem, State.streamItem, State.periodOf, State.jobImage,
    State.strm, State.job, hs, hj, hi, hl]

/-! Requests. -/

/-- The registers of the state once a request has been taken: FORCE as written, REQ clear. -/
def State.testAsked (s : State) (e : Nat) (w : Word) : State :=
  (s.setRfld (pgEng e) 0x120 1 1 (fld w 1 1)).setRfld (pgEng e) 0x120 0 1 0

theorem testAsked_force (s : State) (e : Nat) (w : Word) : bitAt ((s.testAsked e w).reg (pgEng e) 0x120) 1 = bitAt w 1 := by
  have hbit : (fld w 1 1).testBit 0 = bitAt w 1 := by rw [fld_testBit]; rfl
  rw [State.testAsked, setRfld_reg_same, bitAt_putFld _ _ _ _ _ (by decide), if_neg (by decide), setRfld_reg_same,
    bitAt_putFld _ _ _ _ _ (by decide), if_pos (by decide), Nat.sub_self, hbit]

@[simp] theorem testAsked_eng (s : State) (e : Nat) (w : Word) (k : Nat) : (s.testAsked e w).eng k = s.eng k := (rfl)
@[simp] theorem testAsked_pwr (s : State) (e : Nat) (w : Word) : (s.testAsked e w).pwr = s.pwr := (rfl)
@[simp] theorem testAsked_mem (s : State) (e : Nat) (w : Word) : (s.testAsked e w).mem = s.mem := (rfl)
@[simp] theorem testAsked_strms (s : State) (e : Nat) (w : Word) : (s.testAsked e w).strms = s.strms := (rfl)
@[simp] theorem testAsked_jobs (s : State) (e : Nat) (w : Word) : (s.testAsked e w).jobs = s.jobs := (rfl)
theorem testAsked_rotation (s : State) (e : Nat) (w : Word) : (s.testAsked e w).rotation = s.rotation := (rfl)
theorem testAsked_openItems (s : State) (e : Nat) (w : Word) (g : Engine) : ((s.testAsked e w).setEng e g).openItems = s.openItems :=
  openItems_congr (by rw [setEng_strms, testAsked_strms]) (by rw [setEng_jobs, testAsked_jobs])
theorem testAsked_activeItems (s : State) (e : Nat) (w : Word) : (s.testAsked e w).activeItems = s.activeItems :=
  activeItems_congr (testAsked_strms ..) (testAsked_jobs ..) rfl rfl
theorem settled_testAsked {s : State} (h : s.settled) (e : Nat) (w : Word) : (s.testAsked e w).settled :=
  settled_setRfld (settled_setRfld h ..) ..

theorem testAsked_reg_ne (s : State) (e : Nat) (w : Word) {p o : Nat} (h : radr p o ≠ radr (pgEng e) 0x120) :
    (s.testAsked e w).reg p o = s.reg p o := by
  rw [State.testAsked, setRfld_reg_ne _ _ _ _ h, setRfld_reg_ne _ _ _ _ h]

section Request

variable {s : State} {e : Nat} {w : Word}

/-- During a test a request only writes FORCE (R106). -/
theorem requestTest_testing (h : (s.eng e).testing = true) : s.requestTest e w = s.setRfld (pgEng e) 0x120 1 1 (fld w 1 1) :=
  if_pos (by rw [h, Bool.or_true])

variable (hreq : bitAt w 0 = true) (htest : (s.eng e).testing = false) (hkat : (s.eng e).check.kat = none)

include hreq htest hkat

theorem requestTest_answer : s.requestTest e w = (s.setRfld (pgEng e) 0x120 1 1 (fld w 1 1)).answerTest e := by
  simp only [State.requestTest, hreq, htest, hkat, Bool.not_true, Bool.or_self, Bool.false_eq_true, if_false, Option.isSome_none]

/-- A fenced engine answers FAIL. -/
theorem requestTest_fenced (hf : (s.eng e).fenced = true) :
    s.requestTest e w = ((s.testAsked e w).setEng e { s.eng e with selftest := 5 }).event (pgEng e) 8 := by
  rw [requestTest_answer hreq htest hkat]
  unfold State.answerTest
  dsimp only
  rw [if_pos (by rwa [setRfld_eng, setRfld_eng]), setRfld_eng, setRfld_eng]
  unfold State.testAsked
  rfl

variable (hf : (s.eng e).fenced = false)

include hf

/-- Outside ACTIVE, and by force, every request is accepted (R228, R392). -/
theorem requestTest_accept (h : s.pwr.state ≠ .active ∨ bitAt w 1 = true) :
    s.requestTest e w = (s.testAsked e w).acceptTest e (bitAt w 1) := by
  have hforce := testAsked_force s e w
  unfold State.testAsked at hforce ⊢
  rw [requestTest_answer hreq htest hkat]
  unfold State.answerTest
  dsimp only
  rw [if_neg (by rw [setRfld_eng, setRfld_eng, hf]; decide), hforce]
  exact if_pos h

/-- A request that the other engines cannot bear is refused (R107). -/
theorem requestTest_refuse (hforce : bitAt w 1 = false) (hact : s.pwr.state = .active)
    (hfit : fits (s.rotation.filter (· != e)).length s.activeItems = false) :
    s.requestTest e w = (s.testAsked e w).setEng e { s.eng e with selftest := 2 } := by
  have hno : ¬ ((s.testAsked e w).pwr.state ≠ .active ∨ bitAt ((s.testAsked e w).reg (pgEng e) 0x120) 1 = true) := by
    rw [testAsked_force, hforce, testAsked_pwr, hact]
    decide
  have hbear : ¬ fits ((s.testAsked e w).rotation.filter (· != e)).length (s.testAsked e w).activeItems = true := by
    rw [testAsked_rotation, testAsked_activeItems, hfit]
    decide
  unfold State.testAsked at hno hbear ⊢
  rw [requestTest_answer hreq htest hkat]
  unfold State.answerTest
  dsimp only
  rw [if_neg (by rw [setRfld_eng, setRfld_eng, hf]; decide), if_neg hno, if_neg hbear, setRfld_eng, setRfld_eng]

end Request

/-! An engine that holds nothing leaves rotation at once (R107, R228). -/

section Empty

variable {s : State} {e : Nat} (hw : (s.eng e).work = []) (hr : (s.eng e).ready = []) (hx : (s.eng e).exec = none)

include hw hr hx

/-- The drain of an engine that holds nothing: shedding is judged, and the test starts. -/
theorem drain_of_empty (ht : (s.eng e).selftest = 1) : ∃ u : State, (s.setEng e { s.eng e with draining := true, work := [] }).shedsOnly u ∧
    s.drain e = u.setEng e { u.eng e with selftest := 3, draining := false, inRotation := false } := by
  let v := s.setEng e { s.eng e with draining := true, work := [] }
  have hsheds := shedsOnly_judgeShed v
  have hg : v.judgeShed.eng e = { s.eng e with draining := true, work := [] } := by
    rw [shedsOnly_eng hsheds, setEng_eng, if_pos rfl]
  refine ⟨v.judgeShed, hsheds, ?_⟩
  unfold State.drain
  dsimp only
  rw [hw, forEach_nil]
  exact if_pos (by rw [hg]; simp [hr, hx, ht])

/-- A request accepted of an engine that holds nothing, while nothing is open or by force. -/
theorem acceptTest_of_empty {force : Bool}
    (hnow : force = true ∨ (s.setEng e { s.eng e with selftest := 1, selfForce := force }).openItems = []) :
    ((s.acceptTest e force).eng e).selftest = 3 ∧ ((s.acceptTest e force).eng e).inRotation = false ∧
    (s.acceptTest e force).pwr = s.pwr ∧ ∀ p o, p ≠ pgSched → o < 4096 → (s.acceptTest e force).reg p o = s.reg p o := by
  let g : Engine := { s.eng e with selftest := 1, selfForce := force }
  have hg : (s.setEng e g).eng e = g := by rw [setEng_eng, if_pos rfl]
  have hdrain : s.acceptTest e force = (s.setEng e g).drain e := if_pos (by
    rcases hnow with h | h
    · rw [h]; rfl
    · rw [h, List.isEmpty_nil, Bool.or_true])
  obtain ⟨u, hu, hdrained⟩ := drain_of_empty (s := s.setEng e g) (e := e) (by rw [hg]; exact hw) (by rw [hg]; exact hr)
    (by rw [hg]; exact hx) (by rw [hg])
  rw [hdrain, hdrained]
  refine ⟨by rw [setEng_eng, if_pos rfl], by rw [setEng_eng, if_pos rfl], ?_, fun p o hp ho => ?_⟩
  · rw [setEng_pwr, shedsOnly_pwr hu]
    rfl
  · rw [setEng_reg', hu.regs p o hp ho]
    rfl

/-- A request of an engine that holds nothing, accepted at once: the test starts, and nothing that the wake looks at changes. -/
theorem acceptTest_asked {w : Word} (hnow : bitAt w 1 = true ∨ s.openItems = []) :
    (((s.testAsked e w).acceptTest e (bitAt w 1)).eng e).selftest = 3 ∧
    (((s.testAsked e w).acceptTest e (bitAt w 1)).eng e).inRotation = false ∧
    ((s.testAsked e w).acceptTest e (bitAt w 1)).pwr = s.pwr ∧
    ((s.testAsked e w).acceptTest e (bitAt w 1)).reg pgPmu 0x110 = s.reg pgPmu 0x110 := by
  have hpage : radr pgPmu 0x110 ≠ radr (pgEng e) 0x120 :=
    radr_ne_of_page (by simp only [pgPmu, pgEng]; omega) (by decide) (by decide)
  obtain ⟨htest, hrot, hpwr, hregs⟩ := acceptTest_of_empty (s := s.testAsked e w) (e := e) (force := bitAt w 1)
    (by rwa [testAsked_eng]) (by rwa [testAsked_eng]) (by rwa [testAsked_eng]) (hnow.imp_right fun h => by rw [testAsked_openItems, h])
  exact ⟨htest, hrot, hpwr.trans (testAsked_pwr ..), (hregs _ _ (by decide) (by decide)).trans (testAsked_reg_ne _ _ _ hpage)⟩

end Empty

/-! The wake (R377). -/

theorem wake_of_awake {s : State} (h : s.pwr.state ≠ .standby) (ht : s.pwr.trans = none) : s.wake = s := by
  unfold State.wake
  rw [ht]
  cases hs : s.pwr.state with
  | standby => exact absurd hs h
  | _ => rfl

theorem orderTest_of_awake {s : State} {e : Nat} {w : Word} (h : s.pwr.state ≠ .standby ∧ s.pwr.trans = none)
    (hp : (s.requestTest e w).pwr = s.pwr) : s.orderTest e w = s.requestTest e w := by
  unfold State.orderTest State.when
  split
  · exact wake_of_awake (hp ▸ h.1) (hp ▸ h.2)
  · rfl

theorem tooHot_congr {s t : State} (hp : t.pwr = s.pwr) (hr : t.reg pgPmu 0x110 = s.reg pgPmu 0x110) : t.tooHot = s.tooHot := by
  have hwarn : t.warn = s.warn := by rw [State.warn, State.warn, State.rfld, State.rfld, hr]
  have hmax : t.tempMax = s.tempMax := by rw [State.tempMax, State.tempMax, hp]
  rw [State.tooHot, State.tooHot, State.hotAt, State.hotAt, hp, hmax, hwarn]

/-- The wake from STANDBY starts a transition to IDLE and leaves the engines. -/
theorem wake_of_standby {s : State} (h : s.pwr.state = .standby) (ht : s.pwr.trans = none) (hcool : s.tooHot = false) :
    s.wake.pwr.trans.map (·.target) = some .idle ∧ ∀ k, s.wake.eng k = s.eng k := by
  have hwake : s.wake = (s.event pgPmu 2).startTrans .idle false false := by
    unfold State.wake
    rw [h, ht]
    exact if_neg (by rw [hcool]; decide)
  rw [hwake]
  unfold State.startTrans
  dsimp only
  rw [event_pwr, h]
  refine ⟨rfl, fun k => ?_⟩
  exact event_eng ..

/-! The end of a test (R107). -/

/-- A part of an engine other than its work queue that an operation on another engine keeps. -/
theorem checkSelftest_other (s : State) {e k : Nat} (h : k ≠ e) : (s.checkSelftest e).eng k = s.eng k := by
  unfold State.checkSelftest
  dsimp only
  split
  · rw [setEng_eng, if_neg h]
  · rfl

/-- An engine that drains leaves of another one all but its work queue. -/
theorem drain_other_selftest (s : State) {e k : Nat} (h : k ≠ e) : ((s.drain e).eng k).selftest = (s.eng k).selftest := by
  have hsheds := shedsOnly_judgeShed (s.setEng e { s.eng e with draining := true, work := [] })
  unfold State.drain
  dsimp only
  rw [checkSelftest_other _ h, placesOnly_keeps (placesOnly_forEach _ _ (fun _ _ => placesOnly_place ..) _) Engine.selftest fun _ _ => rfl,
    shedsOnly_eng hsheds, setEng_eng, if_neg h]

/-- Engines that come back start no test of an engine that has none accepted. -/
theorem bringBack_selftest {s : State} {e : Nat} (h : (s.eng e).selftest ≠ 1) : (s.bringBack.eng e).selftest = (s.eng e).selftest := by
  have hdrains : ∀ (l : List Nat) (t : State), e ∉ l → ((forEach l (fun k s => s.drain k) t).eng e).selftest = (t.eng e).selftest := by
    intro l
    induction l with
    | nil => exact fun _ _ => rfl
    | cons k l ih =>
      intro t hl
      have hk : e ≠ k := fun h => hl (h ▸ List.mem_cons_self)
      rw [forEach_cons, ih _ fun h => hl (List.mem_cons_of_mem _ h), drain_other_selftest _ hk]
  have hback : ∀ (l : List Nat) (t : State),
      ((forEach l (fun k s => s.setEng k { s.eng k with returning := false, inRotation := true }) t).eng e).selftest =
        (t.eng e).selftest := fun l t => forEach_keeps (fun t : State => (t.eng e).selftest) l _ (fun k t => by
      dsimp only
      rw [setEng_eng]
      split
      · rename_i hk
        rw [hk]
      · rfl) t
  have hrest : ∀ t : State, (t.eng e).selftest = (s.eng e).selftest →
      ((forEach ((List.range 6).filter fun k => (t.eng k).selftest == 1 && !(t.eng k).draining) (fun k s => s.drain k) t).eng e).selftest =
        (s.eng e).selftest := fun t ht => by
    rw [hdrains _ _ (by simp [List.mem_filter, ht, h]), ht]
  unfold State.bringBack
  dsimp only
  refine hrest _ ?_
  split
  · rfl
  · rw [placesOnly_keeps (placesOnly_placeWaiting _) Engine.selftest fun _ _ => rfl, shedsOnly_eng (shedsOnly_judgeShed _), hback]

theorem comeBack_selftest {s : State} {e : Nat} (h : (s.eng e).selftest ≠ 1) :
    ((s.comeBack e).eng e).selftest = (s.eng e).selftest := by
  have hg : ((s.setEng e { s.eng e with returning := true }).eng e).selftest = (s.eng e).selftest := by rw [setEng_eng, if_pos rfl]
  unfold State.comeBack
  dsimp only
  split
  · rw [bringBack_selftest (by rwa [hg]), hg]
  · exact hg

section Done

variable {s : State} {e : Nat} (h : (s.eng e).selftest = 3) (f : Nat)

include h

/-- A test passed: the engine comes back (R107). -/
theorem testDone_pass : ((s.testDone e f true).eng e).selftest = 4 ∧ bitAt ((s.testDone e f true).reg (pgEng e) 0x10) 8 = true := by
  let t := ((s.setEng e { s.eng e with selftest := 4 }).setRfld (pgEng e) 0x120 8 8 0).event (pgEng e) 8
  have ht : (t.eng e).selftest = 4 := by
    simp only [t, event_eng, setRfld_eng, setEng_eng, if_pos]
  have hdone : s.testDone e f true = t.comeBack e := if_pos h
  rw [hdone, comeBack_selftest (by rw [ht]; decide), ht, (rotatesOnly_comeBack t e).regs _ _ (pgEng_ne_pgSched e) (by decide)]
  exact ⟨rfl, event_reg_bit _ _ _ (by decide)⟩

/-- A test failed: FAIL_UNIT names the unit, and the engine goes to the fault manager (R107, R108). -/
theorem testDone_fail (hf : f < 256) : ((s.testDone e f false).eng e).selftest = 5 ∧
    (s.testDone e f false).flt.due = s.flt.due ++ [.fence e false 0] ∧ (s.testDone e f false).rfld (pgEng e) 0x120 8 8 = f ∧
    bitAt ((s.testDone e f false).reg (pgEng e) 0x10) 8 = true := by
  let t := (s.setEng e { s.eng e with selftest := 5 }).setRfld (pgEng e) 0x120 8 8 f
  have hdone : s.testDone e f false = (t.fail (pgEng e) 8 (8 + 65536 * (s.eng e).jobSlot) 0).owe (.fence e false 0) := if_pos h
  rw [hdone]
  refine ⟨?_, ?_, ?_, ?_⟩
  · rw [owe_eng, fail_eng, setRfld_eng, setEng_eng, if_pos rfl]
  · rw [State.owe, fail_flt, setRfld_flt, setEng_flt]
  · rw [State.rfld, owe_reg, fail_reg_ne _ _ _ _ _ (by decide) (by decide), setRfld_reg_same, fld_putFld_same _ _ _ _ (by decide)]
    exact Nat.mod_eq_of_lt hf
  · exact event_reg_bit _ _ _ (by decide)

end Done

/-- Settles O23: a request is judged as `requestTest_accept` and its neighbours say, and the wake leaves what it has judged. -/
theorem engineSelfTest : Obligations.EngineSelfTest := by
  unfold Obligations.EngineSelfTest
  intro awake
  refine ⟨?_, ?_, ?_, ?_, ?_, ?_⟩
  · intro s e w hs hawake htest
    have hreq := requestTest_testing (w := w) htest
    have horder := orderTest_of_awake (w := w) hawake (by rw [hreq]; exact setRfld_pwr ..)
    exact done_eq (horder.trans hreq) (settled_setRfld hs ..)
  · intro s e w hs hawake hreq htest hkat hf
    have hrun := requestTest_fenced hreq htest hkat hf
    have horder := orderTest_of_awake (w := w) hawake (by rw [hrun, event_pwr, setEng_pwr, testAsked_pwr])
    refine ⟨_, done_eq (horder.trans hrun) (settled_event (settled_setEng (settled_testAsked hs e w) e _ (by rw [testAsked_eng])) ..), ?_, ?_, ?_⟩
    · rw [event_eng, setEng_eng, if_pos rfl]
    · exact event_reg_bit _ _ _ (by decide)
    · exact sameMemory_of_mem (by rw [event_mem, setEng_mem, testAsked_mem])
  · intro s e w hreq htest hkat hf hidle hawake hwork hready hexec hnow
    have hrun := requestTest_accept hreq htest hkat hf (.inl (by rw [hidle]; decide))
    obtain ⟨htest3, hrot, hpwr, -⟩ := acceptTest_asked hwork hready hexec hnow
    have horder := orderTest_of_awake (w := w) hawake (by rw [hrun, hpwr])
    exact ⟨_, congrArg done (horder.trans hrun), htest3, hrot⟩
  · intro s e w hs hreq hforce htest hkat hf hact hawake hfit
    have hrun := requestTest_refuse hreq htest hkat hf hforce hact hfit
    have horder := orderTest_of_awake (w := w) hawake (by rw [hrun, setEng_pwr, testAsked_pwr])
    refine ⟨_, done_eq (horder.trans hrun) (settled_setEng (settled_testAsked hs e w) e _ (by rw [testAsked_eng])), ?_, ?_⟩
    · rw [setEng_eng, if_pos rfl]
    · exact sameMemory_of_mem (by rw [setEng_mem, testAsked_mem])
  · intro s e w hreq htest hkat hf hstandby htrans hcool hwork hready hexec hnow
    have hrun := requestTest_accept hreq htest hkat hf (.inl (by rw [hstandby]; decide))
    obtain ⟨htest3, -, hpwr, hwarn⟩ := acceptTest_asked hwork hready hexec hnow
    obtain ⟨htarget, heng⟩ := wake_of_standby (s := (s.testAsked e w).acceptTest e (bitAt w 1)) (by rw [hpwr, hstandby])
      (by rw [hpwr, htrans]) ((tooHot_congr hpwr hwarn).trans hcool)
    have horder : s.orderTest e w = ((s.testAsked e w).acceptTest e (bitAt w 1)).wake := by
      rw [State.orderTest, State.when, if_pos hreq, hrun]
    exact ⟨_, congrArg done horder, by rw [heng, htest3], htarget⟩
  · intro s e f h
    obtain ⟨hpass, hpassed⟩ := testDone_pass h f.val
    obtain ⟨hfail, hdue, hunit, hfailed⟩ := testDone_fail h f.val f.isLt
    exact ⟨⟨_, rfl, hpass, hpassed⟩, ⟨_, rfl, hfail, hdue, hunit, hfailed⟩⟩

end Sys2Proof.Machine
end

section
/-! SUPPORT. Accesses of DRAM seen from the engines (R227, R236 to R256): the controller adds to their SLIP and leaves everything else of
them, and no access counts a stripe. The operations follow the order of the controller's own frame. -/

namespace Sys2Proof.Machine

open Sys2Proof

/-! Words that are no stripe count. -/

/-- A register word other than the stripe count of an engine (Table 05-10). -/
def otherWord (p o : Nat) : Prop := ∀ e < 6, radr (pgEng e) 0x100 ≠ radr p o

theorem otherWord_high {p : Nat} (h : 0x2C0 ≤ p) (o : Nat) : otherWord p o := fun e he => by
  simp only [radr, pgEng]
  omega

theorem otherWord_low {p o : Nat} (h : p < 0x200) (ho : o < 4096) : otherWord p o := fun e _ => by
  simp only [radr, pgEng]
  omega

theorem otherWord_off {p o : Nat} (h : o ≠ 0x100) (ho : o < 4096) : otherWord p o := fun e _ => by
  simp only [radr]
  omega

theorem otherWord_chReg (c o : Nat) : otherWord (chReg c).1 o := otherWord_high (by simp only [chReg]; omega) o

theorem otherWord_pgDrc (o : Nat) : otherWord pgDrc o := otherWord_high (by decide) o

/-! The relation. -/

/-- From the first state to the second, the engines have kept all but their SLIP, and their stripe counts. -/
structure State.leavesEngines (s t : State) : Prop where
  engines : ∀ k, t.eng k = { s.eng k with slip := (t.eng k).slip }
  counts : ∀ e < 6, t.reg (pgEng e) 0x100 = s.reg (pgEng e) 0x100

theorem leaves_refl (s : State) : s.leavesEngines s := ⟨fun _ => rfl, fun _ _ => rfl⟩

theorem leaves_trans {s t u : State} (h : s.leavesEngines t) (k : t.leavesEngines u) : s.leavesEngines u := by
  refine ⟨fun i => ?_, fun e he => (k.counts e he).trans (h.counts e he)⟩
  have hk := k.engines i
  rw [h.engines i] at hk
  exact hk

/-- A change that neither the engines nor the registers show. -/
theorem leaves_of_regs {s t : State} (he : t.engines = s.engines) (hr : t.regs = s.regs) : s.leavesEngines t :=
  ⟨fun k => by rw [eng_of_engines he], fun e _ => by rw [State.reg, State.reg, hr]⟩

theorem leaves_drawn (s : State) : s.leavesEngines s.drawn := leaves_of_regs rfl rfl
theorem leaves_withDram (s : State) (f : Dram → Dram) : s.leavesEngines (s.withDram f) := leaves_of_regs rfl rfl
theorem leaves_withFlt (s : State) (f : Flt) : s.leavesEngines ({ s with flt := f } : State) := leaves_of_regs rfl rfl
theorem leaves_setByte (s : State) (a : Nat) (b : Byte) : s.leavesEngines (s.setByte a b) := leaves_of_regs rfl rfl

/-- A register word written. -/
theorem leaves_setReg (s : State) {p o : Nat} (w : Word) (h : otherWord p o) : s.leavesEngines (s.setReg p o w) :=
  ⟨fun _ => rfl, fun e he => setReg_reg_ne s w (h e he)⟩
theorem leaves_setRfld (s : State) {p o : Nat} (l w v : Nat) (h : otherWord p o) : s.leavesEngines (s.setRfld p o l w v) :=
  leaves_setReg s _ h
theorem leaves_bump (s : State) {p o : Nat} (l w n : Nat) (h : otherWord p o) : s.leavesEngines (s.bump p o l w n) := leaves_setReg s _ h
theorem leaves_maxRfld (s : State) {p o : Nat} (l w v : Nat) (h : otherWord p o) : s.leavesEngines (s.maxRfld p o l w v) :=
  leaves_setReg s _ h
theorem leaves_event (s : State) (p b : Nat) : s.leavesEngines (s.event p b) :=
  ⟨fun k => by rw [event_eng], fun _ _ => event_reg_ne s b radr_ne⟩
theorem leaves_cause (s : State) (p c a : Nat) : s.leavesEngines (s.cause p c a) :=
  leaves_trans (leaves_trans (leaves_setReg s _ (otherWord_off (by decide) (by decide)))
    (leaves_setReg _ _ (otherWord_off (by decide) (by decide)))) (leaves_setReg _ _ (otherWord_off (by decide) (by decide)))
theorem leaves_fail (s : State) (p b c a : Nat) : s.leavesEngines (s.fail p b c a) := leaves_trans (leaves_cause ..) (leaves_event ..)
theorem leaves_fault (s : State) (c u j : Nat) : s.leavesEngines (s.fault c u j) :=
  ⟨fun k => by rw [fault_eng], fun e _ => fault_reg_ne s c u j (pgEng_ne_pgFlt e) (by decide)⟩
theorem leaves_addSlip (s : State) (e n : Nat) : s.leavesEngines (s.addSlip e n) := by
  refine ⟨fun k => ?_, fun _ _ => addSlip_reg_ne s e n radr_ne⟩
  rw [addSlip_eng]
  split
  · rename_i h
    rw [h]
  · rfl

theorem leaves_when (s : State) (c : Bool) (f : State → State) (h : s.leavesEngines (f s)) : s.leavesEngines (s.when c f) := by
  unfold State.when
  split
  · exact h
  · exact leaves_refl s

theorem leaves_forEach {α : Type} (l : List α) (f : α → State → State) (hf : ∀ x s, State.leavesEngines s (f x s)) (s : State) :
    s.leavesEngines (forEach l f s) := forEach_rel State.leavesEngines leaves_refl leaves_trans l f hf s

/-! The operations of the DRAM controller. -/

theorem clearFlips_leaves (s : State) (p : Nat) (l : List Nat) : State.leavesEngines s (s.clearFlips p l) := leaves_withDram ..
theorem setValid_leaves (s : State) (p m : Nat) : State.leavesEngines s (s.setValid p m) :=
  leaves_trans (leaves_withDram s _) (clearFlips_leaves ..)
theorem putChecks_leaves (s : State) (p : Nat) (c : List Nat) : State.leavesEngines s (s.putChecks p c) :=
  leaves_trans (leaves_withDram s _) (clearFlips_leaves ..)
theorem cachePage_leaves (s : State) (p : Nat) (c : List Nat) : State.leavesEngines s (s.cachePage p c) := leaves_withDram ..
theorem waitAt_leaves (s : State) (p : Nat) (w : WaitOp) : State.leavesEngines s (s.waitAt p w) := leaves_withDram ..

/-- A record of the retention log leaves the engines. -/
theorem log_leaves (s : State) (k c : Nat) (b : List Byte) : State.leavesEngines s (s.log k c b) := by
  unfold State.log
  dsimp only
  split
  · split
    · exact leaves_withFlt ..
    · exact leaves_event ..
  · exact leaves_withFlt ..

theorem retire_leaves (s : State) (p r : Nat) : State.leavesEngines s (s.retire p r) :=
  leaves_trans (leaves_trans (leaves_withDram s _) (leaves_fail _ _ _ _ _)) (leaves_withFlt _ _)

theorem spareRow_leaves (s : State) (p r : Nat) : State.leavesEngines s (s.spareRow p r) := by
  unfold State.spareRow
  split
  · exact leaves_refl s
  · split
    · exact leaves_withDram ..
    · exact retire_leaves ..

theorem bucketAdd_leaves (s : State) (p n : Nat) : State.leavesEngines s (s.bucketAdd p n) := by
  unfold State.bucketAdd
  dsimp only
  split
  · exact leaves_trans (leaves_withDram s _) (leaves_event _ _ _)
  · exact leaves_withDram ..

theorem rowError_leaves (s : State) (p r n : Nat) (m : Bool) : State.leavesEngines s (s.rowError p r n m) := by
  unfold State.rowError
  dsimp only
  split
  · exact leaves_trans (leaves_withDram s _) (spareRow_leaves _ _ _)
  · exact leaves_withDram ..

theorem countWords_leaves (s : State) (p n : Nat) : State.leavesEngines s (s.countWords p n) :=
  leaves_trans (leaves_bump s _ _ _ (otherWord_pgDrc _)) (leaves_bump _ _ _ _ (otherWord_chReg _ _))

theorem correct_leaves (s : State) (p r : Nat) (l : List Nat) : State.leavesEngines s (s.correct p r l) := by
  have h := fun n => leaves_trans (countWords_leaves s p n)
    (leaves_when _ (decide (r < 6)) (fun s => s.addSlip r (2 * n)) (leaves_addSlip _ _ _))
  unfold State.correct
  dsimp only
  split
  · exact h _
  · exact leaves_trans (h _) (leaves_trans (bucketAdd_leaves ..) (rowError_leaves ..))

theorem uncorrectable_leaves (s : State) (p r l : Nat) : State.leavesEngines s (s.uncorrectable p r l) := by
  unfold State.uncorrectable
  dsimp only
  refine leaves_trans ?_ (rowError_leaves ..)
  refine leaves_trans ?_ (leaves_withFlt _ _)
  refine leaves_trans ?_ (leaves_fault ..)
  refine leaves_trans ?_ (leaves_fail ..)
  refine leaves_trans ?_ (leaves_bump _ _ _ _ (otherWord_chReg _ _))
  refine leaves_trans ?_ (leaves_bump _ _ _ _ (otherWord_pgDrc _))
  refine leaves_trans ?_ (leaves_setRfld _ _ _ _ (otherWord_pgDrc _))
  refine leaves_trans ?_ (leaves_setReg _ _ (otherWord_pgDrc _))
  refine leaves_trans ?_ (leaves_setReg _ _ (otherWord_pgDrc _))
  refine leaves_trans ?_ (leaves_setReg _ _ (otherWord_pgDrc _))
  refine leaves_trans ?_ (leaves_setReg _ _ (otherWord_pgDrc _))
  refine leaves_trans ?_ (setValid_leaves ..)
  refine leaves_trans ?_ (putChecks_leaves ..)
  refine leaves_trans ?_ (clearFlips_leaves ..)
  exact leaves_forEach _ _ (fun w s => leaves_forEach _ _ (fun k s => leaves_setByte s _ _) s) s

theorem reconstruct_leaves (s : State) (p r : Nat) : State.leavesEngines s (s.reconstruct p r).1 := by
  have h := fun n k => leaves_trans (leaves_trans (leaves_trans (leaves_bump s 16 16 1 (otherWord_pgDrc 0x20))
    (leaves_bump _ 16 16 1 (otherWord_chReg (chanOf p) (chReg (chanOf p)).2))) (countWords_leaves _ p n)) (bucketAdd_leaves _ p k)
  unfold State.reconstruct
  dsimp only
  split
  · exact leaves_trans (h _ _) (uncorrectable_leaves ..)
  · split
    · exact leaves_trans (h _ _) (leaves_trans (clearFlips_leaves ..) (rowError_leaves ..))
    · exact leaves_trans (h _ _) (uncorrectable_leaves ..)

/-- A change made by one of two ways. -/
theorem leaves_ite {s t u : State} (c : Prop) [Decidable c] (ht : State.leavesEngines s t) (hu : State.leavesEngines s u) :
    State.leavesEngines s (if c then t else u) := by split <;> assumption

theorem applyMerge_leaves (s : State) (m : Merge) : State.leavesEngines s (s.applyMerge m) := by
  have hb : ∀ f : Nat → State → State, (∀ o s, f o s = s ∨ ∃ b, f o s = s.setByte (pageAddr m.page + o) b) →
      State.leavesEngines s (forEach (List.range 1024) f s) := fun f hf =>
    leaves_forEach _ _ (fun o s => by
      rcases hf o s with h | ⟨b, h⟩ <;> rw [h]
      · exact leaves_refl _
      · exact leaves_setByte _ _ _) s
  unfold State.applyMerge
  extract_lets p old new fresh s1 changed c0 c s2 s3 bad
  have h1 : State.leavesEngines s s1 := hb _ fun o s => by
    split
    · exact .inr ⟨_, rfl⟩
    · split
      · exact .inr ⟨_, rfl⟩
      · exact .inl rfl
  have h2 : State.leavesEngines s s2 := leaves_trans h1 (leaves_trans (clearFlips_leaves ..) (putChecks_leaves ..))
  have h3 : State.leavesEngines s s3 := leaves_ite _ h2 (leaves_trans h2 (cachePage_leaves ..))
  exact leaves_ite _ (leaves_trans h3 (setValid_leaves ..)) h3

theorem drainPage_leaves (s : State) (p r : Nat) : State.leavesEngines s (s.drainPage p r) := by
  unfold State.drainPage
  split
  · exact leaves_refl s
  · extract_lets s1 ws s2
    have h1 : State.leavesEngines s s1 := leaves_withDram ..
    have h2 : State.leavesEngines s s2 :=
      leaves_ite _ (leaves_trans h1 (reconstruct_leaves ..)) (leaves_trans h1 (correct_leaves ..))
    exact leaves_ite _ h1 (leaves_ite _ h2 (leaves_trans h2 (applyMerge_leaves ..)))

/-- An entry spilled from a channel that holds 24 leaves the engines. -/
theorem spill_leaves {s t : State} (h : State.leavesEngines s t) (c r : Nat) :
    State.leavesEngines s (if 24 ≤ t.mergeCount c then
      match t.dram.merge.find? fun m => chanOf m.page == c with
      | some m => (if (lockOf t.dram m.page).isSome then t.waitAt m.page .drain else t.drainPage m.page r, true)
      | none => (t, true)
    else (t, true)).1 := by
  split
  · split
    · exact leaves_ite _ (leaves_trans h (waitAt_leaves ..)) (leaves_trans h (drainPage_leaves ..))
    · exact h
  · exact h

theorem writeSector_leaves (s : State) (r a : Nat) (b : List (Option Byte)) : State.leavesEngines s (s.writeSector r a b).1 := by
  unfold State.writeSector
  dsimp only
  split
  · exact leaves_fail ..
  · refine spill_leaves ?_ _ _
    split
    · exact leaves_trans (leaves_trans (leaves_withDram s _) (leaves_maxRfld _ _ _ _ (otherWord_chReg _ _))) (drainPage_leaves ..)
    · exact leaves_trans (leaves_withDram s _) (leaves_maxRfld _ _ _ _ (otherWord_chReg _ _))

theorem respond_leaves (s : State) (r a x : Nat) : State.leavesEngines s (s.respond r a x).1 := by
  unfold State.respond
  dsimp only
  split
  · exact leaves_fail ..
  · exact correct_leaves ..

/-- The measured time of a reconstruction added to an engine's slip leaves the engines. -/
theorem slipFree_leaves (s : State) (r n : Nat) : State.leavesEngines s ((s.addSlip r n).drawn) :=
  leaves_trans (leaves_addSlip ..) (leaves_drawn _)

/-- A response after a reconstruction leaves the engines. -/
theorem recovered_leaves (s : State) (c : Bool) (f : State → State) (hf : State.leavesEngines s (f s)) (p r a : Nat) :
    State.leavesEngines s (((s.when c f).reconstruct p r).1.respond r a ((s.when c f).reconstruct p r).2).1 :=
  leaves_trans (leaves_when s c f hf) (leaves_trans (reconstruct_leaves ..) (respond_leaves ..))

theorem readNow_leaves (s : State) (r a : Nat) : State.leavesEngines s (s.readNow r a).1 := by
  rw [State.readNow]
  split
  · exact recovered_leaves s _ _ (slipFree_leaves s r _) _ r a
  · exact respond_leaves ..

theorem invalSectors_leaves (s : State) (p m : Nat) : State.leavesEngines s (s.invalSectors p m) := by
  unfold State.invalSectors
  dsimp only
  exact leaves_ite _ (drainPage_leaves ..) (leaves_trans (drainPage_leaves s p 10) (setValid_leaves ..))

/-! Locks and what waits at them. -/

theorem perform_leaves (s : State) (p : Nat) (w : WaitOp) (x : Nat) : State.leavesEngines s (s.perform p w x) := by
  have hw : ∀ r n, State.leavesEngines s (s.waited r n) := fun r n => leaves_when _ _ _ (leaves_addSlip ..)
  unfold State.perform
  split
  · exact waitAt_leaves ..
  · split
    · dsimp only [State.answer]
      refine leaves_trans ?_ (leaves_withDram _ _)
      split
      · exact leaves_trans (hw ..) (readNow_leaves ..)
      · exact leaves_trans (hw ..) (respond_leaves ..)
    · exact leaves_trans (hw ..) (writeSector_leaves ..)
    · exact invalSectors_leaves ..
    · exact drainPage_leaves ..

theorem release_leaves (s : State) (l : PageLock) (x : Nat) : State.leavesEngines s (s.release l x) := by
  unfold State.release
  dsimp only
  split
  · exact leaves_withDram ..
  · exact leaves_trans (leaves_withDram s _)
      (leaves_trans (perform_leaves ..) (leaves_forEach _ _ (fun _ _ => perform_leaves ..) _))

theorem reconDone_leaves (s : State) (l : PageLock) : State.leavesEngines s (s.reconDone l) :=
  leaves_trans (reconstruct_leaves s l.page l.req) (release_leaves ..)

theorem copyDone_leaves (s : State) (p : Nat) : State.leavesEngines s (s.copyDone p) := by
  unfold State.copyDone
  extract_lets s0 bad s2 r s3 s4
  have h0 : State.leavesEngines s s0 := drainPage_leaves ..
  have h2 : State.leavesEngines s s2 := leaves_ite _ h0 (leaves_ite _ (leaves_trans h0 (reconstruct_leaves ..))
    (leaves_trans h0 (leaves_trans (correct_leaves ..) (clearFlips_leaves ..))))
  have h4 : State.leavesEngines s s4 := leaves_trans (leaves_trans h2 (leaves_withDram ..))
    (leaves_trans (leaves_bump _ _ _ _ (otherWord_chReg _ _)) (leaves_trans (log_leaves ..) (leaves_event ..)))
  split
  · exact leaves_trans h4 (release_leaves ..)
  · exact h4

theorem unlocked_leaves (s : State) (p r : Nat) : State.leavesEngines s (s.unlocked p r) := by
  unfold State.unlocked
  refine leaves_forEach _ _ (fun _ s => ?_) s
  split
  · rename_i l _
    have h := leaves_when s (decide (r < 6)) (fun s => (s.addSlip r (s.freeWord.toNat % 2 ^ 16)).drawn) (slipFree_leaves s r _)
    exact leaves_ite _ (leaves_trans h (copyDone_leaves ..)) (leaves_trans h (reconDone_leaves ..))
  · exact leaves_refl s

theorem readSector_leaves (s : State) (r a : Nat) : State.leavesEngines s (s.readSector r a).1 :=
  leaves_trans (unlocked_leaves s (pageNum a) r) (readNow_leaves ..)

theorem grant_leaves (s : State) (p i n l : Nat) : State.leavesEngines s (s.grant p i n l) := by
  unfold State.grant
  dsimp only
  exact leaves_ite _ (leaves_ite _ (leaves_trans (leaves_bump s _ _ _ (otherWord_low (by decide) (by decide)))
    (leaves_bump _ _ _ _ (otherWord_low (by decide) (by decide)))) (leaves_bump s _ _ _ (otherWord_low (by decide) (by decide)))) (leaves_refl s)

theorem granted_leaves (s : State) (w a : Nat) : State.leavesEngines s (s.granted w a) := grant_leaves ..

/-- A fold of changes that answer something, whose answers are gathered beside the state, leaves the engines. -/
theorem gather_leaves {α β γ : Type} (g : State → α → State × γ) (k : β → γ → β) (hg : ∀ s a, State.leavesEngines s (g s a).1)
    (l : List α) (x : State × β) :
    State.leavesEngines x.1 (l.foldl (fun (x : State × β) a => ((g x.1 a).1, k x.2 (g x.1 a).2)) x).1 := by
  induction l generalizing x with
  | nil => exact leaves_refl _
  | cons a l ih => exact leaves_trans (hg x.1 a) (ih ((g x.1 a).1, k x.2 (g x.1 a).2))

/-- The sectors of a read leave the engines. -/
theorem readSectors_leaves (s : State) (w : Nat) (l : List Nat) (v : RangeRead) :
    State.leavesEngines s (l.foldl (fun (x : State × RangeRead) b =>
      let y := (x.1.granted w b).readSector (w % 16) b
      (y.1, ⟨x.2.data ++ y.2.data, x.2.valid && y.2.valid, x.2.poison || y.2.poison, x.2.error || y.2.error⟩)) (s, v)).1 := by
  induction l generalizing s v with
  | nil => exact leaves_refl _
  | cons a l ih =>
    rw [List.foldl_cons]
    exact leaves_trans (leaves_trans (granted_leaves s w a) (readSector_leaves ..)) (ih _ _)

/-- A read of DRAM leaves the engines. -/
theorem dramRead_leaves (s : State) (w a n : Nat) : State.leavesEngines s (s.dramRead w a n).1 := by
  rw [State.dramRead]
  exact readSectors_leaves s w _ _

/-- A write of DRAM leaves the engines. -/
theorem dramWrite_leaves (s : State) (w a : Nat) (b : List Byte) : State.leavesEngines s (s.dramWrite w a b).1 := by
  rw [State.dramWrite]
  generalize sectorsOf a b.length = l
  exact gather_leaves
    (fun s k => ((s.granted w k).unlocked (pageNum k) (w % 16)).writeSector (w % 16) (max a k)
      (((b.drop (max a k - a)).take (k + 64 - max a k)).map some))
    (fun (v : Bool) y => v || !y) (fun s k => leaves_trans (granted_leaves s w k)
      (leaves_trans (unlocked_leaves ..) (writeSector_leaves ..))) l (s, false)

theorem invalRange_leaves (s : State) (r a n : Nat) (held : List Nat) : State.leavesEngines s (s.invalRange r a n held) := by
  unfold State.invalRange
  split
  · exact leaves_cause ..
  · split
    · exact leaves_refl s
    · exact leaves_trans (leaves_trans (leaves_forEach _ _ (fun _ _ => drainPage_leaves ..) s) (leaves_withDram _ _))
        (leaves_forEach _ _ (fun _ _ => invalSectors_leaves ..) _)

theorem invalidate_leaves (s : State) (a n : Nat) : State.leavesEngines s (s.invalidate a n) :=
  leaves_trans (leaves_forEach _ _ (fun _ _ => unlocked_leaves ..) s) (invalRange_leaves ..)

end Sys2Proof.Machine
end

section
/-! SUPPORT. Fetching, cancelling and replaying of stripes (R91, R95 to R97, R103, R149): when nothing waits to be fetched, a plain line that
lands, and what a cancel leaves. -/

namespace Sys2Proof.Machine

open Sys2Proof

/-! Nothing to fetch. -/

theorem fetching_none {g : Engine} (h : ∀ r ∈ g.ready, r.waiting = []) : g.fetching = none := by
  refine List.find?_eq_none.2 fun r hr => ?_
  rw [h r.1 (List.fst_mem_of_mem_zipIdx hr)]
  simp

/-- With no stripe waiting for an allocation nothing is fetched. -/
theorem fetchNext_of_none {s : State} {e : Nat} (h : (s.eng e).fetching = none) : s.fetchNext e = (s, false) := by
  unfold State.fetchNext
  dsimp only
  rw [h]

theorem fetchGo_of_none {s : State} {e : Nat} (h : (s.eng e).fetching = none) (n : Nat) : s.fetchGo e n = s := by
  cases n with
  | zero => rfl
  | succ n => rw [State.fetchGo, fetchNext_of_none h]; rfl

/-! An engine that executes nothing starts nothing. -/

theorem startNext_of_no_exec {s : State} {e : Nat} (h : (s.eng e).exec = none) (u : EngUnit) : s.startNext e u = s := by
  have hrun : (s.eng e).running = none := by simp only [Engine.running, h]
  unfold State.startNext
  simp only [hrun]

theorem pump_of_no_exec {s : State} {e : Nat} (h : (s.eng e).exec = none) (hq : (s.eng e).moverQ = []) : s.pump e = s := by
  have hsend : s.sendPut e = s := sendPut_of_no_put fun c l hc => by rw [hq] at hc; exact absurd hc nofun
  simp only [State.pump, hsend, List.foldl_cons, List.foldl_nil, startNext_of_no_exec h]

/-! Reads of an engine. -/

/-- A part of an engine other than its SLIP. -/
theorem leaves_keeps {s t : State} (h : s.leavesEngines t) {β : Type} (v : Engine → β) (hv : ∀ (g : Engine) n, v { g with slip := n } = v g)
    (k : Nat) : v (t.eng k) = v (s.eng k) := by rw [h.engines k, hv]

theorem engRead_leaves (s : State) (e : Nat) (w : Work) (a : Nat) : s.leavesEngines (s.engRead e w a).1 :=
  leaves_trans (granted_leaves ..) (readSector_leaves ..)

/-- The sectors of a fetched range, of a band ring or not. -/
theorem fetchSectors_leaves (s : State) (e : Nat) (w : Work) (a n : Nat) (ring : Bool) (from_ : Nat → Nat) (l : List Nat)
    (v : List Byte × Bool × Bool) : s.leavesEngines (l.foldl (fun (x : State × List Byte × Bool × Bool) b =>
      let y := x.1.engRead e w (from_ b)
      let lo := max a b
      let part := ((if y.2.poison && ring then marked 64 else y.2.data).drop (lo - b)).take (min (a + n) (b + 64) - lo)
      (y.1, x.2.1 ++ part, x.2.2.1 && y.2.valid, x.2.2.2 || (y.2.poison && !ring))) (s, v)).1 := by
  induction l generalizing s v with
  | nil => exact leaves_refl s
  | cons b l ih =>
    rw [List.foldl_cons]
    exact leaves_trans (engRead_leaves s e w (from_ b)) (ih _ _)

theorem fetchRange_leaves (s : State) (e : Nat) (w : Work) (a n : Nat) : s.leavesEngines (s.fetchRange e w a n).1 := by
  rw [State.fetchRange]
  exact fetchSectors_leaves s e w a n _ _ _ _
theorem tileWrite_leaves (s : State) (t a : Nat) (l : List Byte) : s.leavesEngines (s.tileWrite t a l) :=
  leaves_of_regs (tileWrite_engines ..) (tileWrite_regs ..)

/-- The scoreboard entry of a FILL once a line has landed; the last line makes it a HOLD (R96). -/
def SbEntry.landLine (b : SbEntry) (k : Nat) : SbEntry :=
  { b with landed := b.landed ++ [k], out := b.out - 1, kind := if b.out ≤ 1 then 2 else 1 }

/-- A line of a plain fetch of a rendering stripe lands while the engine executes nothing. -/
theorem fetchLand_sb {s : State} {e : Nat} {l : FetchLand} {f : FetchEntry} {w : Work} {b : SbEntry} (hx : (s.eng e).exec = none)
    (hq : (s.eng e).moverQ = []) (hb : (s.eng e).sb.getD l.entry SbEntry.free = b) (hkind : b.kind = 1) (hplan : b.plan = some f)
    (howner : b.owner = some w) (htensor : w.tensor = false) (hgather : f.gather = none) (hplane : f.plane = none)
    (hline : l.line < f.writes) (hnew : b.landed.contains l.line = false) :
    ((s.fetchLand e l).eng e).sb = (s.eng e).sb.set l.entry (b.landLine l.line) := by
  have hgo : ¬ (b.kind ≠ 1 ∨ f.writes ≤ l.line ∨ b.landed.contains l.line = true) := by
    rw [hkind, hnew]
    simp only [ne_eq, not_true_eq_false, Bool.false_eq_true, or_false, false_or, not_le]
    exact hline
  unfold State.fetchLand
  simp only [hb, hplan, howner, hgather, hplane, htensor, Bool.false_and, Bool.false_eq_true, if_false]
  rw [if_neg hgo]
  have hread := fetchRange_leaves s e w (f.base + l.line / cdiv f.bytes 128 * f.pitch + l.line % cdiv f.bytes 128 * 128)
    (min 128 (f.bytes - l.line % cdiv f.bytes 128 * 128))
  generalize s.fetchRange e w (f.base + l.line / cdiv f.bytes 128 * f.pitch + l.line % cdiv f.bytes 128 * 128)
    (min 128 (f.bytes - l.line % cdiv f.bytes 128 * 128)) = v at hread ⊢
  have hstored : ∀ a d, s.leavesEngines (if (s.eng e).isGone w = true then v.1 else v.1.tileWrite e a d) := fun a d => by
    split
    · exact hread
    · exact leaves_trans hread (tileWrite_leaves ..)
  specialize hstored (tileBase e + 128 * b.base + 128 * l.line) (v.2.1 ++ List.replicate (128 - v.2.1.length) 0)
  generalize (if (s.eng e).isGone w = true then v.1 else v.1.tileWrite e (tileBase e + 128 * b.base + 128 * l.line)
    (v.2.1 ++ List.replicate (128 - v.2.1.length) 0)) = t at hstored ⊢
  have hxt : (t.eng e).exec = none := (leaves_keeps hstored Engine.exec (fun _ _ => rfl) e).trans hx
  have hqt : (t.eng e).moverQ = [] := (leaves_keeps hstored Engine.moverQ (fun _ _ => rfl) e).trans hq
  have hsb : (t.eng e).sb = (s.eng e).sb := leaves_keeps hstored Engine.sb (fun _ _ => rfl) e
  have hpoison : ∀ g : Engine, g.exec = none → (g.poisonUnit w).exec = none ∧ (g.poisonUnit w).moverQ = g.moverQ ∧
      (g.poisonUnit w).sb = g.sb := fun g hg => by
    simp only [Engine.poisonUnit, hg, Bool.false_eq_true, if_false, and_self]
  have hland : b.landLine l.line = ⟨if b.out ≤ 1 then 2 else 1, b.base, b.len, some w, b.out - 1, b.isVoid, b.sender, b.region, some f,
      b.landed ++ [l.line], b.bad, b.pos⟩ := by rw [SbEntry.landLine, hplan, howner]
  rw [hland]
  split
  · obtain ⟨hpx, hpq, hps⟩ := hpoison ((t.eng e).setSb l.entry ⟨if b.out ≤ 1 then 2 else 1, b.base, b.len, some w, b.out - 1, b.isVoid,
      b.sender, b.region, some f, b.landed ++ [l.line], b.bad, b.pos⟩) hxt
    simp only [setEng_eng, if_pos, setEng_setEng]
    rw [pump_of_no_exec (by rw [owe_eng, setEng_eng, if_pos rfl, hpx]) (by rw [owe_eng, setEng_eng, if_pos rfl, hpq]; exact hqt), owe_eng,
      setEng_eng, if_pos rfl, hps, ← hsb]
    rfl
  · rw [pump_of_no_exec (by rw [setEng_eng, if_pos rfl]; exact hxt) (by rw [setEng_eng, if_pos rfl]; exact hqt), setEng_eng, if_pos rfl, ← hsb]
    rfl

/-! The work queue's head goes to the ready queue (R91). -/

/-- The ready-queue entry of a unit whose fetch begins. -/
def State.readyFor (s : State) (e : Nat) (w : Work) (plan : List FetchEntry) : ReadyEntry :=
  let d := match s.staging e w.job with | some t => s.region e t | none => Region.unused
  ⟨w, d.head, d.headWrap, d.recs.length, plan.map (s.sized w), 0, 0, false⟩

/-- The engine that has taken the head of its work queue into the ready queue, with the context of the unit's job (R93). -/
def State.takenUnit (s : State) (e : Nat) (w : Work) (l : List Work) (plan : List FetchEntry) : Engine :=
  { s.eng e with work := l, ready := (s.eng e).ready ++ [s.readyFor e w plan]
                 fetchCtx := if ((s.eng e).fetchCtx.map (·.job)) = some w.job then (s.eng e).fetchCtx else s.jobContext e w.job }

section Fetch

variable {s : State} {e : Nat} {w : Work} {l : List Work} (hwork : (s.eng e).work = w :: l) (htakes : s.takes e = true)
  (hwait : s.sched.waiting = [])

include hwork htakes hwait

theorem startFetch_takes (plan : List FetchEntry) (hgone : ∀ r ∈ (s.eng e).ready, r.gone = 0)
    (hroom : (s.eng e).ready.length < s.basting e w) :
    s.startFetch e plan = (s.setEng e (s.takenUnit e w l plan)).fetchAll e := by
  have hgo : (s.takes e && (s.eng e).ready.all (·.gone == 0) && decide ((s.eng e).ready.length < s.basting e w)) = true := by
    rw [htakes, decide_eq_true hroom, List.all_eq_true.2 fun r hr => by rw [hgone r hr]; rfl]
    rfl
  have hplace : ∀ v, (s.setEng e v).placeWaiting = s.setEng e v := fun v => placeWaiting_of_none hwait
  unfold State.startFetch
  simp only [hwork]
  rw [if_pos hgo, hplace]
  rfl

/-- A stripe with an empty list goes to the ready queue and nothing is fetched. -/
theorem startFetch_empty (hready : ∀ r ∈ (s.eng e).ready, r.gone = 0 ∧ r.waiting = [])
    (hroom : (s.eng e).ready.length < s.basting e w) : s.startFetch e [] = s.setEng e (s.takenUnit e w l []) := by
  have hnone : ((s.setEng e (s.takenUnit e w l [])).eng e).fetching = none := by
    rw [setEng_eng, if_pos rfl]
    refine fetching_none fun r hr => ?_
    rcases List.mem_append.1 hr with h | h
    · exact (hready r h).2
    · rw [List.mem_singleton.1 h]
      rfl
  rw [startFetch_takes hwork htakes hwait [] (fun r hr => (hready r hr).1) hroom]
  exact fetchGo_of_none hnone 64

end Fetch

end Sys2Proof.Machine
end

section
/-! SUPPORT. The first fetch entry of a list (R91, R97, R142), what a cancel leaves (R95) and a replay (R103, R149). -/

namespace Sys2Proof.Machine

open Sys2Proof

/-! A plain fetch entry. -/

/-- The extent of an entry without a plane is its own. -/
theorem sized_plain (s : State) (w : Work) {f : FetchEntry} (h : f.plane = none) : s.sized w f = f := by
  unfold State.sized
  rw [h]
  cases s.workFrame w <;> rfl

theorem setEng_staging (s : State) (e : Nat) (v : Engine) (t j : Nat) : (s.setEng e v).staging t j = s.staging t j := (rfl)

theorem setEng_fetchFault (s : State) (e : Nat) (v : Engine) (t : Nat) (w : Work) {f : FetchEntry} (h : f.gather = none) :
    (s.setEng e v).fetchFault t w f = s.fetchFault t w f := by
  simp only [State.fetchFault, h]
  rfl

/-- The scoreboard entry of a fetch entry that has staging lines (R96). -/
def FetchEntry.fill (f : FetchEntry) (w : Work) (k base : Nat) : SbEntry := ⟨1, base, f.lines, some w, f.writes, false, 0, k, some f, [], [], []⟩

section Next

variable {s : State} {e : Nat} {r : ReadyEntry} {f : FetchEntry} {k : Nat} {d : Region × Nat} (hready : (s.eng e).ready = [r])
  (hgone : r.gone = 0) (hwait : r.waiting = [f]) (hgather : f.gather = none) (hwrites : f.writes ≠ 0)
  (hfault : s.fetchFault e r.work f = none) (hstage : s.staging e r.work.job = some k) (halloc : (s.region e k).alloc f.lines = some d)
  (hfree : ((s.eng e).sb.getD 0 SbEntry.free).kind = 0)

include hready hgone hwait hgather hwrites hfault hstage halloc hfree

/-- The only entry of the only stripe takes the first scoreboard entry and its staging lines (R97, R142). -/
theorem fetchNext_plain : ∃ q : ReadyEntry, q.waiting = [] ∧ s.fetchNext e =
    ((s.setEng e (((s.eng e).setSb 0 (f.fill r.work k d.2)).setReady 0 q)).setRegion e k d.1, true) := by
  have hnext : (s.eng e).fetching = some (r, 0) := by
    unfold Engine.fetching
    rw [hready]
    simp [hgone, hwait]
  have hfirst : (List.range 14).find? (fun k => ((s.eng e).sb.getD k SbEntry.free).kind == 0) = some 0 := by
    have hrange : List.range 14 = 0 :: List.range' 1 13 := rfl
    rw [hrange]
    exact List.find?_cons_of_pos (by rw [hfree]; rfl)
  have hheld : s.tableHeld e r.work f = false := by
    unfold State.tableHeld
    rw [hgather]
  have hplaces : s.patchPlaces e r.work f = [] := by
    unfold State.patchPlaces
    rw [hgather]
  refine ⟨{ (if r.allocs = 0 then { r with headPtr := (s.region e k).head, headWrap := (s.region e k).headWrap,
                                           records := (s.region e k).recs.length } else r : ReadyEntry) with
    waiting := [], allocs := r.allocs + 1 }, rfl, ?_⟩
  unfold State.fetchNext
  simp only [hnext, hwait, hstage, if_neg hwrites, hfault, hheld, Bool.false_eq_true, if_false, hfirst, halloc, hgather, hplaces]
  rfl

end Next

theorem setRegion_region (s : State) (t r : Nat) (d : Region) : (s.setRegion t r d).region t r = d := by
  simp only [State.setRegion, State.region, setTile_tile, if_pos, sget_sset_same]

section Plain

variable {s : State} {e : Nat} {w : Work} {l : List Work} {f : FetchEntry} {k : Nat} {d : Region × Nat} (hwork : (s.eng e).work = w :: l)
  (htakes : s.takes e = true) (hsched : s.sched.waiting = []) (hready : (s.eng e).ready = []) (hroom : 0 < s.basting e w)
  (hgather : f.gather = none) (hplane : f.plane = none) (hwrites : f.writes ≠ 0) (hfault : s.fetchFault e w f = none)
  (hstage : s.staging e w.job = some k) (halloc : (s.region e k).alloc f.lines = some d)
  (hfree : ((s.eng e).sb.getD 0 SbEntry.free).kind = 0)

include hwork htakes hsched hready hroom hgather hplane hwrites hfault hstage halloc hfree

/-- A stripe whose list is one plain entry goes to the ready queue, and the entry becomes a FILL (R91, R97). -/
theorem startFetch_plain : ∃ v : Engine, s.startFetch e [f] = (s.setEng e v).setRegion e k d.1 ∧
    v.sb = (s.eng e).sb.set 0 (f.fill w k d.2) := by
  let g := s.takenUnit e w l [f]
  let t := s.setEng e g
  have hg : t.eng e = g := by rw [setEng_eng, if_pos rfl]
  have hrg : g.ready = [s.readyFor e w [f]] := by
    change (s.eng e).ready ++ [s.readyFor e w [f]] = _
    rw [hready, List.nil_append]
  have hlist : (s.readyFor e w [f]).waiting = [f] := by
    change [s.sized w f] = [f]
    rw [sized_plain s w hplane]
  have hregion : (t.region e k).alloc f.lines = some d := (congrArg (·.alloc f.lines) (setEng_region s e g e k)).trans halloc
  obtain ⟨q, hq, hnext⟩ := fetchNext_plain (s := t) (e := e) (r := s.readyFor e w [f]) (by rw [hg, hrg]) rfl hlist hgather hwrites
    ((setEng_fetchFault s e g e w hgather).trans hfault) ((setEng_staging ..).trans hstage) hregion (by rw [hg]; exact hfree)
  let v := ((t.eng e).setSb 0 (f.fill w k d.2)).setReady 0 q
  have hv : ((t.setEng e v).setRegion e k d.1).eng e = v := by
    rw [State.setRegion, setTile_eng, setEng_eng, if_pos rfl]
  have hend : (((t.setEng e v).setRegion e k d.1).eng e).fetching = none := by
    rw [hv]
    refine fetching_none fun r hr => ?_
    have hset : v.ready = [q] := by
      change (t.eng e).ready.set 0 q = [q]
      rw [hg, hrg]
      rfl
    rw [hset] at hr
    rw [List.mem_singleton.1 hr, hq]
  refine ⟨v, ?_, by change (t.eng e).sb.set 0 _ = _; rw [hg]; rfl⟩
  rw [startFetch_takes hwork htakes hsched [f] (by rw [hready]; exact fun _ h => absurd h List.not_mem_nil) (by rw [hready]; exact hroom),
    State.fetchAll, State.fetchGo]
  change (if (t.fetchNext e).2 = true then (t.fetchNext e).1.fetchGo e 63 else (t.fetchNext e).1) = _
  have hgo : t.fetchNext e = ((t.setEng e v).setRegion e k d.1, true) := hnext
  rw [hgo, if_pos rfl]
  exact (fetchGo_of_none hend 63).trans (by rw [setEng_setEng])

end Plain

/-! Cancels (R95). -/

/-- A cancel that completes takes from the ready queue what it has reached. -/
theorem finishCancel_ready (s : State) (e : Nat) : ((s.finishCancel e).eng e).ready = (s.eng e).ready.filter fun r => r.gone == 0 := by
  cases h : (s.eng e).reached.isEmpty with
  | true =>
    have hall : ∀ r ∈ (s.eng e).ready, (r.gone == 0) = true := fun r hr => by
      have hno : r ∉ (s.eng e).reached := by rw [List.isEmpty_iff.1 h]; exact List.not_mem_nil
      simpa [Engine.reached, List.mem_filter, hr] using hno
    rw [finishCancel_of_none h, List.filter_eq_self.2 hall]
  | false =>
    have hreturn : ∀ (t : State) b, ((t.when b fun s => s.returnCredits e).eng e).ready = (t.eng e).ready := fun t b => by
      unfold State.when
      split
      · rw [returnCredits_engines]
      · rfl
    rw [finishCancel_of_reached h, placesOnly_keeps (placesOnly_placeWaiting _) Engine.ready fun _ _ => rfl,
      placesOnly_keeps (placesOnly_putBack ..) Engine.ready fun _ _ => rfl, rewind_keeps (fun s : State => (s.eng e).ready) fun _ _ => rfl,
      hreturn, setEng_eng, if_pos rfl]
    rfl

theorem checkSelftest_ready (s : State) (e : Nat) : ((s.checkSelftest e).eng e).ready = (s.eng e).ready :=
  rotatesOnly_keeps (rotatesOnly_checkSelftest s e) Engine.ready (fun _ _ _ _ _ _ => rfl) e

theorem checkSelftest_mem (s : State) (e : Nat) : (s.checkSelftest e).mem = s.mem := by
  unfold State.checkSelftest
  dsimp only
  split
  · exact setEng_mem ..
  · rfl

/-! Replays (R103, R149). -/

theorem settled_returnCredits {s : State} (h : s.settled) (e : Nat) : (s.returnCredits e).settled := by
  unfold State.returnCredits
  dsimp only
  refine settled_setEng ?_ e _ (by rfl)
  exact forEach_rel (fun s t => s.settled → t.settled) (fun _ h => h) (fun h k hs => k (h hs)) _ _
    (fun c s hs => settled_setEng hs _ _ (by rfl)) s h

theorem settled_withBand {s : State} (h : s.settled) (w : Work) (f : Band → Band) : (s.withBand w f).settled := by
  unfold State.withBand
  split
  · exact h
  · split
    · exact settled_setStrm h _ _
    · exact h

/-- The run of an abandoned stripe that starts again. -/
def Exec.again (x : Exec) (run : Nat) : Exec :=
  ⟨{ x.work with replay := true }, x.start, false, x.failWords, false, false, 0, run, x.slip0, 0, some (x.slipFrom.getD x.start), x.zones, none,
    none, [], []⟩

/-- The state once an abandoned stripe has its new run, before the replay is counted. -/
def State.rerun (s : State) (e : Nat) (x : Exec) (r : ReadyEntry) : State :=
  let u := s.returnCredits e
  u.setEng e { u.eng e with exec := some (x.again (s.eng e).runs), runs := (s.eng e).runs + 1
                            ready := { r with work := { x.work with replay := true } } :: (s.eng e).ready.tail }

theorem startReplay_go {s : State} {e : Nat} {x : Exec} {r : ReadyEntry} {l : List ReadyEntry} (hx : (s.eng e).exec = some x)
    (hready : (s.eng e).ready = r :: l) (habandoned : x.abandoned = true) (hflight : (s.eng e).inFlight = false)
    (hkat : (s.eng e).check.kat = none) (hstate : (s.eng e).check.state ≠ 3) (hgone : r.gone = 0) (htakes : s.takes e = true) :
    s.startReplay e = ((((s.rerun e x r).withBand { x.work with replay := true } fun b => { b with replayed := true }).bump
      (pgEng e) 0x118 8 8 1)).event (pgEng e) 4 := by
  have hgo : (x.abandoned && !(s.eng e).inFlight && (s.eng e).check.kat.isNone && (s.eng e).check.state != 3 && r.gone == 0 &&
      s.takes e) = true := by
    rw [habandoned, hflight, hkat, hgone, htakes, bne_iff_ne.2 hstate]
    rfl
  unfold State.startReplay
  simp only [hx, hready]
  rw [if_pos hgo]
  simp only [State.rerun, hready]
  rfl

theorem settled_rerun {s : State} (h : s.settled) (e : Nat) (x : Exec) (r : ReadyEntry) : (s.rerun e x r).settled :=
  settled_setEng (settled_returnCredits h e) e _ (by rfl)

theorem rerun_mem (s : State) (e : Nat) (x : Exec) (r : ReadyEntry) : (s.rerun e x r).mem = s.mem :=
  returnCredits_keeps State.mem (fun _ _ _ => rfl) s e

theorem rerun_reg (s : State) (e : Nat) (x : Exec) (r : ReadyEntry) (p o : Nat) : (s.rerun e x r).reg p o = s.reg p o :=
  returnCredits_keeps (fun s : State => s.reg p o) (fun _ _ _ => rfl) s e

/-- Settles O20: a stripe without a list and one with a plain entry are taken, a plain line lands, a cancel and a replay do as their lemmas
say. -/
theorem fetchCancelReplay : Obligations.FetchCancelReplay := by
  unfold Obligations.FetchCancelReplay
  refine ⟨?_, ?_, ?_, ?_, ?_⟩
  · intro s e w l hs hwork htakes hwait hready hroom
    refine ⟨_, s.readyFor e w [], done_eq (startFetch_empty hwork htakes hwait hready hroom) (settled_setEng hs e _ (by rfl)), ?_, ?_, rfl,
      rfl, fun _ => rfl⟩
    · rw [setEng_eng, if_pos rfl]
      rfl
    · rw [setEng_eng, if_pos rfl]
      rfl
  · intro s e w l f k d hwork htakes hwait hready hroom hgather hplane hwrites hfault hstage halloc hfree hlen
    obtain ⟨v, hgo, hsb⟩ := startFetch_plain hwork htakes hwait hready hroom hgather hplane hwrites hfault hstage halloc hfree
    refine ⟨_, congrArg done hgo, ?_, setRegion_region .., fun _ => rfl⟩
    rw [State.setRegion, setTile_eng, setEng_eng, if_pos rfl, hsb, List.getD_eq_getElem _ _ (by rw [List.length_set]; omega),
      List.getElem_set_self]
    rfl
  · intro s e n k f w b hx hq hlen hb hkind hplan howner htensor hgather hplane hline hnew
    refine ⟨_, rfl, ?_⟩
    have hsb := fetchLand_sb (l := ⟨n, k, false⟩) hx hq hb hkind hplan howner htensor hgather hplane hline hnew
    refine (congrArg (·.getD n.val SbEntry.free) hsb).trans ?_
    have hn := n.isLt
    dsimp only
    rw [List.getD_eq_getElem _ _ (by rw [List.length_set]; omega), List.getElem_set_self]
    rfl
  · intro s e
    refine ⟨_, rfl, ?_, ?_⟩
    · rw [checkSelftest_ready, finishCancel_ready]
    · exact sameMemory_of_mem (by rw [checkSelftest_mem, (emptiesOnly_finishCancel s e).mem])
  · intro s e x r l hs hx hready habandoned hflight hkat hstate hgone htakes
    have hcount : ∀ p o, ((s.rerun e x r).withBand { x.work with replay := true } fun b => { b with replayed := true }).reg p o = s.reg p o :=
      fun p o => (withBand_keeps (fun s : State => s.reg p o) (fun _ _ _ => rfl) ..).trans (rerun_reg ..)
    refine ⟨_, x.again (s.eng e).runs, done_eq (startReplay_go hx hready habandoned hflight hkat hstate hgone htakes)
      (settled_event (settled_bump (settled_withBand (settled_rerun hs e x r) ..) ..) ..), ?_, rfl, rfl, event_reg_bit _ _ _ (by decide), ?_, ?_⟩
    · rw [event_eng, bump_eng, withBand_eng, State.rerun, setEng_eng, if_pos rfl]
    · rw [State.rfld, event_reg_ne _ _ radr_ne, State.bump, setRfld_reg_same, fld_putFld_same _ _ _ _ (by decide),
        Nat.mod_eq_of_lt (satAdd_lt ..), State.rfld, hcount]
      rfl
    · refine sameMemory_of_mem ?_
      rw [event_mem, bump_mem, withBand_keeps State.mem fun _ _ _ => rfl, rerun_mem]

end Sys2Proof.Machine
end

section
/-! SUPPORT. Tacks, SIGNAL, completions and the start of stripes (R89, R92, R94, R99, R109, R258). -/

namespace Sys2Proof.Machine

open Sys2Proof

section Tack

variable {s : State} {e : Nat}

/-- A tack of a running stripe is held (R99). -/
theorem issueTack_held {x : Exec} (h : (s.eng e).running = some x) (htack : (s.eng e).tack = none) (hsig : x.signalled = false) (m : Nat)
    (b : Bool) : s.issueTack e m b = s.setEng e { s.eng e with
      tack := some ⟨m, b, (s.eng e).issue⟩, issue := (s.eng e).issue + 1, exec := some { x with stripeTack := b } } := by
  simp only [State.issueTack, h, htack, hsig, Option.isSome_none, Bool.or_self, Bool.false_eq_true, if_false]

theorem releaseTack_of_tack {k : Tack} (h : (s.eng e).tack = some k) :
    s.releaseTack e = if (s.eng e).tackHolds k then s.setEng e { s.eng e with tack := none } else s := by
  simp only [State.releaseTack, h]

/-- A SIGNAL whose places lie in the job's windows is accepted right after a STRIPE tack and is ILLEGAL_OP elsewhere (R94, R99). -/
theorem issueSignal_judged {x : Exec} {o h : Option Place} {t : List (Nat × Arr)} {q : List (Nat × Nat × Place × Nat)}
    (hrun : (s.eng e).running = some x) (htack : (s.eng e).tack = none) (hsig : x.signalled = false)
    (hspans : ∀ r ∈ s.signalSpans x.work o h t q, s.spanFault e x.work.job false r = none) :
    s.issueSignal e o h t q = if x.stripeTack then s.setEng e { s.eng e with
        issue := (s.eng e).issue + 1
        exec := some { x with signalled := true, outPlace := o, hist := h, taps := t, parts := q
                              bufLines := min (s.bufferNeed x.work) (s.poolRoom 1 x.work.stream) } }
      else s.cause (pgEng e) (5 + 65536 * (s.eng e).jobSlot) 0 := by
  have hnone : ((s.signalSpans x.work o h t q).findSome? fun r => (s.spanFault e x.work.job false r).map fun f => (r, f)) = none :=
    List.findSome?_eq_none_iff.2 fun r hr => by rw [hspans r hr, Option.map_none]
  simp only [State.issueSignal, hrun, htack, hsig, Option.isSome_none, Bool.or_self, Bool.false_eq_true, if_false, hnone]
  cases x.stripeTack <;> rfl

/-- The only command of an engine completes once it has started; no PUT is among these (R89). -/
theorem completeCmd_alone {u : EngUnit} {c : Issued} (hq : ∀ v, (s.eng e).queue v = if v = u then [c] else []) (hput : ∀ p, c.cmd ≠ .put p) :
    s.completeCmd e u = if c.started then s.setEng e ((s.eng e).setQueue u []) else s := by
  have hu : (s.eng e).queue u = [c] := by rw [hq, if_pos rfl]
  have hempty : ∀ v, ((s.setEng e ((s.eng e).setQueue u [])).eng e).queue v = [] := fun v => by
    rw [setEng_eng, if_pos rfl, engSetQueue_queue]
    split
    · rfl
    · rename_i h
      rw [hq, if_neg (Ne.symm h)]
  have hpump := pump_of_empty hempty
  unfold State.completeCmd
  simp only [hu, hpump]
  cases hc : c.cmd with
  | put p => exact absurd hc (hput p)
  | _ => simp

end Tack

/-! The head of the ready queue starts (R92). -/

/-- The stripe that starts at the head of the ready queue. -/
def State.newExec (s : State) (e : Nat) (w : Work) : Exec :=
  ⟨w, s.clk.up, false, [], false, false, 0, (s.eng e).runs, if (s.eng e).slipBand = some w.bandKey then (s.eng e).slip else 0, 0, none,
    s.zonesFor w, none, none, [], []⟩

/-- The engine on which a stripe starts: empty queues, the context of the stripe's job, and SLIP restarted with another band (R93, R227). -/
def State.newRun (s : State) (e : Nat) (w : Work) : Engine :=
  { s.eng e with
    exec := some (s.newExec e w), lastJob := some w.job
    execCtx := if (s.eng e).lastJob = some w.job then (s.eng e).execCtx else s.jobContext e w.job
    runs := (s.eng e).runs + 1, matrixQ := [], vectorQ := [], moverQ := [], tack := none
    slip := if (s.eng e).slipBand = some w.bandKey then (s.eng e).slip else 0, slipBand := some w.bandKey }

theorem startStripe_go {s : State} {e : Nat} {r : ReadyEntry} {l : List ReadyEntry} (hx : (s.eng e).exec = none)
    (hready : (s.eng e).ready = r :: l) (hgone : r.gone = 0) (htakes : s.takes e = true) : s.startStripe e =
    (s.markDegraded r.work).setEng e (if r.poisoned then (s.newRun e r.work).abandon 0x10 [] else s.newRun e r.work) := by
  unfold State.startStripe State.newRun State.newExec
  simp only [hx, hready]
  rw [if_pos (by rw [hgone, htakes]; rfl)]

theorem markDegraded_keeps {β : Type} (v : State → β) (hv : ∀ (s : State) i x, v (s.setStrm i x) = v s) (s : State) (w : Work) :
    v (s.markDegraded w) = v s := by
  unfold State.markDegraded
  split
  · split
    · exact hv ..
    · rfl
  · rfl

theorem settled_markDegraded {s : State} (h : s.settled) (w : Work) : (s.markDegraded w).settled := by
  unfold State.markDegraded
  split
  · split
    · exact settled_setStrm h _ _
    · exact h
  · exact h

theorem settled_startStripe {s : State} (h : s.settled) (e : Nat) (w : Work) {v : Engine} (hv : v.fenced = (s.eng e).fenced) :
    ((s.markDegraded w).setEng e v).settled :=
  settled_setEng (settled_markDegraded h w) e v (by rw [hv, markDegraded_keeps (fun s : State => s.eng e) fun _ _ _ => rfl])

end Sys2Proof.Machine
end

section
/-! SUPPORT. What SIGNAL delivers, seen from the engines (R26, R73, R94, R181, R187, R213, R296): blocks write outputs, history, descriptors
and steps, and leave everything of the engines but their SLIP. -/

namespace Sys2Proof.Machine

open Sys2Proof

/-! Changes that the engines do not see. -/

theorem leaves_setStrm (s : State) (i : Nat) (v : Strm) : s.leavesEngines (s.setStrm i v) := leaves_of_regs rfl rfl
theorem leaves_setJob (s : State) (i : Nat) (v : Option Job) : s.leavesEngines (s.setJob i v) := leaves_of_regs rfl rfl
theorem leaves_setQueue (s : State) (i : Nat) (v : Queue) : s.leavesEngines (s.setQueue i v) := leaves_of_regs rfl rfl
theorem leaves_setGroup (s : State) (i : Nat) (v : Option PeerGroup) : s.leavesEngines (s.setGroup i v) := leaves_of_regs rfl rfl
theorem leaves_setTile (s : State) (i : Nat) (v : Tile) : s.leavesEngines (s.setTile i v) := leaves_of_regs rfl rfl
theorem leaves_owe (s : State) (d : Due) : s.leavesEngines (s.owe d) := leaves_of_regs rfl rfl
theorem leaves_deviceEvent (s : State) (c x y n : Nat) : s.leavesEngines (s.deviceEvent c x y n) :=
  leaves_of_regs (deviceEvent_engines ..) (deviceEvent_regs ..)

/-- The first part of a pair. -/
theorem leaves_fst {s u : State} {β : Type} {b : β} (h : s.leavesEngines u) : s.leavesEngines (u, b).1 := h

/-- A fold whose every step leaves the engines. -/
theorem leaves_foldl {α β : Type} (f : State × β → α → State × β) (hf : ∀ t b a, State.leavesEngines t (f (t, b) a).1) (l : List α)
    (s : State) (b : β) : s.leavesEngines (l.foldl f (s, b)).1 := by
  induction l generalizing s b with
  | nil => exact leaves_refl s
  | cons a l ih => exact leaves_trans (hf s b a) (ih _ _)

/-! Memory through either path (R342, R154). -/

theorem fabRefuse_leaves (s : State) (t : Nat) (f : Nat × Nat) : s.leavesEngines (s.fabRefuse t f) := by
  have hcause := leaves_trans (leaves_cause s (pgSmem t) (f.1 + 256 * 7 + 2048 * 0 + 65536 * 0xF) f.2)
    (leaves_event _ (pgSmem t) (if f.1 = 2 then 7 else if f.1 = 4 then 6 else 5))
  unfold State.fabRefuse
  dsimp only
  split
  · exact leaves_trans hcause (log_leaves ..)
  · exact hcause

theorem memRead_leaves (s : State) (w a n : Nat) : s.leavesEngines (s.memRead w a n).1 := by
  unfold State.memRead
  split
  · exact dramRead_leaves ..
  · split
    · split
      · exact leaves_fst (fabRefuse_leaves ..)
      · exact leaves_fst (leaves_refl s)
    · exact leaves_fst (leaves_refl s)

theorem memWrite_leaves (s : State) (w a : Nat) (l : List Byte) : s.leavesEngines (s.memWrite w a l).1 := by
  unfold State.memWrite
  split
  · exact dramWrite_leaves ..
  · split
    · split
      · exact leaves_fst (fabRefuse_leaves ..)
      · exact leaves_fst (tileWrite_leaves ..)
    · exact leaves_fst (leaves_refl s)

theorem freezeMaster_leaves (s : State) (id addr job : Nat) : s.leavesEngines (s.freezeMaster id addr job) := by
  unfold State.freezeMaster
  dsimp only
  split
  · exact leaves_refl s
  · refine leaves_trans ?_ (leaves_fault ..)
    refine leaves_trans ?_ (leaves_event ..)
    refine leaves_trans ?_ (log_leaves ..)
    refine leaves_trans ?_ (leaves_bump _ _ _ _ (otherWord_off (by decide) (by decide)))
    refine leaves_trans ?_ (leaves_cause ..)
    exact leaves_of_regs rfl rfl

theorem freezeBlock_leaves (s : State) (id addr : Nat) : s.leavesEngines (s.freezeBlock id addr) := by
  unfold State.freezeBlock
  split
  · exact leaves_refl s
  · exact leaves_trans (freezeMaster_leaves ..) (leaves_owe ..)

theorem blockWrite_leaves (s : State) (id w a : Nat) (l : List Byte) : s.leavesEngines (s.blockWrite id w a l) := by
  unfold State.blockWrite
  dsimp only
  split
  · exact leaves_refl s
  · split
    · split
      · exact leaves_trans (memWrite_leaves ..) (freezeBlock_leaves ..)
      · exact memWrite_leaves ..
    · exact freezeBlock_leaves ..

theorem blockRead_leaves (s : State) (id w a n : Nat) : s.leavesEngines (s.blockRead id w a n).1 := by
  unfold State.blockRead
  split
  · refine leaves_fst ?_
    split
    · exact leaves_trans (memRead_leaves ..) (freezeBlock_leaves ..)
    · exact memRead_leaves ..
  · exact leaves_fst (freezeBlock_leaves ..)

/-! Descriptors (R288, R289, R292, R296, R297). -/

theorem readDesc_leaves (s : State) (q n : Nat) : s.leavesEngines (s.readDesc q n).1 := leaves_fst (blockRead_leaves ..)

theorem writeDesc_leaves (s : State) (q : Nat) (d : Desc) : s.leavesEngines (s.writeDesc q d) :=
  leaves_trans (blockWrite_leaves ..) (leaves_setQueue ..)

theorem announce_leaves (s : State) (q code x y : Nat) : s.leavesEngines (s.announce q code x y) := by
  unfold State.announce
  dsimp only
  split
  · exact leaves_deviceEvent ..
  · split
    · exact writeDesc_leaves ..
    · exact leaves_setQueue ..

theorem readBack_leaves (s : State) (w a : Nat) : s.leavesEngines (s.readBack w a).1 := by
  unfold State.readBack
  split
  · exact memRead_leaves ..
  · exact memRead_leaves ..

theorem completeDesc_leaves (s : State) (q : Nat) (d : Desc) (back : Option Nat) : s.leavesEngines (s.completeDesc q d back) := by
  unfold State.completeDesc
  extract_lets c r bad p d1 s1
  have hr : s.leavesEngines r.1 := by
    subst r
    split
    · split
      · exact readBack_leaves ..
      · exact leaves_fst (leaves_refl s)
    · exact leaves_fst (leaves_refl s)
  have hp : s.leavesEngines p.1 := by
    subst p
    split
    · exact leaves_trans hr (readDesc_leaves ..)
    · exact leaves_fst hr
  have h1 : s.leavesEngines s1 :=
    leaves_trans hp (leaves_trans (leaves_when _ _ _ (announce_leaves ..)) (writeDesc_leaves ..))
  split
  · exact leaves_trans h1 (announce_leaves ..)
  · exact h1

theorem produce_leaves (s : State) (q : Nat) (d : Desc) (back : Option Nat) : s.leavesEngines (s.produce q d back) := by
  unfold State.produce
  dsimp only
  split
  · exact completeDesc_leaves ..
  · exact leaves_setQueue ..

theorem flushHeld_leaves (n : Nat) (s : State) (q : Nat) : s.leavesEngines (State.flushHeld n s q) := by
  induction n generalizing s with
  | zero => exact leaves_refl s
  | succ n ih =>
    unfold State.flushHeld
    dsimp only
    split
    · exact leaves_refl s
    · split
      · exact leaves_trans (leaves_trans (leaves_setQueue ..) (completeDesc_leaves ..)) (ih _)
      · exact leaves_refl s

theorem flushQueue_leaves (s : State) (q : Nat) : s.leavesEngines (s.flushQueue q) := by
  unfold State.flushQueue
  dsimp only
  split
  · split
    · exact leaves_trans (leaves_trans (leaves_setQueue ..) (completeDesc_leaves ..)) (flushHeld_leaves ..)
    · exact leaves_refl s
  · exact flushHeld_leaves ..

theorem returnTo_leaves (s : State) (q v : Nat) : s.leavesEngines (s.returnTo q v) :=
  leaves_trans (leaves_setQueue ..) (flushQueue_leaves ..)

/-! Steps (R213, R326, R366). -/

theorem sendBarrier_leaves (s : State) (g k : Nat) : s.leavesEngines (s.sendBarrier g k) := by
  unfold State.sendBarrier
  split
  · exact leaves_trans (leaves_setGroup ..) (leaves_forEach _ _ (fun _ _ => leaves_deviceEvent ..) _)
  · exact leaves_refl s

theorem stepBarrier_leaves (s : State) (j k : Nat) : s.leavesEngines (s.stepBarrier j k) := by
  unfold State.stepBarrier
  split
  · exact leaves_refl s
  · exact sendBarrier_leaves ..

theorem endStep_leaves (s : State) (j : Nat) (x : Job) : s.leavesEngines (s.endStep j x) := by
  have hstep : ∀ v k, s.leavesEngines ((s.setJob j v).stepBarrier j k) := fun v k =>
    leaves_trans (leaves_setJob ..) (stepBarrier_leaves ..)
  unfold State.endStep
  dsimp only
  split
  · split
    · exact leaves_trans (hstep _ _) (returnTo_leaves ..)
    · exact hstep _ _
  · exact hstep _ _

theorem finishStep_leaves (s : State) (j : Nat) (x : Job) : s.leavesEngines (s.finishStep j x) :=
  leaves_trans (leaves_forEach _ _ (fun _ _ => produce_leaves ..) _) (endStep_leaves ..)

theorem deliverUnit_leaves (s : State) (e : Nat) (x : Exec) : s.leavesEngines (s.deliverUnit e x) := by
  unfold State.deliverUnit
  split
  · rename_i j _
    have hparts : s.leavesEngines (forEach x.parts (fun p s => match j.stepBufs[p.1]? with
      | some b => if p.2.1 + p.2.2.2 ≤ b.2 then
          s.blockWrite 0x91 (who 9 (64 + x.work.job)) (b.1 + p.2.1) (s.bytes (s.addrOf e p.2.2.1) p.2.2.2) else s
      | none => s) s) := leaves_forEach _ _ (fun p s => by
        split
        · split
          · exact blockWrite_leaves ..
          · exact leaves_refl s
        · exact leaves_refl s) s
    dsimp only
    split
    · exact leaves_trans hparts (finishStep_leaves ..)
    · exact leaves_trans hparts (leaves_setJob ..)
  · exact leaves_refl s

/-! Frames (R26, R73, R187). -/

theorem writeOutput_leaves (s : State) (i : Nat) (f : Frame) (k : Nat) (exact_ : Bool) (x0 x1 y0 y1 : Nat) (px : Nat → Nat → Rgb) :
    s.leavesEngines (s.writeOutput i f k exact_ x0 x1 y0 y1 px) := by
  unfold State.writeOutput
  split
  · split
    · exact leaves_refl s
    · exact leaves_forEach _ _ (fun w s => by
        split
        · exact blockWrite_leaves ..
        · exact leaves_refl s) s
  · exact leaves_refl s

theorem writeHistory_leaves (s : State) (e i : Nat) (f : Frame) (p : Place) (x0 x1 y0 y1 : Nat) :
    s.leavesEngines (s.writeHistory e i f p x0 x1 y0 y1) :=
  leaves_trans (leaves_forEach _ _ (fun _ _ => dramWrite_leaves ..) _) (leaves_setStrm ..)

theorem ringWords_leaves (s : State) (w : Nat) (l : List RingPlace) : s.leavesEngines (s.ringWords w l).1 := by
  unfold State.ringWords
  refine leaves_fst (leaves_foldl _ (fun t b a => ?_) _ s [])
  exact leaves_fst (leaves_trans (granted_leaves ..) (readSector_leaves ..))

theorem ringSamples_leaves (s : State) (i : Nat) (f : Frame) (x0 x1 y0 y1 : Nat) : s.leavesEngines (s.ringSamples i f x0 x1 y0 y1).1 := by
  unfold State.ringSamples
  split
  · exact leaves_fst (ringWords_leaves ..)
  · exact leaves_fst (leaves_refl s)

theorem cropSamples_leaves (s : State) (e i : Nat) (f : Frame) (x : Exec) (g : Option Image) (src x0 x1 y0 y1 : Nat) :
    s.leavesEngines (s.cropSamples e i f x g src x0 x1 y0 y1).1 := by
  unfold State.cropSamples
  split
  · exact leaves_fst (leaves_refl s)
  · exact leaves_fst (leaves_refl s)
  · exact ringSamples_leaves ..
  · split
    · exact leaves_fst (leaves_refl s)
    · exact leaves_fst (leaves_refl s)

theorem setFrame_leaves (s : State) (i : Nat) (f : Frame) : s.leavesEngines (s.setFrame i f) := leaves_setStrm ..

theorem deliver_leaves (s : State) (e : Nat) (x : Exec) : s.leavesEngines (s.deliver e x) := by
  unfold State.deliver
  extract_lets w g
  split
  · exact leaves_refl s
  · rename_i f _
    extract_lets b c y0 y1 px s1 s2 luma cr f1
    split
    · exact leaves_refl s
    · have h1 : s.leavesEngines s1 := by
        subst s1
        split
        · exact leaves_forEach _ _ (fun _ _ => writeOutput_leaves ..) s
        · exact leaves_refl s
      have h2 : s.leavesEngines s2 := by
        subst s2
        split
        · exact leaves_trans h1 (writeHistory_leaves ..)
        · exact h1
      have hcr : s2.leavesEngines cr.1 := leaves_foldl _ (fun t b k => by
        split
        · exact leaves_fst (leaves_refl t)
        · exact leaves_fst (cropSamples_leaves ..)) _ s2 []
      exact leaves_trans h2 (leaves_trans hcr (leaves_trans (setFrame_leaves ..) (leaves_drawn _)))

end Sys2Proof.Machine
end

section
/-! SUPPORT. What a stripe's end sets going starts no stripe (R91, R142, R225, R342): fetches, placements, self-tests and the deadline guard
leave an idle engine idle and its stripe count as it is. -/

namespace Sys2Proof.Machine

open Sys2Proof

/-- From the first state to the second, no engine has started a stripe or counted one. -/
structure State.startsNone (s t : State) : Prop where
  idle : ∀ k, (s.eng k).exec = none → (t.eng k).exec = none
  counts : ∀ e < 6, t.reg (pgEng e) 0x100 = s.reg (pgEng e) 0x100

theorem startsNone_refl (s : State) : s.startsNone s := ⟨fun _ h => h, fun _ _ => rfl⟩

theorem startsNone_trans {s t u : State} (h : s.startsNone t) (k : t.startsNone u) : s.startsNone u :=
  ⟨fun i hi => k.idle i (h.idle i hi), fun e he => (k.counts e he).trans (h.counts e he)⟩

theorem startsNone_forEach {α : Type} (l : List α) (f : α → State → State) (hf : ∀ x s, State.startsNone s (f x s)) (s : State) :
    s.startsNone (forEach l f s) := forEach_rel State.startsNone startsNone_refl startsNone_trans l f hf s

theorem startsNone_of_leaves {s t : State} (h : s.leavesEngines t) : s.startsNone t :=
  ⟨fun k hk => (leaves_keeps h (·.exec) (fun _ _ => rfl) k).trans hk, h.counts⟩

theorem startsNone_of_placesOnly {s t : State} (h : s.placesOnly t) : s.startsNone t :=
  ⟨fun k hk => (placesOnly_keeps h (·.exec) (fun _ _ => rfl) k).trans hk, fun _ _ => placesOnly_reg h _ _⟩

theorem startsNone_of_rotatesOnly {s t : State} (h : s.rotatesOnly t) : s.startsNone t :=
  ⟨fun k hk => (rotatesOnly_keeps h (·.exec) (fun _ _ _ _ _ _ => rfl) k).trans hk,
    fun e _ => h.regs _ _ (pgEng_ne_pgSched e) (by decide)⟩

/-- An engine changed that does not start a stripe. -/
theorem startsNone_setEng (s : State) (e : Nat) (v : Engine) (hv : (s.eng e).exec = none → v.exec = none) : s.startsNone (s.setEng e v) := by
  refine ⟨fun k hk => ?_, fun _ _ => rfl⟩
  rw [setEng_eng]
  split
  · rename_i h
    exact hv (h ▸ hk)
  · exact hk

theorem startsNone_returnCredits (s : State) (e : Nat) : s.startsNone (s.returnCredits e) := by
  refine ⟨fun k hk => ?_, fun _ _ => emptiesOnly_reg (emptiesOnly_returnCredits s e) _ _⟩
  rw [returnCredits_engines]
  exact hk

theorem startsNone_cancel (s : State) (e : Nat) (p : Work → Bool) : s.startsNone (s.cancel e p) := by
  unfold State.cancel
  dsimp only
  refine startsNone_setEng s e _ fun h => ?_
  simp only [h, Option.map_none, ite_self]

/-! Staging lines and fetches (R91, R142, R144, R342). -/

theorem setRegion_leaves (s : State) (t r : Nat) (d : Region) : s.leavesEngines (s.setRegion t r d) := leaves_setTile ..

theorem serveAllocs_leaves (s : State) (t : Nat) : s.leavesEngines (s.serveAllocs t) := by
  refine leaves_trans (leaves_setTile ..) (leaves_forEach _ _ (fun w s => ?_) _)
  dsimp only
  split
  · exact setRegion_leaves ..
  · split
    · exact leaves_setTile ..
    · exact leaves_refl s

theorem smemCause_leaves (s : State) (t c port region source addr : Nat) : s.leavesEngines (s.smemCause t c port region source addr) :=
  leaves_cause ..

theorem freezeEngineFor_startsNone (s : State) (e addr job : Nat) : s.startsNone (s.freezeEngineFor e addr job) := by
  unfold State.freezeEngineFor
  split
  · exact startsNone_refl s
  · refine startsNone_trans (startsNone_setEng s e _ fun h => ?_) <| startsNone_trans (startsNone_returnCredits ..) <|
      startsNone_of_leaves <| leaves_trans (leaves_fail ..) <| leaves_trans (freezeMaster_leaves ..) (leaves_owe ..)
    dsimp only
    rw [h, Option.map_none]

theorem refuseAccess_startsNone (s : State) (e job : Nat) (sp : Nat × Place × Nat) (f : Nat × Nat) :
    s.startsNone (s.refuseAccess e job sp f) := by
  refine startsNone_trans (startsNone_of_leaves ?_) (freezeEngineFor_startsNone ..)
  split
  · exact leaves_trans (smemCause_leaves ..) (leaves_event ..)
  · exact leaves_trans (smemCause_leaves ..) (leaves_event ..)
  · exact leaves_trans (smemCause_leaves ..) (leaves_trans (leaves_event ..) (log_leaves ..))
  · exact leaves_refl s

theorem buildIndex_leaves (s : State) (e : Nat) (w : Work) (p : GatherPlan) : s.leavesEngines (s.buildIndex e w p) := by
  unfold State.buildIndex
  split
  · exact leaves_forEach _ _ (fun _ _ => tileWrite_leaves ..) s
  · exact leaves_refl s

theorem fetchNext_startsNone (s : State) (e : Nat) : s.startsNone (s.fetchNext e).1 := by
  unfold State.fetchNext
  dsimp only
  split
  · exact startsNone_refl s
  · split
    · split
      · exact startsNone_setEng s e _ fun h => h
      · split
        · exact refuseAccess_startsNone ..
        · split
          · exact startsNone_refl s
          · split
            · dsimp only
              split
              · refine startsNone_trans (startsNone_setEng s e _ ?_) <| startsNone_of_leaves <|
                  leaves_trans (setRegion_leaves ..) (buildIndex_leaves ..)
                exact id
              · refine startsNone_trans (startsNone_setEng s e _ ?_) (startsNone_of_leaves (setRegion_leaves ..))
                exact id
            · exact startsNone_refl s
    · exact startsNone_refl s

theorem fetchGo_startsNone (s : State) (e n : Nat) : s.startsNone (s.fetchGo e n) := by
  induction n generalizing s with
  | zero => exact startsNone_refl s
  | succ n ih =>
    unfold State.fetchGo
    dsimp only
    split
    · exact startsNone_trans (fetchNext_startsNone s e) (ih _)
    · exact fetchNext_startsNone s e

/-! The deadline guard (R222 to R225, R264). -/

theorem removeUnits_startsNone (s : State) (p : Work → Bool) : s.startsNone (s.removeUnits p) := by
  refine startsNone_trans (startsNone_of_leaves (leaves_of_regs ?_ ?_)) <| startsNone_trans (startsNone_forEach _ _ (fun e s => ?_) _)
    (startsNone_of_placesOnly (placesOnly_placeWaiting _))
  · rfl
  · rfl
  · have hwork : s.startsNone (s.setEng e { s.eng e with work := (s.eng e).work.filter fun w => !p w }) :=
      startsNone_setEng s e _ (by exact id)
    dsimp only
    split
    · exact startsNone_trans hwork (startsNone_cancel ..)
    · exact hwork

theorem freeInbound_startsNone (s : State) (p : Work → Bool) : s.startsNone (s.freeInbound p) :=
  startsNone_forEach _ _ (fun e s => startsNone_setEng s e _ (by exact id)) s

theorem removed_startsNone (s : State) (p : Work → Bool) : s.startsNone ((s.removeUnits p).freeInbound p) :=
  startsNone_trans (removeUnits_startsNone ..) (freeInbound_startsNone ..)

theorem invalBand_leaves (s : State) (i : Nat) (f : Frame) (b : Nat) : s.leavesEngines (s.invalBand i f b) := invalidate_leaves ..

theorem blackBand_leaves (s : State) (i : Nat) (f : Frame) (b : Nat) : s.leavesEngines (s.blackBand i f b) :=
  leaves_forEach _ _ (fun _ _ => writeOutput_leaves ..) s

theorem voidOpen_leaves (s : State) (j : Nat) (x : Job) (status : Nat) : s.leavesEngines (s.voidOpen j x status) := by
  unfold State.voidOpen
  split
  · exact leaves_trans (leaves_forEach _ _ (fun _ _ => produce_leaves ..) s) (endStep_leaves ..)
  · exact leaves_refl s

/-- A drop counted, reported with its cause and, when it is a SLIP, told to the engine (Table 10-7). -/
theorem dropReport_leaves (s : State) {o : Nat} (ho : o < 4096) (c cause e : Nat) :
    s.leavesEngines (if c = 1 then ((s.bump pgSched o 0 16 1).fail pgSched 0 cause 0).event (pgEng e) 5
      else (s.bump pgSched o 0 16 1).fail pgSched 0 cause 0) := by
  have hcount := leaves_trans (leaves_bump s 0 16 1 (otherWord_low (by decide : pgSched < 0x200) ho))
    (leaves_fail _ pgSched 0 cause 0)
  split
  · exact leaves_trans hcount (leaves_event ..)
  · exact hcount

theorem dropStep_startsNone (s : State) {j : Nat} (hj : j < 64) (x : Job) (c e : Nat) : s.startsNone (s.dropStep j x c e) :=
  startsNone_trans (removed_startsNone ..) <| startsNone_of_leaves <|
    leaves_trans (voidOpen_leaves ..) (dropReport_leaves _ (by omega : 0x300 + 4 * j < 4096) ..)

theorem dropBand_startsNone (s : State) {i : Nat} (hi : i < 64) (f : Frame) (b c e : Nat) : s.startsNone (s.dropBand i f b c e) :=
  startsNone_trans (startsNone_of_leaves (setFrame_leaves ..)) <| startsNone_trans (removed_startsNone ..) <| startsNone_of_leaves <|
    leaves_trans (invalBand_leaves ..) <| leaves_trans (blackBand_leaves ..) (dropReport_leaves _ (by omega : 0x200 + 4 * i < 4096) ..)

theorem dropItem_startsNone (s : State) {x : Item} (hx : x.id < 64) (c : Nat) : s.startsNone (s.dropItem x c) := by
  unfold State.dropItem
  split
  · split
    · exact dropStep_startsNone s hx ..
    · exact startsNone_refl s
  · split
    · exact dropBand_startsNone s hx ..
    · exact startsNone_refl s

theorem mem_insertItem {x y : Item} {l : List Item} : y ∈ insertItem x l ↔ y = x ∨ y ∈ l := by
  induction l with
  | nil => simp only [insertItem, List.mem_singleton, List.not_mem_nil, or_false]
  | cons z l ih =>
    unfold insertItem
    split
    · exact List.mem_cons
    · simp only [List.mem_cons, ih]
      tauto

/-- Bands are of the 64 streams and steps of the 8 jobs. -/
theorem openItems_id {s : State} {x : Item} (h : x ∈ s.openItems) : x.id < 64 := by
  have hnil : ∀ y ∈ ([] : List Item), y.id < 64 := fun y hy => absurd hy List.not_mem_nil
  refine List.foldlRecOn (motive := fun l : List Item => ∀ y ∈ l, y.id < 64) _ _ hnil (fun l hl a ha y hy => ?_) x h
  rcases mem_insertItem.1 hy with rfl | hy
  · rcases List.mem_append.1 ha with ha | ha
    · obtain ⟨l, hl, ha⟩ := List.mem_flatten.1 ha
      obtain ⟨i, hi, rfl⟩ := List.mem_map.1 hl
      obtain ⟨m, hm, ha⟩ := List.mem_flatten.1 ha
      obtain ⟨f, -, rfl⟩ := List.mem_map.1 hm
      obtain ⟨b, -, rfl⟩ := List.mem_map.1 ha
      exact List.mem_range.1 hi
    · obtain ⟨j, hj, ha⟩ := List.mem_filterMap.1 ha
      have hj := List.mem_range.1 hj
      split at ha
      · split at ha
        · cases ha
        · cases ha
          exact Nat.lt_trans hj (by decide)
      · cases ha
  · exact hl y hy

theorem victim_mem {s : State} {l : List Item} {v : Item} (h : s.victim l = some v) : v ∈ l := by
  have hnone : ∀ v, (none : Option Item) = some v → v ∈ l := fun v hv => by cases hv
  refine List.foldlRecOn (motive := fun b : Option Item => ∀ v, b = some v → v ∈ l) l _ hnone (fun b hb x hx v hv => ?_) v h
  split at hv
  · cases hv
    exact hx
  · split at hv
    · cases hv
      exact hx
    · exact hb v hv

theorem guard_startsNone (s : State) : s.startsNone s.guard := by
  refine startsNone_forEach _ _ (fun x s => ?_) s
  split
  · exact startsNone_refl s
  · rename_i hopen
    have hx : x ∈ s.openItems := by
      simp only [Bool.or_eq_true, not_or, Bool.not_eq_true, Bool.not_eq_false', List.contains_iff_mem] at hopen
      exact hopen.1
    split
    · exact dropItem_startsNone s (openItems_id hx) _
    · split
      · rename_i v hv
        exact dropItem_startsNone s (openItems_id (List.mem_of_mem_filter (victim_mem hv))) _
      · exact startsNone_refl s

end Sys2Proof.Machine
end

section
/-! SUPPORT. The end of a signalled stripe (R94, R234) and O19. -/

namespace Sys2Proof.Machine

open Sys2Proof

theorem freeStaging_leaves (s : State) (e r : Nat) (d : Region) : s.leavesEngines ((s.setRegion e r d).serveAllocs e) :=
  leaves_trans (setRegion_leaves ..) (serveAllocs_leaves ..)

/-- A stripe retired leaves its engine idle and no count changed. -/
theorem retireStripe_idle {s : State} {e : Nat} (h : (s.eng e).ready ≠ []) : ((s.retireStripe e).eng e).exec = none ∧
    ∀ k < 6, (s.retireStripe e).reg (pgEng k) 0x100 = s.reg (pgEng k) 0x100 := by
  unfold State.retireStripe
  extract_lets g
  split
  · extract_lets sb s1
    have hidle : (s1.eng e).exec = none := by
      subst s1
      rw [setEng_eng, if_pos rfl]
    have hcount : ∀ k < 6, s1.reg (pgEng k) 0x100 = s.reg (pgEng k) 0x100 := fun k _ => setEng_reg' ..
    split
    · extract_lets d
      exact ⟨(leaves_keeps (freeStaging_leaves ..) (·.exec) (fun _ _ => rfl) e).trans hidle,
        fun k hk => ((freeStaging_leaves ..).counts k hk).trans (hcount k hk)⟩
    · exact ⟨hidle, hcount⟩
  · rename_i hnil
    exact absurd hnil h

/-- What follows a retired stripe starts none: fetches, placements, a self-test that waited, the guard. -/
theorem afterRetire_startsNone (s : State) (e : Nat) : s.startsNone ((((s.fetchAll e).placeWaiting).checkSelftest e).guard) :=
  startsNone_trans (fetchGo_startsNone s e 64) <| startsNone_trans (startsNone_of_placesOnly (placesOnly_placeWaiting _)) <|
    startsNone_trans (startsNone_of_rotatesOnly (rotatesOnly_checkSelftest ..)) (guard_startsNone _)

/-- A signalled stripe with a line in the write buffer and sound words ends and is counted (R94, R234). -/
theorem completeSignal_ends {s : State} {e : Nat} {x : Exec} (he : e < 6) (hx : (s.eng e).exec = some x) (hsig : x.signalled = true)
    (hready : (s.eng e).ready ≠ []) (hroom : s.bufferNeed x.work = 0 ∨ 0 < x.bufLines ∨ 0 < s.poolRoom 1 x.work.stream)
    (hwords : s.badWords e (s.signalSpans x.work x.outPlace x.hist x.taps x.parts) = none) :
    ((s.completeSignal e).eng e).exec = none ∧ (s.completeSignal e).reg (pgEng e) 0x100 = s.reg (pgEng e) 0x100 + 1 := by
  have hcond : (x.signalled && (decide (s.bufferNeed x.work = 0) || decide (0 < x.bufLines) ||
      decide (0 < s.poolRoom 1 x.work.stream))) = true := by
    simpa only [hsig, Bool.true_and, Bool.or_eq_true, decide_eq_true_eq, or_assoc] using hroom
  obtain ⟨t, ht, hgo⟩ : ∃ t : State, s.leavesEngines t ∧ s.completeSignal e =
      ((((((t.retireStripe e).bumpWrap (pgEng e) 0x100).fetchAll e).placeWaiting).checkSelftest e).guard) := by
    refine ⟨if x.work.tensor then s.deliverUnit e x else s.deliver e x, ?_, ?_⟩
    · split
      · exact deliverUnit_leaves ..
      · exact deliver_leaves ..
    · unfold State.completeSignal
      simp only [hx, hcond, if_true, hwords]
  obtain ⟨hidle, hkept⟩ := retireStripe_idle (s := t) (e := e) (by rwa [leaves_keeps ht (·.ready) (fun _ _ => rfl)])
  have hafter := afterRetire_startsNone ((t.retireStripe e).bumpWrap (pgEng e) 0x100) e
  rw [hgo]
  refine ⟨hafter.idle e hidle, ?_⟩
  rw [hafter.counts e he, State.bumpWrap, setReg_reg_same, hkept e he, ht.counts e he]

/-- Settles O19, clause by clause: tacks, SIGNAL, completions, the start and the end of a stripe do as their lemmas say. -/
theorem tacksAndSignals : Obligations.TacksAndSignals := by
  unfold Obligations.TacksAndSignals
  refine ⟨?_, ?_, ?_, ?_, ?_, ?_⟩
  · intro s e x m b hs hrun htack hsig
    exact done_eq (issueTack_held hrun htack hsig m b) (settled_setEng hs e _ (by rfl))
  · intro s e k hs htack
    refine done_eq (releaseTack_of_tack htack) ?_
    split
    · exact settled_setEng hs e _ (by rfl)
    · exact hs
  · intro s e x o h t q hs hrun htack hsig hspans
    refine done_eq (issueSignal_judged hrun htack hsig hspans) ?_
    split
    · exact settled_setEng hs e _ (by rfl)
    · exact settled_cause hs ..
  · intro s e u c hs hq hput
    refine done_eq (completeCmd_alone hq hput) ?_
    split
    · exact settled_setEng hs e _ (by rw [engSetQueue_eq])
    · exact hs
  · intro s e r l hs hx hready hgone htakes
    have hgo := startStripe_go hx hready hgone htakes
    refine ⟨fun hclean => ?_, fun hbad => ?_⟩
    · rw [hclean, if_neg Bool.false_ne_true] at hgo
      exact done_eq hgo (settled_startStripe hs e _ (by rfl))
    · rw [hbad, if_pos rfl] at hgo
      refine ⟨_, done_eq hgo (settled_startStripe hs e _ (by rfl)), ?_, ?_, ?_⟩
      · rw [setEng_eng, if_pos rfl]
        rfl
      · rw [setEng_eng, if_pos rfl]
        rfl
      · exact sameMemory_of_mem (by rw [setEng_mem, markDegraded_keeps State.mem fun _ _ _ => rfl])
  · intro s e x hx hsig hready hroom hwords
    obtain ⟨hidle, hcount⟩ := completeSignal_ends e.isLt hx hsig hready hroom hwords
    exact ⟨_, rfl, hidle, hcount⟩

end Sys2Proof.Machine
end

section
/-! SUPPORT. Codes of NaN and of zeros, sums of operands of opposite sign (R115), and O55. -/

namespace Sys2Proof.Machine

open Sys2Proof

@[simp] theorem encodeF_nan (f : FFmt) (sat : Bool) : encodeF f sat .nan = nanCode f := rfl

/-- A zero keeps its sign whatever its exponent is. -/
@[simp] theorem encodeF_zero (f : FFmt) (sat s : Bool) (e : Int) :
    encodeF f sat (.fin s 0 e) = if s then 2 ^ (f.eb + f.mb) else 0 := by
  simp [encodeF]

theorem flAlign_not (s : Bool) (m : Nat) (e q : Int) : flAlign (!s) m e q = -flAlign s m e q := by
  cases s <;> simp [flAlign]

/-- A zero sum of operands of opposite sign is positive, also where the operands have different exponents. -/
theorem flAdd_opposite_of_zero {s : Bool} {m n : Nat} {e g : Int}
    (h : flAlign s m e (min e g) + flAlign (!s) n g (min e g) = 0) :
    flAdd (.fin s m e) (.fin (!s) n g) = .fin false 0 (min e g) := by
  simp only [flAdd, h, if_true, Bool.and_not_self]

/-- A value and its negation add to a positive zero. -/
theorem flAdd_opposite_same (s : Bool) (m : Nat) (e : Int) : flAdd (.fin s m e) (.fin (!s) m e) = .fin false 0 e := by
  have hzero : flAlign s m e (min e e) + flAlign (!s) m e (min e e) = 0 := by rw [flAlign_not, add_neg_cancel]
  rw [flAdd_opposite_of_zero hzero, min_self]

/-- Settles O55: NaN by the format's own code, zeros by `encodeF_zero`, and the sums by `flAdd_opposite_same` for either sign. -/
theorem canonicalNaN : Obligations.CanonicalNaN := by
  unfold Obligations.CanonicalNaN
  refine ⟨fun b => ?_, fun f b s e _ => encodeF_zero f b s e, fun m e => ⟨e, flAdd_opposite_same false m e⟩,
    fun m e => ⟨e, flAdd_opposite_same true m e⟩⟩
  simp only [encodeF_nan]
  decide

end Sys2Proof.Machine
end

section
/-! SUPPORT. Bank groups of a tile (R152 to R155): what a request asks of the groups, and what a group's change leaves of memory; and
O27. -/

namespace Sys2Proof.Machine

open Sys2Proof

/-! A group replaced. -/

theorem setBgroup_bgroup_same (s : State) (t g : Nat) (v : Group) : (s.setBgroup t g v).bgroup t g = v := by
  simp only [State.setBgroup, State.bgroup, setTile_tile, if_pos, sget_sset_same]

theorem settled_setBgroup {s : State} (h : s.settled) (t g : Nat) (v : Group) : (s.setBgroup t g v).settled :=
  settled_setTile h t _ (by rfl)

@[simp] theorem setBgroup_mem (s : State) (t g : Nat) (v : Group) : (s.setBgroup t g v).mem = s.mem := (rfl)

@[simp] theorem setReg_bgroup (s : State) (p o : Nat) (x : Word) (t g : Nat) : (s.setReg p o x).bgroup t g = s.bgroup t g := (rfl)

/-! Requests (R153). -/

/-- What is found of a range when one of its numbers alone gives something. -/
theorem filterMap_range_single {β : Type} {f : Nat → Option β} {v : β} {n g : Nat} (hg : g < n) (hv : f g = some v)
    (hother : ∀ k < n, k ≠ g → f k = none) : (List.range n).filterMap f = [v] := by
  induction n with
  | zero => exact absurd hg (Nat.not_lt_zero g)
  | succ n ih =>
    rw [List.range_succ, List.filterMap_append]
    by_cases hgn : g = n
    · have hfront : (List.range n).filterMap f = [] := List.filterMap_eq_nil_iff.2 fun k hk => by
        have hk := List.mem_range.1 hk
        exact hother k (by omega) (by omega)
      rw [hfront, ← hgn, List.filterMap_cons_some hv]
      rfl
    · rw [ih (by omega) fun k hk => hother k (by omega), List.filterMap_cons_none (hother n (by omega) fun h => hgn h.symm)]
      rfl

/-- What a request asks of a group: the state that its field names, when the group neither has it nor goes to it. -/
def State.groupAsk (s : State) (t : Nat) (w : Word) (g : Nat) : Option (Nat × Nat) :=
  if fld w (2 * g) 2 = 3 ∨ fld w (2 * g) 2 = (s.bgroup t g).target.getD (s.bgroup t g).state then none else some (g, fld w (2 * g) 2)

/-- A request is refused when a group that is to leave ON is in use, and recorded for every group that it asks otherwise. -/
theorem requestPower_eq (s : State) (t : Nat) (w : Word) : s.requestPower t w =
    match ((List.range 8).filterMap (s.groupAsk t w)).find? fun q => q.2 != 0 && s.groupUsed t q.1 with
    | some q => (s.smemCause t 6 0 0 0xF (tileBase t + 0x400000 * q.1)).event (pgSmem t) 9
    | none => forEach ((List.range 8).filterMap (s.groupAsk t w))
        (fun q s => s.setBgroup t q.1 { s.bgroup t q.1 with target := some q.2 }) (s.setReg (pgSmem t) 0x100 (w &&& 0xFFFF)) := rfl

section Request

variable {s : State} {t g : Nat} {w : Word} (hg : g < 8) (hrest : ∀ k, k < 8 → k ≠ g → fld w (2 * k) 2 = 3)
  (hcode : fld w (2 * g) 2 < 3) (htarget : (s.bgroup t g).target = none) (hstate : (s.bgroup t g).state ≠ fld w (2 * g) 2)

include hg hrest hcode htarget hstate

/-- A request that names one group asks of that group alone. -/
theorem groupAsks_single : (List.range 8).filterMap (s.groupAsk t w) = [(g, fld w (2 * g) 2)] := by
  refine filterMap_range_single hg (if_neg ?_) fun k hk hne => if_pos (.inl (hrest k hk hne))
  rw [htarget, Option.getD_none]
  omega

theorem requestPower_recorded (hused : s.groupUsed t g = false) : s.requestPower t w =
    (s.setReg (pgSmem t) 0x100 (w &&& 0xFFFF)).setBgroup t g ⟨(s.bgroup t g).state, some (fld w (2 * g) 2)⟩ := by
  rw [requestPower_eq, groupAsks_single hg hrest hcode htarget hstate,
    List.find?_cons_of_neg (by rw [hused, Bool.and_false]; exact Bool.false_ne_true), List.find?_nil]
  rfl

theorem requestPower_refused (hoff : fld w (2 * g) 2 ≠ 0) (hused : s.groupUsed t g = true) : s.requestPower t w =
    (s.smemCause t 6 0 0 0xF (tileBase t + 0x400000 * g)).event (pgSmem t) 9 := by
  rw [requestPower_eq, groupAsks_single hg hrest hcode htarget hstate,
    List.find?_cons_of_pos (by rw [hused, Bool.and_true]; exact bne_iff_ne.2 hoff)]

end Request

/-! The change of a group (R152, R155). -/

/-- The pairs left out of a map read as their default, and the others as before. -/
theorem sget_filter {α : Type} (d : Nat → α) (p : Nat → Bool) (m : Sparse α) (k : Nat) :
    sget d (m.filter fun e => p e.1) k = if p k then sget d m k else d k := by
  induction m with
  | nil => simp [sget]
  | cons e m ih =>
    obtain ⟨j, v⟩ := e
    rw [List.filter_cons]
    by_cases hp : p j = true
    · rw [if_pos hp]
      by_cases hjk : j = k
      · subst hjk
        simp [sget, hp]
      · simp only [sget, if_neg hjk, ih]
    · rw [if_neg hp, ih]
      by_cases hjk : j = k
      · subst hjk
        rw [if_neg hp, if_neg hp]
      · simp only [sget, if_neg hjk]

/-- The bytes of `n` addresses from `a` on are lost. -/
def State.wiped (s : State) (a n : Nat) : State :=
  { s with mem := s.mem.filter fun c => !(decide (a ≤ c.1) && decide (c.1 < a + n)) }

theorem wiped_byte (s : State) (a n x : Nat) : (s.wiped a n).byte x = if a ≤ x ∧ x < a + n then 0 else s.byte x := by
  have hget := sget_filter (fun _ => (0 : Byte)) (fun k => !(decide (a ≤ k) && decide (k < a + n))) s.mem x
  by_cases hx : a ≤ x ∧ x < a + n
  · rw [if_pos hx]
    exact hget.trans (if_neg (by simp [hx]))
  · rw [if_neg hx]
    exact hget.trans (if_pos (by rw [← Bool.decide_and, decide_eq_false hx]; rfl))

/-- The first address of a bank group. -/
def groupBase (t g : Nat) : Nat := tileBase t + 0x400000 * g

/-- Memory and the known errors of a tile once a group's contents are lost. -/
def State.groupLost (s : State) (t g : Nat) : State :=
  let s1 := s.wiped (groupBase t g) 0x400000
  s1.setTile t { s1.tile t with storedErrs := (s1.tile t).storedErrs.filter fun w =>
    !(decide (groupBase t g ≤ w) && decide (w < groupBase t g + 0x400000)) }

theorem settled_groupLost {s : State} (h : s.settled) (t g : Nat) : (s.groupLost t g).settled := by
  have hwiped : (s.wiped (groupBase t g) 0x400000).settled := h
  exact settled_setTile hwiped t _ (by rfl)

theorem groupLost_byte (s : State) (t g x : Nat) : (s.groupLost t g).byte x =
    if groupBase t g ≤ x ∧ x < groupBase t g + 0x400000 then 0 else s.byte x := wiped_byte s _ _ x

section Done

variable {s : State} {t g : Nat} {timeout : Bool}

/-- A group that was asked nothing stays. -/
theorem powerDone_of_none (h : (s.bgroup t g).target = none) : s.powerDone t g timeout = s := by
  simp only [State.powerDone, h]

variable {r : Nat} (htarget : (s.bgroup t g).target = some r)

include htarget

/-- A group that is ON waits for the writes to it. -/
theorem powerDone_waits (hon : (s.bgroup t g).state = 0) (hout : 0 < s.outstanding t g) : s.powerDone t g false = s := by
  simp only [State.powerDone, htarget]
  exact if_pos ⟨hon, hout, rfl⟩

/-- A group that changes state keeps its contents unless it comes from OFF or goes there. -/
theorem powerDone_goes (h : (s.bgroup t g).state ≠ 0 ∨ s.outstanding t g = 0 ∨ timeout = true) : s.powerDone t g timeout =
    (((if r = 2 ∨ (s.bgroup t g).state = 2 then s.groupLost t g else s).setBgroup t g ⟨r, none⟩).event (pgSmem t) 4) := by
  have hgo : ¬ ((s.bgroup t g).state = 0 ∧ 0 < s.outstanding t g ∧ (!timeout) = true) := by
    rintro ⟨hon, hout, htime⟩
    rcases h with h | h | h
    · exact h hon
    · omega
    · rw [h] at htime
      exact Bool.false_ne_true htime
  have hwipe : (r == 2 || (s.bgroup t g).state == 2) = decide (r = 2 ∨ (s.bgroup t g).state = 2) := by
    rw [Bool.eq_iff_iff]
    simp
  simp only [State.powerDone, htarget]
  rw [if_neg hgo, hwipe]
  by_cases hlost : r = 2 ∨ (s.bgroup t g).state = 2
  · rw [if_pos hlost, decide_eq_true hlost]
    rfl
  · rw [if_neg hlost, decide_eq_false hlost]
    rfl

end Done

/-- Settles O27: requests by `requestPower_recorded` and `requestPower_refused`, changes by the `powerDone` lemmas. -/
theorem bankGroups : Obligations.BankGroups := by
  unfold Obligations.BankGroups
  refine ⟨?_, ?_, ?_, ?_, ?_⟩
  · exact fun s t w g hs hrest hcode htarget hstate hused =>
      done_eq (requestPower_recorded g.isLt hrest hcode htarget hstate hused) (settled_setBgroup (settled_setReg hs ..) ..)
  · exact fun s t w g hs hrest hoff hcode htarget hstate hused =>
      done_eq (requestPower_refused g.isLt hrest hcode htarget hstate hoff hused) (settled_event (settled_cause hs ..) ..)
  · exact fun s t g b hs htarget => done_eq (powerDone_of_none htarget) hs
  · exact fun s t g r hs htarget hon hout => done_eq (powerDone_waits htarget hon hout) hs
  · intro s t g b r hs htarget hgo
    have hs1 : (if r = 2 ∨ (s.bgroup t g).state = 2 then s.groupLost t g else s).settled := by
      split
      · exact settled_groupLost hs ..
      · exact hs
    refine ⟨_, done_eq (powerDone_goes htarget hgo) (settled_event (settled_setBgroup hs1 ..) ..), ?_, event_reg_bit _ _ _ (by decide), ?_⟩
    · rw [State.bgroup, event_tile]
      exact setBgroup_bgroup_same ..
    · split
      · have hbyte : ∀ a, (((s.groupLost t g).setBgroup t g ⟨r, none⟩).event (pgSmem t) 4).byte a = (s.groupLost t g).byte a :=
          byte_of_mem (by rw [event_mem, setBgroup_mem])
        exact ⟨fun a hlo hhi => (hbyte a).trans ((groupLost_byte ..).trans (if_pos ⟨hlo, hhi⟩)),
          fun a ha => (hbyte a).trans ((groupLost_byte ..).trans (if_neg ha))⟩
      · exact sameMemory_of_mem (by rw [event_mem, setBgroup_mem])

end Sys2Proof.Machine
end

section
/-! SUPPORT. The loader's commit (R139, R211, R212, R216): what it leaves, refuses and takes; and O31. -/

namespace Sys2Proof.Machine

open Sys2Proof

/-! Queues given to a job. -/

theorem setOwner_owner (s : State) (q o k : Nat) : ((s.setOwner q o).queue k).ctx.owner = if k = q then o else (s.queue k).ctx.owner := by
  rw [State.setOwner, setQueue_queue]
  split <;> rfl

/-- Every queue of a list that a job takes has the job as its owner. -/
theorem setOwners_owner {l : List Nat} {q : Nat} (h : q ∈ l) (o : Nat) (s : State) :
    ((forEach l (fun q s => s.setOwner q o) s).queue q).ctx.owner = o := by
  have hstays : ∀ (l : List Nat) (s : State), (s.queue q).ctx.owner = o →
      ((forEach l (fun q s => s.setOwner q o) s).queue q).ctx.owner = o := fun l s hs => by
    refine forEach_rel (fun s t => (s.queue q).ctx.owner = o → (t.queue q).ctx.owner = o) (fun _ h => h) (fun h k hs => k (h hs)) l _
      (fun k t ht => ?_) s hs
    rw [setOwner_owner]
    split
    · rfl
    · exact ht
  induction l generalizing s with
  | nil => exact absurd h List.not_mem_nil
  | cons k l ih =>
    rw [forEach_cons]
    rcases List.mem_cons.1 h with rfl | h
    · exact hstays l _ (by rw [setOwner_owner, if_pos rfl])
    · exact ih h _

/-- Queues given to a job leave every part of the state that no queue shows. -/
theorem setOwners_keeps {β : Type} (v : State → β) (hv : ∀ (s : State) q x, v (s.setQueue q x) = v s) (l : List Nat) (o : Nat) (s : State) :
    v (forEach l (fun q s => s.setOwner q o) s) = v s := forEach_keeps v l _ (fun _ _ => hv ..) s

/-! What a commit takes. -/

/-- The state with the image of a load among the resident ones, and the load at its end. -/
def State.withImage (s : State) (l : Load) : State :=
  { s with load := none, images := s.images ++ [⟨l.bind.imageAddr, l.bind.imageSize, l.img⟩] }

/-- The job that a load starts. -/
def State.startedJob (s : State) (l : Load) : Job :=
  { bind := l.bind, digest := l.img.digest, kind := l.img.kind, phase := .running, variant := s.anyFenced, step := 0, due := []
    open_ := none, stepUnits := [], stepBufs := [], stepDeadline := 0, stepVariant := false, shed := false, committed := s.clk.ptp
    restartAt := 0, restartClass := 0 }

/-- The state that has taken image, stream, queues and job of a load with one stream. -/
def State.taken (s : State) (l : Load) (e : BindEntry) : State :=
  (forEach (l.bind.allQueues l.img.kind) (fun q s => s.setOwner q l.bind.job)
    ((s.withImage l).bindStream l.bind.job false l.img e)).setJob l.bind.job (some (s.startedJob l))

/-- The stream as a START takes it: afresh, with its first frame to reset the history. -/
def State.startedStrm (s : State) (l : Load) (e : BindEntry) : Strm :=
  { Strm.init with job := some l.bind.job, entry := some e, img := l.img.streams[e.imgStream]?, resetDue := 1
                   slotBytes := slotBytesOf s.live e.stream }

/-- What neither streams, queues nor jobs show is left when they are taken. -/
theorem taken_keeps {β : Type} (v : State → β) (hq : ∀ (s : State) q x, v (s.setQueue q x) = v s)
    (hs : ∀ (s : State) i x, v (s.setStrm i x) = v s) (hj : ∀ (s : State) i x, v (s.setJob i x) = v s) (s : State) (l : Load)
    (e : BindEntry) : v (s.taken l e) = v (s.withImage l) := by
  rw [State.taken, hj, setOwners_keeps v hq]
  exact (setOwners_keeps v hq ..).trans (hs ..)

theorem taken_strm (s : State) (l : Load) (e : BindEntry) : (s.taken l e).strm e.stream = s.startedStrm l e := by
  rw [State.taken, setJob_strm, setOwners_keeps (·.strm e.stream) fun _ _ _ => rfl]
  exact (setOwners_keeps (·.strm e.stream) (fun _ _ _ => rfl) ..).trans ((setStrm_strm ..).trans (if_pos rfl))

theorem taken_owner (s : State) (l : Load) {e : BindEntry} {q : Nat} (hkind : l.img.kind = 0) (he : l.bind.entries = [e])
    (hq : q ∈ e.queues) : ((s.taken l e).queue q).ctx.owner = l.bind.job := by
  have hmem : q ∈ l.bind.allQueues l.img.kind := by
    rw [Binding.allQueues, Binding.queues, hkind, he]
    exact List.mem_append_left _ (by simpa using hq)
  exact setOwners_owner hmem _ _

/-- A commit gives up no held stream when none is held in its slot. -/
theorem releaseSlot_of_none {s : State} {j : Nat} (h : ∀ i, (s.strm i).job ≠ some j) (l : List Nat) :
    forEach l (fun i s => if (s.strm i).job = some j then s.releaseHeld i else s) s = s := by
  induction l with
  | nil => rfl
  | cons i l ih => rw [forEach_cons, if_neg (h i), ih]

/-! The commit. -/

section Commit

variable {s : State}

theorem loaderCommit_of_none (h : s.load = none) : s.loaderCommit = s := by
  simp only [State.loaderCommit, h]

variable {l : Load} (hload : s.load = some l)

include hload

/-- A commit waits for the supervisor. -/
theorem loaderCommit_waits (hready : s.ready = false) : s.loaderCommit = s := by
  simp only [State.loaderCommit, hload, hready, Bool.not_false, if_true]

variable (hready : s.ready = true)

include hready

/-- A fence during the load has left too few engines (R211). -/
theorem loaderCommit_refused {v : Verdict} (h : ({ s with load := none } : State).commitFault l.bind l.img = some v) :
    s.loaderCommit = ({ s with load := none } : State).complete 1 l.bind.job l.tag v l.bind.eventQ := by
  simp only [State.loaderCommit, hload, hready, Bool.not_true, Bool.false_eq_true, if_false, h]

/-- A commit that starts a rendering job with one stream on a new image (R212). -/
theorem loaderCommit_starts {e : BindEntry} (hmode : l.bind.mode ≠ 1) (hkind : l.img.kind = 0) (hnew : s.residentImage l.img = none)
    (hfault : ({ s with load := none } : State).commitFault l.bind l.img = none) (he : l.bind.entries = [e])
    (hslot : ∀ i, (s.strm i).job ≠ some l.bind.job) :
    let w := forEach (List.range 6) (fun t s => s.powerFor t) ((s.taken l e).placeRegions l.bind.job l.img false l.places)
    let u := (((w.fillPersist l.bind.job).placePrograms).judgeShed).joinDue l.bind.groupId
    s.loaderCommit = u.complete 1 l.bind.job l.tag (.at_ 0 0 (u.strm (s.startedJob l).lowest).nextSeq) l.bind.eventQ := by
  have hrelease : forEach (List.range 64) (fun i s => if (s.strm i).job = some l.bind.job then s.releaseHeld i else s) (s.withImage l) =
      s.withImage l := releaseSlot_of_none (s := s.withImage l) hslot _
  have hfresh : (l.bind.mode == 1) = false := beq_eq_false_iff_ne.2 hmode
  intro w u
  unfold State.loaderCommit
  rw [hload]
  dsimp -zeta only
  rw [if_neg (by rw [hready]; decide)]
  extract_lets b j m s0 new s1 s2 entries s3 s4 job s5 s6 first
  rw [show s0.commitFault b m = none from hfault]
  dsimp -zeta only
  have hn : new = true := by simp only [new, m, hnew, Option.isNone_none]
  have h1 : s1 = s.withImage l := if_pos hn
  have h2 : s2 = s.withImage l := (if_neg hmode).trans (by rw [h1]; exact hrelease)
  have hrender : ¬ m.kind = 1 := by simp only [m, hkind, Nat.zero_ne_one, not_false_eq_true]
  have hentries : entries = [e] := (if_neg hrender).trans he
  have h4 : s4.setJob j (some job) = s.taken l e := by
    simp only [s4, s3, hentries, forEach_cons, forEach_nil, h2, hfresh, b, j, m, State.taken, job, State.startedJob]
  have h5 : s5 = w := by simp only [s5, w, h4, hn, Bool.not_true, m, j, b]
  have h6 : s6 = u := by simp only [s6, u, h5, hn, if_true, j, b]
  have hfirst : first = (u.strm (s.startedJob l).lowest).nextSeq := by
    rw [← h6]
    exact if_neg hrender
  rw [h6, hfirst]

end Commit

theorem exec_loaderCommit {s t : State} (h : s.loaderCommit = t) : exec .loaderCommit s = .next t.checkJoins.settle := by
  rw [← h]
  rfl

/-- Settles O31: the four ways of a commit, by the `loaderCommit` lemmas; what it takes stands in `State.taken`. -/
theorem loaderCommits : Obligations.LoaderCommits := by
  unfold Obligations.LoaderCommits
  refine ⟨?_, ?_, ?_, ?_⟩
  · exact fun s h => exec_loaderCommit (loaderCommit_of_none h)
  · exact fun s l v hload hready h => exec_loaderCommit (loaderCommit_refused hload hready h)
  · intro s l e hload hready hmode hkind hnew hfault he hslot j
    refine ⟨s.taken l e, s.startedJob l, ?_, rfl, rfl, rfl, rfl, ?_, ?_, ?_, ?_, ?_, ?_, fun q hq => taken_owner s l hkind he hq, ?_,
      exec_loaderCommit (loaderCommit_starts hload hready hmode hkind hnew hfault he hslot)⟩
    · rw [State.taken, setJob_job, if_pos rfl]
    · exact taken_keeps State.load (fun _ _ _ => rfl) (fun _ _ _ => rfl) (fun _ _ _ => rfl) ..
    · exact taken_keeps State.images (fun _ _ _ => rfl) (fun _ _ _ => rfl) (fun _ _ _ => rfl) ..
    · rw [taken_strm]; rfl
    · rw [taken_strm]; rfl
    · rw [taken_strm]; rfl
    · rw [taken_strm]; rfl
    · exact sameMemory_of_mem (taken_keeps State.mem (fun _ _ _ => rfl) (fun _ _ _ => rfl) (fun _ _ _ => rfl) ..)
  · exact fun s l _ hload hready => exec_loaderCommit (loaderCommit_waits hload hready)

end Sys2Proof.Machine
end

section
/-! SUPPORT. Parity errors of stripe memory and the patrol (R147 to R151): what the counts of a re-read leave, and the outcomes of a
stored error; and O26. -/

namespace Sys2Proof.Machine

open Sys2Proof

theorem pgSmem_ne_pgEng (t e : Nat) (he : e < 6) : pgSmem t ≠ pgEng e := by simp only [pgSmem, pgEng]; omega

/-- A cause stands in three words of its page (R402). -/
theorem cause_reg_ne (s : State) (q c a : Nat) {p o : Nat} (h : p ≠ q) (ho : o < 4096) : (s.cause q c a).reg p o = s.reg p o := by
  have hne : ∀ {o'}, o' < 4096 → radr p o ≠ radr q o' := fun ho' => radr_ne_of_page h ho ho'
  rw [State.cause, setReg_reg_ne _ _ (hne (by decide)), setReg_reg_ne _ _ (hne (by decide)), setReg_reg_ne _ _ (hne (by decide))]

/-- A cause leaves the words before it in its page. -/
theorem cause_reg_low (s : State) (q c a : Nat) {p o : Nat} (h : o < 0x24) : (s.cause q c a).reg p o = s.reg p o := by
  have hne : ∀ o', 0x24 ≤ o' → o' < 4096 → radr p o ≠ radr q o' := fun o' hlo ho' => radr_ne (by omega) (by omega) ho'
  rw [State.cause, setReg_reg_ne _ _ (hne _ (by decide) (by decide)), setReg_reg_ne _ _ (hne _ (by decide) (by decide)),
    setReg_reg_ne _ _ (hne _ (by decide) (by decide))]

/-- A failure's address stands in ERR_ADDR_LO. -/
theorem fail_reg_addr (s : State) (p b c a : Nat) : (s.fail p b c a).reg p 0x28 = BitVec.ofNat 32 a := by
  rw [State.fail, event_reg_ne _ _ radr_ne, State.cause, setReg_reg_ne _ _ radr_ne, setReg_reg_same]

/-! Words that pass the re-read (R148). -/

section Transient

variable {s : State} {t port line passed : Nat} {behalf : Bool} (hpassed : 0 < passed)

include hpassed

theorem countParity_transient :
    s.countParity t port line passed [] = (s.bump (pgSmem t) 0x20 0 16 passed).event (pgSmem t) 0 := by
  simp only [State.countParity, if_neg (Nat.ne_of_gt hpassed), List.isEmpty_nil, if_true]

/-- Transient errors at a port that reads for others cost the engine nothing. -/
theorem parityReread_transient (h0 : port ≠ 0) (h1 : port ≠ 1) (h3 : port ≠ 3) :
    s.parityReread t port behalf line passed [] = (s.bump (pgSmem t) 0x20 0 16 passed).event (pgSmem t) 0 := by
  have hport : (port == 0 || port == 1 || port == 3) = false := by simp [h0, h1, h3]
  simp only [State.parityReread, countParity_transient hpassed, hport, Bool.false_and, List.isEmpty_nil, if_true, Bool.false_eq_true,
    if_false]

/-- Transient errors at a port of the engine delay it by eight cycles. -/
theorem parityReread_delay (h : port = 0 ∨ port = 1 ∨ port = 3) :
    s.parityReread t port behalf line passed [] = ((s.bump (pgSmem t) 0x20 0 16 passed).event (pgSmem t) 0).addSlip t 8 := by
  have hport : (port == 0 || port == 1 || port == 3) = true := by simpa [or_assoc] using h
  simp only [State.parityReread, countParity_transient hpassed, hport, decide_eq_true hpassed, Bool.and_self, List.isEmpty_nil, if_true]

end Transient

/-! A word that fails the re-read: counts (R148, R150). -/

/-- The cause of a stored error: its port and its region (Table 07-11). -/
def State.parityCause (s : State) (t port line : Nat) : Nat :=
  1 + 256 * port + 2048 * ((s.regionAt t line).map (·.1)).getD 0 + 65536 * 0xF

/-- One word that fails is counted for the tile and its bank, and reported. -/
theorem countParity_stored (s : State) (t port line : Nat) {w : Nat} (hw : w < 32) : s.countParity t port line 0 [w] =
    ((s.bump (pgSmem t) 0x20 16 16 1).countBank t (bankOfLine line)).fail (pgSmem t) 1 (s.parityCause t port line)
      (tileBase t + 128 * line + 4 * w) := by
  have hlow : [w].foldl min 31 = w := Nat.min_eq_right (by omega)
  have hany : ¬ ([w].isEmpty = true) := Bool.false_ne_true
  unfold State.countParity
  dsimp only
  rw [if_pos rfl, if_neg hany, hlow, forEach_cons, forEach_nil, List.length_singleton, State.fail, State.smemCause, State.parityCause]

/-- The state that has counted one stored error of a line and knows it, before its outcome. -/
def State.storedAt (s : State) (t port line w : Nat) : State :=
  let s1 := s.countParity t port line 0 [w]
  s1.setTile t { s1.tile t with storedErrs := (s1.tile t).storedErrs ++
    (([w].map fun w => tileBase t + 128 * line + 4 * w).filter fun a => !(s1.tile t).storedErrs.contains a) }

/-- A part of the state that neither the counts of the tiles, the registers nor the events show. -/
structure uncounted {β : Type} (v : State → β) : Prop where
  tile : ∀ (s : State) t times wear errs,
    v (s.setTile t { s.tile t with bankTimes := times, wearRaised := wear, storedErrs := errs }) = v s
  bump : ∀ (s : State) p o l w n, v (s.bump p o l w n) = v s
  event : ∀ (s : State) p b, v (s.event p b) = v s
  cause : ∀ (s : State) p c a, v (s.cause p c a) = v s

theorem uncounted_engines : uncounted State.engines :=
  ⟨fun _ _ _ _ _ => rfl, fun _ _ _ _ _ _ => rfl, event_engines, cause_engines⟩

theorem uncounted_mem : uncounted State.mem := ⟨fun _ _ _ _ _ => rfl, fun _ _ _ _ _ _ => rfl, event_mem, cause_mem⟩

theorem uncounted_jobs : uncounted State.jobs := ⟨fun _ _ _ _ _ => rfl, fun _ _ _ _ _ _ => rfl, event_jobs, cause_jobs⟩

theorem uncounted_due : uncounted fun s => s.flt.due :=
  ⟨fun _ _ _ _ _ => rfl, fun _ _ _ _ _ _ => rfl, fun _ _ _ => by rw [event_flt], fun _ _ _ _ => by rw [cause_flt]⟩

/-- The regions of every tile are uncounted. -/
theorem uncounted_regions (t : Nat) : uncounted fun s => (s.tile t).regions := by
  refine ⟨fun s k _ _ _ => ?_, fun _ _ _ _ _ _ => rfl, fun _ _ _ => by rw [event_tile], fun _ _ _ _ => by rw [cause_tile]⟩
  dsimp only
  rw [setTile_tile]
  split
  · rename_i h
    rw [h]
  · rfl

section Counts

variable {β : Type} {v : State → β} (hv : uncounted v)

include hv

theorem countBank_keeps (s : State) (t bank : Nat) : v (s.countBank t bank) = v s := by
  unfold State.countBank
  dsimp only
  split
  · rw [hv.event, hv.bump]
    exact hv.tile s t _ _ (s.tile t).storedErrs
  · rw [hv.bump]
    exact hv.tile s t _ _ (s.tile t).storedErrs

theorem storedAt_keeps (s : State) (t port line : Nat) {w : Nat} (hw : w < 32) : v (s.storedAt t port line w) = v s := by
  rw [State.storedAt, hv.tile _ t, countParity_stored s t port line hw, State.fail, hv.event, hv.cause, countBank_keeps hv, hv.bump]

end Counts

/-- A bank's count lies behind the page's counters. -/
theorem countBank_reg_low (s : State) {t bank p o : Nat} (hbank : bank < 64) (ho : o < 0x140) (hevent : o ≠ 0x10) :
    (s.countBank t bank).reg p o = s.reg p o := by
  have hne : radr p o ≠ radr (pgSmem t) (0x140 + 4 * (bank / 2)) := radr_ne (by omega) (by omega) (by omega)
  unfold State.countBank
  dsimp only
  split
  · rw [event_reg_ne _ _ (radr_ne hevent (by omega)), bump_reg_ne _ _ _ _ hne, setTile_reg]
  · rw [bump_reg_ne _ _ _ _ hne, setTile_reg]

theorem bankOfLine_lt {line : Nat} (h : line < 262144) : bankOfLine line < 64 := by
  unfold bankOfLine
  omega

section Stored

variable {t port line w : Nat} (s : State) (hw : w < 32)

include hw

theorem storedAt_reg (p o : Nat) : (s.storedAt t port line w).reg p o =
    (((s.bump (pgSmem t) 0x20 16 16 1).countBank t (bankOfLine line)).fail (pgSmem t) 1 (s.parityCause t port line)
      (tileBase t + 128 * line + 4 * w)).reg p o := by
  rw [State.storedAt, setTile_reg, countParity_stored s t port line hw]

/-- The cause registers name the port, the region and the word. -/
theorem storedAt_cause : (s.storedAt t port line w).reg (pgSmem t) 0x24 =
      BitVec.ofNat 32 (s.parityCause t port line) ∧
    (s.storedAt t port line w).reg (pgSmem t) 0x28 = BitVec.ofNat 32 (tileBase t + 128 * line + 4 * w) ∧
    bitAt ((s.storedAt t port line w).reg (pgSmem t) 0x10) 1 = true := by
  rw [storedAt_reg s hw, storedAt_reg s hw, storedAt_reg s hw]
  exact ⟨fail_reg_cause .., fail_reg_addr .., event_reg_bit _ _ _ (by decide)⟩

/-- A stored error counts one. -/
theorem storedAt_count (hline : line < 262144) : (s.storedAt t port line w).rfld (pgSmem t) 0x20 16 16 =
    satAdd 16 (s.rfld (pgSmem t) 0x20 16 16) 1 := by
  rw [State.rfld, storedAt_reg s hw, State.fail, event_reg_ne _ _ radr_ne, cause_reg_low _ _ _ _ (by decide),
    countBank_reg_low _ (bankOfLine_lt hline) (by decide) (by decide), State.bump, setRfld_reg_same, fld_putFld_same _ _ _ _ (by decide),
    Nat.mod_eq_of_lt (satAdd_lt ..)]

end Stored

theorem job_of_jobs {s t : State} (h : t.jobs = s.jobs) (j : Nat) : t.job j = s.job j := by rw [State.job, State.job, h]

/-- The region of a line depends on the descriptors of its tile. -/
theorem regionAt_congr {s t : State} {k : Nat} (line : Nat) (h : (t.tile k).regions = (s.tile k).regions) :
    t.regionAt k line = s.regionAt k line := by
  simp only [State.regionAt, State.region, h]

/-! The outcome of a stored error (Table 07-4, R149, R150). -/

/-- A port reads for the stripe of the engine. -/
def stripePort (port : Nat) : Bool := port == 0 || port == 1 || port == 3

theorem stripePort_iff {port : Nat} : stripePort port = true ↔ port = 0 ∨ port = 1 ∨ port = 3 := by
  simp [stripePort, or_assoc]

theorem parityReread_stored {t port line w : Nat} {behalf : Bool} (s : State) (h : (stripePort port || behalf) = true) :
    s.parityReread t port behalf line 0 [w] = (s.storedAt t port line w).storedInStripe t line (stripePort port) [w] := by
  have hport : (port == 0 || port == 1 || port == 3) = stripePort port := by rw [stripePort]
  unfold State.parityReread State.storedAt
  dsimp only
  rw [hport, if_neg (by rw [List.isEmpty_cons]; exact Bool.false_ne_true), if_pos h]

section Outcome

variable {s : State} {t line w : Nat} {port : Bool} {x : Exec} (hx : (s.eng t).exec = some x)

/-- The state with the cause of stored errors in the engine's page, when a port of the engine has read the words. -/
def State.portCause (s : State) (t line : Nat) (port : Bool) (words : List Nat) : State :=
  if port then s.cause (pgEng t) (1 + 65536 * (s.eng t).jobSlot) (words.foldl min (tileBase t + 128 * line + 124)) else s

theorem portCause_eq (s : State) (t line : Nat) (port : Bool) (words : List Nat) :
    (if port then s.cause (pgEng t) (1 + 65536 * (s.eng t).jobSlot) (words.foldl min (tileBase t + 128 * line + 124)) else s) =
      s.portCause t line port words := by rw [State.portCause]

theorem portCause_keeps {β : Type} {v : State → β} (hv : uncounted v) (s : State) (t line : Nat) (port : Bool) (words : List Nat) :
    v (s.portCause t line port words) = v s := by
  unfold State.portCause
  split
  · exact hv.cause ..
  · rfl

include hx

/-- The first stored error that a stripe meets stops it; outside PERSIST regions nothing is restored. -/
theorem storedInStripe_abandons (hreplay : x.work.replay = false) (hgoes : x.abandoned = false)
    (hplain : (s.regionAt t line).all (fun r => !r.2.persist) = true) : s.storedInStripe t line port [w] =
    (s.portCause t line port [tileBase t + 128 * line + 4 * w]).setEng t
      (((s.eng t).abandon 1 [tileBase t + 128 * line + 4 * w]).refetch line) := by
  have hregion : ∀ l g, ((s.portCause t line port l).setEng t g).regionAt t line = s.regionAt t line := fun l g =>
    regionAt_congr line (by rw [setEng_tile]; exact portCause_keeps (uncounted_regions t) ..)
  simp only [State.storedInStripe, hx, hreplay, Bool.false_and, Bool.false_eq_true, if_false, hgoes, List.map_cons, List.map_nil,
    portCause_eq, hregion]
  split
  · rename_i r d hr
    rw [hr] at hplain
    have hd : d.persist = false := by simpa using hplain
    rw [hd]
    exact if_neg Bool.false_ne_true
  · rfl

/-- A second stored error at a word, in the replay of a unit whose job is gone: the tile is faulted, and the fault manager fences (R150). -/
theorem storedInStripe_repeated (hreplay : x.work.replay = true) (htensor : x.work.tensor = true) (hjob : s.job x.work.job = none)
    (hword : (tileBase t + 128 * line + 4 * w) ∈ x.failWords) :
    ∃ u : State, u = (s.portCause t line port [tileBase t + 128 * line + 4 * w]).drawn ∧
    s.storedInStripe t line port [w] = (u.setTile t { u.tile t with faulted := true }).owe (.fence t true 4) := by
  have hagain : (x.work.replay && [tileBase t + 128 * line + 4 * w].any x.failWords.contains) = true := by
    simp [hreplay, hword]
  have hnone : ((s.portCause t line port [tileBase t + 128 * line + 4 * w]).drawn).job x.work.job = none := by
    rw [drawn_job, job_of_jobs (portCause_keeps uncounted_jobs ..), hjob]
  refine ⟨_, rfl, ?_⟩
  simp only [State.storedInStripe, hx, List.map_cons, List.map_nil, hagain, if_true, portCause_eq, State.repeatError, htensor, hnone]

end Outcome

/-! The patrol (R151). -/

section Patrol

variable {s : State} {t r n : Nat}

theorem patrol_off (words : List Nat) (h : bitAt (s.reg (pgSmem t) 8) 0 = false) : s.patrol t words = s := by
  unfold State.patrol
  dsimp only
  rw [h]
  rfl

/-- The state once the patrol has gone on behind line n. -/
def State.patrolled (s : State) (t n : Nat) : State :=
  (s.setTile t { s.tile t with patrolPos := n + 1 }).setRfld (pgSmem t) 0x10C 0 18 n

theorem patrolled_patrolLine (s : State) (t n k : Nat) : (s.patrolled t n).patrolLine t k = s.patrolLine t k := by
  have hregion : ∀ r, (s.patrolled t n).region t r = s.region t r := fun r => by
    rw [State.patrolled, State.region, setRfld_tile, setTile_tile, if_pos rfl]
    rfl
  simp only [State.patrolLine, State.persistRanges, hregion]

theorem settled_patrolled {s : State} (h : s.settled) (t n : Nat) : (s.patrolled t n).settled :=
  settled_setRfld (settled_setTile h t _ (by rfl)) ..

/-- A read that finds no error, on a line without a known one, only goes on; behind the last PERSIST line it begins again and counts a
pass. -/
theorem patrol_clean (hon : bitAt (s.reg (pgSmem t) 8) 0 = true) (hknown : ∀ w ∈ (s.tile t).storedErrs, (w - tileBase t) / 128 ≠ n)
    (hline : s.patrolLine t (s.tile t).patrolPos = some (r, n)) : s.patrol t [] =
    if (s.patrolLine t (n + 1)).isNone then
      ((s.patrolled t n).setTile t { (s.patrolled t n).tile t with patrolPos := 0 }).bump (pgSmem t) 0x10C 24 8 1
    else s.patrolled t n := by
  have hnone : ((s.tile t).storedErrs.filter fun w => (w - tileBase t) / 128 == n) = [] :=
    List.filter_eq_nil_iff.2 fun w hw => by simpa using hknown w hw
  unfold State.patrol
  dsimp only
  rw [hon, hline]
  dsimp only [Option.orElse_some]
  rw [hnone, show (s.setTile t { s.tile t with patrolPos := n + 1 }).setRfld (pgSmem t) 0x10C 0 18 n = s.patrolled t n from rfl,
    patrolled_patrolLine]
  rfl

end Patrol

/-- Settles O26: transient words by `parityReread_transient` and `parityReread_delay`, stored ones through `State.storedAt` and the
outcome for the stripe, the patrol by `patrol_clean`. -/
theorem parityAndPatrol : Obligations.ParityAndPatrol := by
  unfold Obligations.ParityAndPatrol
  refine ⟨?_, ?_, ?_, ?_, ?_, ?_, ?_⟩
  · exact fun s t p b l n hs hn h0 h1 h3 =>
      done_eq (parityReread_transient hn h0 h1 h3) (settled_event (settled_bump hs ..) ..)
  · exact fun s t p b l n hs hn hp =>
      done_eq (parityReread_delay hn hp) (settled_addSlip (settled_event (settled_bump hs ..) ..) ..)
  · intro s t p b l w x hp hx hreplay hgoes hplain
    let c := s.storedAt t p l w
    have hstripe : (stripePort p || b) = true := by
      rw [Bool.or_eq_true, stripePort_iff]
      simpa [or_assoc] using hp
    have heng : ∀ k, c.eng k = s.eng k := eng_of_engines (storedAt_keeps uncounted_engines s t p l w.isLt)
    have hregion : c.regionAt t l = s.regionAt t l := regionAt_congr l (storedAt_keeps (uncounted_regions t) s t p l w.isLt)
    have hu := (parityReread_stored (t := t) (line := l) (w := w) s hstripe).trans <|
      storedInStripe_abandons ((congrArg Engine.exec (heng t)).trans hx) hreplay hgoes ((congrArg (Option.all _) hregion).trans hplain)
    have hreg : ∀ o, o < 4096 → (s.parityReread t p b l 0 [w.val]).reg (pgSmem t) o = c.reg (pgSmem t) o := fun o ho => by
      rw [hu, setEng_reg']
      unfold State.portCause
      split
      · exact cause_reg_ne _ _ _ _ (pgSmem_ne_pgEng t t t.isLt) ho
      · rfl
    obtain ⟨hcause, haddr, hevent⟩ := storedAt_cause (t := t) (port := p) (line := l) s w.isLt
    refine ⟨s.parityReread t p b l 0 [w.val], rfl, (hreg _ (by decide)).trans hcause, (hreg _ (by decide)).trans haddr,
      ?_, ?_, ?_, ?_, ?_⟩
    · rw [State.rfld, hreg _ (by decide)]
      exact storedAt_count s w.isLt l.isLt
    · rw [hreg _ (by decide)]
      exact hevent
    · rw [hu, setEng_eng, if_pos rfl, heng]
      simp only [Engine.refetch, Engine.abandon, Engine.halt, hx, Option.map_some]
    · rw [hu, setEng_eng, if_pos rfl]
      rfl
    · refine sameMemory_of_mem ?_
      rw [hu, setEng_mem, portCause_keeps uncounted_mem]
      exact storedAt_keeps uncounted_mem s t p l w.isLt
  · intro s t p l w x hp hx hreplay htensor hjob hword
    let c := s.storedAt t p l w
    have heng : ∀ k, c.eng k = s.eng k := eng_of_engines (storedAt_keeps uncounted_engines s t p l w.isLt)
    have hnone : c.job x.work.job = none := (job_of_jobs (storedAt_keeps uncounted_jobs s t p l w.isLt) _).trans hjob
    have hstripe : (stripePort p || false) = true := by rw [Bool.or_false, stripePort_iff]; exact hp
    obtain ⟨u, hu, hgo⟩ := storedInStripe_repeated (port := stripePort p) ((congrArg Engine.exec (heng t)).trans hx) hreplay htensor
      hnone hword
    refine ⟨_, congrArg done ((parityReread_stored s hstripe).trans hgo), ?_, ?_⟩
    · change (((u.setTile t _).tile t).faulted) = true
      rw [setTile_tile, if_pos rfl]
    · have hdue : u.flt.due = s.flt.due := by
        rw [hu]
        exact (portCause_keeps uncounted_due ..).trans (storedAt_keeps uncounted_due s t p l w.isLt)
      rw [← hdue]
      rfl
  · exact fun s t l hs hoff => done_eq (patrol_off _ hoff) hs
  · intro s t r n hs hon hknown hline hnext
    refine done_eq ((patrol_clean hon hknown hline).trans (if_neg ?_)) (settled_patrolled hs t n)
    rwa [Option.isNone_iff_eq_none]
  · intro s t r n hs hon hknown hline hlast
    refine ⟨_, done_eq ((patrol_clean hon hknown hline).trans (if_pos (by rw [hlast]; rfl)))
      (settled_bump (settled_setTile (settled_patrolled hs t n) t _ (by rfl)) ..), ?_, ?_, ?_⟩
    · rw [bump_tile, setTile_tile, if_pos rfl]
    · rw [State.rfld, State.bump, setRfld_reg_same, fld_putFld_same _ _ _ _ (by decide), Nat.mod_eq_of_lt (satAdd_lt ..), State.rfld,
        setTile_reg, State.patrolled, setRfld_reg_same, fld_putFld_other _ _ _ _ _ _ (by decide) (.inr (by decide)), setTile_reg]
      rfl
    · exact sameMemory_of_mem (by rw [bump_mem, setTile_mem, State.patrolled, setRfld_mem, setTile_mem])

end Sys2Proof.Machine
end

section
/-! SUPPORT. Regions and allocations of a tile (R141, R142): which descriptors an allocation changes, and what waits. -/

namespace Sys2Proof.Machine

open Sys2Proof

/-! A tile and its descriptors written. -/

@[simp] theorem setTile_setTile (s : State) (t : Nat) (v w : Tile) : (s.setTile t v).setTile t w = s.setTile t w := by
  simp only [State.setTile, sset_sset]

@[simp] theorem setRegion_eng (s : State) (t r : Nat) (d : Region) (k : Nat) : (s.setRegion t r d).eng k = s.eng k := (rfl)
@[simp] theorem setRegion_mem (s : State) (t r : Nat) (d : Region) : (s.setRegion t r d).mem = s.mem := (rfl)

theorem setRegion_tile (s : State) (t r : Nat) (d : Region) : (s.setRegion t r d).tile t =
    { s.tile t with regions := sset (fun _ => Region.unused) (s.tile t).regions r d } := by
  rw [State.setRegion, setTile_tile, if_pos rfl]

theorem setRegion_region_ne (s : State) (t : Nat) {r k : Nat} (d : Region) (h : k ≠ r) :
    (s.setRegion t r d).region t k = s.region t k := by
  rw [State.region, setRegion_tile]
  exact sget_sset_other _ _ _ h

/-- A region is its tile's. -/
theorem region_congr {s u : State} {t : Nat} (r : Nat) (h : (u.tile t).regions = (s.tile t).regions) : u.region t r = s.region t r := by
  rw [State.region, State.region, h]

theorem settled_setRegion {s : State} (h : s.settled) (t r : Nat) (d : Region) : (s.setRegion t r d).settled :=
  settled_setTile h t _ (by rfl)

/-! Waiting allocations. -/

/-- The allocations that wait in a tile replaced. -/
def State.setWaiting (s : State) (t : Nat) (l : List (Nat × Nat)) : State := s.setTile t { s.tile t with waiting := l }

@[simp] theorem setWaiting_mem (s : State) (t : Nat) (l : List (Nat × Nat)) : (s.setWaiting t l).mem = s.mem := (rfl)

theorem setWaiting_tile (s : State) (t : Nat) (l : List (Nat × Nat)) : (s.setWaiting t l).tile t = { s.tile t with waiting := l } := by
  rw [State.setWaiting, setTile_tile, if_pos rfl]

@[simp] theorem setWaiting_region (s : State) (t : Nat) (l : List (Nat × Nat)) (r : Nat) :
    (s.setWaiting t l).region t r = s.region t r := region_congr r (by rw [setWaiting_tile])

@[simp] theorem setWaiting_setWaiting (s : State) (t : Nat) (l m : List (Nat × Nat)) :
    (s.setWaiting t l).setWaiting t m = s.setWaiting t m := by
  rw [State.setWaiting, setWaiting_tile, State.setWaiting, setTile_setTile, State.setWaiting]

theorem settled_setWaiting {s : State} (h : s.settled) (t : Nat) (l : List (Nat × Nat)) : (s.setWaiting t l).settled :=
  settled_setTile h t _ (by rfl)

section Serve

variable {s : State} {t r n : Nat}

/-- The only allocation that waits is made as soon as it fits. -/
theorem serveAllocs_fits {y : Region × Nat} (hfit : (s.region t r).alloc n = some y) :
    (s.setWaiting t [(r, n)]).serveAllocs t = (s.setWaiting t []).setRegion t r y.1 := by
  have hstart : (s.setWaiting t [(r, n)]).setTile t { (s.setWaiting t [(r, n)]).tile t with waiting := [] } = s.setWaiting t [] :=
    setWaiting_setWaiting ..
  have hfits : ((s.setWaiting t []).region t r).alloc n = some y := (congrArg (·.alloc n) (setWaiting_region ..)).trans hfit
  have hnone : (((s.setWaiting t []).tile t).waiting.any fun v => v.1 == r) = false := by rw [setWaiting_tile]; rfl
  unfold State.serveAllocs
  rw [hstart, setWaiting_tile]
  dsimp only [List.foldl_cons, List.foldl_nil]
  rw [hnone, if_neg Bool.false_ne_true, hfits]

/-- The only allocation that waits goes on waiting while it does not fit. -/
theorem serveAllocs_waits (hmode : (s.region t r).mode = 2) (hfull : (s.region t r).alloc n = none) :
    (s.setWaiting t [(r, n)]).serveAllocs t = s.setWaiting t [(r, n)] := by
  have hstart : (s.setWaiting t [(r, n)]).setTile t { (s.setWaiting t [(r, n)]).tile t with waiting := [] } = s.setWaiting t [] :=
    setWaiting_setWaiting ..
  have hnofit : ((s.setWaiting t []).region t r).alloc n = none := (congrArg (·.alloc n) (setWaiting_region ..)).trans hfull
  have hnone : (((s.setWaiting t []).tile t).waiting.any fun v => v.1 == r) = false := by rw [setWaiting_tile]; rfl
  have hback : (s.setWaiting t []).setTile t { (s.setWaiting t []).tile t with
      waiting := ((s.setWaiting t []).tile t).waiting ++ [(r, n)] } = s.setWaiting t [(r, n)] := by
    rw [setWaiting_tile]
    exact setTile_setTile ..
  unfold State.serveAllocs
  rw [hstart, setWaiting_tile]
  dsimp only [List.foldl_cons, List.foldl_nil]
  rw [hnone, if_neg Bool.false_ne_true, hnofit]
  dsimp only
  rw [if_pos ((congrArg Region.mode (setWaiting_region ..)).trans hmode), hback]

end Serve

/-! REGION_ALLOCATE. -/

/-- A CIRCULAR region after the consumer's release, when it makes one. -/
def Region.released (d : Region) (release : Bool) : Region := if release then d.free 0 else d

/-- The state after the release that comes before an allocation. -/
def State.released (s : State) (t r : Nat) (release : Bool) : State :=
  if release then s.setRegion t r ((s.region t r).free 0) else s

theorem released_region (s : State) (t r : Nat) (b : Bool) : (s.released t r b).region t r = (s.region t r).released b := by
  cases b with
  | false => rfl
  | true => exact setRegion_region ..

theorem released_region_ne (s : State) (t : Nat) {r k : Nat} (b : Bool) (h : k ≠ r) :
    (s.released t r b).region t k = s.region t k := by
  cases b with
  | false => rfl
  | true => exact setRegion_region_ne _ _ _ h

theorem released_waiting (s : State) (t r : Nat) (b : Bool) : ((s.released t r b).tile t).waiting = (s.tile t).waiting := by
  cases b with
  | false => rfl
  | true =>
    unfold State.released
    rw [if_pos rfl, setRegion_tile]

theorem released_mem (s : State) (t r : Nat) (b : Bool) : (s.released t r b).mem = s.mem := by cases b <;> rfl

theorem settled_released {s : State} (h : s.settled) (t r : Nat) (b : Bool) : (s.released t r b).settled := by
  cases b with
  | false => exact h
  | true => exact settled_setRegion h ..

/-- An allocation in a CIRCULAR region waits, and what waits is made as far as it fits (R142). -/
theorem allocRegion_circular {s : State} {t r n : Nat} (b : Bool) (hmode : (s.region t r).mode = 2) (hn : 0 < n)
    (hwait : (s.tile t).waiting = []) : s.allocRegion t r n b = ((s.released t r b).setWaiting t [(r, n)]).serveAllocs t := by
  have hone : ((s.released t r b).tile t).waiting ++ [(r, n)] = [(r, n)] := by rw [released_waiting, hwait, List.nil_append]
  have hgo : ¬ ((s.region t r).mode ≠ 2 ∨ n = 0) := by omega
  have hbound : ¬ (s.region t r).mode = 1 := by omega
  refine Eq.trans ?_ (congrArg (fun l => ((s.released t r b).setWaiting t l).serveAllocs t) hone)
  unfold State.allocRegion
  dsimp only
  rw [if_neg hgo]
  cases b with
  | false =>
    rw [Bool.not_false, if_pos rfl]
    rfl
  | true =>
    rw [Bool.not_true, if_neg Bool.false_ne_true, if_neg hbound]
    rfl

section Regions

variable {s : State} {t r n : Nat} (hs : s.settled) (hwait : (s.tile t).waiting = []) (hn : 0 < n)

include hs hwait hn

/-- An allocation that fits moves the head of its region, after the consumer's release (R141, R142). -/
theorem regionAllocate_fits {b : Bool} {x : Region × Nat} (hmode : (s.region t r).mode = 2)
    (hfit : ((s.region t r).released b).alloc n = some x) :
    ∃ u, done (s.allocRegion t r n b) = .next u ∧ u.region t r = x.1 ∧ (∀ k, k ≠ r → u.region t k = s.region t k) ∧
      (u.tile t).waiting = [] ∧ s.sameMemory u := by
  have hserve := serveAllocs_fits (s := s.released t r b) ((congrArg (·.alloc n) (released_region s t r b)).trans hfit)
  refine ⟨_, done_eq ((allocRegion_circular b hmode hn hwait).trans hserve)
    (settled_setRegion (settled_setWaiting (settled_released hs t r b) t []) t r x.1), setRegion_region .., fun k hk => ?_, ?_,
    sameMemory_of_mem ?_⟩
  · rw [setRegion_region_ne _ _ _ hk, setWaiting_region, released_region_ne s t b hk]
  · rw [setRegion_tile, setWaiting_tile]
  · rw [setRegion_mem, setWaiting_mem, released_mem]

/-- An allocation that does not fit waits (R142). -/
theorem regionAllocate_waits (hmode : (s.region t r).mode = 2) (hfull : (s.region t r).alloc n = none) :
    ∃ u, done (s.allocRegion t r n false) = .next u ∧ (∀ k, u.region t k = s.region t k) ∧ (u.tile t).waiting = [(r, n)] ∧
      s.sameMemory u := by
  refine ⟨_, done_eq ((allocRegion_circular false hmode hn hwait).trans (serveAllocs_waits (s := s) hmode hfull))
    (settled_setWaiting hs t [(r, n)]), setWaiting_region s t _, ?_, sameMemory_of_mem (setWaiting_mem ..)⟩
  rw [setWaiting_tile]

end Regions

end Sys2Proof.Machine
end

section
/-! SUPPORT. Credits of inbound regions (R143 to R146): what a grant gives the receiver and the sender, and what goes on with it. -/

namespace Sys2Proof.Machine

open Sys2Proof

/-- Only a CIRCULAR region allocates. -/
theorem mode_of_alloc {d : Region} {n : Nat} {x : Region × Nat} (h : d.alloc n = some x) : d.mode = 2 := by
  by_contra hm
  unfold Region.alloc at h
  dsimp only at h
  rw [if_pos (.inl hm)] at h
  exact absurd h nofun

/-- The INBOUND entry of a grant of `n` lines of region `r` from `base` on to engine `k`. -/
def Engine.inbound (g : Engine) (base n k r : Nat) : SbEntry := ⟨3, base, n, g.exec.map (·.work), n, false, k, r, none, [], [], []⟩

/-- A receiver after a grant: its INBOUND entry and the lines granted. -/
def Engine.granting (g : Engine) (base n k r : Nat) : Engine :=
  let h := g.setSb 14 (g.inbound base n k r)
  { h with granted := h.granted ++ [(r, n, h.exec.map (·.work))] }

/-- A sender with `n` more credits for region `r` of tile `e`. -/
def Engine.addCredits (g : Engine) (e r n : Nat) : Engine :=
  { g with credits := sset (fun _ => 0) g.credits (32 * e + r) (sget (fun _ => 0) g.credits (32 * e + r) + n) }

/-- The state after engine `e` granted engine `k` lines of its CIRCULAR region `r`, which the allocation `x` gave, before `k` goes on. -/
def State.credited (s : State) (e k r n : Nat) (x : Region × Nat) : State :=
  let u := (s.setRegion e r x.1).setEng e ((s.eng e).granting x.2 n k r)
  u.setEng k ((u.eng k).addCredits e r n)

theorem granting_inbound {g : Engine} (h : g.sb.length = 16) (base n k r : Nat) :
    (g.granting base n k r).sb.getD 14 SbEntry.free = g.inbound base n k r := by
  rw [List.getD_eq_getElem?_getD]
  have hset : (g.sb.set 14 (g.inbound base n k r))[14]? = some (g.inbound base n k r) := List.getElem?_set_self (by omega)
  exact congrArg (fun o => Option.getD o SbEntry.free) hset

/-- An engine whose commands have all been started only sends what its PUT can. -/
theorem pump_of_sent {s : State} {e : Nat} (h : (s.eng e).allStarted) : s.pump e = s.sendPut e := by
  have hu : ∀ u, (s.sendPut e).startNext e u = s.sendPut e := fun u => startNext_of_started (sendPut_allStarted h u)
  simp only [State.pump, List.foldl_cons, List.foldl_nil, hu]

section Granted

variable {s : State} {e k r n : Nat} {x : Region × Nat}

theorem credited_receiver (hne : e ≠ k) : (s.credited e k r n x).eng e = (s.eng e).granting x.2 n k r := by
  unfold State.credited
  dsimp only
  rw [setEng_eng, if_neg hne, setEng_eng, if_pos rfl]

theorem credited_sender (hne : e ≠ k) : (s.credited e k r n x).eng k = (s.eng k).addCredits e r n := by
  unfold State.credited
  dsimp only
  rw [setEng_eng, if_pos rfl, setEng_eng, if_neg hne.symm, setRegion_eng]

theorem credited_region : (s.credited e k r n x).region e r = x.1 := by
  unfold State.credited
  dsimp only
  rw [setEng_region, setEng_region, setRegion_region]

theorem credited_mem : (s.credited e k r n x).mem = s.mem := by
  unfold State.credited
  dsimp only
  rw [setEng_mem', setEng_mem', setRegion_mem]

theorem credited_incoming (t : Nat) : ((s.credited e k r n x).tile t).incoming = (s.tile t).incoming := by
  unfold State.credited
  dsimp only
  rw [setEng_tile, setEng_tile, State.setRegion, setTile_tile]
  split
  · next h => rw [h]
  · rfl

theorem settled_credited (hs : s.settled) : (s.credited e k r n x).settled := by
  have hrecv : ((s.eng e).granting x.2 n k r).fenced = ((s.setRegion e r x.1).eng e).fenced := by rw [setRegion_eng]; rfl
  unfold State.credited
  dsimp only
  exact settled_setEng (settled_setEng (settled_setRegion hs e r x.1) e _ hrecv) k _ (by rfl)

/-- A grant out of a CIRCULAR region to a sender that is not frozen: an entry is taken, the sender has its credits and goes on (R144). -/
theorem grantCredits_eq (hvoid : ∀ b ∈ (s.eng e).sb, b.isVoid = false) (hfroz : (s.eng k).frozen = false)
    (hfree : ((s.eng e).sb.getD 14 SbEntry.free).kind = 0) (hfit : (s.region e r).alloc n = some x) :
    s.grantCredits e k r n = (s.credited e k r n x).pump k := by
  have hnovoid : (s.eng e).sb.zipIdx.find? (fun b => b.1.kind == 3 && b.1.sender == k && b.1.region == r && b.1.isVoid) = none :=
    List.find?_eq_none.2 fun b hb => by rw [hvoid b.1 (List.fst_mem_of_mem_zipIdx hb), Bool.and_false]; exact Bool.false_ne_true
  have hentry : [14, 15].find? (fun i => ((s.eng e).sb.getD i SbEntry.free).kind == 0) = some 14 :=
    List.find?_cons_of_pos (by rw [hfree]; rfl)
  unfold State.grantCredits
  dsimp only
  rw [hnovoid]
  dsimp only
  rw [hentry]
  dsimp only
  rw [if_pos (mode_of_alloc hfit), hfit]
  dsimp only
  rw [hfroz, if_neg Bool.false_ne_true, if_neg Bool.false_ne_true]
  rfl

/-- A grant to a sender with empty queues (R144). -/
theorem creditGrant_idle (hs : s.settled) (hne : e ≠ k) (hvoid : ∀ b ∈ (s.eng e).sb, b.isVoid = false)
    (hfroz : (s.eng k).frozen = false) (hquiet : ∀ u, (s.eng k).queue u = [])
    (hfree : ((s.eng e).sb.getD 14 SbEntry.free).kind = 0) (hlen : (s.eng e).sb.length = 16) (hfit : (s.region e r).alloc n = some x) :
    ∃ t, done (s.grantCredits e k r n) = .next t ∧ t.region e r = x.1 ∧
      (t.eng e).sb.getD 14 SbEntry.free = (s.eng e).inbound x.2 n k r ∧
      sget (fun _ => 0) (t.eng k).credits (32 * e + r) = sget (fun _ => 0) (s.eng k).credits (32 * e + r) + n ∧ s.sameMemory t := by
  have hidle : (s.credited e k r n x).pump k = s.credited e k r n x := pump_of_empty fun u => by
    rw [credited_sender hne]
    exact (by cases u <;> rfl : ((s.eng k).addCredits e r n).queue u = (s.eng k).queue u).trans (hquiet u)
  refine ⟨_, done_eq ((grantCredits_eq hvoid hfroz hfree hfit).trans hidle) (settled_credited hs), credited_region, ?_, ?_,
    sameMemory_of_mem credited_mem⟩
  · rw [credited_receiver hne, granting_inbound hlen]
  · rw [credited_sender hne]
    exact sget_sset_same ..

/-- A grant to a sender whose PUT waits for credits: it sends as many lines as it was granted, as far as it has lines (R144). -/
theorem creditGrant_put {i w : Nat} {c : PutCmd} (hne : e ≠ k) (hvoid : ∀ b ∈ (s.eng e).sb, b.isVoid = false)
    (hfroz : (s.eng k).frozen = false) (hm : (s.eng k).matrixQ = []) (hv : (s.eng k).vectorQ = [])
    (hput : (s.eng k).moverQ = [⟨i, .put c, true, w⟩]) (htile : c.tile = e) (hreg : c.region.val = r)
    (hnone : sget (fun _ => 0) (s.eng k).credits (32 * e + r) = 0) (hw : 0 < w) (hn : 0 < n)
    (hfree : ((s.eng e).sb.getD 14 SbEntry.free).kind = 0) (hfit : (s.region e r).alloc n = some x) :
    ∃ u : State, done (s.grantCredits e k r n) = .next u.settle ∧ (u.eng k).moverQ = [⟨i, .put c, true, w - min w n⟩] ∧
      (u.tile e).incoming.length = (s.tile e).incoming.length + min w n ∧ s.sameMemory u := by
  let v := s.credited e k r n x
  have heng : v.eng k = (s.eng k).addCredits e r n := credited_sender hne
  have hq : (v.eng k).moverQ = [⟨i, .put c, true, w⟩] := (congrArg Engine.moverQ heng).trans hput
  have hhave : sget (fun _ => 0) (v.eng k).credits (32 * c.tile.val + c.region.val) = n := by
    rw [heng, htile, hreg]
    exact (sget_sset_same ..).trans (by rw [hnone, Nat.zero_add])
  have hsend : v.sendable k ⟨i, .put c, true, w⟩ c = min w n := by rw [State.sendable, hhave]
  have hstarted : (v.eng k).allStarted := fun u d hd => by
    rw [heng] at hd
    cases u with
    | matrix => exact absurd (hm ▸ hd : d ∈ []) nofun
    | vector => exact absurd (hv ▸ hd : d ∈ []) nofun
    | mover =>
      have hd : d ∈ [(⟨i, .put c, true, w⟩ : Issued)] := hput ▸ hd
      rw [List.mem_singleton.1 hd]
  obtain ⟨u, hmem, htiles, hengs, hgo⟩ := sendPut_of_some hq rfl rfl (by omega : 0 < v.sendable k ⟨i, .put c, true, w⟩ c)
  refine ⟨v.pump k, congrArg done (grantCredits_eq hvoid hfroz hfree hfit), ?_, ?_, sameMemory_of_mem ?_⟩
  all_goals rw [pump_of_sent hstarted, hgo]
  · rw [setTile_eng, hengs, if_pos rfl, hsend]
    rfl
  · rw [htile, setTile_tile, if_pos rfl, hsend]
    simp [State.putLines, v, credited_incoming]
  · rw [setTile_mem, hmem]
    exact credited_mem

end Granted

end Sys2Proof.Machine
end

section
/-! SUPPORT. Lines that arrive over the ring, their acknowledgements, and credits released (R144 to R146, R154); and O25. -/

namespace Sys2Proof.Machine

open Sys2Proof

/-- A saturating counter of a whole register counted up. -/
theorem bump_reg_word (s : State) (p o n : Nat) :
    (s.bump p o 0 32 n).reg p o = BitVec.ofNat 32 (satAdd 32 (s.reg p o).toNat n) := by
  have hfld : fld (s.reg p o) 0 32 = (s.reg p o).toNat := by rw [fld, pow_zero, Nat.div_one, Nat.mod_eq_of_lt (s.reg p o).isLt]
  rw [State.bump, setRfld_reg_same, State.rfld, putFld, hfld, pow_zero, Nat.mul_one, Nat.mul_one, Nat.sub_self, Nat.zero_add,
    Nat.mod_eq_of_lt (satAdd_lt ..)]

/-! A master or an engine frozen (R109, R342). -/

theorem freezeMaster_mem (s : State) (id a j : Nat) : (s.freezeMaster id a j).mem = s.mem := by
  unfold State.freezeMaster
  dsimp only
  split
  · rfl
  · rw [fault_mem, event_mem, log_mem, bump_mem, cause_mem]

theorem freezeEngine_mem (s : State) (e a : Nat) : (s.freezeEngine e a).mem = s.mem := by
  unfold State.freezeEngine State.freezeEngineFor
  dsimp only
  split
  · rfl
  · rw [owe_mem, freezeMaster_mem, fail_mem, returnCredits_keeps State.mem fun _ _ _ => rfl, setEng_mem]

theorem freezeEngine_frozen (s : State) (e a : Nat) : ((s.freezeEngine e a).eng e).frozen = true := by
  unfold State.freezeEngine State.freezeEngineFor
  dsimp only
  split
  · assumption
  · rw [owe_eng, leaves_keeps (freezeMaster_leaves ..) Engine.frozen fun _ _ => rfl, fail_eng, returnCredits_engines, setEng_eng,
      if_pos rfl]

/-! RING_LINE_ARRIVE. -/

section Arrive

variable {s : State} {t : Nat} {l : RingLine} {q : List RingLine}

/-- The state once the oldest line on its way to tile `t` is taken off the ring: `acks` are the acknowledgements due then, `sb` the
scoreboard after the line's credit returned. -/
def State.lineTaken (s : State) (t : Nat) (q : List RingLine) (acks : List (Nat × Nat × Nat)) (sb : List SbEntry) : State :=
  ((s.setTile t { s.tile t with incoming := q, acks := acks }).setEng t { s.eng t with sb := sb }).bump (pgSmem t) 0x110 0 32 1

theorem tileWrite_incoming (s : State) (t a : Nat) (b : List Byte) : ((s.tileWrite t a b).tile t).incoming = (s.tile t).incoming := by
  unfold State.tileWrite
  dsimp only
  rw [setTile_tile, if_pos rfl, setBytes_tile]

/-- Where a line is written. -/
def RingLine.addr (l : RingLine) (t : Nat) : Nat := tileBase t + 128 * (l.base + l.line)

theorem lineTaken_mem (acks : List (Nat × Nat × Nat)) (sb : List SbEntry) : (s.lineTaken t q acks sb).mem = s.mem := by
  rw [State.lineTaken, bump_mem, setEng_mem', setTile_mem]

theorem lineTaken_tile (acks : List (Nat × Nat × Nat)) (sb : List SbEntry) :
    (s.lineTaken t q acks sb).tile t = { s.tile t with incoming := q, acks := acks } := by
  rw [State.lineTaken, bump_tile, setEng_tile, setTile_tile, if_pos rfl]

theorem lineTaken_bgroup (acks : List (Nat × Nat × Nat)) (sb : List SbEntry) (g : Nat) :
    (s.lineTaken t q acks sb).bgroup t g = s.bgroup t g := by rw [State.bgroup, lineTaken_tile, State.bgroup]

theorem lineTaken_eng (acks : List (Nat × Nat × Nat)) (sb : List SbEntry) :
    (s.lineTaken t q acks sb).eng t = { s.eng t with sb := sb } := by
  rw [State.lineTaken, bump_eng, setEng_eng, if_pos rfl]

theorem lineTaken_reg (acks : List (Nat × Nat × Nat)) (sb : List SbEntry) :
    (s.lineTaken t q acks sb).reg (pgSmem t) 0x110 = BitVec.ofNat 32 (satAdd 32 (s.reg (pgSmem t) 0x110).toNat 1) := by
  rw [State.lineTaken, bump_reg_word, setEng_reg, setTile_reg]

/-- A line that arrives is taken off the ring; it is written where it was sent to, unless it lies outside its region or in a group that
is not ON, which freezes its sender (R144, R154). -/
theorem ringArrive_line (h : (s.tile t).incoming = l :: q) : ∃ acks sb, s.ringArrive t =
    if (s.region t l.region).mode ≠ 0 ∧ (s.region t l.region).base = l.base ∧ (s.region t l.region).size ≤ l.line then
      (((s.lineTaken t q acks sb).smemCause t 3 6 l.region l.sender (l.addr t)).event (pgSmem t) 8).freezeEngine l.sender (l.addr t)
    else if ((s.lineTaken t q acks sb).bgroup t ((l.addr t - tileBase t) / 0x400000)).state ≠ 0 then
      ((((s.lineTaken t q acks sb).smemCause t 5 6 l.region l.sender (l.addr t)).event (pgSmem t) 5).log 7 0x0D
        (logBody l.sender (l.addr t) 5)).freezeEngine l.sender (l.addr t)
    else ((s.lineTaken t q acks sb).tileWrite t (l.addr t) l.data).pump t := by
  unfold State.ringArrive
  dsimp only
  rw [h]
  dsimp only
  exact ⟨_, _, rfl⟩

/-- The bank group of a line. -/
theorem group_of_line (l : RingLine) (t : Nat) : (l.addr t - tileBase t) / 0x400000 = (l.base + l.line) / 32768 := by
  rw [RingLine.addr, Nat.add_sub_cancel_left]
  omega

variable (h : (s.tile t).incoming = l :: q)

include h

/-- A line inside its region, or whose region has gone, is written where it was sent to (R144). -/
theorem ringArrive_writes (hin : (s.region t l.region).mode = 0 ∨ (s.region t l.region).base ≠ l.base ∨
      l.line < (s.region t l.region).size) (hon : ∀ g, s.bgroup t g = ⟨0, none⟩) (hquiet : ∀ u, (s.eng t).queue u = []) :
    ∃ u : State, done (s.ringArrive t) = .next u.settle ∧ (u.tile t).incoming = q ∧
      s.stores u (tileBase t + 128 * (l.base + l.line)) l.data ∧
      u.reg (pgSmem t) 0x110 = BitVec.ofNat 32 (satAdd 32 (s.reg (pgSmem t) 0x110).toNat 1) := by
  obtain ⟨acks, sb, harrive⟩ := ringArrive_line h
  have hinside : ¬ ((s.region t l.region).mode ≠ 0 ∧ (s.region t l.region).base = l.base ∧
      (s.region t l.region).size ≤ l.line) := by omega
  have hstate : ¬ ((s.lineTaken t q acks sb).bgroup t ((l.addr t - tileBase t) / 0x400000)).state ≠ 0 := by
    rw [lineTaken_bgroup, hon]
    exact fun hne => hne rfl
  have hidle : ((s.lineTaken t q acks sb).tileWrite t (l.addr t) l.data).pump t =
      (s.lineTaken t q acks sb).tileWrite t (l.addr t) l.data := pump_of_empty fun u => by
    rw [tileWrite_eng, lineTaken_eng]
    exact (by cases u <;> rfl : ({ s.eng t with sb := sb } : Engine).queue u = (s.eng t).queue u).trans (hquiet u)
  rw [if_neg hinside, if_neg hstate, hidle] at harrive
  refine ⟨_, congrArg done harrive, ?_, stores_of_mem (tileWrite_stores ..) (lineTaken_mem acks sb) rfl, ?_⟩
  · rw [tileWrite_incoming, lineTaken_tile]
  · rw [tileWrite_reg, lineTaken_reg]

/-- A line outside its region, or to a group that is not ON, is not written and freezes its sender (R144, R154). -/
theorem ringArrive_freezes (hout : (s.region t l.region).mode ≠ 0 ∧ (s.region t l.region).base = l.base ∧
      (s.region t l.region).size ≤ l.line ∨ (s.bgroup t ((l.base + l.line) / 32768)).state ≠ 0) :
    ∃ u : State, done (s.ringArrive t) = .next u.settle ∧ (u.eng l.sender).frozen = true ∧ s.sameMemory u := by
  obtain ⟨acks, sb, harrive⟩ := ringArrive_line h
  rw [lineTaken_bgroup, group_of_line] at harrive
  by_cases hregion : (s.region t l.region).mode ≠ 0 ∧ (s.region t l.region).base = l.base ∧ (s.region t l.region).size ≤ l.line
  · rw [if_pos hregion] at harrive
    refine ⟨_, congrArg done harrive, freezeEngine_frozen .., sameMemory_of_mem ?_⟩
    rw [freezeEngine_mem, event_mem, State.smemCause, cause_mem, lineTaken_mem]
  · rw [if_neg hregion, if_pos (hout.resolve_left hregion)] at harrive
    refine ⟨_, congrArg done harrive, freezeEngine_frozen .., sameMemory_of_mem ?_⟩
    rw [freezeEngine_mem, log_mem, event_mem, State.smemCause, cause_mem, lineTaken_mem]

end Arrive

/-! CREDIT_ACK and CREDIT_RELEASE. -/

/-- The acknowledgements of one run taken, as many as there are. -/
theorem takeAcks_single (k run : Nat) {m d : Nat} (h : m ≤ d) :
    takeAcks k m [(k, run, d)] = (if d = m then [] else [(k, run, d - m)], [(run, m)]) := by
  simp only [takeAcks, ne_eq, not_true_eq_false, if_false, Nat.min_eq_left h]

/-- A sender whose run `run` was acknowledged `m` lines. -/
def Engine.acked (g : Engine) (run m : Nat) : Engine :=
  { g with exec := g.exec.map fun y => { y with unacked := y.unacked - (([(run, m)].filter fun q => q.1 == y.run).map (·.2)).sum } }

theorem acked_exec {g : Engine} {y : Exec} (h : g.exec = some y) (run m : Nat) :
    (g.acked run m).exec = some { y with unacked := y.unacked - (if y.run = run then m else 0) } := by
  have hsum : (([(run, m)].filter fun q => q.1 == y.run).map (·.2)).sum = if y.run = run then m else 0 := by
    by_cases hrun : y.run = run
    · subst hrun
      simp
    · simp [hrun, Ne.symm hrun]
  rw [Engine.acked, h, Option.map_some, hsum]

/-- The acknowledgement of the only run that waits for one reaches its sender (R144, R145). -/
theorem ackCredits_eq {s : State} {t k n run d : Nat} (hacks : (s.tile t).acks = [(k, run, d)]) :
    s.ackCredits t k n = (((s.setTile t { s.tile t with
      acks := if d = min (min n 8) d then [] else [(k, run, d - min (min n 8) d)] }).setEng k
        ((s.eng k).acked run (min (min n 8) d))).pump k) := by
  have hdue : (([(k, run, d)].filter fun q => q.1 == k).map (·.2.2)).sum = d := by simp
  unfold State.ackCredits
  dsimp only
  rw [hacks, hdue, takeAcks_single k run (Nat.min_le_right _ d)]
  rfl

theorem creditAck_one {s : State} {t k n run d : Nat} {y : Exec} (hs : s.settled) (hacks : (s.tile t).acks = [(k, run, d)])
    (hquiet : ∀ u, (s.eng k).queue u = []) (hexec : (s.eng k).exec = some y) :
    ∃ w, done (s.ackCredits t k n) = .next w ∧
      (w.tile t).acks = (if d = min (min n 8) d then [] else [(k, run, d - min (min n 8) d)]) ∧
      (w.eng k).exec = some { y with unacked := y.unacked - (if y.run = run then min (min n 8) d else 0) } ∧ s.sameMemory w := by
  have hack := ackCredits_eq (n := n) hacks
  rw [pump_of_empty fun u => by
    rw [setEng_eng, if_pos rfl]
    exact (by cases u <;> rfl : ((s.eng k).acked run (min (min n 8) d)).queue u = (s.eng k).queue u).trans (hquiet u)] at hack
  refine ⟨_, done_eq hack (settled_setEng (settled_setTile hs t _ (by rfl)) k _ (by rfl)), ?_, ?_, sameMemory_of_mem ?_⟩
  · rw [setEng_tile, setTile_tile, if_pos rfl]
  · rw [setEng_eng, if_pos rfl, acked_exec hexec]
  · rw [setEng_mem', setTile_mem]

/-- A receiver whose INBOUND entries of engine `e` for region `r` are void, `n` credits of them unspent. -/
def Engine.voidInbound (g : Engine) (e r n : Nat) : Engine :=
  { g with sb := g.sb.map fun b =>
      if b.kind == 3 && b.sender == e && b.region == r then { b with isVoid := true, out := b.out - n } else b }

theorem isVoid_of_mem_voidInbound {g : Engine} {e r n : Nat} {b : SbEntry} (h : b ∈ (g.voidInbound e r n).sb) (hkind : b.kind = 3)
    (hsender : b.sender = e) (hregion : b.region = r) : b.isVoid = true := by
  obtain ⟨c, -, rfl⟩ := List.mem_map.1 h
  by_cases hc : (c.kind == 3 && c.sender == e && c.region == r) = true
  · rw [if_pos hc]
  · rw [if_neg hc] at hkind hsender hregion
    exact absurd (by rw [hkind, hsender, hregion, beq_self_eq_true, beq_self_eq_true, beq_self_eq_true]; rfl) hc

/-- A sender without credits for region `r` of tile `t`. -/
def Engine.noCredits (g : Engine) (t r : Nat) : Engine := { g with credits := sset (fun _ => 0) g.credits (32 * t + r) 0 }

theorem noCredits_credits (g : Engine) (t r : Nat) : sget (fun _ => 0) (g.noCredits t r).credits (32 * t + r) = 0 :=
  sget_sset_same (fun _ => 0) g.credits (32 * t + r) 0

/-- An engine that executes nothing returns its credits, and the entries they were granted with are void (R146). -/
theorem releaseCredits_idle {s : State} {e t r : Nat} (h : (s.eng e).running = none) : s.releaseCredits e t r =
    (s.setEng e ((s.eng e).noCredits t r)).setEng t (((s.setEng e ((s.eng e).noCredits t r)).eng t).voidInbound e r
      (sget (fun _ => 0) (s.eng e).credits (32 * t + r))) := by
  unfold State.releaseCredits
  dsimp only
  rw [h, Option.isNone_none, if_pos rfl]
  rfl

theorem creditRelease_idle {s : State} {e t r : Nat} (hs : s.settled) (h : (s.eng e).running = none) :
    ∃ w, done (s.releaseCredits e t r) = .next w ∧ sget (fun _ => 0) (w.eng e).credits (32 * t + r) = 0 ∧
      (∀ b ∈ (w.eng t).sb, b.kind = 3 → b.sender = e → b.region = r → b.isVoid = true) ∧ s.sameMemory w := by
  refine ⟨_, done_eq (releaseCredits_idle h) (settled_setEng (settled_setEng hs e _ (by rfl)) t _ (by rfl)), ?_, fun b hb => ?_,
    sameMemory_of_mem ?_⟩
  · have hgone : sget (fun _ => 0) ((s.setEng e ((s.eng e).noCredits t r)).eng e).credits (32 * t + r) = 0 := by
      rw [setEng_eng, if_pos rfl]
      exact noCredits_credits ..
    rw [setEng_eng]
    split
    · next heq => exact heq ▸ hgone
    · exact hgone
  · rw [setEng_eng, if_pos rfl] at hb
    exact isVoid_of_mem_voidInbound hb
  · rw [setEng_mem', setEng_mem']

/-- No queue of an engine holds a command. -/
theorem queues_empty {g : Engine} (h : g.matrixQ = [] ∧ g.vectorQ = [] ∧ g.moverQ = []) (u : EngUnit) : g.queue u = [] := by
  obtain ⟨hm, hv, hmov⟩ := h
  cases u with
  | matrix => exact hm
  | vector => exact hv
  | mover => exact hmov

/-- Settles O25, by what each of the five commands does to a tile's regions, a scoreboard and the credits. -/
theorem regionsAndCredits : Obligations.RegionsAndCredits := by
  unfold Obligations.RegionsAndCredits
  intro quiet
  refine ⟨?_, ?_, ?_, ?_, ?_, ?_, ?_, ?_⟩
  · intro s t r n b x hs hwait hn hmode hfit
    exact regionAllocate_fits hs hwait hn hmode hfit
  · intro s t r n hs hwait hn hmode hfull
    exact regionAllocate_waits hs hwait hn hmode hfull
  · intro s e k r n x hs hne hvoid hfroz hquiet hfree hlen hfit
    exact creditGrant_idle hs (Fin.val_ne_of_ne hne) hvoid hfroz (queues_empty hquiet) hfree hlen hfit
  · intro s e k r n x i w c hne hvoid hfroz hm hv hput htile hreg hnone hw hn _ hfree _ hfit
    exact creditGrant_put (Fin.val_ne_of_ne hne) hvoid hfroz hm hv hput (congrArg Fin.val htile) hreg hnone hw hn hfree hfit
  · intro s t l q h _ hin _ hon hquiet
    exact ringArrive_writes h hin hon (queues_empty hquiet)
  · intro s t l q h _ _ hout
    exact ringArrive_freezes h hout
  · intro s t k n run d y hs hacks hquiet hexec
    exact creditAck_one hs hacks (queues_empty hquiet) hexec
  · intro s e t r hs h
    exact creditRelease_idle hs h

end Sys2Proof.Machine
end

section
/-! SUPPORT. START commands at the loader (R211, R216, R217, R375) and what a command's result leaves (R323); and O30. -/

namespace Sys2Proof.Machine

open Sys2Proof

/-! Results of commands. -/

/-- A job event without a queue is lost while NET.EVT_SESSION names no session. -/
theorem jobEvent_of_no_session {s : State} {q : Nat} (hq : 16384 ≤ q) (h : bitAt (s.reg pgNet 0x100) 31 = false) (code arg0 arg1 : Nat) :
    s.jobEvent q code arg0 arg1 = s := by
  rw [State.jobEvent, if_pos hq, h]
  rfl

/-- A command that no longer waits completes without an event when nothing is to be told: only its result is kept. -/
theorem complete_of_no_session {s : State} {tag q : Nat} (hq : (s.queue q).ctx.en = false) (h : bitAt (s.reg pgNet 0x100) 31 = false)
    (hgone : s.sup.cmds.all (fun x => x.1 != tag) = true) (c j : Nat) (v : Verdict) :
    let r := leBytes 2 v.code ++ leBytes 2 v.section_ ++ leBytes 4 v.index ++ leBytes 4 v.need ++ leBytes 4 v.have_ ++ leBytes 4 tag
    s.complete c j tag v q = { s with sup := { s.sup with result := r } } := by
  have hother : ∀ x ∈ s.sup.cmds, (x.1 != tag) = true := List.all_eq_true.1 hgone
  have hcmds : (s.sup.cmds.takeWhile fun x => x.1 != tag) ++ (s.sup.cmds.dropWhile fun x => x.1 != tag).drop 1 = s.sup.cmds := by
    rw [List.takeWhile_eq_self_iff.2 hother, List.dropWhile_eq_nil_iff.2 hother, List.drop_nil, List.append_nil]
  have hsilent : 16384 ≤ if (s.queue q).ctx.en = true then q else 0xFFFF := by simp [hq]
  intro r
  unfold State.complete
  rw [hcmds]
  exact jobEvent_of_no_session (s := { s with sup := { s.sup with result := r } }) hsilent h ..

/-! The ways of a START command. -/

/-- A command that moves the loader as its MODE asks: a start for any MODE but RE-ARM, a re-arm for that one. -/
theorem exec_start {s t : State} {c : StartCmd} {b : Binding} (h : s.startJob (b.mode == 1) c = t) :
    (b.mode ≠ 1 → exec (.jobStart c) s = done t) ∧ (b.mode = 1 → exec (.jobRearm c) s = done t) := by
  subst h
  constructor
  · intro hmode
    rw [beq_eq_false_iff_ne.2 hmode]
    rfl
  · intro hmode
    rw [beq_iff_eq.2 hmode]
    rfl

theorem startJob_of_no_block {s : State} {c : StartCmd} (h : s.startBlock c.tag.toNat = none) (rearm : Bool) : s.startJob rearm c = s := by
  simp only [State.startJob, h]

section Start

variable {s : State} {c : StartCmd} {b : Binding}

theorem startJob_of_not_taken (h : s.loaderFree = false ∨ s.bistRuns = true) (rearm : Bool) : s.startJob rearm c = s := by
  have hwaits : (!s.loaderFree || s.bistRuns) = true := by rcases h with h | h <;> simp [h]
  unfold State.startJob
  split
  · rfl
  · rw [hwaits, Bool.true_or, if_pos rfl]

variable (hblock : s.startBlock c.tag.toNat = some b)

include hblock

/-- A command takes effect only with the MODE that its binding holds (R216). -/
theorem startJob_of_other_mode {rearm : Bool} (h : (b.mode == 1) ≠ rearm) : s.startJob rearm c = s := by
  have hother : ((b.mode == 1) != rearm) = true := bne_iff_ne.2 h
  simp only [State.startJob, hblock, hother, Bool.or_true, if_true]

variable (hfree : s.loaderFree = true) (hbist : s.bistRuns = false)

include hfree hbist

/-- A command that meets a job restart is kept for its BUSY answer (R217). -/
theorem startJob_of_restart (hrestart : s.restarts = true) :
    s.startJob (b.mode == 1) c = { s with sup := { s.sup with busy := s.sup.busy ++ [(1, b.job, c.tag.toNat)] } } := by
  simp only [State.startJob, hblock, hfree, hbist, hrestart, bne_self_eq_false, Bool.not_true, Bool.or_false, Bool.false_eq_true, if_false,
    if_true]

variable (hrestart : s.restarts = false)

include hrestart

/-- A device outside ACTIVE moves there first (R375). -/
theorem startJob_outside_active (hout : s.pwr.state ≠ .active ∨ s.pwr.trans.isSome = true) :
    s.startJob (b.mode == 1) c = s.toActive := by
  simp only [State.startJob, hblock, hfree, hbist, hrestart, bne_self_eq_false, Bool.not_true, Bool.or_false, Bool.false_eq_true, if_false,
    if_pos hout]

variable (hactive : s.pwr.state = .active) (hstill : s.pwr.trans = none)

include hactive hstill

/-- The first check that fails answers the command (R211). -/
theorem startJob_refused {v : Verdict} (h : s.loadFault b c = some v) :
    s.startJob (b.mode == 1) c = s.complete 1 b.job c.tag.toNat v b.eventQ := by
  simp only [State.startJob, hblock, hfree, hbist, hrestart, hactive, hstill, h, bne_self_eq_false, Bool.not_true, Bool.or_false,
    Bool.false_eq_true, if_false, ne_eq, not_true_eq_false, Option.isSome_none, or_false]

/-- A command that passes every check is under way (R211, R212). -/
theorem startJob_under_way (h : s.loadFault b c = none) :
    let m := s.imageFor b c
    s.startJob (b.mode == 1) c = { s with load := some ⟨c.tag.toNat, b, m, s.placesOf m (s.residentImage m).isSome⟩ } := by
  simp only [State.startJob, hblock, hfree, hbist, hrestart, hactive, hstill, h, bne_self_eq_false, Bool.not_true, Bool.or_false,
    Bool.false_eq_true, if_false, ne_eq, not_true_eq_false, Option.isSome_none, or_false]

end Start

/-- What the supervisor keeps and what the loader has under way decide nothing at the end of a command. -/
theorem settled_withLoad {s : State} (h : s.settled) (p : Sup) (l : Option Load) : ({ s with sup := p, load := l } : State).settled := h

/-- Settles O30: the ways of a START command, by the `startJob` lemmas; `exec_start` joins start and re-arm. -/
theorem startCommands : Obligations.StartCommands := by
  unfold Obligations.StartCommands
  refine ⟨?_, ?_, ?_, ?_, ?_, ?_, ?_⟩
  · intro s c hs h
    have hstays : ∀ rearm, s.startJob rearm c = s := h.elim startJob_of_no_block startJob_of_not_taken
    exact ⟨done_eq (hstays false) hs, done_eq (hstays true) hs⟩
  · intro s c b hs hblock
    exact ⟨fun hmode => done_eq (startJob_of_other_mode hblock (by simp [hmode])) hs,
      fun hmode => done_eq (startJob_of_other_mode hblock (by simp [hmode])) hs⟩
  · intro s c b hs hblock hfree hbist hrestart t
    have ht : done t = .next t := done_of_settled (settled_withLoad hs t.sup t.load)
    exact ht ▸ exec_start (startJob_of_restart hblock hfree hbist hrestart)
  · intro s c b hblock hfree hbist hrestart hout
    exact exec_start (startJob_outside_active hblock hfree hbist hrestart hout)
  · intro s c b v hblock hfree hbist hrestart hactive hstill hfault
    exact exec_start (startJob_refused hblock hfree hbist hrestart hactive hstill hfault)
  · intro s c b hs hblock hfree hbist hrestart hactive hstill hpass m t
    have ht : done t = .next t := done_of_settled (settled_withLoad hs t.sup t.load)
    exact ht ▸ exec_start (startJob_under_way hblock hfree hbist hrestart hactive hstill hpass)
  · intro s c j tag q v hq hsession hgone
    exact complete_of_no_session hq hsession hgone c j v

end Sys2Proof.Machine
end

section
/-! SUPPORT. STOP commands, streams let go and group commands (R215, R217, R323, R324); and O32. -/

namespace Sys2Proof.Machine

open Sys2Proof

/-! Commands and their blocks. -/

section NoBlock

variable {s : State} {tag : Nat} (h : s.nextBlock tag = none)

include h

theorem stopBlock_of_no_block (j how : Nat) : s.stopBlock tag j how = false := by rw [State.stopBlock, h]; rfl

theorem defineBlock_of_no_block (g : Nat) (d : GroupDef) : s.defineBlock tag g d = false := by rw [State.defineBlock, h]; rfl

theorem clearBlock_of_no_block (g : Nat) : s.clearBlock tag g = false := by rw [State.clearBlock, h]; rfl

end NoBlock

/-- A command whose block does not say it has no effect. -/
theorem done_when_false {s : State} {c : Bool} (hs : s.settled) (hc : c = false) (f : State → State) : done (s.when c f) = .next s :=
  done_eq (if_neg (by rw [hc]; decide)) hs

/-- A command whose block says it does what it does. -/
theorem done_when_true {s t : State} {c : Bool} {f : State → State} (hc : c = true) (h : f s = t) :
    done (s.when c f) = .next t.settle := by
  rw [State.when, if_pos hc, h, done]

/-! STOP commands. -/

section Stop

variable {s : State} (hfree : s.loaderFree = true) (hrestart : s.restarts = false)

include hfree hrestart

/-- A STOP command that the loader takes acts when the slot allows it, and is answered BINDING when not (R215, R323). -/
theorem stopCmd_eq (j tag : Nat) (ok : Bool) (evQ : Nat) (act : State → State) : s.stopCmd j tag ok evQ act =
    if ok then (act s).complete 2 j tag (.bare 0 0) evQ else s.complete 2 j tag (.bare 0x16 0) evQ := by
  simp only [State.stopCmd, hfree, hrestart, Bool.not_true, Bool.false_eq_true, if_false]

theorem hostStop_of_none {j : Nat} (hjob : s.job j = none) (tag : Nat) (hold : Bool) :
    s.hostStop j tag hold = s.complete 2 j tag (.bare 0x16 0) 0xFFFF := by
  rw [State.hostStop, stopCmd_eq hfree hrestart, hjob]
  rfl

theorem hostStop_of_job {j : Nat} {x : Job} (hjob : s.job j = some x) (tag : Nat) (hold : Bool) :
    s.hostStop j tag hold = (s.stopJob j 0 hold).complete 2 j tag (.bare 0 0) x.bind.eventQ := by
  rw [State.hostStop, stopCmd_eq hfree hrestart, hjob]
  rfl

/-- A release is refused when the slot does not hold every stream of the mask (R215). -/
theorem hostRelease_refused {j mask : Nat} (h : ((bitsOf 64 mask).all fun i => (s.strm i).held && (s.strm i).job == some j) = false)
    (tag : Nat) : s.hostRelease j mask tag = s.complete 2 j tag (.bare 0x16 0) 0xFFFF := by
  rw [State.hostRelease, stopCmd_eq hfree hrestart, h]
  rfl

theorem hostRelease_of_held {j mask : Nat} (h : ∀ i ∈ bitsOf 64 mask, (s.strm i).held = true ∧ (s.strm i).job = some j) (tag : Nat) :
    s.hostRelease j mask tag =
      (forEach (bitsOf 64 mask) (fun i s => s.releaseHeld i) s).complete 2 j tag (.bare 0 0) 0xFFFF := by
  have hall : ((bitsOf 64 mask).all fun i => (s.strm i).held && (s.strm i).job == some j) = true :=
    List.all_eq_true.2 fun i hi => by
      obtain ⟨hheld, hjob⟩ := h i hi
      rw [hheld, hjob, beq_self_eq_true, Bool.and_self]
  rw [State.hostRelease, stopCmd_eq hfree hrestart, hall]
  rfl

end Stop

/-! Streams let go. -/

/-- A stream held in its slot (R215). -/
theorem letGo_held_strm (s : State) (j : Nat) (e : BindEntry) : (s.letGo j e true).strm e.stream = { s.strm e.stream with
    held := true, job := some j, frames := [], stalled := false, shedTest := false, shedHeat := false } :=
  (setStrm_strm ..).trans (if_pos rfl)

/-- A stream released, back to its state at reset. -/
theorem letGo_released_strm (s : State) (j : Nat) (e : BindEntry) : (s.letGo j e false).strm e.stream = Strm.init :=
  (setOwners_keeps (·.strm e.stream) (fun _ _ _ => rfl) ..).trans ((setStrm_strm ..).trans (if_pos rfl))

/-- The queues of a stream that is released have no owner. -/
theorem letGo_released_owner (s : State) (j : Nat) {e : BindEntry} {q : Nat} (hq : q ∈ e.queues) :
    ((s.letGo j e false).queue q).ctx.owner = 0xFF := setOwners_owner hq _ _

/-! Group commands. -/

section Groups

variable {s : State} (hfree : s.loaderFree = true) (hrestart : s.restarts = false)

include hfree hrestart

/-- A definition that a rule refuses (R324). -/
theorem groupDefine_refused {g : Nat} {d : GroupDef} (h : s.groupRefusedDef g d = true) (tag : Nat) :
    s.groupDefine g d tag = s.complete 3 0 tag (.bare 0x1F 0) 0xFFFF := by
  simp only [State.groupDefine, hfree, hrestart, h, Bool.not_true, Bool.false_eq_true, if_false, if_true]

/-- A group defined: its members stand, and an exchange starts with each other one (R324). -/
theorem groupDefine_defines {g : Nat} {d : GroupDef} (h : s.groupRefusedDef g d = false) (tag : Nat) :
    s.groupDefine g d tag = (forEach (d.members.zipIdx.filter fun m => m.2 != d.self) (fun m s => s.startPeer g m.1 m.2)
      ((s.closeGroup g).setGroup g (some ⟨d.members, d.self, [], [], [], false⟩))).complete 3 0 tag (.bare 0 0) 0xFFFF := by
  simp only [State.groupDefine, hfree, hrestart, h, Bool.not_true, Bool.false_eq_true, if_false]

/-- A group that a job uses is not cleared (R324). -/
theorem groupClear_of_used {g j : Nat} {x : Job} (hj : j < 8) (hjob : s.job j = some x) (hgroup : x.bind.groupId = g) (hg : g ≠ 0)
    (tag : Nat) : s.groupClear g tag = s.complete 4 0 tag (.bare 0x1F 0) 0xFFFF := by
  rw [State.groupClear, if_neg (by rw [hfree]; decide), if_neg (by rw [hrestart]; decide)]
  refine if_pos (List.any_eq_true.2 ⟨j, List.mem_range.2 hj, ?_⟩)
  simp [hjob, hgroup, hg]

theorem groupClear_of_unused {g : Nat} (h : ∀ j x, s.job j = some x → x.bind.groupId ≠ g) (tag : Nat) :
    s.groupClear g tag = ((s.closeGroup g).setGroup g none).complete 4 0 tag (.bare 0 0) 0xFFFF := by
  rw [State.groupClear, if_neg (by rw [hfree]; decide), if_neg (by rw [hrestart]; decide)]
  refine if_neg fun hused => ?_
  obtain ⟨j, -, hj⟩ := List.any_eq_true.1 hused
  cases hjob : s.job j with
  | none => simp [hjob] at hj
  | some x => simp [hjob, h j x hjob] at hj

end Groups

/-- Settles O32: each command by its block (`done_when_true`) and the lemma of its outcome. -/
theorem stopsAndGroups : Obligations.StopsAndGroups := by
  unfold Obligations.StopsAndGroups
  refine ⟨?_, ?_, ?_, ?_, ?_, ?_, ?_, ?_, ?_, ?_, ?_⟩
  · intro s j g m d w hs h
    exact ⟨done_when_false hs (stopBlock_of_no_block h j 0) _, done_when_false hs (stopBlock_of_no_block h j 1) _,
      done_when_false hs (by rw [stopBlock_of_no_block h, Bool.false_and]) _, done_when_false hs (defineBlock_of_no_block h g d) _,
      done_when_false hs (clearBlock_of_no_block h g) _⟩
  · intro s j w hfree hrestart hjob
    exact ⟨fun hblock => done_when_true hblock (hostStop_of_none hfree hrestart hjob ..),
      fun hblock => done_when_true hblock (hostStop_of_none hfree hrestart hjob ..)⟩
  · intro s j w x hfree hrestart hjob
    exact ⟨fun hblock => done_when_true hblock (hostStop_of_job hfree hrestart hjob ..),
      fun hblock => done_when_true hblock (hostStop_of_job hfree hrestart hjob ..)⟩
  · exact letGo_held_strm
  · intro s j e _
    exact ⟨letGo_released_strm s j e, fun q hq => letGo_released_owner s j hq⟩
  · intro s j m w hblock hmask hfree hrestart h
    exact done_when_true (by rw [hblock, hmask, beq_self_eq_true, Bool.and_self]) (hostRelease_refused hfree hrestart h _)
  · intro s j m w hblock hmask hfree hrestart h
    exact done_when_true (by rw [hblock, hmask, beq_self_eq_true, Bool.and_self]) (hostRelease_of_held hfree hrestart h _)
  · intro s g d w hblock hfree hrestart h
    exact done_when_true hblock (groupDefine_refused hfree hrestart h _)
  · intro s g d w hblock hfree hrestart h
    have hgroup : ((s.closeGroup g).setGroup g (some ⟨d.members, d.self, [], [], [], false⟩)).group g =
        some ⟨d.members, d.self, [], [], [], false⟩ := (setGroup_group ..).trans (if_pos rfl)
    exact ⟨_, hgroup, by rw [hgroup], done_when_true hblock (groupDefine_defines hfree hrestart h _)⟩
  · intro s g w j x hblock hfree hrestart hj hjob hgroup hg
    exact done_when_true hblock (groupClear_of_used hfree hrestart hj hjob hgroup hg _)
  · intro s g w hblock hfree hrestart h
    exact done_when_true hblock (groupClear_of_unused hfree hrestart h _)

end Sys2Proof.Machine
end

section
/-! SUPPORT. The start of a tensor step (R213, R214); and O33. -/

namespace Sys2Proof.Machine

open Sys2Proof

/-- A job without a step due, or in a state in which none starts, starts none (R213, R219). -/
theorem stepStart_waits {s : State} {j : Nat} (h : (s.job j).all (fun x => x.due.isEmpty || x.kind != 1 || x.phase != .running ||
    x.open_.isSome || s.pwr.state != .active || s.stepWaits j) = true) : s.stepStart j = s := by
  unfold State.stepStart
  split
  next x m hjob himage =>
    split
    · rfl
    next d l hdue =>
      refine if_pos ?_
      simpa [hjob, hdue, or_assoc] using h
  · rfl

/-- A step of a shape with a dimension zero produces nothing (R214). -/
theorem nothing_of_zero_mem {shape : List Nat} (m : Image) (h : 0 ∈ shape) : m.nothing shape = true := by
  have hzero : shape.any (· == 0) = true := List.any_eq_true.2 ⟨0, h, rfl⟩
  rw [Image.nothing, hzero, Bool.true_or]

/-- A step's shape exceeds a bound of the image's input (R213). -/
def Image.overBound (m : Image) (shape : List Nat) : Bool := (shape.zip m.shapes).any fun z => decide (z.2 < z.1)

/-- Step d is the next of job j, and it may start: the rest of those due is l. -/
structure State.stepDue (s : State) (j : Nat) (x : Job) (m : Image) (d : StepDue) (l : List StepDue) : Prop where
  job : s.job j = some x
  image : s.jobImage j = some m
  due : x.due = d :: l
  tensor : x.kind = 1
  running : x.phase = .running
  closed : x.open_ = none
  active : s.pwr.state = .active
  goes : s.stepWaits j = false

/-- A job with its next step open. -/
def Job.opened (x : Job) (d : StepDue) (l : List StepDue) : Job := { x with due := l, open_ := some d }

/-- A job with its open step placed: its buffers and its deadline. -/
def Job.placed (x : Job) (d : StepDue) (l : List StepDue) (n : Nat) (b : List (Nat × Nat)) (deadline : Nat) : Job :=
  { x.opened d l with stepUnits := List.replicate n .placed, stepBufs := b, stepDeadline := deadline, stepVariant := x.variant }

section Open

variable {s : State} {j : Nat} {x : Job} {m : Image} {d : StepDue} {l : List StepDue} (h : s.stepDue j x m d l)

include h

/-- The step opens, and is voided, refused, dropped by a shed job, closed for want of room, or placed (R213, R214). -/
theorem stepStart_eq : s.stepStart j =
    let p := s.setJob j (some (x.opened d l))
    if d.void ≠ 0 then p.voidOpen j (x.opened d l) d.void
    else if m.overBound d.shape then p.shapeOver j { x with due := l } d
    else if m.nothing d.shape then p.voidOpen j (x.opened d l) 0
    else if x.shed then p.dropStepCode j { x.opened d l with stepUnits := [.waiting] } 4 4 0
    else match p.stepBuffers x.bind.outQ (m.outBytes d.shape) with
      | none => (p.noSpace x.bind.outQ (stepDesc j x 7 d.flags d.seq 0 0 0)).endStep j (x.opened d l)
      | some (u, b) => ((u.setJob j (some (x.placed d l (m.unitsOf x.variant).length b
          (d.ready + s.periodOf ((x.bind.entries.head?.map (·.stream)).getD 0))))).placeStep j).guard := by
  obtain ⟨hjob, himage, hdue, htensor, hrunning, hclosed, hactive, hgoes⟩ := h
  have hstarts : ¬ (x.kind ≠ 1 ∨ x.phase ≠ .running ∨ x.open_.isSome ∨ s.pwr.state ≠ .active ∨ s.stepWaits j) := by
    simp [htensor, hrunning, hclosed, hactive, hgoes]
  simp only [State.stepStart, hjob, himage, hdue, if_neg hstarts]
  rfl

/-- A step that its source voided (R213). -/
theorem stepStart_voided (hvoid : d.void ≠ 0) : s.stepStart j = (s.setJob j (some (x.opened d l))).voidOpen j (x.opened d l) d.void := by
  rw [stepStart_eq h]
  exact if_pos hvoid

variable (hvoid : d.void = 0)

include hvoid

theorem stepStart_over (hover : m.overBound d.shape = true) :
    s.stepStart j = (s.setJob j (some (x.opened d l))).shapeOver j { x with due := l } d := by
  rw [stepStart_eq h]
  exact (if_neg (not_not.2 hvoid)).trans (if_pos hover)

variable (hover : m.overBound d.shape = false)

include hover

/-- A step whose shape gives no output (R214). -/
theorem stepStart_nothing (hnothing : m.nothing d.shape = true) :
    s.stepStart j = (s.setJob j (some (x.opened d l))).voidOpen j (x.opened d l) 0 := by
  simp only [stepStart_eq h, hvoid, hover, hnothing, ne_eq, not_true_eq_false, Bool.false_eq_true, if_false, if_true]

variable (hnothing : m.nothing d.shape = false) (hshed : x.shed = false)

include hnothing hshed

/-- A step for whose outputs the queue has no room (R214, R292). -/
theorem stepStart_no_room (hroom : (s.setJob j (some (x.opened d l))).stepBuffers x.bind.outQ (m.outBytes d.shape) = none) :
    s.stepStart j = ((s.setJob j (some (x.opened d l))).noSpace x.bind.outQ (stepDesc j x 7 d.flags d.seq 0 0 0)).endStep j
      (x.opened d l) := by
  simp only [stepStart_eq h, hvoid, hover, hnothing, hshed, hroom, ne_eq, not_true_eq_false, Bool.false_eq_true, if_false]

/-- A step with its buffers: its units are placed (R213, R219). -/
theorem stepStart_places {u : State} {b : List (Nat × Nat)}
    (hroom : (s.setJob j (some (x.opened d l))).stepBuffers x.bind.outQ (m.outBytes d.shape) = some (u, b)) :
    s.stepStart j = ((u.setJob j (some (x.placed d l (m.unitsOf x.variant).length b
      (d.ready + s.periodOf ((x.bind.entries.head?.map (·.stream)).getD 0))))).placeStep j).guard := by
  simp only [stepStart_eq h, hvoid, hover, hnothing, hshed, hroom, ne_eq, not_true_eq_false, Bool.false_eq_true, if_false]

end Open

theorem exec_tensorStepStart {s t : State} {j : Fin 8} (h : s.stepStart j = t) : exec (.tensorStepStart j) s = .next t.settle := by
  rw [← h]
  rfl

/-- Settles O33: a step that may not start stays, any other opens and goes the way that `stepStart_eq` gives it. -/
theorem tensorSteps : Obligations.TensorSteps := by
  unfold Obligations.TensorSteps
  refine ⟨fun s j hs h => done_eq (stepStart_waits h) hs, ?_⟩
  intro s j x m d l hjob himage hdue htensor hrunning hclosed hactive hgoes o p
  have h : s.stepDue j x m d l := ⟨hjob, himage, hdue, htensor, hrunning, hclosed, hactive, hgoes⟩
  refine ⟨?_, ?_, ?_, ?_, ?_, ?_⟩
  · exact fun hvoid => exec_tensorStepStart (stepStart_voided h hvoid)
  · exact fun hvoid hover => exec_tensorStepStart (stepStart_over h hvoid hover)
  · exact fun hvoid hover hnothing => exec_tensorStepStart (stepStart_nothing h hvoid hover hnothing)
  · exact nothing_of_zero_mem m
  · exact fun hvoid hover hnothing hshed hroom => exec_tensorStepStart (stepStart_no_room h hvoid hover hnothing hshed hroom)
  · intro u b hvoid hover hnothing hshed hroom n
    exact ⟨x.placed d l n b _, rfl, rfl, rfl, rfl, rfl, rfl,
      exec_tensorStepStart (stepStart_places h hvoid hover hnothing hshed hroom)⟩

end Sys2Proof.Machine
end

section
/-! SUPPORT. The deadline guard, deadlines and the pool watchdog (R225, R226, R235); and O29. -/

namespace Sys2Proof.Machine

open Sys2Proof

/-! The deadline guard (R225). -/

/-- While every open item is projected to finish in time, the guard drops nothing. -/
theorem guard_of_in_time {s : State} (h : ∀ x ∈ s.openItems, s.project x true ≤ x.deadline) : s.guard = s := by
  refine List.foldl_fixed' (fun x => ?_) s.openItems
  refine if_pos ?_
  by_cases hx : x ∈ s.openItems
  · simp only [decide_eq_true (h x hx), Bool.or_true]
  · simp only [List.contains_eq_mem, hx, decide_false, Bool.not_false, Bool.true_or]

/-- A late item that is open alone is judged without slip, and is the guard's one candidate for a victim. -/
theorem guard_single {s : State} {x : Item} (hopen : s.openItems = [x]) (hlate : x.deadline < s.project x true) :
    s.guard = if s.project x false ≤ x.deadline then s.dropItem x 1 else s.dropItem x 2 := by
  have hjudged : (!s.openItems.contains x || decide (s.project x true ≤ x.deadline)) = false := by
    simp only [hopen, List.contains_eq_mem, List.mem_singleton, decide_true, Bool.not_true, Bool.false_or,
      decide_eq_false (Nat.not_le.2 hlate)]
  have hvictim : s.victim (s.openItems.filter fun y => decide (y.deadline ≤ x.deadline)) = some x := by
    rw [hopen, List.filter_singleton, decide_eq_true (Nat.le_refl _)]
    rfl
  unfold State.guard
  rw [hopen, forEach_cons, forEach_nil, hjudged, hvictim, if_neg Bool.false_ne_true]
  by_cases hslip : s.project x false ≤ x.deadline
  · rw [if_pos hslip, if_pos hslip]
  · simp only [hslip, if_false, decide_false, Bool.and_false, Bool.false_eq_true]

/-! Drops (R226). -/

/-- A band dropped for another cause than SLIP ends with its report. -/
theorem dropBandCode_event (s : State) (i : Nat) (f : Frame) (b code e : Nat) {c : Nat} (hc : c ≠ 1) :
    bitAt ((s.dropBandCode i f b c code e).reg pgSched 0x10) 0 = true := by
  unfold State.dropBandCode
  dsimp only
  rw [if_neg hc]
  exact event_reg_bit _ _ _ (by decide)

/-- A step dropped for another cause than SLIP ends with its report, which names no engine (Table 10-7). -/
theorem dropStepCode_report (s : State) (j : Nat) (x : Job) (code e : Nat) {c : Nat} (hc : c ≠ 1) :
    (s.dropStepCode j x c code e).reg pgSched 0x24 = BitVec.ofNat 32 (schedCause code (64 + j) j 0) ∧
    bitAt ((s.dropStepCode j x c code e).reg pgSched 0x10) 0 = true := by
  unfold State.dropStepCode
  dsimp only
  rw [if_neg hc, if_neg hc]
  exact ⟨fail_reg_cause .., event_reg_bit _ _ _ (by decide)⟩

/-! Deadlines (R225). -/

section Band

variable {s : State} {i q b : Nat} {f : Frame} {x : Band} (hf : s.frameOf i q = some f) (hx : f.bands[b]? = some x)

include hf hx

theorem bandDeadline_band : s.bandDeadline (.stream i) q b = if x.ready.isSome && !x.complete then s.dropBand i f b 3 0 else s := by
  simp only [State.bandDeadline, hf, hx]

/-- A band that is ready and unfinished is dropped with cause DEADLINE. -/
theorem bandDeadline_unfinished (hready : x.ready.isSome = true) (hopen : x.complete = false) :
    s.bandDeadline (.stream i) q b = s.dropBand i f b 3 0 := by
  rw [bandDeadline_band hf hx, hready, hopen]
  rfl

/-- A band that is not ready, or is complete, passes its deadline. -/
theorem bandDeadline_passed (h : x.ready = none ∨ x.complete = true) : s.bandDeadline (.stream i) q b = s := by
  rw [bandDeadline_band hf hx]
  rcases h with h | h
  · rw [h]
    rfl
  · rw [h, Bool.not_true, Bool.and_false, if_neg Bool.false_ne_true]

end Band

/-- An open step is dropped with cause DEADLINE. -/
theorem bandDeadline_step {s : State} {j : Nat} {x : Job} (hx : s.job j = some x) (hopen : x.stepUnits ≠ []) (q b : Nat) :
    s.bandDeadline (.job j) q b = s.dropStep j x 3 0 := by
  simp only [State.bandDeadline, hx, List.isEmpty_iff, hopen, if_false]

/-! The pool watchdog (R235). -/

/-- The watchdog's count and the slot of the job that it aborts. -/
def State.watchdogCounted (s : State) (j : Nat) : State := (s.bump pgSched 0x104 0 8 1).setRfld pgSched 0x104 8 3 j

/-- The stream, or 64 and the slot of a tensor job, that the report of the abort of job `j` names. -/
def State.watchdogLeaf (s : State) (j : Nat) : Nat :=
  match s.job j with | some x => if x.kind = 1 then 64 + j else x.lowest | none => 0

/-- The state in which job `j` has been handed to the fault manager. -/
def State.watchdogAborted (s : State) (j : Nat) : State :=
  (((s.watchdogCounted j).fail pgSched 3 (schedCause 5 (s.watchdogLeaf j) j 0) 0).fault 0x1E 0 j).owe (.restart j 0x1E)

theorem poolWatchdog_of_job {s : State} {l : List Nat} {j : Nat} (h : s.watchdogJob l = some j) :
    s.poolWatchdog l = s.watchdogAborted j := by
  simp only [State.poolWatchdog, h]
  rfl

theorem poolWatchdog_of_none {s : State} {l : List Nat} (h : s.watchdogJob l = none) : s.poolWatchdog l = s := by
  simp only [State.poolWatchdog, h]

section Aborted

variable (s : State) (j : Nat)

/-- The restart is the fault manager's last piece of work. -/
theorem watchdogAborted_due : (s.watchdogAborted j).flt.due = s.flt.due ++ [.restart j 0x1E] := by
  rw [State.watchdogAborted, State.owe, fault_flt_due, fail_flt, State.watchdogCounted, setRfld_flt, bump_flt]

theorem watchdogAborted_mem : (s.watchdogAborted j).mem = s.mem := by
  rw [State.watchdogAborted, owe_mem, fault_mem, fail_mem, State.watchdogCounted, setRfld_mem, bump_mem]

/-- Behind its event words, SCHED's page is as the watchdog counted it. -/
theorem watchdogAborted_reg {o : Nat} (h : 0x30 ≤ o) (ho : o < 4096) :
    (s.watchdogAborted j).reg pgSched o = (s.watchdogCounted j).reg pgSched o := by
  rw [State.watchdogAborted, owe_reg, fault_reg_ne _ _ _ _ (by decide) ho, fail_reg_ne _ _ _ _ _ h ho]

/-- The watchdog's count saturates (R5). -/
theorem watchdogAborted_count : (s.watchdogAborted j).rfld pgSched 0x104 0 8 = satAdd 8 (s.rfld pgSched 0x104 0 8) 1 := by
  rw [State.rfld, watchdogAborted_reg _ _ (by decide) (by decide), State.watchdogCounted, setRfld_reg_same,
    fld_putFld_other _ _ _ _ _ _ (by decide) (.inl (by decide)), State.bump, setRfld_reg_same, fld_putFld_same _ _ _ _ (by decide),
    Nat.mod_eq_of_lt (satAdd_lt ..)]

theorem watchdogAborted_slot (hj : j < 8) : (s.watchdogAborted j).rfld pgSched 0x104 8 3 = j := by
  rw [State.rfld, watchdogAborted_reg _ _ (by decide) (by decide), State.watchdogCounted, setRfld_reg_same,
    fld_putFld_same _ _ _ _ (by decide)]
  exact Nat.mod_eq_of_lt hj

theorem watchdogAborted_event : bitAt ((s.watchdogAborted j).reg pgSched 0x10) 3 = true := by
  rw [State.watchdogAborted, owe_reg, fault_reg_ne _ _ _ _ (by decide) (by decide)]
  exact event_reg_bit _ _ _ (by decide)

theorem watchdogAborted_fault : bitAt ((s.watchdogAborted j).reg pgFlt 0x10) 0 = true := fault_reg_event ..

/-- The fault names class 0x1E and the job. -/
theorem watchdogAborted_cause (hj : j < 8) : (s.watchdogAborted j).reg pgFlt 0x24 = BitVec.ofNat 32 (0x1E + 65536 * j) := by
  rw [State.watchdogAborted, owe_reg, fault_reg_cause, Nat.mod_eq_of_lt hj, Nat.mul_comm j]

end Aborted

/-! The commands. -/

theorem exec_guardEvaluate {s t : State} (h : s.guard = t) : exec .guardEvaluate s = .next t.settle := by
  rw [← h]
  rfl

theorem exec_bandDeadline {s t : State} {v : Victim} {q b : Nat} (h : s.bandDeadline v q b = t) :
    exec (.bandDeadline v q b) s = .next t.settle := by
  rw [← h]
  rfl

theorem exec_poolWatchdog {s t : State} {l : List (Fin 72)} (h : s.poolWatchdog (l.map (·.val)) = t) :
    exec (.poolWatchdog l) s = .next t.settle := by
  rw [← h]
  rfl

/-- Settles O29: the guard by `guard_of_in_time` and `guard_single`, deadlines by the `bandDeadline` lemmas, and the watchdog through the
state `State.watchdogAborted`. -/
theorem deadlinesAndWatchdog : Obligations.DeadlinesAndWatchdog := by
  unfold Obligations.DeadlinesAndWatchdog
  refine ⟨?_, ?_, ?_, ?_, ?_, ?_, ?_, ?_, ?_⟩
  · exact fun s hs h => done_eq (guard_of_in_time h) hs
  · exact fun s x hopen hlate hslip => exec_guardEvaluate ((guard_single hopen hlate).trans (if_pos hslip))
  · exact fun s x hopen hlate hover => exec_guardEvaluate ((guard_single hopen hlate).trans (if_neg (Nat.not_le.2 hover)))
  · intro s i j q b f x hf hx hready hopen _
    exact ⟨s.dropBand i f b 3 0, exec_bandDeadline (bandDeadline_unfinished hf hx hready hopen), rfl,
      dropBandCode_event _ _ _ _ _ _ (by decide)⟩
  · exact fun s i q b f x hs hf hx h => done_eq (bandDeadline_passed hf hx h) hs
  · intro s j q b x hx hopen
    exact ⟨s.dropStep j x 3 0, exec_bandDeadline (bandDeadline_step hx hopen q b), dropStepCode_report _ _ _ _ _ (by decide)⟩
  · exact fun s l hs h => done_eq (poolWatchdog_of_none h) hs
  · intro s l j h hj
    exact ⟨s.watchdogAborted j, exec_poolWatchdog (poolWatchdog_of_job h), watchdogAborted_due s j, watchdogAborted_count s j,
      watchdogAborted_slot s j hj, watchdogAborted_event s j, watchdogAborted_fault s j, watchdogAborted_cause s j hj,
      sameMemory_of_mem (watchdogAborted_mem s j)⟩
  · exact fun s w hs => done_of_settled (settled_setReg (settled_setReg (settled_setReg hs ..) ..) ..)

end Sys2Proof.Machine
end

section
/-! SUPPORT. The DRAM controller's state as its reads see it (R239, R243, R246 to R248, R254, R277): which parts of the state decide what a page
reads as, the state in which an access is judged, and words read without an error. -/

namespace Sys2Proof.Machine

open Sys2Proof

/-! The array: what decides, memory apart, how a page and its words read. -/

/-- Page states, stored check words and metadata, errors, and lanes. -/
def State.array (s : State) : Sparse Nat × Sparse Nat × Sparse Nat × Cal := (s.dram.state, s.dram.stored, s.dram.flips, s.cal)

theorem failedLanes_of_cal {s t : State} (h : t.cal = s.cal) (c : Nat) : t.failedLanes c = s.failedLanes c := by
  simp only [State.failedLanes, State.gussetsFree, State.lane, State.laneBit, h]

theorem flip_of_flips {s t : State} (h : t.dram.flips = s.dram.flips) (p w : Nat) : t.flip p w = s.flip p w := by rw [State.flip, State.flip, h]

theorem mergeOf_of_merge {s t : State} (h : t.dram.merge = s.dram.merge) (p : Nat) : t.mergeOf p = s.mergeOf p := by
  rw [State.mergeOf, State.mergeOf, h]

section Array
variable {s t : State} (h : t.array = s.array)
include h

theorem array_parts : t.dram.state = s.dram.state ∧ t.dram.stored = s.dram.stored ∧ t.dram.flips = s.dram.flips ∧ t.cal = s.cal := by
  simpa [State.array] using h

theorem pageState_of_array (p : Nat) : t.pageState p = s.pageState p := by
  rw [State.pageState, State.pageState, (array_parts h).1]

theorem storedWord_of_array (p w : Nat) : t.storedWord p w = s.storedWord p w := by
  rw [State.storedWord, State.storedWord, (array_parts h).2.1]

theorem seen_of_array (p w : Nat) : t.seen p w = s.seen p w := by
  obtain ⟨-, -, hflip, hcal⟩ := array_parts h
  rw [State.seen, State.seen, failedLanes_of_cal hcal, flip_of_flips hflip]

theorem validMask_of_array (p : Nat) : t.validMask p = s.validMask p := by
  simp only [State.validMask, State.sectorValid, pageState_of_array h, storedWord_of_array h, seen_of_array h]

theorem metaLost_of_array (p : Nat) : t.metaLost p = s.metaLost p := by simp only [State.metaLost, seen_of_array h]

theorem needsRecon_of_array (p q : Nat) : t.needsRecon p q = s.needsRecon p q := by
  simp only [State.needsRecon, State.readWords, validMask_of_array h, pageState_of_array h, seen_of_array h, metaLost_of_array h]

end Array

/-! What shared operations leave of it. -/

@[simp] theorem withDram_dram (s : State) (f : Dram → Dram) : (s.withDram f).dram = f s.dram := rfl
@[simp] theorem withDram_mem (s : State) (f : Dram → Dram) : (s.withDram f).mem = s.mem := rfl

@[simp] theorem quiet_vitals (s : State) : s.quiet.vitals = s.vitals := (rfl)
@[simp] theorem quiet_array (s : State) : s.quiet.array = s.array := (rfl)
@[simp] theorem waitAt_vitals (s : State) (p : Nat) (w : WaitOp) : (s.waitAt p w).vitals = s.vitals := (rfl)
@[simp] theorem maxRfld_vitals (s : State) (p o l w v : Nat) : (s.maxRfld p o l w v).vitals = s.vitals := (rfl)

theorem settled_quiet {s : State} (h : s.settled) : s.quiet.settled := h

/-- A grant counts in two registers at most. -/
theorem granted_keeps {β : Type} (v : State → β) (hv : ∀ (s : State) p o w, v (s.setReg p o w) = v s) (s : State) (k a : Nat) :
    v (s.granted k a) = v s := by
  simp only [State.granted, State.grant, State.bump, State.setRfld]
  split
  · split <;> simp only [hv]
  · rfl

/-- Upsets change the errors of stored words alone. -/
theorem upset_keeps {β : Type} (v : State → β) (hv : ∀ (s : State) (f : Dram → Sparse Nat), v (s.withDram fun d => { d with flips := f d }) = v s) (s : State)
    (l : List (Nat × Nat)) : v (s.upset l) = v s :=
  forEach_keeps v l _ (fun _ s => hv s _) s

/-! The state in which an access is judged: the answers of the last operation forgotten, the upsets in, and the grant counted. -/

/-- A DRAM access of a requester and leaf as the controller meets it. -/
def State.accessed (s : State) (up : List (Nat × Nat)) (r f a : Nat) : State := (s.quiet.upset up).granted (who r f) a

section Accessed
variable (s : State) (up : List (Nat × Nat)) (r f a : Nat)

/-- Whatever neither registers nor errors decide is as in the quiet state. -/
theorem accessed_keeps {β : Type} (v : State → β) (hreg : ∀ (s : State) p o w, v (s.setReg p o w) = v s)
    (hflip : ∀ (s : State) (f : Dram → Sparse Nat), v (s.withDram fun d => { d with flips := f d }) = v s) : v (s.accessed up r f a) = v s.quiet :=
  (granted_keeps v hreg _ _ _).trans (upset_keeps v hflip _ _)

theorem accessed_vitals : (s.accessed up r f a).vitals = s.vitals :=
  (accessed_keeps s up r f a State.vitals (fun _ _ _ _ => rfl) (fun _ _ => rfl)).trans (quiet_vitals s)
@[simp] theorem accessed_clk : (s.accessed up r f a).clk = s.clk := accessed_keeps s up r f a State.clk (fun _ _ _ _ => rfl) (fun _ _ => rfl)
@[simp] theorem accessed_mem : (s.accessed up r f a).mem = s.mem := accessed_keeps s up r f a State.mem (fun _ _ _ _ => rfl) (fun _ _ => rfl)
@[simp] theorem accessed_resp : (s.accessed up r f a).dram.resp = [] :=
  accessed_keeps s up r f a (·.dram.resp) (fun _ _ _ _ => rfl) (fun _ _ => rfl)
@[simp] theorem accessed_locks : (s.accessed up r f a).dram.locks = s.dram.locks :=
  accessed_keeps s up r f a (·.dram.locks) (fun _ _ _ _ => rfl) (fun _ _ => rfl)
@[simp] theorem accessed_merge : (s.accessed up r f a).dram.merge = s.dram.merge :=
  accessed_keeps s up r f a (·.dram.merge) (fun _ _ _ _ => rfl) (fun _ _ => rfl)
@[simp] theorem accessed_lockOf (p : Nat) : lockOf (s.accessed up r f a).dram p = lockOf s.dram p :=
  accessed_keeps s up r f a (fun s => lockOf s.dram p) (fun _ _ _ _ => rfl) (fun _ _ => rfl)
@[simp] theorem accessed_pageState (p : Nat) : (s.accessed up r f a).pageState p = s.pageState p :=
  accessed_keeps s up r f a (·.pageState p) (fun _ _ _ _ => rfl) (fun _ _ => rfl)
@[simp] theorem accessed_mergeOf (p : Nat) : (s.accessed up r f a).mergeOf p = s.mergeOf p := mergeOf_of_merge (accessed_merge ..) p

/-- Without upsets, the array is as it was. -/
@[simp] theorem accessed_array : (s.accessed [] r f a).array = s.array := granted_keeps State.array (fun _ _ _ _ => rfl) _ _ _

/-- Without upsets, the DRAM is as it was but for the answers. -/
theorem accessed_dram : (s.accessed [] r f a).dram = { s.dram with resp := [] } := granted_keeps State.dram (fun _ _ _ _ => rfl) _ _ _

theorem settled_accessed {s : State} (h : s.settled) : (s.accessed up r f a).settled := settled_of_vitals h (accessed_vitals s up r f a)

end Accessed

/-! Words read without an error. -/

/-- A read in which no word is corrected: the counters are counted up by 0, as is the slip of an engine. -/
def State.cleanRead (s : State) (p r : Nat) : State := (s.countWords p 0).when (decide (r < 6)) fun s => s.addSlip r 0

theorem correct_of_none {s : State} {p : Nat} {ws : List Nat} (h : s.corrected p ws = []) (r : Nat) : s.correct p r ws = s.cleanRead p r := by
  simp only [State.correct, State.ownErrors, h, List.filter_nil, List.length_nil, if_true, Nat.mul_zero, State.cleanRead]

@[simp] theorem countWords_vitals (s : State) (p n : Nat) : (s.countWords p n).vitals = s.vitals := (rfl)

section CleanRead
variable (s : State) (p r : Nat)

theorem cleanRead_cases : s.cleanRead p r = s.countWords p 0 ∨ s.cleanRead p r = (s.countWords p 0).addSlip r 0 := by
  unfold State.cleanRead State.when
  split
  · exact .inr rfl
  · exact .inl rfl

@[simp] theorem cleanRead_dram : (s.cleanRead p r).dram = s.dram := by
  rcases cleanRead_cases s p r with h | h <;> rw [h]
  · rfl
  · exact addSlip_dram ..
@[simp] theorem cleanRead_mem : (s.cleanRead p r).mem = s.mem := by
  rcases cleanRead_cases s p r with h | h <;> rw [h]
  · rfl
  · exact addSlip_mem ..
@[simp] theorem cleanRead_cal : (s.cleanRead p r).cal = s.cal := by
  rcases cleanRead_cases s p r with h | h <;> rw [h]
  · rfl
  · exact addSlip_cal ..

theorem settled_cleanRead {s : State} (h : s.settled) : (s.cleanRead p r).settled := by
  have hc : (s.countWords p 0).settled := settled_of_vitals h (countWords_vitals ..)
  rcases cleanRead_cases s p r with e | e <;> rw [e]
  · exact hc
  · exact settled_addSlip hc r 0

end CleanRead

/-- No word of a page shows an error, its own or of a failed lane. -/
def State.sound (s : State) (p : Nat) : Prop := ∀ w < 146, s.seen p w = 0

theorem sound_of_flips {s : State} {p : Nat} (hl : s.failedLanes (chanOf p) = 0) (hf : ∀ w, w < 146 → s.flip p w = 0) : s.sound p :=
  fun w hw => by rw [State.seen, hl, hf w hw]; rfl

theorem sound_of_array {s t : State} (h : t.array = s.array) {p : Nat} (hs : s.sound p) : t.sound p :=
  fun w hw => (seen_of_array h p w).trans (hs w hw)

theorem weight_zero : weight 0 = 0 := by simp [weight, bitsOf]

theorem wordClass_zero : wordClass 0 = 0 := by rw [wordClass, weight_zero]; rfl

theorem wordLeft_zero : wordLeft 0 = 0 := by rw [wordLeft, weight_zero]; rfl

section Sound
variable {s : State} {p : Nat} (h : s.sound p)
include h

theorem corrected_of_sound {ws : List Nat} (hws : ∀ w ∈ ws, w < 146) : s.corrected p ws = [] := by
  refine List.filter_eq_nil_iff.2 fun w hw => ?_
  simp [h w (hws w hw), wordClass_zero]

theorem metaLost_of_sound : s.metaLost p = false := by simp [State.metaLost, h 144 (by decide), wordClass_zero]

/-- A word as it is stored is the word as it is delivered. -/
theorem wordBytes_of_sound {w : Nat} (hw : w < 146) : s.wordBytes p w = (List.range 8).map fun i => s.byte (pageAddr p + 8 * w + i) := by
  simp [State.wordBytes, h w hw, wordLeft_zero]

end Sound

theorem mem_readWords_lt {s : State} {p q w : Nat} (hq : q < 16) (h : w ∈ s.readWords p q) : w < 146 := by
  rw [State.readWords, List.mem_append] at h
  rcases h with h | h <;> split at h <;> simp at h <;> omega

theorem needsRecon_of_sound {s : State} {p : Nat} (h : s.sound p) {q : Nat} (hq : q < 16) : s.needsRecon p q = false := by
  refine List.any_eq_false.2 fun w hw => ?_
  simp [h w (mem_readWords_lt hq hw), wordClass_zero, metaLost_of_sound h]

/-- A page without a valid sector needs no reconstruction, unless it is PARTIAL. -/
theorem readWords_of_invalid {s : State} {p : Nat} (h : s.pageState p = 0 ∨ s.pageState p = 3) (q : Nat) : s.readWords p q = [] := by
  rcases h with h | h <;> simp [State.readWords, State.validMask, h]

theorem needsRecon_of_invalid {s : State} {p : Nat} (h : s.pageState p = 0 ∨ s.pageState p = 3) (q : Nat) : s.needsRecon p q = false := by
  rw [State.needsRecon, readWords_of_invalid h, List.any_nil]

/-! Sectors. -/

/-- The sector that a page's number and the sector's spell is the sector of the address. -/
theorem sectorAddr {a : Nat} (h : dramBase ≤ a) : pageAddr (pageNum a) + 64 * ((a - dramBase) % 1024 / 64) = 64 * (a / 64) := by
  unfold pageAddr pageNum
  unfold dramBase at *
  omega

theorem sector_lt (a : Nat) : (a - dramBase) % 1024 / 64 < 16 := by omega

theorem dramBase_le_of_inDram {a n : Nat} (h : inDram a n = true) : dramBase ≤ a := by
  simp only [inDram, Bool.and_eq_true, decide_eq_true_eq] at h
  exact h.1

/-- The bytes of a valid sector without errors. -/
theorem sectorWords_of_sound {s : State} {p : Nat} (h : s.sound p) {q : Nat} (hq : q < 16) :
    ((List.range 8).map fun i => s.wordBytes p (8 * q + i)).flatten = (List.range 64).map fun i => s.byte (pageAddr p + 64 * q + i) := by
  have hw : (List.range 8).map (fun i => s.wordBytes p (8 * q + i)) =
      (List.range 8).map fun i => (List.range 8).map fun k => s.byte (pageAddr p + 64 * q + (8 * i + k)) := by
    refine List.map_congr_left fun i hi => ?_
    have hi8 := List.mem_range.1 hi
    rw [wordBytes_of_sound h (by omega)]
    refine List.map_congr_left fun k _ => ?_
    rw [show pageAddr p + 8 * (8 * q + i) + k = pageAddr p + 64 * q + (8 * i + k) by omega]
  rw [hw]
  rfl

theorem zip_map_self {α β : Type} (g : α → β) (l : List α) : (l.map g).zip l = l.map fun i => (g i, i) := by
  induction l with
  | nil => rfl
  | cons i l ih => rw [List.map_cons, List.zip_cons_cons, ih, List.map_cons]

/-- A valid sector without errors reads as its bytes, with the page's merge entry over them (R254). -/
theorem sectorData_of_sound {s : State} {p : Nat} (h : s.sound p) {q : Nat} (hq : q < 16) (hv : (s.validMask p).testBit q = true) :
    s.sectorData p q = ((List.range 64).map fun i =>
      ((s.mergeOf p).bind fun m => mergeByte m (64 * q + i)).getD (s.byte (pageAddr p + 64 * q + i)), true) := by
  rw [State.sectorData, if_pos hv, sectorWords_of_sound h hq, hv]
  cases s.mergeOf p with
  | none => rfl
  | some m => simp only [zip_map_self, List.map_map, Bool.true_or, Option.bind_some]; rfl

end Sys2Proof.Machine
end

section
/-! SUPPORT. Reads and writes of DRAM (R246 to R248, R251, R254 to R256, R266): how an access is judged, a write into the merge entry of its
page, and the access of a RETIRED page; and O34 and O35. -/

namespace Sys2Proof.Machine

open Sys2Proof

/-! How an access is judged. -/

section Judged
variable {s : State} {r : Fin 11} {f : Fin 128} {a : Nat} (hin : inDram a 1 = true)
include hin

theorem dramRead_draining (up : List (Nat × Nat)) (hd : s.dram.draining = true) : exec (.dramRead r f a up) s = done s.quiet :=
  (if_pos hin).trans (if_pos hd)

theorem dramRead_locked (up : List (Nat × Nat)) (hd : s.dram.draining = false) {l : PageLock} (hl : lockOf s.dram (pageNum a) = some l) :
    exec (.dramRead r f a up) s = done ((s.accessed up r f a).waitAt (pageNum a) (.read r a s.clk.up)) := by
  have e : exec (.dramRead r f a up) s = _ := (if_pos hin).trans (if_neg (ne_true_of_eq_false hd))
  simp only [e, ← State.accessed.eq_def, accessed_lockOf, accessed_clk, hl]

theorem dramRead_recon (hd : s.dram.draining = false) (hl : lockOf s.dram (pageNum a) = none)
    (hn : s.needsRecon (pageNum a) ((a - dramBase) % 1024 / 64) = true) : exec (.dramRead r f a []) s =
      done ((s.accessed [] r f a).withDram fun d =>
        { d with locks := d.locks ++ [⟨pageNum a, false, r, s.clk.up, [.read r a s.clk.up]⟩] }) := by
  have e : exec (.dramRead r f a []) s = _ := (if_pos hin).trans (if_neg (ne_true_of_eq_false hd))
  simp only [e, ← State.accessed.eq_def, accessed_lockOf, accessed_clk, hl, needsRecon_of_array (accessed_array s r f a), hn, if_true]

theorem dramRead_answer {up : List (Nat × Nat)} (hd : s.dram.draining = false) (hl : lockOf s.dram (pageNum a) = none)
    (hn : (s.accessed up r f a).needsRecon (pageNum a) ((a - dramBase) % 1024 / 64) = false) : exec (.dramRead r f a up) s =
      done (State.answer ((s.accessed up r f a).respond r a 0)) := by
  have e : exec (.dramRead r f a up) s = _ := (if_pos hin).trans (if_neg (ne_true_of_eq_false hd))
  simp only [e, ← State.accessed.eq_def, accessed_lockOf, hl, hn, Bool.false_eq_true, if_false]

variable {b : List (Option Byte)} (hb : 1 ≤ b.length) (hfit : a % 64 + b.length ≤ 64)
include hb hfit

theorem dramWrite_form : (inDram a 1 && decide (1 ≤ b.length) && decide (a % 64 + b.length ≤ 64)) = true := by
  simp only [hin, hb, hfit, decide_true, Bool.and_self]

theorem dramWrite_draining (hd : s.dram.draining = true) : exec (.dramWrite r f a b) s = done s.quiet :=
  (if_pos (dramWrite_form hin hb hfit)).trans (if_pos hd)

theorem dramWrite_locked (hd : s.dram.draining = false) {l : PageLock} (hl : lockOf s.dram (pageNum a) = some l) :
    exec (.dramWrite r f a b) s = done ((s.accessed [] r f a).waitAt (pageNum a) (.write r a b s.clk.up)) := by
  have e : exec (.dramWrite r f a b) s = _ := (if_pos (dramWrite_form hin hb hfit)).trans (if_neg (ne_true_of_eq_false hd))
  have hacc : s.quiet.granted (who r f) a = s.accessed [] r f a := rfl
  simp only [e, hacc, accessed_lockOf, accessed_clk, hl]

theorem dramWrite_free (hd : s.dram.draining = false) (hl : lockOf s.dram (pageNum a) = none) :
    exec (.dramWrite r f a b) s = done ((s.accessed [] r f a).writeSector r a b).1 := by
  have e : exec (.dramWrite r f a b) s = _ := (if_pos (dramWrite_form hin hb hfit)).trans (if_neg (ne_true_of_eq_false hd))
  have hacc : s.quiet.granted (who r f) a = s.accessed [] r f a := rfl
  simp only [e, hacc, accessed_lockOf, hl]

end Judged

/-- An access that waits at the only lock, held by a reconstruction, waits last. -/
theorem waitAt_locks {s : State} {p : Nat} {l : PageLock} (h : s.dram.locks = [l]) (hp : l.page = p) (hc : l.copy = false) {w : WaitOp}
    (hw : w ≠ .drain) : (s.waitAt p w).dram.locks = [{ l with waits := l.waits ++ [w] }] := by
  simp [State.waitAt, h, hp, hc, hw]

theorem lockOf_of_single {d : Dram} {p : Nat} {l : PageLock} (h : d.locks = [l]) (hp : l.page = p) (hc : l.copy = false) :
    lockOf d p = some l := by
  simp [lockOf, h, hp, hc]

/-! A RETIRED page (R266). -/

/-- RETIRED_ACCESS with its requester. -/
def State.retiredAccess (s : State) (r a : Nat) : State := s.fail pgDrc 4 (drcCause 2 r (pageNum a)) (pageAddr (pageNum a))

/-- The requester stands in bits 8 to 11 of ERR_CAUSE (Table 11-9). -/
theorem drcCause_req (c r p : Nat) (hc : c < 256) (hr : r < 16) : fld (BitVec.ofNat 32 (drcCause c r p)) 8 4 = r := by
  rw [fld, BitVec.toNat_ofNat, drcCause]
  omega

theorem fail_reg_event (s : State) (p b c a : Nat) (hb : b < 32) : bitAt ((s.fail p b c a).reg p 0x10) b = true := event_reg_bit _ _ _ hb

theorem retiredAccess_event (s : State) (r a : Nat) : bitAt ((s.retiredAccess r a).reg pgDrc 0x10) 4 = true := fail_reg_event _ _ _ _ _ (by decide)

theorem retiredAccess_req (s : State) {r : Nat} (hr : r < 16) (a : Nat) : (s.retiredAccess r a).rfld pgDrc 0x24 8 4 = r := by
  rw [State.rfld, State.retiredAccess, fail_reg_cause, drcCause_req _ _ _ (by decide) hr]

@[simp] theorem retiredAccess_dram (s : State) (r a : Nat) : (s.retiredAccess r a).dram = s.dram := fail_dram ..
@[simp] theorem retiredAccess_vitals (s : State) (r a : Nat) : (s.retiredAccess r a).vitals = s.vitals := fail_vitals ..

theorem respond_retired {s : State} {a : Nat} (h : s.pageState (pageNum a) = 3) (r poison : Nat) : s.respond r a poison =
    (s.retiredAccess r a, ⟨r, pageAddr (pageNum a) + 64 * ((a - dramBase) % 1024 / 64), List.replicate 64 0, false,
      poison.testBit ((a - dramBase) % 1024 / 64), true⟩) := by
  rw [State.respond, if_pos (by rw [h]; rfl)]
  rfl

theorem writeSector_retired {s : State} {a : Nat} (h : s.pageState (pageNum a) = 3) (r : Nat) (b : List (Option Byte)) :
    s.writeSector r a b = (s.retiredAccess r a, false) := by
  rw [State.writeSector, if_pos (by rw [h]; rfl)]
  rfl

/-! An answered read. -/

@[simp] theorem answer_vitals (x : State × ReadResp) : (State.answer x).vitals = x.1.vitals := (rfl)
@[simp] theorem answer_reg (x : State × ReadResp) (p o : Nat) : (State.answer x).reg p o = x.1.reg p o := (rfl)
@[simp] theorem answer_mem (x : State × ReadResp) : (State.answer x).mem = x.1.mem := rfl
theorem settled_answer {x : State × ReadResp} (h : x.1.settled) : (State.answer x).settled := h

/-- The answer of a read is the only one where no other was given. -/
theorem answer_resp {x : State × ReadResp} (h : x.1.dram.resp = []) : (State.answer x).dram.resp = [x.2] := by
  rw [State.answer, withDram_dram, h]
  rfl

/-- A read of a page that is not RETIRED, none of whose words is corrected. -/
theorem respond_clean {s : State} {a : Nat} (h : s.pageState (pageNum a) ≠ 3)
    (hc : s.corrected (pageNum a) (s.readWords (pageNum a) ((a - dramBase) % 1024 / 64)) = []) (r poison : Nat) : s.respond r a poison =
    (s.cleanRead (pageNum a) r, ⟨r, pageAddr (pageNum a) + 64 * ((a - dramBase) % 1024 / 64),
      (s.sectorData (pageNum a) ((a - dramBase) % 1024 / 64)).1, (s.sectorData (pageNum a) ((a - dramBase) % 1024 / 64)).2,
      poison.testBit ((a - dramBase) % 1024 / 64), false⟩) := by
  rw [State.respond, if_neg (by simpa using h), correct_of_none hc]

/-- A sector that is not valid reads as zero where nothing lies over it (R247). -/
theorem sectorData_of_invalid {s : State} {p : Nat} (h : s.pageState p = 0) (hm : s.mergeOf p = none) (q : Nat) :
    s.sectorData p q = (List.replicate 64 0, false) := by
  simp [State.sectorData, State.validMask, h, hm]

/-! A write into the merge entry of its page (R248, R251). -/

/-- An entry put in the place of its page's, or after the others. -/
def State.putEntry (s : State) (e : Merge) : State :=
  s.withDram fun d => { d with merge := if (s.mergeOf e.page).isSome then d.merge.map fun m => if m.page == e.page then e else m
                                        else d.merge ++ [e] }

theorem find_map_page (l : List Merge) (e : Merge) (q : Nat) :
    (l.map fun m => if m.page == e.page then e else m).find? (fun m => m.page == q) =
      (l.find? fun m => m.page == q).map fun m => if m.page == e.page then e else m := by
  rw [List.find?_map]
  congr 2
  funext m
  by_cases h : m.page = e.page <;> simp [h]

theorem putEntry_mergeOf (s : State) (e : Merge) (q : Nat) : (s.putEntry e).mergeOf q = if q = e.page then some e else s.mergeOf q := by
  rw [State.putEntry, State.mergeOf, withDram_dram]
  dsimp only
  cases hp : s.mergeOf e.page with
  | some m =>
    rw [Option.isSome_some, if_pos rfl, find_map_page]
    by_cases hq : q = e.page
    · rw [if_pos hq, hq]
      have hm := List.find?_some hp
      rw [State.mergeOf] at hp
      simp only [hp, Option.map_some, hm, if_true]
    · rw [if_neg hq, State.mergeOf]
      cases hf : s.dram.merge.find? fun m => m.page == q with
      | none => rfl
      | some m =>
        have hm : m.page = q := by simpa using List.find?_some hf
        simp [hm, hq]
  | none =>
    have hp' : s.dram.merge.find? (fun m => m.page == e.page) = none := hp
    simp only [Option.isSome_none, Bool.false_eq_true, if_false, List.find?_append]
    by_cases hq : q = e.page
    · simp [hq, hp']
    · simp [hq, State.mergeOf, Ne.symm hq]

/-- No channel gains more than one entry. -/
theorem putEntry_mergeCount (s : State) (e : Merge) (c : Nat) : (s.putEntry e).mergeCount c ≤ s.mergeCount c + 1 := by
  rw [State.mergeCount, State.mergeCount, State.putEntry, withDram_dram]
  dsimp only
  split
  · rw [List.filter_map, List.length_map]
    refine le_of_eq_of_le (congrArg List.length (List.filter_congr fun m _ => ?_)) (Nat.le_succ _)
    by_cases h : m.page = e.page <;> simp [h]
  · rw [List.filter_append, List.length_append]
    exact Nat.add_le_add_left (List.length_filter_le ..) _

theorem mergeCount_of_merge {s t : State} (h : t.dram.merge = s.dram.merge) (c : Nat) : t.mergeCount c = s.mergeCount c := by
  rw [State.mergeCount, State.mergeCount, h]

theorem maxRfld_merge (s : State) (p o l w v : Nat) : (s.maxRfld p o l w v).dram.merge = s.dram.merge := rfl

/-- The entry of an address's page before a write. -/
def State.entryAt (s : State) (a : Nat) : Merge := (s.mergeOf (pageNum a)).getD ⟨pageNum a, [], s.clk.up⟩

theorem entryAt_page (s : State) (a : Nat) : (s.entryAt a).page = pageNum a := by
  rw [State.entryAt]
  cases h : s.mergeOf (pageNum a) with
  | none => rfl
  | some m => simpa using List.find?_some h

/-- The entry of an address's page with a write merged into it, later bytes over earlier. -/
def State.entryWith (s : State) (a : Nat) (b : List (Option Byte)) : Merge :=
  { s.entryAt a with bytes := mergeBytes (s.entryAt a).bytes ((a - dramBase) % 1024) b }

/-- A write that fills no page, on a channel with room, goes into its entry, and the channel's largest count is kept up. -/
theorem writeSector_merges {s : State} {a : Nat} {b : List (Option Byte)} (h : s.pageState (pageNum a) ≠ 3)
    (hlen : (s.entryWith a b).bytes.length ≠ 1024) (hroom : s.mergeCount (chanOf (pageNum a)) < 23) (r : Nat) :
    (s.writeSector r a b).1 = (s.putEntry (s.entryWith a b)).maxRfld (chReg (chanOf (pageNum a))).1 ((chReg (chanOf (pageNum a))).2 + 4) 16 8
      ((s.putEntry (s.entryWith a b)).mergeCount (chanOf (pageNum a))) := by
  have hpage : (s.entryWith a b).page = pageNum a := entryAt_page s a
  have hcount := putEntry_mergeCount s (s.entryWith a b) (chanOf (pageNum a))
  have hput : s.putEntry (s.entryWith a b) = s.withDram fun d =>
      { d with merge := if (s.mergeOf (pageNum a)).isSome then d.merge.map fun m => if m.page == pageNum a then s.entryWith a b else m
                        else d.merge ++ [s.entryWith a b] } := by
    rw [State.putEntry, hpage]
  rw [State.writeSector, if_neg (by simpa using h)]
  have hbytes : (mergeBytes (s.entryAt a).bytes ((a - dramBase) % 1024) b).length ≠ 1024 := hlen
  simp only [← State.entryAt.eq_def, ← State.entryWith.eq_def, ← hput, hbytes, if_false]
  rw [if_neg]
  rw [mergeCount_of_merge (maxRfld_merge ..)]
  exact Nat.not_le.2 (lt_of_le_of_lt hcount (Nat.succ_lt_succ hroom))

theorem putEntry_vitals (s : State) (e : Merge) : (s.putEntry e).vitals = s.vitals := (rfl)

/-- Settles O34: an access of a RETIRED page answers by `respond_retired` or is dropped by `writeSector_retired`, with RETIRED_ACCESS. -/
theorem retiredPages : Obligations.RetiredPages := by
  unfold Obligations.RetiredPages
  refine ⟨?_, ?_⟩
  · intro s r f a up hs hin hd h3 hl
    have h3' : (s.accessed up r f a).pageState (pageNum a) = 3 := (accessed_pageState ..).trans h3
    have hv : (State.answer ((s.accessed up r f a).respond r a 0)).vitals = s.vitals := by
      rw [answer_vitals, respond_retired h3', retiredAccess_vitals, accessed_vitals]
    refine ⟨_, (dramRead_answer hin hd hl (needsRecon_of_invalid (.inr h3') _)).trans (done_of_vitals hs hv), ?_, ?_, ?_, sameMemory_of_vitals hv⟩
    · refine ⟨_, answer_resp ?_, ?_⟩ <;> rw [respond_retired h3']
      · rw [retiredAccess_dram, accessed_resp]
      · exact ⟨rfl, rfl, rfl, rfl⟩
    · rw [answer_reg, respond_retired h3']
      exact retiredAccess_event ..
    · rw [State.rfld, answer_reg, respond_retired h3']
      exact retiredAccess_req _ (by omega) _
  · intro s r f a b hs hin hd hb hfit h3 hl
    have h3' : (s.accessed [] r f a).pageState (pageNum a) = 3 := (accessed_pageState ..).trans h3
    have hv : ((s.accessed [] r f a).retiredAccess r a).vitals = s.vitals := by rw [retiredAccess_vitals, accessed_vitals]
    refine ⟨(s.accessed [] r f a).retiredAccess r a, ?_, ?_, retiredAccess_event .., retiredAccess_req _ (by omega) _, sameMemory_of_vitals hv⟩
    · rw [dramWrite_free hin hb hfit hd hl, writeSector_retired h3']
      exact done_of_vitals hs hv
    · rw [retiredAccess_dram, accessed_dram]

/-- Settles O35: an access is judged by the `dramRead` and `dramWrite` lemmas; a read without errors answers by `respond_clean`, and a write
goes into its entry by `writeSector_merges`. -/
theorem dramAccesses : Obligations.DramAccesses := by
  unfold Obligations.DramAccesses
  refine ⟨?_, ?_, ?_, ?_, ?_, ?_⟩
  · intro s r f a n b up hs hin hd
    have hq : done s.quiet = .next s.quiet := done_of_settled (settled_quiet hs)
    exact ⟨(dramRead_draining hin up hd).trans hq, fun hb hfit => (dramWrite_draining hin hb hfit hd).trans hq,
      fun hn => ((if_pos hn).trans (if_pos hd)).trans hq⟩
  · intro s r f a b l hs hin hd hb hfit hl hp hc
    have hlock := lockOf_of_single hl hp hc
    refine ⟨⟨_, (dramWrite_locked hin hb hfit hd hlock).trans (done_of_vitals hs ((waitAt_vitals ..).trans (accessed_vitals ..))),
      waitAt_locks ((accessed_locks ..).trans hl) hp hc nofun, accessed_merge .., ?_⟩, fun up =>
      ⟨_, (dramRead_locked hin up hd hlock).trans (done_of_vitals hs ((waitAt_vitals ..).trans (accessed_vitals ..))),
      waitAt_locks ((accessed_locks ..).trans hl) hp hc nofun, accessed_resp .., ?_⟩⟩ <;>
    exact sameMemory_of_vitals ((waitAt_vitals ..).trans (accessed_vitals ..))
  · intro s r f a up hs hin hd h0 hl hm
    have h0' : (s.accessed up r f a).pageState (pageNum a) = 0 := (accessed_pageState ..).trans h0
    have hm' : (s.accessed up r f a).mergeOf (pageNum a) = none := (accessed_mergeOf ..).trans hm
    have hresp := respond_clean (s := s.accessed up r f a) (a := a) (by rw [h0']; decide)
      (by rw [readWords_of_invalid (.inl h0')]; rfl) r 0
    refine ⟨_, (dramRead_answer hin hd hl (needsRecon_of_invalid (.inl h0') _)).trans (done_of_settled ?_), ?_, ?_⟩
    · rw [hresp]
      exact settled_answer (settled_cleanRead _ _ (settled_accessed _ _ _ _ hs))
    · rw [hresp, answer_resp (by simp), sectorData_of_invalid h0' hm', sectorAddr (dramBase_le_of_inDram hin), Nat.zero_testBit]
    · rw [hresp]
      exact sameMemory_of_mem (by simp)
  · intro s r f a hin hd h1 hl hlanes hflips
    have hsound : (s.accessed [] r f a).sound (pageNum a) := sound_of_array (accessed_array ..) (sound_of_flips hlanes hflips)
    have h1' : (s.accessed [] r f a).pageState (pageNum a) = 1 := (accessed_pageState ..).trans h1
    have hq := sector_lt a
    have hvalid : ((s.accessed [] r f a).validMask (pageNum a)).testBit ((a - dramBase) % 1024 / 64) = true := by
      rw [State.validMask, h1']
      exact (Nat.testBit_two_pow_sub_one 16 _).trans (decide_eq_true hq)
    have hresp := respond_clean (s := s.accessed [] r f a) (a := a) (by rw [h1']; decide)
      (corrected_of_sound hsound fun w hw => mem_readWords_lt hq hw) r 0
    refine ⟨_, dramRead_answer hin hd hl (needsRecon_of_sound hsound hq), ?_, ?_⟩ <;> rw [hresp]
    · exact sameMemory_of_mem (by simp)
    · rw [answer_resp (by simp), sectorData_of_sound hsound hq hvalid, sectorAddr (dramBase_le_of_inDram hin), Nat.zero_testBit]
      simp only [accessed_mergeOf, byte_of_mem (accessed_mem s [] r f a)]
  · intro s r f a hs hin hd hl hn
    exact ⟨_, (dramRead_recon hin hd hl hn).trans (done_of_vitals hs (accessed_vitals ..)), accessed_resp ..,
      sameMemory_of_mem (accessed_mem ..), congrArg (· ++ _) (accessed_locks ..)⟩
  · intro s r f a b hs hin hd hb hfit h3 hl e m hlen hroom
    have hm := accessed_mergeOf s [] r f a
    have hentry : (s.accessed [] r f a).entryWith a b = { e with bytes := m } := by
      simp only [State.entryWith, State.entryAt, hm, accessed_clk, e, m]
    have hpage : ({ e with bytes := m } : Merge).page = pageNum a := entryAt_page s a
    have hroom' : (s.accessed [] r f a).mergeCount (chanOf (pageNum a)) < 23 := by rwa [State.mergeCount, accessed_merge]
    have hwrite := writeSector_merges (s := s.accessed [] r f a) (a := a) (b := b) (by rwa [accessed_pageState])
      (by rwa [hentry]) hroom' r
    rw [hentry] at hwrite
    have hv : ((s.accessed [] r f a).writeSector r a b).1.vitals = s.vitals := by
      rw [hwrite, maxRfld_vitals, putEntry_vitals, accessed_vitals]
    refine ⟨_, (dramWrite_free hin hb hfit hd hl).trans (done_of_vitals hs hv), ?_, fun q hq => ?_, sameMemory_of_vitals hv⟩ <;>
      rw [hwrite, mergeOf_of_merge (maxRfld_merge ..), putEntry_mergeOf]
    · exact if_pos hpage.symm
    · rw [if_neg (hpage ▸ hq), hm]

end Sys2Proof.Machine
end

section
/-! SUPPORT. Drains of merge entries (R248, R251, R252): errors and metadata of a page after a write of its words, the bytes that a drain
stores, and the drain of a page without errors. -/

namespace Sys2Proof.Machine

open Sys2Proof

/-! What decides the valid sectors of a page. -/

/-- A page's state, its two metadata copies, the error of the first copy, and the lanes. -/
def State.metaOf (s : State) (p : Nat) : Nat × Nat × Nat × Nat × Cal :=
  (s.pageState p, s.storedWord p 144, s.storedWord p 145, s.flip p 144, s.cal)

theorem validMask_of_metaOf {s t : State} {p : Nat} (h : t.metaOf p = s.metaOf p) : t.validMask p = s.validMask p := by
  simp only [State.metaOf, Prod.mk.injEq] at h
  obtain ⟨hstate, h144, h145, hflip, hcal⟩ := h
  have hseen : t.seen p 144 = s.seen p 144 := by rw [State.seen, State.seen, hflip, failedLanes_of_cal hcal]
  simp only [State.validMask, State.sectorValid, hstate, hseen]
  split
  · rfl
  · split <;> simp only [h144, h145]
  · rfl

theorem validMask_lt (s : State) (p : Nat) : s.validMask p < 65536 := by
  rw [State.validMask]
  split
  · decide
  · exact Nat.mod_lt _ (by decide)
  · decide

theorem clearFlips_flip (s : State) (p : Nat) (ws : List Nat) (q : Nat) {w : Nat} (hw : w < 146) :
    (s.clearFlips p ws).flip q w = if q = p ∧ w ∈ ws then 0 else s.flip q w := by
  have hdiv : (146 * q + w) / 146 = q := by omega
  have hmod : (146 * q + w) % 146 = w := by omega
  have hsget := sget_filter (fun _ => 0) (fun k => !(k / 146 == p && ws.contains (k % 146))) s.dram.flips (146 * q + w)
  rw [hdiv, hmod] at hsget
  rw [State.flip, State.clearFlips, withDram_dram, hsget]
  by_cases h : q = p ∧ w ∈ ws
  · simp [h]
  · rw [if_neg h, if_pos, State.flip]
    simpa only [Bool.not_eq_true', Bool.and_eq_false_iff, beq_eq_false_iff_ne, ne_eq, List.contains_eq_mem, decide_eq_false_iff_not,
      ← not_and_or] using h

theorem clearFlips_metaOf (s : State) (p : Nat) {ws : List Nat} (h : 144 ∉ ws) (q : Nat) : (s.clearFlips p ws).metaOf q = s.metaOf q := by
  have hflip := clearFlips_flip s p ws q (w := 144) (by decide)
  rw [if_neg fun k => h k.2] at hflip
  simp only [State.metaOf, hflip]
  rfl

/-- Writes of other keys leave a key. -/
theorem sget_foldl_sset_ne {α β : Type} [DecidableEq α] (d : Nat → α) (key : β → Nat) (val : β → α) (l : List β) (k : Nat)
    (h : ∀ x ∈ l, k ≠ key x) (m : Sparse α) : sget d (l.foldl (fun m x => sset d m (key x) (val x)) m) k = sget d m k := by
  induction l generalizing m with
  | nil => rfl
  | cons x l ih =>
    rw [List.foldl_cons, ih fun y hy => h y (List.mem_cons_of_mem _ hy), sget_sset_other _ _ _ (h x List.mem_cons_self)]

theorem putChecks_metaOf (s : State) (p : Nat) (c : List Nat) (q : Nat) : (s.putChecks p c).metaOf q = s.metaOf q := by
  rw [State.putChecks, clearFlips_metaOf _ _ (by simp)]
  have hword : ∀ w, 144 ≤ w → w < 146 → sget (fun _ => 0)
      ((c.take 16).zipIdx.foldl (fun m x => sset (fun _ => 0) m (146 * p + 128 + x.2) x.1) s.dram.stored) (146 * q + w) = s.storedWord q w := by
    intro w hlo hhi
    refine sget_foldl_sset_ne _ (fun x : Nat × Nat => 146 * p + 128 + x.2) (fun x => x.1) _ _ (fun x hx => ?_) _
    have hlt := List.snd_lt_of_mem_zipIdx hx
    have hlen := List.length_take_le 16 c
    omega
  simp only [State.metaOf, Prod.mk.injEq]
  exact ⟨rfl, hword 144 (by decide) (by decide), hword 145 (by decide) (by decide), rfl, rfl⟩

theorem cachePage_metaOf (s : State) (p : Nat) (c : List Nat) (q : Nat) : (s.cachePage p c).metaOf q = s.metaOf q := rfl

/-- The state that a mask of valid sectors gives a page (Table 11-3). -/
def maskState (m : Nat) : Nat := if m = 0 then 0 else if m = 0xFFFF then 1 else 2

theorem setValid_pageState (s : State) (p m q : Nat) : (s.setValid p m).pageState q = if q = p then maskState m else s.pageState q := sget_sset ..

theorem setValid_storedWord (s : State) (p m q : Nat) {w : Nat} (hw : w < 146) :
    (s.setValid p m).storedWord q w = if q = p ∧ 144 ≤ w then m else s.storedWord q w := by
  have h := sget_sset (fun _ => 0) (sset (fun _ => 0) s.dram.stored (146 * p + 144) m) (146 * p + 145) (146 * q + w) m
  rw [sget_sset _ _ (146 * p + 144)] at h
  refine h.trans ?_
  by_cases hq : q = p ∧ 144 ≤ w
  · rw [if_pos hq]
    split
    · rfl
    · rw [if_pos (by omega)]
  · rw [if_neg hq, if_neg (by omega), if_neg (by omega), State.storedWord]

/-- The valid sectors set are the valid sectors. -/
theorem setValid_validMask_same (s : State) (p : Nat) {m : Nat} (hm : m < 65536) : (s.setValid p m).validMask p = m := by
  have hstate : (s.setValid p m).pageState p = maskState m := (setValid_pageState ..).trans (if_pos rfl)
  rw [State.validMask, hstate, maskState]
  by_cases h0 : m = 0
  · rw [if_pos h0, h0]
    rfl
  · rw [if_neg h0]
    by_cases h1 : m = 0xFFFF
    · rw [if_pos h1, h1]
      rfl
    · have h144 := setValid_storedWord s p m p (w := 144) (by decide)
      have h145 := setValid_storedWord s p m p (w := 145) (by decide)
      rw [if_pos ⟨rfl, by decide⟩] at h144 h145
      rw [if_neg h1]
      change (s.setValid p m).sectorValid p = m
      rw [State.sectorValid]
      split
      · rw [h145, Nat.mod_eq_of_lt hm]
      · rw [h144, Nat.mod_eq_of_lt hm]

theorem setValid_metaOf_other (s : State) (p m : Nat) {q : Nat} (h : q ≠ p) : (s.setValid p m).metaOf q = s.metaOf q := by
  have hflip : (s.setValid p m).flip q 144 = s.flip q 144 :=
    (clearFlips_flip _ p _ q (by decide)).trans (if_neg fun k => h k.1)
  simp only [State.metaOf, setValid_pageState, setValid_storedWord _ _ _ _ (show 144 < 146 by decide),
    setValid_storedWord _ _ _ _ (show 145 < 146 by decide), hflip, h, if_false, false_and]
  rfl

@[simp] theorem setValid_mem (s : State) (p m : Nat) : (s.setValid p m).mem = s.mem := rfl
@[simp] theorem setValid_merge (s : State) (p m : Nat) : (s.setValid p m).dram.merge = s.dram.merge := rfl
theorem setValid_vitals (s : State) (p m : Nat) : (s.setValid p m).vitals = s.vitals := (rfl)

@[simp] theorem clearFlips_mem (s : State) (p : Nat) (ws : List Nat) : (s.clearFlips p ws).mem = s.mem := rfl
@[simp] theorem clearFlips_merge (s : State) (p : Nat) (ws : List Nat) : (s.clearFlips p ws).dram.merge = s.dram.merge := rfl
@[simp] theorem putChecks_mem (s : State) (p : Nat) (c : List Nat) : (s.putChecks p c).mem = s.mem := rfl
@[simp] theorem putChecks_merge (s : State) (p : Nat) (c : List Nat) : (s.putChecks p c).dram.merge = s.dram.merge := rfl
@[simp] theorem cachePage_mem (s : State) (p : Nat) (c : List Nat) : (s.cachePage p c).mem = s.mem := rfl
@[simp] theorem cachePage_merge (s : State) (p : Nat) (c : List Nat) : (s.cachePage p c).dram.merge = s.dram.merge := rfl

/-! The bytes of a page written. -/

/-- Folds of two changes that agree where a property holds, which the second keeps. -/
theorem forEach_congr {α : Type} (P : State → Prop) {f g : α → State → State} (hfg : ∀ x s, P s → f x s = g x s)
    (hg : ∀ x s, P s → P (g x s)) (l : List α) {s : State} (hs : P s) : forEach l f s = forEach l g s := by
  induction l generalizing s with
  | nil => rfl
  | cons x l ih => rw [forEach_cons, forEach_cons, hfg x s hs, ih (hg x s hs)]


/-- A byte stored where there is one. -/
def State.store (s : State) (a : Nat) : Option Byte → State
  | some b => s.setByte a b
  | none => s

theorem store_byte (s : State) (a : Nat) (b : Option Byte) (x : Nat) : (s.store a b).byte x = if x = a then b.getD (s.byte x) else s.byte x := by
  cases b with
  | none => exact (ite_self _).symm
  | some b => exact setByte_byte ..

theorem store_keeps {β : Type} (v : State → β) (hv : ∀ (s : State) a b, v (s.setByte a b) = v s) (s : State) (a : Nat) (b : Option Byte) :
    v (s.store a b) = v s := by
  cases b with
  | none => rfl
  | some b => exact hv ..

/-- Bytes of a page written at the offsets that a function names. -/
def State.fillPage (s : State) (p : Nat) (g : Nat → Option Byte) (n : Nat) : State :=
  forEach (List.range n) (fun o s => s.store (pageAddr p + o) (g o)) s

theorem fillPage_succ (s : State) (p : Nat) (g : Nat → Option Byte) (n : Nat) :
    s.fillPage p g (n + 1) = (s.fillPage p g n).store (pageAddr p + n) (g n) := by
  rw [State.fillPage, List.range_succ, forEach, List.foldl_append]
  rfl

theorem fillPage_keeps {β : Type} (v : State → β) (hv : ∀ (s : State) a b, v (s.setByte a b) = v s) (s : State) (p : Nat)
    (g : Nat → Option Byte) (n : Nat) : v (s.fillPage p g n) = v s :=
  forEach_keeps v _ _ (fun _ s => store_keeps v hv s _ _) s

theorem fillPage_byte (s : State) (p : Nat) (g : Nat → Option Byte) (n x : Nat) : (s.fillPage p g n).byte x =
    if pageAddr p ≤ x ∧ x < pageAddr p + n then (g (x - pageAddr p)).getD (s.byte x) else s.byte x := by
  induction n with
  | zero => rw [if_neg (by omega)]; rfl
  | succ n ih =>
    rw [fillPage_succ, store_byte, ih]
    by_cases hx : x = pageAddr p + n
    · rw [if_pos hx, if_neg (by omega), if_pos (by omega), show x - pageAddr p = n by omega]
    · rw [if_neg hx]
      exact if_congr (by omega) rfl rfl

/-! The drain of an entry. -/

/-- What a drain stores at an offset: the written byte, or zero where a page or a sector becomes valid with it (R248). -/
def State.drainByte (s : State) (m : Merge) (o : Nat) : Option Byte :=
  match mergeByte m o with
  | some b => some b
  | none =>
    if s.pageState m.page == 0 || ((mergeSectors m).testBit (o / 64) && !(s.validMask m.page).testBit (o / 64)) then some 0 else none

/-- An entry applied: its bytes are stored and the check words written, and then the valid sectors where they change. -/
theorem applyMerge_parts (s : State) (m : Merge) : ∃ t : State, t.mem = (s.fillPage m.page (s.drainByte m) 1024).mem ∧
    t.dram.merge = s.dram.merge ∧ t.metaOf m.page = s.metaOf m.page ∧
    (s.applyMerge m = t.setValid m.page (s.validMask m.page ||| mergeSectors m) ∨
      s.applyMerge m = t ∧ s.validMask m.page ||| mergeSectors m = s.validMask m.page) := by
  unfold State.applyMerge
  extract_lets p old new fresh s1 changed c0 c s2 s3 bad
  have h1 : s1 = s.fillPage m.page (s.drainByte m) 1024 := by
    refine forEach_congr (fun u => u.pageState p = s.pageState p) (fun o u hu => ?_) (fun o u hu => ?_) _ rfl
    · rw [State.drainByte]
      cases mergeByte m o with
      | some b => rfl
      | none =>
        dsimp only
        rw [hu, apply_ite (u.store (pageAddr m.page + o))]
        rfl
    · rwa [store_keeps (·.pageState p) fun _ _ _ => rfl]
  have h1meta : s1.metaOf p = s.metaOf p := by
    rw [h1]
    exact fillPage_keeps (·.metaOf p) (fun _ _ _ => rfl) ..
  have h1merge : s1.dram.merge = s.dram.merge := by
    rw [h1]
    exact fillPage_keeps (·.dram.merge) (fun _ _ _ => rfl) ..
  have hchanged : 144 ∉ changed := fun h => absurd (List.mem_range.1 (List.mem_filter.1 h).1) (by decide)
  have h2meta : s2.metaOf p = s.metaOf p := (putChecks_metaOf ..).trans ((clearFlips_metaOf _ _ hchanged _).trans h1meta)
  have h2mem : s2.mem = s1.mem := (putChecks_mem ..).trans (clearFlips_mem ..)
  have h2merge : s2.dram.merge = s1.dram.merge := (putChecks_merge ..).trans (clearFlips_merge ..)
  have h3 : s3 = s2 ∨ s3 = s2.cachePage p c := by
    unfold s3
    split
    · exact .inl rfl
    · exact .inr rfl
  clear_value s3 s2 s1
  refine ⟨s3, ?_, ?_, ?_, ?_⟩
  · rw [← h1, ← h2mem]
    rcases h3 with h | h <;> rw [h]
    exact cachePage_mem ..
  · rw [← h1merge, ← h2merge]
    rcases h3 with h | h <;> rw [h]
    exact cachePage_merge ..
  · rw [← h2meta]
    rcases h3 with h | h <;> rw [h]
    exact cachePage_metaOf ..
  split
  · exact .inl rfl
  · rename_i hsame
    simp only [Bool.or_eq_true, bne_iff_ne, ne_eq, not_or, not_not] at hsame
    exact .inr ⟨rfl, hsame.1.2⟩

/-- The sectors that an entry writes are sectors of a page. -/
theorem mergeSectors_lt (m : Merge) : mergeSectors m < 65536 := by
  have hle : mergeSectors m ≤ ((List.range 16).map fun q => 2 ^ q).sum :=
    List.sum_le_sum fun q _ => by split <;> simp
  exact lt_of_le_of_lt hle (by decide)

theorem applyMerge_validMask (s : State) (m : Merge) : (s.applyMerge m).validMask m.page = s.validMask m.page ||| mergeSectors m := by
  obtain ⟨t, -, -, hmeta, h | ⟨h, hsame⟩⟩ := applyMerge_parts s m <;> rw [h]
  · exact setValid_validMask_same _ _ (Nat.or_lt_two_pow (n := 16) (validMask_lt ..) (mergeSectors_lt m))
  · rw [validMask_of_metaOf hmeta, hsame]

theorem applyMerge_merge (s : State) (m : Merge) : (s.applyMerge m).dram.merge = s.dram.merge := by
  obtain ⟨t, -, hmerge, -, h | ⟨h, -⟩⟩ := applyMerge_parts s m <;> rw [h, ← hmerge]
  exact setValid_merge ..

theorem applyMerge_byte (s : State) (m : Merge) (x : Nat) : (s.applyMerge m).byte x =
    if pageAddr m.page ≤ x ∧ x < pageAddr m.page + 1024 then (s.drainByte m (x - pageAddr m.page)).getD (s.byte x) else s.byte x := by
  have hmem : (s.applyMerge m).mem = (s.fillPage m.page (s.drainByte m) 1024).mem := by
    obtain ⟨t, hmem, -, -, h | ⟨h, -⟩⟩ := applyMerge_parts s m <;> rw [h, ← hmem]
    exact setValid_mem ..
  rw [byte_of_mem hmem, fillPage_byte]

/-- An entry's page is the page that it is looked up by. -/
theorem mergeOf_page {s : State} {p : Nat} {m : Merge} (h : s.mergeOf p = some m) : m.page = p := by simpa using List.find?_some h

theorem drainPage_of_none {s : State} {p : Nat} (h : s.mergeOf p = none) (r : Nat) : s.drainPage p r = s := by simp only [State.drainPage, h]

theorem mem_drainReads_lt {s : State} {m : Merge} {w : Nat} (h : w ∈ s.drainReads m) : w < 146 := by
  rw [State.drainReads] at h
  split at h
  · simp at h
  · rw [List.mem_append, List.mem_append] at h
    rcases h with (h | h) | h
    · have := List.mem_range.1 (List.mem_filter.1 h).1
      omega
    · split at h <;> simp at h
      omega
    · split at h <;> simp at h
      omega

theorem drainReads_of_sound {s : State} {p : Nat} (h : s.sound p) (m : Merge) :
    (s.drainReads m).any (fun w => wordClass (s.seen p w) == 2 && (decide (w < 144) || s.metaLost p)) = false := by
  refine List.any_eq_false.2 fun w hw => ?_
  simp [h w (mem_drainReads_lt hw), wordClass_zero]

/-- The entries of other pages. -/
def State.dropEntry (s : State) (p : Nat) : State := s.withDram fun d => { d with merge := d.merge.filter fun x => x.page != p }

theorem dropEntry_array (s : State) (p : Nat) : (s.dropEntry p).array = s.array := rfl

theorem dropEntry_mergeOf (s : State) (p : Nat) : (s.dropEntry p).mergeOf p = none := by
  rw [State.mergeOf, List.find?_eq_none]
  intro m hm
  simpa using (List.mem_filter.1 hm).2

/-- The drain of a page without errors reads its words, drops the entry and applies it. -/
theorem drainPage_of_sound {s : State} {p : Nat} {m : Merge} (hm : s.mergeOf p = some m) (h3 : s.pageState p ≠ 3) (h : s.sound p) (r : Nat) :
    s.drainPage p r = ((s.dropEntry p).cleanRead p r).applyMerge m := by
  have hstate : ∀ u : State, u.dram.state = s.dram.state → (u.pageState p == 3) = false := fun u hu => by
    have hp : u.pageState p = s.pageState p := by rw [State.pageState, hu, State.pageState]
    simpa [hp] using h3
  have hcor : (s.dropEntry p).corrected p (s.drainReads m) = [] :=
    corrected_of_sound (sound_of_array (dropEntry_array ..) h) fun w hw => mem_drainReads_lt hw
  simp only [State.drainPage, hm, hstate s rfl, drainReads_of_sound h, ← State.dropEntry.eq_def, correct_of_none hcor, Bool.false_eq_true,
    if_false]
  rw [if_neg (ne_true_of_eq_false (hstate _ (by rw [cleanRead_dram]; rfl)))]

theorem cleanRead_array (s : State) (p r : Nat) : (s.cleanRead p r).array = s.array := by
  simp only [State.array, cleanRead_dram, cleanRead_cal]

section Drained
variable {s : State} {p : Nat} {m : Merge} (hm : s.mergeOf p = some m) (h3 : s.pageState p ≠ 3) (h : s.sound p) (r : Nat)
include hm h3 h

theorem drainPage_mergeOf : (s.drainPage p r).mergeOf p = none := by
  rw [drainPage_of_sound hm h3 h, mergeOf_of_merge (applyMerge_merge ..), mergeOf_of_merge (s := s.dropEntry p) (by rw [cleanRead_dram]),
    dropEntry_mergeOf]

theorem drainPage_validMask : (s.drainPage p r).validMask p = s.validMask p ||| mergeSectors m := by
  have hp := mergeOf_page hm
  subst hp
  rw [drainPage_of_sound hm h3 h, applyMerge_validMask, validMask_of_array ((cleanRead_array ..).trans (dropEntry_array ..))]

theorem drainPage_byte (x : Nat) : (s.drainPage p r).byte x =
    if pageAddr p ≤ x ∧ x < pageAddr p + 1024 then (s.drainByte m (x - pageAddr p)).getD (s.byte x) else s.byte x := by
  have hp := mergeOf_page hm
  subst hp
  have harr := (cleanRead_array (s.dropEntry m.page) m.page r).trans (dropEntry_array ..)
  have hmem : ((s.dropEntry m.page).cleanRead m.page r).mem = s.mem := cleanRead_mem ..
  rw [drainPage_of_sound hm h3 h, applyMerge_byte, byte_of_mem hmem]
  simp only [State.drainByte, pageState_of_array harr, validMask_of_array harr]

end Drained

end Sys2Proof.Machine
end

section
/-! SUPPORT. Repairs, retirement and reconstruction of pages (R256, R257, R259 to R265): what the choice of a row for sparing leaves, a page that
the page code recovers, and one that it does not. -/

namespace Sys2Proof.Machine

open Sys2Proof

/-! What a row chosen for sparing leaves. -/

/-- From the first state to the second, memory, errors, raised events of DRC and work for the fault manager are kept, and a page's valid
sectors are as they were or, of a page that is retired, none. -/
structure State.sparesOnly (s t : State) : Prop where
  mem : t.mem = s.mem
  flips : t.dram.flips = s.dram.flips
  mask : ∀ p, t.validMask p = s.validMask p ∨ t.validMask p = 0
  event : ∀ k, bitAt (s.reg pgDrc 0x10) k = true → bitAt (t.reg pgDrc 0x10) k = true
  due : ∀ d ∈ s.flt.due, d ∈ t.flt.due

theorem sparesOnly_trans {s t u : State} (h : s.sparesOnly t) (k : t.sparesOnly u) : s.sparesOnly u where
  mem := k.mem.trans h.mem
  flips := k.flips.trans h.flips
  mask p := (k.mask p).elim (fun e => (h.mask p).imp e.trans e.trans) .inr
  event i hi := k.event i (h.event i hi)
  due d hd := k.due d (h.due d hd)

/-- A change of the DRAM that leaves the array. -/
theorem sparesOnly_withDram (s : State) {f : Dram → Dram} (h : (s.withDram f).array = s.array) : s.sparesOnly (s.withDram f) where
  mem := rfl
  flips := (array_parts h).2.2.1
  mask p := .inl (validMask_of_array h p)
  event _ := id
  due _ := id

@[simp] theorem setReg_array (s : State) (p o : Nat) (w : Word) : (s.setReg p o w).array = s.array := (rfl)
@[simp] theorem setRfld_array (s : State) (p o l w v : Nat) : (s.setRfld p o l w v).array = s.array := (rfl)
@[simp] theorem bump_array (s : State) (p o l w n : Nat) : (s.bump p o l w n).array = s.array := (rfl)
@[simp] theorem fail_array (s : State) (p b c a : Nat) : (s.fail p b c a).array = s.array := by simp [State.array]
@[simp] theorem fault_array (s : State) (c u j : Nat) : (s.fault c u j).array = s.array := by simp [State.array]

/-- A page marked RETIRED, its entry dropped (R265). -/
def State.markRetired (s : State) (p : Nat) : State :=
  s.withDram fun d => { d with state := sset (fun _ => 0) d.state p 3
                               retired := if d.retired.contains p then d.retired else d.retired ++ [p]
                               merge := d.merge.filter fun m => m.page != p }

/-- The event of a page's retirement. -/
def State.retireEvent (s : State) (p r : Nat) : State := (s.markRetired p).fail pgDrc 3 (drcCause 3 r p) (pageAddr p)

theorem retire_eq (s : State) (p r : Nat) : s.retire p r =
    { s.retireEvent p r with flt := { (s.retireEvent p r).flt with due := (s.retireEvent p r).flt.due ++ [.retired p] } } := rfl

theorem retire_flt_due (s : State) (p r : Nat) : (s.retire p r).flt.due = s.flt.due ++ [.retired p] := by
  rw [retire_eq]
  exact congrArg (·.due ++ _) (fail_flt ..)

theorem retire_reg (s : State) (p r q o : Nat) : (s.retire p r).reg q o = (s.retireEvent p r).reg q o := by
  rw [retire_eq]
  rfl

theorem retire_mem (s : State) (p r : Nat) : (s.retire p r).mem = s.mem := by
  rw [retire_eq]
  exact fail_mem ..

theorem retire_dram (s : State) (p r : Nat) : (s.retire p r).dram = (s.markRetired p).dram := by
  rw [retire_eq]
  exact fail_dram ..

theorem retire_cal (s : State) (p r : Nat) : (s.retire p r).cal = s.cal := by
  rw [retire_eq]
  exact fail_cal ..

theorem retire_pageState (s : State) (p r q : Nat) : (s.retire p r).pageState q = if q = p then 3 else s.pageState q := by
  rw [State.pageState, retire_dram]
  exact sget_sset _ s.dram.state p q 3

theorem retire_flips (s : State) (p r : Nat) : (s.retire p r).dram.flips = s.dram.flips := by
  rw [retire_dram]
  rfl

theorem retire_metaOf_other (s : State) {p : Nat} (r : Nat) {q : Nat} (h : q ≠ p) : (s.retire p r).metaOf q = s.metaOf q := by
  have hword : ∀ w, (s.retire p r).storedWord q w = s.storedWord q w := fun w => by
    rw [State.storedWord, retire_dram]
    rfl
  simp only [State.metaOf, retire_pageState, h, if_false, hword, flip_of_flips (retire_flips s p r), retire_cal]

theorem retire_sparesOnly (s : State) (p r : Nat) : s.sparesOnly (s.retire p r) where
  mem := retire_mem ..
  flips := retire_flips ..
  mask q := by
    by_cases h : q = p
    · right
      rw [State.validMask, retire_pageState, if_pos h]
      rfl
    · exact .inl (validMask_of_metaOf (retire_metaOf_other s r h))
  event k hk := by
    rw [retire_reg, State.retireEvent, State.fail]
    refine event_reg_keeps _ _ _ _ ?_
    rwa [State.cause, setReg_reg_ne _ _ radr_ne, setReg_reg_ne _ _ radr_ne, setReg_reg_ne _ _ radr_ne]
  due d hd := by
    rw [retire_flt_due]
    exact List.mem_append_left _ hd

/-- A row chosen for sparing: nothing, a copy asked for, or the page retired (R261, R265). -/
theorem spareRow_sparesOnly (s : State) (p r : Nat) : s.sparesOnly (s.spareRow p r) := by
  unfold State.spareRow
  split
  · exact sparesOnly_withDram s (f := id) rfl
  · split
    · exact sparesOnly_withDram s rfl
    · exact retire_sparesOnly ..

theorem rowError_sparesOnly (s : State) (p r n : Nat) (m : Bool) : s.sparesOnly (s.rowError p r n m) := by
  unfold State.rowError
  dsimp only
  split
  · exact sparesOnly_trans (sparesOnly_withDram s rfl) (spareRow_sparesOnly ..)
  · exact sparesOnly_withDram s rfl

theorem drained_sparesOnly (s : State) : s.sparesOnly s.drained := by
  unfold State.drained State.when
  split
  · exact sparesOnly_withDram s rfl
  · exact sparesOnly_withDram s (f := id) rfl

/-- A lock at which nothing waits is released. -/
theorem release_of_no_waits (s : State) {l : PageLock} (h : l.waits = []) (poison : Nat) :
    s.release l poison = s.withDram fun d => { d with locks := d.locks.filter fun x => x != l } := by
  simp only [State.release, h]

/-! Reconstruction. -/

/-- A page read for its reconstruction: the counts, and the errors in the bank's bucket. -/
def State.reconRead (s : State) (p : Nat) : State :=
  (((s.bump pgDrc 0x20 16 16 1).bump (chReg (chanOf p)).1 (chReg (chanOf p)).2 16 16 1).countWords p
    (s.corrected p (List.range 146)).length).bucketAdd p (8 + s.ownErrors p (List.range 146))

theorem bucketAdd_mem (s : State) (p n : Nat) : (s.bucketAdd p n).mem = s.mem := by
  unfold State.bucketAdd
  dsimp only
  split
  · exact event_mem ..
  · rfl

theorem reconRead_mem (s : State) (p : Nat) : (s.reconRead p).mem = s.mem := by
  rw [State.reconRead, bucketAdd_mem, State.countWords]
  simp only [bump_mem]

/-- A page that the page code recovers is written back (R256). -/
theorem reconstruct_of_recovers {s : State} {p : Nat} (hm : s.metaLost p = false) (hr : s.recovers p = true) (r : Nat) : ∃ n must,
    (s.reconstruct p r).1 = ((s.reconRead p).clearFlips p (List.range 146)).rowError p r n must := by
  rw [State.reconstruct, hm, hr]
  exact ⟨_, _, rfl⟩

theorem reconstruct_of_lost {s : State} {p : Nat} (hm : s.metaLost p = false) (hr : s.recovers p = false) (r : Nat) :
    (s.reconstruct p r).1 = (s.reconRead p).uncorrectable p r (s.badSectors p) := by
  rw [State.reconstruct, hm, hr]
  rfl

/-- The sectors that are kept are none of the lost ones. -/
theorem sub_and_and (v l : Nat) : (v - (v &&& l)) &&& l = 0 := by
  induction v using Nat.strongRecOn generalizing l with
  | ind v ih =>
    by_cases hv : v = 0
    · simp [hv]
    · have hdiv : (v &&& l) / 2 = v / 2 &&& l / 2 := Nat.and_div_two_pow (n := 1)
      have hmod : (v &&& l) % 2 = v % 2 &&& l % 2 := Nat.and_mod_two_pow (n := 1)
      have hstep := ih (v / 2) (by omega) (l / 2)
      have hle : v / 2 &&& l / 2 ≤ v / 2 := Nat.and_le_left
      have hbits : (v % 2 &&& l % 2 = 0 ∧ (v % 2 = 0 ∨ l % 2 = 0)) ∨ (v % 2 &&& l % 2 = 1 ∧ v % 2 = 1 ∧ l % 2 = 1) := by
        rcases Nat.mod_two_eq_zero_or_one v with h | h <;> rcases Nat.mod_two_eq_zero_or_one l with k | k <;> simp [h, k]
      have hkeep : (v - (v &&& l)) / 2 = v / 2 - (v / 2 &&& l / 2) := by omega
      have hlow : (v - (v &&& l)) % 2 &&& l % 2 = 0 := by
        rcases hbits with ⟨h, k | k⟩ | ⟨h, k, -⟩
        · rw [show (v - (v &&& l)) % 2 = 0 by omega, Nat.zero_and]
        · rw [k, Nat.and_zero]
        · rw [show (v - (v &&& l)) % 2 = 0 by omega, Nat.zero_and]
      have hd : ((v - (v &&& l)) &&& l) / 2 = 0 := by rw [← hstep, ← hkeep]; exact Nat.and_div_two_pow (n := 1)
      have hm : ((v - (v &&& l)) &&& l) % 2 = 0 := by rw [← hlow]; exact Nat.and_mod_two_pow (n := 1)
      omega

/-- The stored words of a page with their errors in them, as a lost page keeps them. -/
def State.keepErrors (s : State) (p : Nat) : State :=
  forEach (List.range 128) (fun w s => forEach (List.range 8) (fun k s => s.setByte (pageAddr p + 8 * w + k)
    (s.byte (pageAddr p + 8 * w + k) ^^^ BitVec.ofNat 8 (s.flip p w / 2 ^ (8 * k)))) s) s

theorem keepErrors_sameMemoryBut (s : State) (p : Nat) : s.sameMemoryBut (s.keepErrors p) (pageAddr p) 1024 := by
  refine forEach_sameMemoryBut _ _ _ _ (fun w hw s => forEach_sameMemoryBut _ _ _ _ (fun k hk s x hx => ?_) s) s
  have hw' := List.mem_range.1 hw
  have hk' := List.mem_range.1 hk
  rw [setByte_byte, if_neg (by omega)]

/-- A lost page's checks written over its words, and its valid sectors without the lost ones. -/
def State.loseSectors (s : State) (p lost : Nat) : State :=
  (((s.keepErrors p).clearFlips p (List.range 146)).putChecks p (pageChecks ((s.keepErrors p).dataWord p))).setValid p
    (s.validMask p - (s.validMask p &&& lost))

theorem loseSectors_validMask (s : State) (p lost : Nat) :
    (s.loseSectors p lost).validMask p = s.validMask p - (s.validMask p &&& lost) :=
  setValid_validMask_same _ _ (lt_of_le_of_lt (Nat.sub_le ..) (validMask_lt s p))

theorem loseSectors_mem (s : State) (p lost : Nat) : (s.loseSectors p lost).mem = (s.keepErrors p).mem := by
  rw [State.loseSectors, setValid_mem, putChecks_mem, clearFlips_mem]

/-- An entry of the UE log: the page, what was lost, for whom and when. -/
def State.ueLogged (s : State) (i p r lost time : Nat) : State :=
  (((s.setReg pgDrc (0x200 + 16 * i) (BitVec.ofNat 32 (pageAddr p))).setReg pgDrc (0x204 + 16 * i)
    (BitVec.ofNat 32 (pageAddr p / 2 ^ 32))).setReg pgDrc (0x208 + 16 * i) (BitVec.ofNat 32 (lost + 65536 * r))).setReg
    pgDrc (0x20C + 16 * i) (BitVec.ofNat 32 time)

/-- The log's next entry and the counts of UE. -/
def State.ueCounted (s : State) (i p : Nat) : State :=
  ((s.setRfld pgDrc 0x110 0 4 ((i + 1) % 16)).bump pgDrc 0x20 0 16 1).bump (chReg (chanOf p)).1 ((chReg (chanOf p)).2 + 4) 0 8 1

/-- UE raised and its class reported. -/
def State.ueRaised (s : State) (p r : Nat) : State := (s.fail pgDrc 1 (drcCause 1 r p) (pageAddr p)).fault 0x10 (chanOf p) 0

/-- A lost page handed to the fault manager. -/
def State.oweLost (s : State) (p : Nat) : State := { s with flt := { s.flt with due := s.flt.due ++ [.ue p] } }

theorem oweLost_mem (s : State) (p : Nat) : (s.oweLost p).mem = s.mem := rfl
theorem oweLost_array (s : State) (p : Nat) : (s.oweLost p).array = s.array := rfl
theorem oweLost_reg (s : State) (p q o : Nat) : (s.oweLost p).reg q o = s.reg q o := rfl
theorem oweLost_due (s : State) (p : Nat) : .ue p ∈ (s.oweLost p).flt.due := List.mem_append_right _ List.mem_cons_self
theorem ueLogged_mem (s : State) (i p r lost time : Nat) : (s.ueLogged i p r lost time).mem = s.mem := by simp only [State.ueLogged, setReg_mem]
theorem ueLogged_array (s : State) (i p r lost time : Nat) : (s.ueLogged i p r lost time).array = s.array := by
  simp only [State.ueLogged, setReg_array]
theorem ueCounted_mem (s : State) (i p : Nat) : (s.ueCounted i p).mem = s.mem := by simp only [State.ueCounted, bump_mem, setRfld_mem]
theorem ueCounted_array (s : State) (i p : Nat) : (s.ueCounted i p).array = s.array := by
  simp only [State.ueCounted, bump_array, setRfld_array]
theorem ueRaised_mem (s : State) (p r : Nat) : (s.ueRaised p r).mem = s.mem := by simp only [State.ueRaised, fault_mem, fail_mem]
theorem ueRaised_array (s : State) (p r : Nat) : (s.ueRaised p r).array = s.array := by simp only [State.ueRaised, fault_array, fail_array]

theorem ueRaised_event (s : State) (p r : Nat) : bitAt ((s.ueRaised p r).reg pgDrc 0x10) 1 = true := by
  rw [State.ueRaised, fault_reg_ne _ _ _ _ (by decide) (by decide)]
  exact fail_reg_event _ _ _ _ _ (by decide)

/-- A page that is lost (R257): its sectors go, and UE is logged, counted, raised and reported. -/
def State.lost (s : State) (p r lost : Nat) : State :=
  ((((s.loseSectors p lost).ueLogged (s.rfld pgDrc 0x110 0 4) p r lost s.time32).ueCounted (s.rfld pgDrc 0x110 0 4) p).ueRaised p r).oweLost p

theorem uncorrectable_eq (s : State) (p r lost : Nat) : s.uncorrectable p r lost = (s.lost p r lost).rowError p r 0 true := by
  unfold State.uncorrectable
  extract_lets i ch keep s1 s2
  have h : s2 = s.loseSectors p lost := by simp only [s2, s1, keep, State.loseSectors, State.keepErrors]
  clear_value s2
  rw [State.lost, ← h]
  rfl

theorem lost_mem (s : State) (p r lost : Nat) : (s.lost p r lost).mem = (s.keepErrors p).mem := by
  rw [State.lost, oweLost_mem, ueRaised_mem, ueCounted_mem, ueLogged_mem, loseSectors_mem]

theorem lost_array (s : State) (p r lost : Nat) : (s.lost p r lost).array = (s.loseSectors p lost).array := by
  rw [State.lost, oweLost_array, ueRaised_array, ueCounted_array, ueLogged_array]

theorem lost_event (s : State) (p r lost : Nat) : bitAt ((s.lost p r lost).reg pgDrc 0x10) 1 = true := by
  rw [State.lost, oweLost_reg]
  exact ueRaised_event ..

theorem lost_due (s : State) (p r lost : Nat) : .ue p ∈ (s.lost p r lost).flt.due := by
  rw [State.lost]
  exact oweLost_due ..

end Sys2Proof.Machine
end

section
/-! SUPPORT. Invalidation of ranges (R249, R250): the sectors of a page that a range covers, whole pages, and the pages at its ends; and O36. -/

namespace Sys2Proof.Machine

open Sys2Proof

/-! Sectors of one page. -/

section Sectors
variable {s : State} {p : Nat} (h : s.mergeOf p = none) (m : Nat)
include h

/-- Without an entry, a page that has no valid sector stays, and any other loses those of the mask. -/
theorem invalSectors_cases : (s.invalSectors p m = s ∧ s.validMask p = 0) ∨
    s.invalSectors p m = s.setValid p (s.validMask p - (s.validMask p &&& m)) := by
  simp only [State.invalSectors, drainPage_of_none h]
  by_cases hp : (s.pageState p == 3 || s.pageState p == 0) = true
  · rw [if_pos hp]
    simp only [Bool.or_eq_true, beq_iff_eq] at hp
    refine .inl ⟨rfl, ?_⟩
    rcases hp with hp | hp <;> rw [State.validMask, hp] <;> rfl
  · rw [if_neg hp]
    exact .inr rfl

theorem invalSectors_validMask : (s.invalSectors p m).validMask p = s.validMask p - (s.validMask p &&& m) := by
  rcases invalSectors_cases h m with ⟨e, h0⟩ | e <;> rw [e]
  · rw [h0, Nat.zero_sub]
  · exact setValid_validMask_same _ _ (lt_of_le_of_lt (Nat.sub_le ..) (validMask_lt s p))

theorem invalSectors_other {q : Nat} (hq : q ≠ p) : (s.invalSectors p m).validMask q = s.validMask q := by
  rcases invalSectors_cases h m with ⟨e, -⟩ | e <;> rw [e]
  exact validMask_of_metaOf (setValid_metaOf_other s p _ hq)

theorem invalSectors_vitals : (s.invalSectors p m).vitals = s.vitals := by
  rcases invalSectors_cases h m with ⟨e, -⟩ | e <;> rw [e]
  exact setValid_vitals ..

theorem invalSectors_merge : (s.invalSectors p m).dram.merge = s.dram.merge := by
  rcases invalSectors_cases h m with ⟨e, -⟩ | e <;> rw [e]
  exact setValid_merge ..

end Sectors

theorem mergeOf_of_empty {s : State} (h : s.dram.merge = []) (p : Nat) : s.mergeOf p = none := by rw [State.mergeOf, h, List.find?_nil]

/-- The sectors of several pages. -/
theorem forEach_invalSectors (mask : Nat → Nat) {l : List Nat} (hl : l.Nodup) {s : State} (h : s.dram.merge = []) :
    (forEach l (fun p s => s.invalSectors p (mask p)) s).vitals = s.vitals ∧
      ∀ p, (forEach l (fun p s => s.invalSectors p (mask p)) s).validMask p =
        if p ∈ l then s.validMask p - (s.validMask p &&& mask p) else s.validMask p := by
  induction l generalizing s with
  | nil => exact ⟨rfl, fun p => rfl⟩
  | cons k l ih =>
    obtain ⟨hk, hnodup⟩ := List.nodup_cons.1 hl
    have hno := mergeOf_of_empty h k
    obtain ⟨hv, hmask⟩ := ih hnodup (s := s.invalSectors k (mask k)) ((invalSectors_merge hno _).trans h)
    refine ⟨hv.trans (invalSectors_vitals hno _), fun p => ?_⟩
    rw [forEach_cons, hmask]
    by_cases hp : p = k
    · rw [if_neg (hp ▸ hk), if_pos (hp ▸ List.mem_cons_self), hp, invalSectors_validMask hno]
    · simp only [invalSectors_other hno _ hp, List.mem_cons, hp, false_or]

/-! The pages of a range. -/

/-- Pages that lie wholly in a range. -/
def wholePage (a n p : Nat) : Bool := decide (cdiv (a - dramBase) 1024 ≤ p) && decide (p < (a + n - dramBase) / 1024)

/-- The pages that a range covers in part, at its ends. -/
def endPages (a n : Nat) : List Nat :=
  if (a + n - dramBase) / 1024 < cdiv (a - dramBase) 1024 then [pageNum a]
  else (if (a - dramBase) % 1024 = 0 then [] else [pageNum a]) ++
    (if (a + n - dramBase) % 1024 = 0 then [] else [(a + n - dramBase) / 1024])

theorem coverMask_all {a n p : Nat} (hlo : a ≤ pageAddr p) (hhi : pageAddr p + 1024 ≤ a + n) : coverMask p a n = 0xFFFF := by
  have h : ((List.range 16).map fun q => if a ≤ pageAddr p + 64 * q ∧ pageAddr p + 64 * q + 64 ≤ a + n then 2 ^ q else 0) =
      (List.range 16).map fun q => 2 ^ q :=
    List.map_congr_left fun q hq => if_pos (by have := List.mem_range.1 hq; omega)
  rw [coverMask, h]
  rfl

theorem coverMask_none {a n p : Nat} (h : pageAddr p + 1024 ≤ a ∨ a + n ≤ pageAddr p) : coverMask p a n = 0 := by
  have h : ((List.range 16).map fun q => if a ≤ pageAddr p + 64 * q ∧ pageAddr p + 64 * q + 64 ≤ a + n then 2 ^ q else 0) =
      (List.range 16).map fun _ => 0 :=
    List.map_congr_left fun q hq => if_neg (by have := List.mem_range.1 hq; omega)
  rw [coverMask, h]
  rfl

section Range
variable {a n : Nat} (ha : dramBase ≤ a)
include ha

theorem wholePage_iff (p : Nat) : wholePage a n p = true ↔ a ≤ pageAddr p ∧ pageAddr p + 1024 ≤ a + n := by
  obtain ⟨x, rfl⟩ := Nat.exists_eq_add_of_le ha
  simp only [wholePage, cdiv, pageAddr, Bool.and_eq_true, decide_eq_true_eq, Nat.add_assoc, Nat.add_sub_cancel_left]
  omega

theorem endPages_nodup : (endPages a n).Nodup := by
  unfold endPages cdiv pageNum
  split
  · exact List.nodup_singleton _
  · split <;> split <;> simp
    omega

/-- A page at an end does not lie wholly in the range. -/
theorem not_wholePage_of_end {p : Nat} (h : p ∈ endPages a n) : wholePage a n p = false := by
  rw [Bool.eq_false_iff, ne_eq, wholePage_iff ha]
  unfold endPages cdiv pageNum at h
  unfold pageAddr
  split at h
  · rw [List.mem_singleton] at h
    omega
  · rw [List.mem_append] at h
    rcases h with h | h <;> split at h <;> simp at h <;> omega

/-- A page that is neither wholly in the range nor at an end lies outside it. -/
theorem outside_of_not_end (hn : 0 < n) {p : Nat} (hw : wholePage a n p = false) (h : p ∉ endPages a n) :
    pageAddr p + 1024 ≤ a ∨ a + n ≤ pageAddr p := by
  rw [Bool.eq_false_iff, ne_eq, wholePage_iff ha] at hw
  unfold endPages cdiv pageNum at h
  unfold pageAddr at *
  split at h
  · rw [List.mem_singleton] at h
    omega
  · rw [List.mem_append] at h
    split at h <;> split at h <;> simp at h <;> omega

end Range

/-! A range. -/

/-- Whole pages of a range INVALID in the table, but for RETIRED ones. -/
def State.invalPages (s : State) (a n : Nat) : State :=
  s.withDram fun d => { d with state := d.state.filter fun e => !(wholePage a n e.1 && e.2 != 3) }

theorem sget_filter_pairs_keep {α : Type} (d : Nat → α) (f : Nat × α → Bool) {k : Nat} (h : ∀ v, f (k, v) = true) (m : Sparse α) :
    sget d (m.filter f) k = sget d m k := by
  induction m with
  | nil => rfl
  | cons e m ih =>
    obtain ⟨j, v⟩ := e
    by_cases hj : j = k
    · subst hj
      rw [List.filter_cons_of_pos (h v), sget, sget, if_pos rfl, if_pos rfl]
    · rw [List.filter_cons]
      split <;> simp only [sget, hj, if_false, ih]

/-- A key whose pairs are filtered reads as the default, or as a value that passes. -/
theorem sget_filter_pairs_cases {α : Type} (d : Nat → α) (f : Nat × α → Bool) (k : Nat) (m : Sparse α) :
    sget d (m.filter f) k = d k ∨ f (k, sget d (m.filter f) k) = true := by
  induction m with
  | nil => exact .inl rfl
  | cons e m ih =>
    obtain ⟨j, v⟩ := e
    rw [List.filter_cons]
    split
    · rename_i hf
      by_cases hj : j = k
      · subst hj
        right
        rwa [sget, if_pos rfl]
      · rwa [sget, if_neg hj]
    · exact ih

theorem invalPages_validMask (s : State) (a n p : Nat) : (s.invalPages a n).validMask p = if wholePage a n p then 0 else s.validMask p := by
  cases hw : wholePage a n p with
  | true =>
    have hstate : (s.invalPages a n).pageState p = 0 ∨ (s.invalPages a n).pageState p = 3 := by
      refine (sget_filter_pairs_cases (fun _ => 0) (fun e => !(wholePage a n e.1 && e.2 != 3)) p s.dram.state).imp_right fun h => ?_
      rw [hw, Bool.true_and, bne, Bool.not_not, beq_iff_eq] at h
      exact h
    rw [if_pos rfl]
    rcases hstate with h | h <;> rw [State.validMask, h] <;> rfl
  | false =>
    have hstate : (s.invalPages a n).pageState p = s.pageState p :=
      sget_filter_pairs_keep _ _ (fun v => by simp [hw]) s.dram.state
    have hmeta : (s.invalPages a n).metaOf p = s.metaOf p := by
      simp only [State.metaOf, hstate]
      rfl
    exact validMask_of_metaOf hmeta

section Aligned
variable {s : State} {a n : Nat} (hmerge : s.dram.merge = []) (ha : a % 64 = 0) (hn : n % 64 = 0) (hpos : 0 < n) (r : Nat)
include hmerge ha hn hpos

/-- With no entry and no lock, a range takes its whole pages in the table and the sectors of the pages at its ends. -/
theorem invalRange_eq : s.invalRange r a n [] =
    forEach (endPages a n) (fun p s => s.invalSectors p (coverMask p a n)) (s.invalPages a n) := by
  rw [State.invalRange, if_neg (by omega), if_neg (by omega)]
  simp only [hmerge, List.map_nil, List.filter_nil, forEach_nil, List.contains_nil, Bool.not_false, Bool.and_true, List.filter_true]
  rfl

variable (hbase : dramBase ≤ a)
include hbase

theorem invalRange_vitals : (s.invalRange r a n []).vitals = s.vitals := by
  rw [invalRange_eq hmerge ha hn hpos]
  exact (forEach_invalSectors (fun p => coverMask p a n) (endPages_nodup hbase) (s := s.invalPages a n) hmerge).1

theorem invalRange_validMask (p : Nat) :
    (s.invalRange r a n []).validMask p = s.validMask p - (s.validMask p &&& coverMask p a n) := by
  rw [invalRange_eq hmerge ha hn hpos,
    (forEach_invalSectors (fun p => coverMask p a n) (endPages_nodup hbase) (s := s.invalPages a n) hmerge).2, invalPages_validMask]
  by_cases hend : p ∈ endPages a n
  · rw [if_pos hend, not_wholePage_of_end hbase hend]
    rfl
  · rw [if_neg hend]
    cases hw : wholePage a n p with
    | true =>
      obtain ⟨hlo, hhi⟩ := (wholePage_iff hbase p).1 hw
      rw [coverMask_all hlo hhi, Nat.and_two_pow_sub_one_of_lt_two_pow (n := 16) (validMask_lt s p), Nat.sub_self]
      rfl
    | false =>
      rw [coverMask_none (outside_of_not_end hbase hpos hw hend), Nat.and_zero]
      rfl

end Aligned

/-! The commands. -/

theorem drained_of_not_draining {s : State} (h : s.dram.draining = false) : s.drained = s := by
  rw [State.drained, h]
  rfl

/-- The last drain of a reset (R255). -/
theorem drained_of_empty {s : State} (h : s.dram.draining = true) (hm : s.dram.merge = []) :
    s.drained = s.withDram fun d => { d with draining := false, selfRefresh := true } := by
  rw [State.drained, h, hm]
  rfl

theorem drained_keeps {β : Type} (v : State → β)
    (hv : ∀ s : State, v (s.withDram fun d => { d with draining := false, selfRefresh := true }) = v s) (s : State) : v s.drained = v s := by
  rw [State.drained, State.when]
  split
  · exact hv s
  · rfl

/-- A drain whose page has no entry. -/
theorem mergeDrain_of_none {s : State} {p : Nat} (h : s.mergeOf p = none) (b : Bool) :
    exec (.mergeDrain p ⟨[], b⟩) s = done (s.quiet.when b fun s => s.dropCached p).drained := by
  have hm : (s.quiet.when b fun s => s.dropCached p).mergeOf p = none := by
    cases b <;> exact h
  have e : exec (.mergeDrain p ⟨[], b⟩) s = execMergeDrain p ⟨[], b⟩ s := rfl
  have hup : s.quiet.upset [] = s.quiet := rfl
  simp only [e, execMergeDrain, hup, hm]

theorem quiet_sound {s : State} {p : Nat} (h : s.sound p) : s.quiet.sound p := sound_of_array (quiet_array s) h

/-- A drain of a page without errors and lock. -/
theorem mergeDrain_of_sound {s : State} {p : Nat} {m : Merge} (hm : s.mergeOf p = some m) (hl : lockOf s.dram p = none) (h : s.sound p) :
    exec (.mergeDrain p ⟨[], false⟩) s = done (s.quiet.drainPage p 10).drained := by
  have e : exec (.mergeDrain p ⟨[], false⟩) s = execMergeDrain p ⟨[], false⟩ s := rfl
  have hup : (s.quiet.upset []).when false (fun s => s.dropCached p) = s.quiet := rfl
  have hm' : s.quiet.mergeOf p = some m := hm
  have hl' : lockOf s.quiet.dram p = none := hl
  simp only [e, execMergeDrain, hup, hm', hl', drainReads_of_sound (quiet_sound h), Bool.false_eq_true, if_false]

theorem reconstructDone_of_none {s : State} {p : Nat} (h : ∀ l ∈ s.dram.locks, l.page = p → l.copy = true) :
    exec (.reconstructDone p) s = done s.quiet := by
  have e : exec (.reconstructDone p) s = execReconstructDone p s := rfl
  have hl : s.quiet.dram.locks.find? (fun l => l.page == p && !l.copy) = none :=
    List.find?_eq_none.2 fun l hl => by
      have := h l hl
      simpa using this
  simp only [e, execReconstructDone, hl]

/-- A reconstruction that holds the only lock, at which nothing waits, and what follows it. -/
theorem reconstructDone_of_lock {s : State} {p : Nat} {l : PageLock} (hl : s.dram.locks = [l]) (hp : l.page = p) (hc : l.copy = false)
    (hw : l.waits = []) : ∃ u : State, exec (.reconstructDone p) s = .next u.settle ∧ (s.quiet.reconstruct p l.req).1.sparesOnly u := by
  have e : exec (.reconstructDone p) s = execReconstructDone p s := rfl
  have hfind : s.quiet.dram.locks.find? (fun l => l.page == p && !l.copy) = some l := by
    rw [show s.quiet.dram.locks = [l] from hl]
    simp [hp, hc]
  refine ⟨(s.quiet.reconDone l).drained, ?_, ?_⟩
  · simp only [e, execReconstructDone, hfind]
    rfl
  · rw [State.reconDone, release_of_no_waits _ hw, hp]
    exact sparesOnly_trans (sparesOnly_withDram _ rfl) (drained_sparesOnly _)

theorem dramInvalidate_misaligned {s : State} {r : Fin 11} {a n : Nat} (hin : inDram a n = true) (hd : s.dram.draining = false)
    (h : a % 64 ≠ 0 ∨ n % 64 ≠ 0) :
    exec (.dramInvalidate r a n) s = done (s.quiet.cause pgDrc (drcCause 4 r (pageNum a)) (pageAddr (pageNum a))) := by
  have e : exec (.dramInvalidate r a n) s = _ := (if_pos hin).trans (if_neg (ne_true_of_eq_false hd))
  rw [e, if_neg (by omega), State.invalRange, if_pos h]

theorem dramInvalidate_unlocked {s : State} {r : Fin 11} {a n : Nat} (hin : inDram a n = true) (hd : s.dram.draining = false)
    (ha : a % 64 = 0) (hn : n % 64 = 0) (hl : s.dram.locks = []) : exec (.dramInvalidate r a n) s = done (s.quiet.invalRange r a n []) := by
  have e : exec (.dramInvalidate r a n) s = _ := (if_pos hin).trans ((if_neg (ne_true_of_eq_false hd)).trans (if_pos ⟨ha, hn⟩))
  have hl' : s.quiet.dram.locks = [] := hl
  simp only [e, hl', List.map_nil, List.filter_nil, List.dedup_nil, forEach_nil]

theorem dropCached_vitals (s : State) (p : Nat) : (s.dropCached p).vitals = s.vitals := (rfl)

/-- Settles O36: a drain stores what `drainByte` says, a reconstruction ends as `State.sparesOnly` allows, and a range goes by
`invalRange_validMask`. -/
theorem drainsAndErrors : Obligations.DrainsAndErrors := by
  unfold Obligations.DrainsAndErrors
  refine ⟨?_, ?_, ?_, ?_, ?_, ?_, ?_, ?_, ?_, ?_⟩
  · intro s p hs hm hd
    have hd' : (s.quiet.dropCached p).dram.draining = false := hd
    exact ⟨(mergeDrain_of_none hm false).trans (done_eq (drained_of_not_draining hd) (settled_quiet hs)),
      (mergeDrain_of_none hm true).trans (done_eq (drained_of_not_draining hd') (settled_of_vitals hs (dropCached_vitals s.quiet p)))⟩
  · intro s p hs hm hd
    exact (mergeDrain_of_none (mergeOf_of_empty hm p) false).trans (done_eq (drained_of_empty (s := s.quiet) hd hm) (settled_quiet hs))
  · intro s p
    have hcache := sget_sset (fun _ => []) s.dram.cache (chanOf p) (v :=
      (sget (fun _ => []) s.dram.cache (chanOf p)).filter fun e => e.1 != p)
    refine ⟨?_, fun q hq => ?_⟩ <;> rw [State.cachedChecks, State.dropCached, withDram_dram, hcache]
    · rw [if_pos rfl, List.find?_eq_none.2 fun e he => by simpa using (List.mem_filter.1 he).2, Option.map_none]
    · rw [State.cachedChecks]
      split
      · rename_i hchan
        rw [hchan, List.find?_filter]
        congr 3
        funext e
        by_cases he : e.1 = q <;> simp [he, hq]
      · rfl
  · intro s p m hm hl h3 hlanes hflips
    have hsound := quiet_sound (sound_of_flips hlanes hflips)
    have hm' : s.quiet.mergeOf p = some m := hm
    have h3' : s.quiet.pageState p ≠ 3 := h3
    have hbyte : ∀ x, (s.quiet.drainPage p 10).drained.byte x =
        if pageAddr p ≤ x ∧ x < pageAddr p + 1024 then (s.drainByte m (x - pageAddr p)).getD (s.byte x) else s.byte x :=
      fun x => (drained_keeps (·.byte x) (fun _ => rfl) _).trans (drainPage_byte hm' h3' hsound 10 x)
    have hoff : ∀ o, o < 1024 → (s.quiet.drainPage p 10).drained.byte (pageAddr p + o) = (s.drainByte m o).getD (s.byte (pageAddr p + o)) :=
      fun o ho => by rw [hbyte, if_pos (by omega), Nat.add_sub_cancel_left]
    refine ⟨_, mergeDrain_of_sound hm hl (sound_of_flips hlanes hflips), ?_, ?_, fun o b ho hb => ?_, fun o ho hb hv => ?_, fun x hx => ?_⟩
    · exact (drained_keeps (·.mergeOf p) (fun _ => rfl) _).trans (drainPage_mergeOf hm' h3' hsound 10)
    · exact (drained_keeps (·.validMask p) (fun _ => rfl) _).trans (drainPage_validMask hm' h3' hsound 10)
    · rw [hoff o ho, State.drainByte, hb]
      rfl
    · have hp := mergeOf_page hm
      subst hp
      have h0 : s.pageState m.page ≠ 0 := fun h0 => by simp [State.validMask, h0] at hv
      simp [hoff o ho, State.drainByte, hb, hv, h0]
    · rw [hbyte, if_neg hx]
  · exact fun s p hs h => (reconstructDone_of_none h).trans (done_of_settled (settled_quiet hs))
  · intro s p l hl hp hc hw hr hm
    obtain ⟨u, hu, hspare⟩ := reconstructDone_of_lock hl hp hc hw
    obtain ⟨n, must, hrec⟩ := reconstruct_of_recovers (s := s.quiet) hm hr l.req
    rw [hrec] at hspare
    have hend := sparesOnly_trans (rowError_sparesOnly _ p l.req n must) hspare
    refine ⟨u, hu, fun w hlt => ?_, sameMemory_of_mem (hend.mem.trans ((clearFlips_mem ..).trans (reconRead_mem s.quiet p)))⟩
    rw [flip_of_flips hend.flips, clearFlips_flip _ _ _ _ hlt, if_pos ⟨rfl, List.mem_range.2 hlt⟩]
  · intro s p l hl hp hc hw hr hm
    obtain ⟨u, hu, hspare⟩ := reconstructDone_of_lock hl hp hc hw
    rw [reconstruct_of_lost (s := s.quiet) hm hr, uncorrectable_eq] at hspare
    have hend := sparesOnly_trans (rowError_sparesOnly _ p l.req 0 true) hspare
    refine ⟨u, hu, ?_, hend.event 1 (lost_event ..), hend.due _ (lost_due ..), ?_⟩
    · rcases hend.mask p with h | h <;> rw [h]
      · rw [validMask_of_array (lost_array ..), loseSectors_validMask]
        exact sub_and_and ..
      · exact Nat.zero_and _
    · have hkeep := keepErrors_sameMemoryBut (s.quiet.reconRead p) p
      exact fun x hx => (byte_of_mem (hend.mem.trans (lost_mem ..)) x).trans ((hkeep x hx).trans (byte_of_mem (reconRead_mem s.quiet p) x))
  · exact fun s r a n hs hin hd h => (dramInvalidate_misaligned hin hd h).trans (done_of_settled (settled_cause (settled_quiet hs) ..))
  · intro s r a n hs hin ha hn hpos hd hl hm
    have hbase := dramBase_le_of_inDram hin
    have hv : (s.quiet.invalRange r a n []).vitals = s.vitals := invalRange_vitals (s := s.quiet) hm ha hn hpos r hbase
    have hmask := invalRange_validMask (s := s.quiet) hm ha hn hpos r hbase
    refine ⟨_, (dramInvalidate_unlocked hin hd ha hn hl).trans (done_of_vitals hs hv), sameMemory_of_vitals hv, fun p hlo hhi _ => ?_,
      fun p _ _ => hmask p⟩
    rw [hmask, coverMask_all hlo hhi, Nat.and_two_pow_sub_one_of_lt_two_pow (n := 16) (validMask_lt _ p), Nat.sub_self]
  · exact fun s hs => done_of_settled (settled_of_vitals hs rfl)

end Sys2Proof.Machine
end

section
/-! SUPPORT. The scrubber, repairs, burns and imports (R260 to R267): a visit of a page without errors, a row's repair, and the end of a burn or
of an import; and O37. -/

namespace Sys2Proof.Machine

open Sys2Proof

/-! The scrubber (R260). -/

/-- SCRUB_PASS: the pass has visited its last page. -/
def State.scrubPassDone (s : State) : State := ((s.withDram fun d => { d with scrubPage := 0 }).bump pgDrc 0x104 24 8 1).event pgDrc 5

/-- The next page of a pass taken, none skipped. -/
def State.scrubbing (s : State) (n : Nat) : State := s.quiet.withDram fun d => { d with scrubPage := n, scrubSkip := [] }

theorem scrubVisit_off {s : State} (h : bitAt (s.reg pgDrc 8) 0 = false ∨ s.dram.selfRefresh = true) : exec (.scrubVisit []) s = done s.quiet := by
  refine if_neg ?_
  change ¬ (bitAt (s.reg pgDrc 8) 0 && !s.dram.selfRefresh) = true
  rcases h with h | h <;> simp [h]

section Visit
variable {s : State} (hon : bitAt (s.reg pgDrc 8) 0 = true) (href : s.dram.selfRefresh = false) (hskip : s.dram.scrubSkip = [])
include hon href hskip

/-- With no page left, the pass ends. -/
theorem scrubVisit_last (hlist : s.dram.state = []) (hpos : s.dram.scrubPage ≠ 0) :
    exec (.scrubVisit []) s = done (s.scrubbing s.dram.scrubPage).scrubPassDone := by
  have e : exec (.scrubVisit []) s = execScrubVisit [] s := rfl
  have hup : s.quiet.upset [] = s.quiet := rfl
  have hon' : bitAt (s.quiet.reg pgDrc 8) 0 = true := hon
  have href' : s.quiet.dram.selfRefresh = false := href
  have hskip' : s.quiet.dram.scrubSkip = [] := hskip
  have hpos' : s.quiet.dram.scrubPage ≠ 0 := hpos
  have hahead : ∀ t : State, t.dram.state = [] → ∀ n, t.scrubList n = [] := fun t ht n => by
    rw [State.scrubList, ht]
    rfl
  simp only [e, execScrubVisit, hup, hon', href', hskip', hahead s.quiet hlist, hpos', Bool.not_false, Bool.and_self, if_true, List.filter_nil,
    List.find?_nil, List.takeWhile_nil, List.length_nil, List.drop_nil, List.append_nil, List.getLast?_nil, Option.map_none, Option.getD_none,
    List.isEmpty_nil, decide_false, Bool.and_false, Bool.false_eq_true, if_false]
  refine congrArg done (if_pos ?_)
  refine Bool.and_eq_true_iff.2 ⟨List.isEmpty_iff.2 (hahead _ ?_ _), rfl⟩
  exact hlist

/-- The first page of a pass that is not busy is visited; where another is left, the pass goes on. -/
theorem scrubVisit_page {p : Nat} {l : List Nat} (hlist : s.scrubList s.dram.scrubPage = p :: l) (hbusy : s.scrubBusy p = false)
    (hmore : ((s.scrubbing (p + 1)).scrubPageAt p).scrubList ((s.scrubbing (p + 1)).scrubPageAt p).dram.scrubPage ≠ []) :
    exec (.scrubVisit []) s = done ((s.scrubbing (p + 1)).scrubPageAt p) := by
  have e : exec (.scrubVisit []) s = execScrubVisit [] s := rfl
  have hup : s.quiet.upset [] = s.quiet := rfl
  have hon' : bitAt (s.quiet.reg pgDrc 8) 0 = true := hon
  have href' : s.quiet.dram.selfRefresh = false := href
  have hskip' : s.quiet.dram.scrubSkip = [] := hskip
  have hlist' : s.quiet.scrubList s.quiet.dram.scrubPage = p :: l := hlist
  have hbusy' : s.quiet.scrubBusy p = false := hbusy
  simp only [e, execScrubVisit, hup, hon', href', hskip', hlist', hbusy', Bool.not_false, Bool.and_self, if_true, List.filter_nil,
    List.find?_nil, List.takeWhile_cons, Bool.false_eq_true, if_false, List.length_nil, List.drop_zero, List.append_nil,
    ← State.scrubbing.eq_def]
  refine congrArg done (if_neg ?_)
  rw [Bool.and_eq_true, List.isEmpty_iff]
  exact fun h => hmore h.1

end Visit

theorem syndromesZero_of_sound {s : State} {p : Nat} (h : s.sound p) : s.syndromesZero p = true := by
  have hall : ((List.range 144).map fun w => wordLeft (s.seen p w)).all (· == 0) = true := by
    simp only [List.all_map, List.all_eq_true, List.mem_range, Function.comp_apply]
    intro w hw
    rw [h w (by omega), wordLeft_zero]
    rfl
  simp only [State.syndromesZero, hall, Bool.true_or]

/-- A visit of a page without errors reads it and writes nothing that differs. -/
theorem scrubPageAt_of_sound {s : State} {p : Nat} (h : s.sound p) :
    s.scrubPageAt p = ((s.setRfld pgDrc 0x104 0 23 p).cleanRead p 11).clearFlips p (List.range 146) := by
  have h' : (s.setRfld pgDrc 0x104 0 23 p).sound p := sound_of_array (setRfld_array ..) h
  have hflag : (List.range 144).any (fun w => wordClass ((s.setRfld pgDrc 0x104 0 23 p).seen p w) == 2) = false :=
    List.any_eq_false.2 fun w hw => by
      have hlt := List.mem_range.1 hw
      simp [h' w (by omega), wordClass_zero]
  rw [State.scrubPageAt]
  simp only [hflag, syndromesZero_of_sound h', metaLost_of_sound h', correct_of_none (corrected_of_sound h' fun w hw => List.mem_range.1 hw),
    Bool.not_true, Bool.or_self, Bool.false_eq_true, if_false]

/-- The view of the controller's state that the errors of stored words do not show. -/
theorem scrubPageAt_keeps {β : Type} (v : Dram → β) (hv : ∀ d f, v { d with flips := f } = v d) {s : State} {p : Nat} (h : s.sound p) :
    v (s.scrubPageAt p).dram = v s.dram := by
  rw [scrubPageAt_of_sound h, State.clearFlips, withDram_dram, hv, cleanRead_dram]
  rfl

theorem scrubPageAt_mem {s : State} {p : Nat} (h : s.sound p) : (s.scrubPageAt p).mem = s.mem := by
  rw [scrubPageAt_of_sound h, clearFlips_mem, cleanRead_mem]
  rfl

/-! Repairs (R261 to R265). -/

section Repair
variable {s : State} {p : Nat} (hfree : (s.dram.copies.map (·.1)).contains p = false) (h3 : s.pageState p ≠ 3) (r : Nat)
include hfree h3

/-- A row that is not on its way and not retired takes a spare, or is retired where its bank has none. -/
theorem spareRow_eq : s.spareRow p r =
    if s.sparesUsed (bankKey p) < 32 then
      s.withDram fun d => { d with copies := d.copies ++ [(p, r)], locks := d.locks ++ [⟨p, true, r, s.clk.up, []⟩] }
    else s.retire p r := by
  rw [State.spareRow, if_neg]
  rw [hfree]
  simpa using h3

end Repair

theorem retire_event (s : State) (p r : Nat) : bitAt ((s.retire p r).reg pgDrc 0x10) 3 = true := by
  rw [retire_reg]
  exact fail_reg_event _ _ _ _ _ (by decide)

theorem retire_req (s : State) (p : Nat) {r : Nat} (hr : r < 16) : (s.retire p r).rfld pgDrc 0x24 8 4 = r := by
  rw [State.rfld, retire_reg, State.retireEvent, fail_reg_cause, drcCause_req _ _ _ (by decide) hr]

/-- A copied row's repair: soft from now on, its errors forgotten, counted, logged and raised (R261, R262). -/
def State.spared (s : State) (p : Nat) : State :=
  ((((s.withDram fun d => { d with copies := d.copies.filter fun c => c.1 != p, soft := d.soft ++ [p]
                                   rowErr := sset (fun _ => []) d.rowErr (chanOf p)
                                     ((sget (fun _ => []) d.rowErr (chanOf p)).filter fun e => e.1 != p) }).bump
    (chReg (chanOf p)).1 ((chReg (chanOf p)).2 + 4) 8 8 1).log 6 0x12 (logBody p (pageAddr p) 0)).event pgDrc 2)

/-- A copy of an INVALID page without an entry and lock. -/
theorem copyDone_of_invalid {s : State} {p : Nat} (hm : s.mergeOf p = none) (h0 : s.pageState p = 0) (hl : s.dram.locks = []) :
    s.copyDone p = s.spared p := by
  have hlocks : (s.spared p).dram.locks = [] := by
    rw [State.spared, event_dram, log_dram, bump_dram, withDram_dram]
    exact hl
  have hs : (s.pageState p == 0) = true := by rw [h0]; rfl
  rw [State.copyDone]
  simp only [drainPage_of_none hm, hs, if_true, ← State.spared.eq_def, hlocks, List.find?_nil]

theorem spared_dram (s : State) (p : Nat) : (s.spared p).dram =
    { s.dram with copies := s.dram.copies.filter fun c => c.1 != p, soft := s.dram.soft ++ [p]
                  rowErr := sset (fun _ => []) s.dram.rowErr (chanOf p)
                    ((sget (fun _ => []) s.dram.rowErr (chanOf p)).filter fun e => e.1 != p) } := by
  rw [State.spared, event_dram, log_dram, bump_dram, withDram_dram]

theorem spared_mem (s : State) (p : Nat) : (s.spared p).mem = s.mem := by
  rw [State.spared, event_mem, log_mem, bump_mem, withDram_mem]

theorem spared_event (s : State) (p : Nat) : bitAt ((s.spared p).reg pgDrc 0x10) 2 = true := event_reg_bit _ _ _ (by decide)

/-! Burns and imports (R264, R267). -/

section Burn
variable {s : State} {n : Fin 32} {w : Word} (hw : bitAt w 0 = true) (howned : s.owned = true) (hpeer : (s.sess n).peer = false)
  (hun : (s.sess n).unowned = false) (hburn : s.dram.burning = none)
include hw howned hpeer hun hburn

/-- A burn that may be asked for is begun in IDLE or STANDBY with fuses left, and refused elsewhere. -/
theorem repairBurn_eq : s.repairBurn n w =
    if (s.pwr.state = .idle ∨ s.pwr.state = .standby) ∧ 0 < s.fuse.fieldLeft then
      (s.quiet.withDram fun d => { d with burning := some s.clk.up }).wake
    else s.quiet.cause pgDrc (drcCause 5 0 0) 0 := by
  have hmay : (bitAt w 0 && s.quiet.owned && !(s.quiet.sess n).peer && !(s.quiet.sess n).unowned) = true := by
    rw [hw, show s.quiet.owned = true from howned, show (s.quiet.sess n).peer = false from hpeer,
      show (s.quiet.sess n).unowned = false from hun]
    rfl
  have hnone : ¬ s.quiet.dram.burning.isSome = true := by
    rw [show s.quiet.dram.burning = none from hburn]
    exact Bool.false_ne_true
  rw [State.repairBurn]
  exact (if_pos hmay).trans (if_neg hnone)

end Burn

/-- A device in IDLE without a transition has nothing to wake from. -/
theorem wake_of_idle {s : State} (h : s.pwr.state = .idle) (ht : s.pwr.trans = none) : s.wake = s := by
  rw [State.wake, h, ht]

theorem burnRepairs_mem (s : State) (n : Nat) : (s.burnRepairs n).mem = s.mem := by
  rw [State.burnRepairs]
  exact log_mem ..

/-- A burn ended (R264). -/
def State.burned (s : State) : State :=
  ((s.quiet.burnRepairs (s.dram.soft.length + s.flt.standing.length)).withDram fun d => { d with burning := none }).event pgDrc 6

theorem burnDone_of_burning {s : State} (h : s.dram.burning.isSome = true) : exec .burnDone s = done s.burned := if_pos h

theorem importGo_importing {s : State} {w : Word} (hw : bitAt w 0 = true) (h : s.dram.importing = true) :
    exec (.importGo w) s = done (s.quiet.cause pgDrc (drcCause 6 12 0) 0) := by
  refine congrArg done ?_
  rw [State.importGo]
  exact (if_pos hw).trans (if_pos h)

/-- An import of a list without an entry has only begun. -/
def State.importBegun (s : State) : State := (s.withDram fun d => { d with importing := true }).setRfld pgDrc 0x140 16 8 0

/-- The address of an import's list. -/
def State.importList (s : State) : Nat := (s.reg pgDrc 0x138).toNat + 2 ^ 32 * s.rfld pgDrc 0x13C 0 16

theorem importGo_of_empty {s : State} {w : Word} {r : State × RangeRead} (hw : bitAt w 0 = true) (h : s.dram.importing = false)
    (hlo : dramBase ≤ s.importList) (hhi : s.importList + 2048 ≤ dramEnd) (hread : s.quiet.dramRead 12 s.importList 2048 = r)
    (hlist : importList 256 r.2.data = []) : exec (.importGo w) s = done r.1.importBegun := by
  have hquiet : (s.quiet.reg pgDrc 0x138).toNat + 2 ^ 32 * s.quiet.rfld pgDrc 0x13C 0 16 = s.importList := rfl
  have hnot : s.quiet.dram.importing = false := h
  have hlen : min 2048 (dramEnd - s.importList) = 2048 := by omega
  have hin : dramBase ≤ s.importList ∧ s.importList < dramEnd := ⟨hlo, by omega⟩
  refine congrArg done ?_
  rw [State.importGo, if_pos hw, hnot, hquiet]
  simp only [Bool.false_eq_true, if_false, hin, and_self, if_true, hlen, hread, hlist, List.filter_nil, List.length_nil, Nat.min_zero,
    forEach_nil]
  rfl

theorem importDone_of_copied {s : State} (h : s.dram.importing = true) (hc : (s.dram.copies.any fun c => c.2 == 12) = false) :
    exec .importDone s = done ((s.quiet.withDram fun d => { d with importing := false }).event pgDrc 7) := by
  refine if_pos ?_
  rw [show s.quiet.dram.importing = true from h, show (s.quiet.dram.copies.any fun c => c.2 == 12) = false from hc]
  rfl

/-- Settles O37: visits by `scrubVisit_last` and `scrubVisit_page`, repairs by `spareRow_eq` and `copyDone_of_invalid`, burns by
`repairBurn_eq`, and imports by their three lemmas. -/
theorem scrubsAndRepairs : Obligations.ScrubsAndRepairs := by
  unfold Obligations.ScrubsAndRepairs
  refine ⟨?_, ?_, ?_, ?_, ?_, ?_, ?_, ?_, ?_, ?_, ?_, ?_⟩
  · exact fun s hs h => (scrubVisit_off h).trans (done_of_settled (settled_quiet hs))
  · intro s hs hon href hlist hskip hpos
    have hv : (s.scrubbing s.dram.scrubPage).scrubPassDone.vitals = s.vitals := by
      rw [State.scrubPassDone, event_vitals, bump_vitals]
      rfl
    refine ⟨_, (scrubVisit_last hon href hskip hlist hpos).trans (done_of_vitals hs hv), ?_, event_reg_bit _ _ _ (by decide), ?_,
      sameMemory_of_vitals hv⟩
    · rw [State.scrubPassDone, event_dram, bump_dram, withDram_dram]
    · rw [State.rfld, State.scrubPassDone, event_reg_ne _ _ radr_ne, State.bump, setRfld_reg_same, fld_putFld_same _ _ _ _ (by decide),
        Nat.mod_eq_of_lt (satAdd_lt ..)]
      rfl
  · intro s p l hon href hskip hlist hbusy hmore hlanes hflips
    have hsound : (s.scrubbing (p + 1)).sound p := sound_of_array (s := s) rfl (sound_of_flips hlanes hflips)
    have hpage : ((s.scrubbing (p + 1)).scrubPageAt p).dram.scrubPage = p + 1 := scrubPageAt_keeps (·.scrubPage) (fun _ _ => rfl) hsound
    have hstate : ((s.scrubbing (p + 1)).scrubPageAt p).dram.state = s.dram.state := scrubPageAt_keeps (·.state) (fun _ _ => rfl) hsound
    refine ⟨_, scrubVisit_page hon href hskip hlist hbusy ?_, hpage, scrubPageAt_keeps (·.locks) (fun _ _ => rfl) hsound,
      sameMemory_of_mem (scrubPageAt_mem hsound)⟩
    rw [hpage, State.scrubList, hstate]
    exact hmore
  · intro s w hs hfree h3 hused
    refine done_eq (s := s.repairAdd w) ?_ (settled_of_vitals hs rfl)
    exact (spareRow_eq (s := s.quiet) hfree h3 12).trans (if_pos hused)
  · intro s w hfree h3 hused
    have hretire : s.repairAdd w = s.quiet.retire (fld w 0 23) 12 :=
      (spareRow_eq (s := s.quiet) hfree h3 12).trans (if_neg (Nat.not_lt.2 hused))
    refine ⟨_, rfl, ?_, ?_, ?_, ?_, ?_⟩ <;> rw [hretire]
    · rw [retire_pageState, if_pos rfl]
    · exact retire_event ..
    · exact retire_req _ _ (by decide)
    · exact retire_flt_due ..
    · exact sameMemory_of_mem (retire_mem ..)
  · intro s p k hcopies hl h0 hm
    have hruns : copyRuns s.quiet.dram p = true := by
      rw [copyRuns, show s.quiet.dram.copies = [(p, k)] from hcopies]
      simp
    have hend : s.quiet.copyDone p = s.quiet.spared p := copyDone_of_invalid hm h0 hl
    have hdram := spared_dram s.quiet p
    refine ⟨(s.quiet.copyDone p).drained, if_pos hruns, ?_⟩
    rw [hend]
    refine ⟨?_, ?_, ?_, ?_, ?_⟩
    · rw [drained_keeps (·.dram.soft) fun _ => rfl, hdram]
      rfl
    · rw [drained_keeps (·.dram.copies) fun _ => rfl, hdram, show s.quiet.dram.copies = [(p, k)] from hcopies]
      simp
    · rw [drained_keeps (·.pageState p) fun _ => rfl, State.pageState, hdram]
      exact h0
    · rw [drained_keeps (·.reg pgDrc 0x10) fun _ => rfl]
      exact spared_event ..
    · exact sameMemory_of_mem ((drained_keeps State.mem (fun _ => rfl) _).trans (spared_mem ..))
  · intro s n w hs hw howned hpeer hun hburn hidle htrans hleft
    refine done_eq (s := s.repairBurn n w) ?_ (settled_of_vitals hs rfl)
    rw [repairBurn_eq hw howned hpeer hun hburn, if_pos ⟨.inl hidle, hleft⟩]
    exact wake_of_idle hidle htrans
  · intro s n w hs hw howned hpeer hun hburn hactive
    refine done_eq (s := s.repairBurn n w) ?_ (settled_cause (settled_quiet hs) ..)
    rw [repairBurn_eq hw howned hpeer hun hburn, if_neg (by simp [hactive])]
    rfl
  · intro s hburn
    refine ⟨s.burned, burnDone_of_burning hburn, ?_, event_reg_bit _ _ _ (by decide), sameMemory_of_mem ?_⟩
    · rw [State.burned, event_dram, withDram_dram]
    · rw [State.burned, event_mem, withDram_mem, burnRepairs_mem]
      rfl
  · exact fun s w hs hw h => (importGo_importing hw h).trans (done_of_settled (settled_cause (settled_quiet hs) ..))
  · intro s w r hw h ⟨hlo, hhi, hread⟩ hlist
    refine ⟨r.1.importBegun, importGo_of_empty hw h hlo hhi hread hlist, rfl, ?_⟩
    rw [State.rfld, State.importBegun, setRfld_reg_same, fld_putFld_same _ _ _ _ (by decide)]
    rfl
  · intro s hs h hc
    have hv : ((s.quiet.withDram fun d => { d with importing := false }).event pgDrc 7).vitals = s.vitals := by
      rw [event_vitals]
      rfl
    refine ⟨_, (importDone_of_copied h hc).trans (done_of_vitals hs hv), ?_, event_reg_bit _ _ _ (by decide), sameMemory_of_vitals hv⟩
    rw [event_dram, withDram_dram]

end Sys2Proof.Machine
end

section
/-! SUPPORT. The state after reset (R246, R284, R382), and warm resets (R255, R351, R359 to R361, R373, R385): what is carried over a reset, what
starts anew, and the supervisor's own restart; and O59 and O4. -/

namespace Sys2Proof.Machine

open Sys2Proof

/-! The state after reset. -/

theorem reset_exhausted (c : Nat) : State.reset.exhausted c = false := rfl

theorem reset_eng (e : Nat) : State.reset.eng e = Engine.init := rfl

theorem reset_tile (t : Nat) : State.reset.tile t = Tile.init := rfl

/-- At reset no unit is fenced or faulted, no page retired and no channel exhausted. -/
theorem reset_replaceDue : State.reset.replaceDue = false := by
  have heng : (List.range 6).any (fun e => (State.reset.eng e).fenced || (State.reset.tile e).faulted) = false :=
    List.any_eq_false.2 fun e _ => by
      rw [reset_eng, reset_tile]
      exact Bool.false_ne_true
  have hlanes : (List.range 128).any (fun c => State.reset.exhausted c && State.reset.hasFailedLane c) = false :=
    List.any_eq_false.2 fun c _ => by
      rw [reset_exhausted, Bool.false_and]
      exact Bool.false_ne_true
  rw [State.replaceDue, heng, hlanes]
  rfl

theorem reset_settled : State.reset.settled := ⟨rfl, reset_replaceDue.symm⟩

theorem reset_queue (q : Nat) : State.reset.queue q = Queue.init := rfl

theorem ctxWord_init : ∀ i < 16, ctxWord Queue.init.ctx i = if i = 2 then 0xFF000000 else 0 := by decide

/-- Settles O59: every numbered object at reset is its own initial one. -/
theorem resetState : Obligations.ResetState := by
  unfold Obligations.ResetState
  exact ⟨reset_settled, rfl, rfl, reset_memoryWf, fun _ => rfl, fun _ => rfl, fun q i hi => by rw [reset_queue, ctxWord_init i hi],
    rfl, fun _ => rfl, fun _ => rfl⟩

/-! What a warm reset carries over. -/

/-- The queue of commands, the clocks, the pins and the merge buffers. -/
def State.carried (s : State) : List Instr × Clock × Pins × List Merge := (s.pending, s.clk, s.pins, s.dram.merge)

theorem log_carried (s : State) (k c : Nat) (l : List Byte) : (s.log k c l).carried = s.carried := by simp [State.carried]

theorem stopVisits_carried (s : State) : s.stopVisits.carried = s.carried := by
  refine forEach_keeps State.carried _ _ (fun e s => ?_) s
  cases e.2 with
  | none => rfl
  | some v => rfl

theorem burnRepairs_carried (s : State) (n : Nat) : (s.burnRepairs n).carried = s.carried := by
  rw [State.burnRepairs]
  exact log_carried ..

theorem stopBurns_carried (s : State) (b : Bool) : (s.stopBurns b).carried = s.carried := by
  cases hb : s.dram.burning with
  | none =>
    simp only [State.stopBurns, hb]
    split <;> rfl
  | some t =>
    simp only [State.stopBurns, hb]
    split <;> exact burnRepairs_carried s (s.bitsSince t b)

theorem crash_carried (s : State) (c u : Nat) : (s.crash c u).carried = s.carried := by
  rw [State.crash]
  exact log_carried ..

theorem unlockAll_of_no_locks {s : State} (h : s.dram.locks = []) : s.unlockAll = s := by rw [State.unlockAll, h]; rfl

/-- The state that a warm reset starts from: locks, visits and burns ended, and the reset on record. -/
def State.halted (s : State) (cause cls unit : Nat) : State :=
  (if 3 ≤ cause then ((s.unlockAll.stopVisits).stopBurns true).crash cls unit else (s.unlockAll.stopVisits).stopBurns true).log 9 cls
    (logBody cause 0 0)

theorem halted_carried (s : State) (cause cls unit : Nat) : (s.halted cause cls unit).carried = s.unlockAll.carried := by
  rw [State.halted, log_carried]
  split
  · rw [crash_carried, stopBurns_carried, stopVisits_carried]
  · rw [stopBurns_carried, stopVisits_carried]

/-- What starts anew, with what is carried. -/
def State.restarted (s : State) (cause : Nat) : State :=
  { State.reset with
    pending := s.pending, free := s.free, out := s.out, clk := s.clk, pins := s.pins
    regs := s.regs.filter fun w => warmPage (w.1 / 4096)
    pwr := { Pwr.reset with warm := true, bootStart := s.clk.up, temps := s.pwr.temps, warned := s.pwr.warned
                            tripped := s.pwr.tripped, held := s.pwr.tripped }
    fuse := s.fuse
    mem := s.mem.filter fun c => decide (dramBase ≤ c.1)
    dram := { s.dram with selfRefresh := s.dram.merge.isEmpty, importing := false, burning := none, resp := []
                          draining := !s.dram.merge.isEmpty }
    cal := { s.cal with save := none, window := [], windowDone := false }
    flt := { s.flt with deviceFault := false, lastReset := cause, warmCount := min (s.flt.warmCount + 1) 0xFFFF, due := [] } }

theorem warmReset_eq (s : State) (cause cls unit : Nat) : s.warmReset cause cls unit = ((s.halted cause cls unit).restarted cause).reapply := rfl

/-- The fuses and the standing records change engines and tiles alone. -/
theorem reapply_keeps {β : Type} (v : State → β) (heng : ∀ (s : State) e x, v (s.setEng e x) = v s)
    (htile : ∀ (s : State) t x, v (s.setTile t x) = v s) (s : State) : v s.reapply = v s := by
  rw [State.reapply]
  refine (forEach_keeps v _ _ (fun r s => ?_) _).trans (forEach_keeps v _ _ (fun x s => heng ..) s)
  dsimp only
  split
  · rfl
  · split
    · exact heng ..
    · split
      · exact heng ..
      · split
        · split
          · rw [htile, heng]
          · exact heng ..
        · rfl

/-- What a warm reset leaves, with REPLACE_N's check behind it. -/
def State.rebooted (s : State) (cause cls unit : Nat) : State := (s.warmReset cause cls unit).checkReplace

theorem done_warmReset (s : State) (cause cls unit : Nat) : done (s.warmReset cause cls unit) = .next (s.rebooted cause cls unit) :=
  done_of_quiet (reapply_keeps (·.flt.due) (fun _ _ _ => rfl) (fun _ _ _ => rfl) _)

theorem restarted_pending (s : State) (cause : Nat) : (s.restarted cause).pending = s.pending := rfl

theorem restarted_clk (s : State) (cause : Nat) : (s.restarted cause).clk = s.clk := rfl

theorem restarted_pins (s : State) (cause : Nat) : (s.restarted cause).pins = s.pins := rfl

theorem restarted_merge (s : State) (cause : Nat) : (s.restarted cause).dram.merge = s.dram.merge := rfl

theorem restarted_draining (s : State) (cause : Nat) : (s.restarted cause).dram.draining = !s.dram.merge.isEmpty := rfl

/-- What a warm reset of s with a cause leaves (R359, R385): the cause on record, bring-up from its step 0 in the warm form, no work and no
session, and, with no page locked, the merge buffers to be drained. -/
def State.warmAfter (s t : State) (cause : Nat) : Prop :=
  t.flt.lastReset = cause ∧ t.pwr.step = 0 ∧ t.pwr.booting = true ∧
    t.pwr.warm = true ∧ t.jobs = [] ∧ t.images = [] ∧ t.queues = [] ∧ t.channels = [] ∧ t.net.sessions = [] ∧
    t.sup.running = false ∧ t.flt.deviceFault = false ∧ t.pending = s.pending ∧ t.clk = s.clk ∧
    (s.dram.locks = [] → t.dram.merge = s.dram.merge ∧ t.dram.draining = !s.dram.merge.isEmpty)

section Rebooted
variable (u : State) (cause cls unit : Nat)

/-- A view that engines, tiles and REPLACE_N's check leave alone shows what has started anew. -/
theorem rebooted_keeps {β : Type} (v : State → β) (hcheck : ∀ s : State, v s.checkReplace = v s)
    (heng : ∀ (s : State) e x, v (s.setEng e x) = v s) (htile : ∀ (s : State) t x, v (s.setTile t x) = v s) :
    v (u.rebooted cause cls unit) = v ((u.halted cause cls unit).restarted cause) := by
  rw [State.rebooted, hcheck, warmReset_eq, reapply_keeps v heng htile]

theorem halted_pending : (u.halted cause cls unit).pending = u.pending :=
  (congrArg (·.1) (halted_carried u cause cls unit)).trans (unlockAll_frame u).pending

theorem halted_clk : (u.halted cause cls unit).clk = u.clk :=
  (congrArg (·.2.1) (halted_carried u cause cls unit)).trans (unlockAll_frame u).clk

theorem halted_pins : (u.halted cause cls unit).pins = u.pins :=
  (congrArg (·.2.2.1) (halted_carried u cause cls unit)).trans (unlockAll_frame u).pins

theorem halted_merge (h : u.dram.locks = []) : (u.halted cause cls unit).dram.merge = u.dram.merge := by
  have hm := congrArg (·.2.2.2) (halted_carried u cause cls unit)
  rwa [unlockAll_of_no_locks h] at hm

theorem rebooted_pins : (u.rebooted cause cls unit).pins = u.pins :=
  (rebooted_keeps u cause cls unit (·.pins) checkReplace_pins (fun _ _ _ => rfl) (fun _ _ _ => rfl)).trans
    ((restarted_pins ..).trans (halted_pins u cause cls unit))

theorem rebooted_pwr : (u.rebooted cause cls unit).pwr = ((u.halted cause cls unit).restarted cause).pwr :=
  rebooted_keeps u cause cls unit (·.pwr) checkReplace_pwr (fun _ _ _ => rfl) (fun _ _ _ => rfl)

theorem rebooted_dram : (u.rebooted cause cls unit).dram = ((u.halted cause cls unit).restarted cause).dram :=
  rebooted_keeps u cause cls unit (·.dram) checkReplace_dram (fun _ _ _ => rfl) (fun _ _ _ => rfl)

theorem rebooted_warmAfter : u.warmAfter (u.rebooted cause cls unit) cause := by
  have hkeeps := fun {β : Type} (v : State → β) hcheck heng htile => rebooted_keeps u cause cls unit v hcheck heng htile
  refine ⟨?_, ?_, ?_, ?_, ?_, ?_, ?_, ?_, ?_, ?_, ?_, ?_, ?_, fun hlocks => ⟨?_, ?_⟩⟩
  · exact hkeeps (·.flt.lastReset) checkReplace_flt_lastReset (fun _ _ _ => rfl) (fun _ _ _ => rfl)
  · rw [rebooted_pwr]; rfl
  · rw [rebooted_pwr]; rfl
  · rw [rebooted_pwr]; rfl
  · exact hkeeps (·.jobs) checkReplace_jobs (fun _ _ _ => rfl) (fun _ _ _ => rfl)
  · exact hkeeps (·.images) checkReplace_images (fun _ _ _ => rfl) (fun _ _ _ => rfl)
  · exact hkeeps (·.queues) checkReplace_queues (fun _ _ _ => rfl) (fun _ _ _ => rfl)
  · exact hkeeps (·.channels) checkReplace_channels (fun _ _ _ => rfl) (fun _ _ _ => rfl)
  · exact hkeeps (·.net.sessions) checkReplace_net_sessions (fun _ _ _ => rfl) (fun _ _ _ => rfl)
  · exact hkeeps (·.sup.running) (fun s => by rw [checkReplace_sup]) (fun _ _ _ => rfl) (fun _ _ _ => rfl)
  · exact hkeeps (·.flt.deviceFault) checkReplace_flt_deviceFault (fun _ _ _ => rfl) (fun _ _ _ => rfl)
  · exact (hkeeps (·.pending) checkReplace_pending (fun _ _ _ => rfl) (fun _ _ _ => rfl)).trans
      ((restarted_pending ..).trans (halted_pending u cause cls unit))
  · exact (hkeeps (·.clk) checkReplace_clk (fun _ _ _ => rfl) (fun _ _ _ => rfl)).trans
      ((restarted_clk ..).trans (halted_clk u cause cls unit))
  · rw [rebooted_dram, restarted_merge, halted_merge _ _ _ _ hlocks]
  · rw [rebooted_dram, restarted_draining, halted_merge _ _ _ _ hlocks]

/-- A reset of a state that waits for the same commands, at the same time and with the same DRAM. -/
theorem rebooted_warmAfter_of_eq {s u : State} (hpend : u.pending = s.pending) (hclk : u.clk = s.clk) (hdram : u.dram = s.dram) :
    s.warmAfter (u.rebooted cause cls unit) cause := by
  have h := rebooted_warmAfter u cause cls unit
  rwa [State.warmAfter, hpend, hclk, hdram] at h

end Rebooted

/-! The commands that reset the device. -/

section Faulted
variable (s : State)

/-- The fault of the watchdog: the firmware stopped (R361). -/
def State.unwatched : State :=
  { s.fault 0x1A 0 0 with flt := { (s.fault 0x1A 0 0).flt with deviceFault := true }, sup := { (s.fault 0x1A 0 0).sup with running := false } }

/-- The fault of a clock out of its range (R373). -/
def State.unclocked (c : Nat) : State := { s.fault 0x1B c 0 with flt := { (s.fault 0x1B c 0).flt with deviceFault := true } }

/-- The supervisor restarts alone after a lockstep mismatch (R359). -/
def State.mismatched : State :=
  { ((s.fault 0x19 0 0).crash 0x19 0).event pgFlt 4 with
    sup := { (((s.fault 0x19 0 0).crash 0x19 0).event pgFlt 4).sup with restarting := true, running := false, lastMismatch := some s.clk.up } }

theorem settled_unwatched {s : State} (h : s.settled) : s.unwatched.settled := settled_fault h 0x1A 0 0

theorem settled_crash {s : State} (h : s.settled) (c u : Nat) : (s.crash c u).settled := by
  rw [State.crash]
  exact settled_log (by exact h) ..

theorem crash_mem (s : State) (c u : Nat) : (s.crash c u).mem = s.mem := by
  rw [State.crash]
  exact log_mem ..

theorem settled_mismatched {s : State} (h : s.settled) : s.mismatched.settled :=
  settled_event (settled_crash (settled_fault h 0x19 0 0) 0x19 0) pgFlt 4

theorem mismatched_mem : s.mismatched.mem = s.mem := (event_mem ..).trans ((crash_mem ..).trans (fault_mem ..))

theorem exec_warmNAssert (hpin : s.pins.porstLow = false) :
    exec .warmNAssert s = .next (State.rebooted { s with pins := { s.pins with warmLow := true } } 1 0 0) :=
  (congrArg done (if_neg (by rw [hpin]; decide))).trans (done_warmReset ..)

theorem exec_fltWarmWrite : exec (.fltWarmWrite 0x5741524D) s = .next (s.rebooted 2 0 0) :=
  (congrArg done (if_pos (by decide))).trans (done_warmReset ..)

theorem exec_fltWarmWrite_other {s : State} (hs : s.settled) {w : Word} (hw : w ≠ 0x5741524D) : exec (.fltWarmWrite w) s = .next s :=
  done_eq (if_neg fun h => hw (BitVec.eq_of_toNat_eq h)) hs

/-- Once the device runs, an event of its safety logic is acted upon. -/
theorem awake_not {s : State} (hboot : s.pwr.booting = false) (hpin : s.pins.porstLow = false) :
    ¬ (s.pwr.booting || s.pins.porstLow) = true := by rw [hboot, hpin]; decide

theorem exec_heartbeatLoss_reset {s : State} (hboot : s.pwr.booting = false) (hpin : s.pins.porstLow = false)
    (hon : bitAt (s.reg pgFlt 8) 0 = true) : exec .heartbeatLoss s = .next (s.unwatched.rebooted 3 0x1A 0) :=
  (congrArg done ((if_neg (awake_not hboot hpin)).trans (if_pos hon))).trans (done_warmReset ..)

theorem exec_heartbeatLoss_stop {s : State} (hs : s.settled) (hboot : s.pwr.booting = false) (hpin : s.pins.porstLow = false)
    (hoff : bitAt (s.reg pgFlt 8) 0 = false) : exec .heartbeatLoss s = .next s.unwatched :=
  done_eq ((if_neg (awake_not hboot hpin)).trans (if_neg (by rw [hoff]; decide))) (settled_unwatched hs)

theorem exec_clockOutOfRange (c : Fin 6) (hgate : s.gated c = false) (hpin : s.pins.porstLow = false) :
    exec (.clockOutOfRange c) s = .next ((s.unclocked c).rebooted 4 0x1B c) :=
  (congrArg done (if_neg (by rw [hgate, hpin]; decide))).trans (done_warmReset ..)

theorem exec_lockstepMismatch_first {s : State} (hs : s.settled) (hboot : s.pwr.booting = false) (hpin : s.pins.porstLow = false)
    (hfirst : s.sup.lastMismatch = none) : exec .lockstepMismatch s = .next s.mismatched := by
  refine done_eq ((if_neg (awake_not hboot hpin)).trans ?_) (settled_mismatched hs)
  rw [hfirst]
  exact if_neg Bool.false_ne_true

theorem exec_lockstepMismatch_again {s : State} {m : Nat} (hboot : s.pwr.booting = false) (hpin : s.pins.porstLow = false)
    (hlast : s.sup.lastMismatch = some m) (hsoon : s.clk.up < m + 1000000000) :
    exec .lockstepMismatch s = .next ((s.fault 0x19 0 0).rebooted 5 0x19 0) := by
  refine (congrArg done ((if_neg (awake_not hboot hpin)).trans ?_)).trans (done_warmReset ..)
  rw [hlast]
  exact if_pos (decide_eq_true hsoon)

end Faulted

/-- Settles O4: every reset is the warm reset of a state with the same queue of commands, clocks and DRAM. -/
theorem warmResets : Obligations.WarmResets := by
  unfold Obligations.WarmResets
  refine ⟨fun s hpin => ⟨_, exec_warmNAssert s hpin, rebooted_warmAfter_of_eq _ _ _ rfl rfl rfl, rebooted_pins ..⟩,
    fun s => ⟨_, exec_fltWarmWrite s, rebooted_warmAfter .., rebooted_pins ..⟩,
    fun s w hs hw => exec_fltWarmWrite_other hs hw,
    fun s hboot hpin hon => ⟨_, exec_heartbeatLoss_reset hboot hpin hon, ?watchdog⟩,
    fun s hs hboot hpin hoff => ⟨_, exec_heartbeatLoss_stop hs hboot hpin hoff, rfl, rfl, rfl, sameMemory_of_mem (fault_mem s 0x1A 0 0)⟩,
    fun s c hgate hpin => ⟨_, exec_clockOutOfRange s c hgate hpin, ?clock⟩,
    fun s hs hboot hpin hfirst => ⟨_, exec_lockstepMismatch_first hs hboot hpin hfirst, rfl, rfl, rfl, sameMemory_of_mem (mismatched_mem s)⟩,
    fun s m hboot hpin hlast hsoon => ⟨_, exec_lockstepMismatch_again hboot hpin hlast hsoon, ?mismatch⟩,
    fun s hs hrestart => ⟨done_eq (if_pos hrestart) hs, done_eq (if_pos hrestart) hs⟩⟩
  case watchdog => exact rebooted_warmAfter_of_eq _ _ _ (fault_pending s 0x1A 0 0) (fault_clk s 0x1A 0 0) (fault_dram s 0x1A 0 0)
  case clock => exact rebooted_warmAfter_of_eq _ _ _ (fault_pending s 0x1B c 0) (fault_clk s 0x1B c 0) (fault_dram s 0x1B c 0)
  case mismatch => exact rebooted_warmAfter_of_eq _ _ _ (fault_pending ..) (fault_clk ..) (fault_dram ..)

end Sys2Proof.Machine
end

section
/-! SUPPORT. What a pass finds in a swatch (R271, R276): the lowest tap at half of the transitions, and the longest run of thresholds without a
mismatch. -/

namespace Sys2Proof.Machine

open Sys2Proof

/-- The measured delay is the first tap that samples half of the transitions before the edge. -/
theorem fine_eq {m : Swatch} {k : Fin 64} (hk : m.delays[k].2 ≤ 2 * m.delays[k].1)
    (hlow : ∀ j : Fin 64, j < k → 2 * m.delays[j].1 < m.delays[j].2) : m.fine = some k.val := by
  rw [Swatch.fine, List.findIdx?_eq_some_iff_getElem]
  refine ⟨by simp, by simpa using hk, fun j hj => ?_⟩
  simpa using hlow ⟨j, by omega⟩ hj

/-- A run of thresholds without a mismatch goes on while there is none. -/
theorem runAt_step (m : Swatch) (t : Fin 64) : m.runAt t = if m.checks[t].2 = 0 then m.runAt (t + 1) + 1 else 0 := by
  have ht : t.val < m.checks.toList.length := by simp
  rw [Swatch.runAt, List.drop_eq_getElem_cons ht, List.takeWhile_cons, Vector.getElem_toList, Fin.getElem_fin]
  by_cases h : m.checks[t.val].2 = 0
  · rw [if_pos h, if_pos (beq_iff_eq.2 h), List.length_cons, Swatch.runAt]
  · rw [if_neg h, if_neg (mt beq_iff_eq.1 h), List.length_nil]

theorem runAt_end (m : Swatch) : m.runAt 64 = 0 := by
  rw [Swatch.runAt, List.drop_eq_nil_of_le (by simp), List.takeWhile_nil, List.length_nil]

/-- The largest of a list is no more than a bound when no entry is. -/
theorem foldl_max_le_iff {l : List Nat} {a n : Nat} : l.foldl max a ≤ n ↔ a ≤ n ∧ ∀ x ∈ l, x ≤ n := by
  induction l generalizing a with
  | nil => simp
  | cons x l ih => rw [List.foldl_cons, ih, Nat.max_le, List.forall_mem_cons, and_assoc]

section OneRun
variable {m : Swatch} {a b : Fin 64} (hrun : ∀ t : Fin 64, m.checks[t].2 = 0 ↔ a ≤ t ∧ t ≤ b)
include hrun

/-- A threshold within the run sees the rest of it. -/
theorem runAt_within {t : Nat} (ha : a ≤ t) (hb : t ≤ b) : m.runAt t = b + 1 - t := by
  induction hn : b.val - t generalizing t with
  | zero =>
    have hnext : m.runAt (t + 1) = 0 := by
      by_cases hlast : t + 1 = 64
      · rw [hlast, runAt_end]
      · rw [runAt_step m ⟨t + 1, by omega⟩, if_neg fun h => ?_]
        have hle : t + 1 ≤ b := ((hrun _).1 h).2
        omega
    rw [runAt_step m ⟨t, by omega⟩, if_pos ((hrun _).2 ⟨ha, hb⟩), hnext]
    omega
  | succ n ih =>
    have hnext : m.runAt (t + 1) = b + 1 - (t + 1) := ih (by omega) (by omega) (by omega)
    rw [runAt_step m ⟨t, by omega⟩, if_pos ((hrun _).2 ⟨ha, hb⟩), hnext]
    omega

theorem runAt_outside {t : Nat} (ht : t < 64) (h : ¬ (a ≤ t ∧ t ≤ b)) : m.runAt t = 0 := by
  rw [runAt_step m ⟨t, ht⟩, if_neg fun h0 => h ((hrun _).1 h0)]

theorem run_eq (hab : a ≤ b) : m.run = b - a + 1 := by
  have hab : a.val ≤ b.val := hab
  refine Nat.le_antisymm (foldl_max_le_iff.2 ⟨Nat.zero_le _, fun x hx => ?_⟩) ?_
  · obtain ⟨t, ht, rfl⟩ := List.mem_map.1 hx
    by_cases h : a ≤ t ∧ t ≤ b
    · rw [runAt_within hrun h.1 h.2]; omega
    · rw [runAt_outside hrun (List.mem_range.1 ht) h]; exact Nat.zero_le _
  · have hmem : m.runAt a ∈ (List.range 64).map m.runAt := List.mem_map_of_mem (List.mem_range.2 a.isLt)
    have hle : m.runAt a ≤ m.run := (foldl_max_le_iff.1 le_rfl).2 _ hmem
    rw [runAt_within hrun le_rfl hab] at hle
    omega

/-- The run's first threshold alone sees the whole of it, so its midpoint is the one measured. -/
theorem mids_eq (hab : a ≤ b) : m.mids = [(a.val + b.val) / 2] := by
  have hab' : a.val ≤ b.val := hab
  have hfirst : ∀ t ∈ List.range 64, (m.runAt t == m.run && m.run != 0) = (t == a.val) := by
    intro t ht
    rw [run_eq hrun hab, Bool.eq_iff_iff, Bool.and_eq_true, beq_iff_eq, bne_iff_ne, beq_iff_eq]
    by_cases h : a ≤ t ∧ t ≤ b
    · rw [runAt_within hrun h.1 h.2]; omega
    · rw [runAt_outside hrun (List.mem_range.1 ht) h]; omega
  have hone : (List.range 64).count a.val = 1 := List.count_eq_one_of_mem List.nodup_range (List.mem_range.2 a.isLt)
  rw [Swatch.mids, List.filter_congr hfirst, List.filter_beq, hone, List.replicate_one, List.map_singleton, run_eq hrun hab]
  congr 2
  omega

end OneRun

/-- A pass takes free values, and changes nothing else. -/
theorem swept_eq (s : State) (m : Swatch) : ∃ n, s.swept m = { s with free := n } := by
  unfold State.swept
  split
  · exact ⟨s.free, rfl⟩
  · exact ⟨s.free + 1 + 1, rfl⟩

@[simp] theorem swept_cal (s : State) (m : Swatch) : (s.swept m).cal = s.cal := (swept_eq s m).elim fun _ h => by rw [h]
@[simp] theorem swept_clk (s : State) (m : Swatch) : (s.swept m).clk = s.clk := (swept_eq s m).elim fun _ h => by rw [h]
@[simp] theorem swept_regs (s : State) (m : Swatch) : (s.swept m).regs = s.regs := (swept_eq s m).elim fun _ h => by rw [h]
@[simp] theorem swept_reg (s : State) (m : Swatch) (p o : Nat) : (s.swept m).reg p o = s.reg p o := by
  rw [State.reg, State.reg, swept_regs]
@[simp] theorem swept_vitals (s : State) (m : Swatch) : (s.swept m).vitals = s.vitals :=
  (swept_eq s m).elim fun _ h => (congrArg State.vitals h).trans rfl
@[simp] theorem swept_mem (s : State) (m : Swatch) : (s.swept m).mem = s.mem := congrArg Prod.fst (swept_vitals s m)

/-- The delay and the threshold that a pass finds. -/
def State.finding (s : State) (m : Swatch) : Nat × Nat := ((s.passOf m).fine, (s.passOf m).thr)

theorem passAgree_iff (a b : Nat × Nat) : passAgree a b = true ↔ a.1 ≤ b.1 + 2 ∧ b.1 ≤ a.1 + 2 ∧ a.2 ≤ b.2 + 2 ∧ b.2 ≤ a.2 + 2 := by
  simp only [passAgree, Bool.and_eq_true, decide_eq_true_eq, and_assoc]

/-! The decision of R273. -/

theorem judgePasses_pair (second : Bool) {a b : Nat × Nat} (h : passAgree a b = true) : judgePasses second [a, b] = .value (passMean a b) :=
  if_pos h

theorem judgePasses_disagree (second : Bool) {a b c : Nat × Nat} (ha : passAgree a c = false) (hb : passAgree b c = false) :
    judgePasses second [a, b, c] = .disagree := by
  simp only [judgePasses, ha, hb, Bool.false_and, Bool.false_eq_true, if_false]

end Sys2Proof.Machine
end

section
/-! SUPPORT. Visits of lanes (R272 to R277): what the end of a visit leaves, lanes that fail, what a pass decides; and O38. -/

namespace Sys2Proof.Machine

open Sys2Proof

/-! Lanes and visits as they are stored. -/

@[simp] theorem setLane_lane_same (s : State) (c i : Nat) (v : Lane) : (s.setLane c i v).lane c i = v := sget_sset_same ..
@[simp] theorem setLane_mem (s : State) (c i : Nat) (v : Lane) : (s.setLane c i v).mem = s.mem := rfl
@[simp] theorem setLane_reg (s : State) (c i : Nat) (v : Lane) (p o : Nat) : (s.setLane c i v).reg p o = s.reg p o := rfl
@[simp] theorem setVisit_visit_same (s : State) (c g : Nat) (v : Option Visit) : (s.setVisit c g v).visit c g = v := sget_sset_same ..
@[simp] theorem setVisit_vitals (s : State) (c g : Nat) (v : Option Visit) : (s.setVisit c g v).vitals = s.vitals := (rfl)
@[simp] theorem setGusset_gusset_same (s : State) (c g : Nat) (v : Gusset) : (s.setGusset c g v).gusset c g = v := sget_sset_same ..
@[simp] theorem setGusset_visit (s : State) (c g : Nat) (v : Gusset) (d h : Nat) : (s.setGusset c g v).visit d h = s.visit d h := rfl
@[simp] theorem setGusset_mem (s : State) (c g : Nat) (v : Gusset) : (s.setGusset c g v).mem = s.mem := rfl

theorem lane_of_cal {s t : State} (h : t.cal = s.cal) (c i : Nat) : t.lane c i = s.lane c i := by rw [State.lane, State.lane, h]
theorem gusset_of_cal {s t : State} (h : t.cal = s.cal) (c g : Nat) : t.gusset c g = s.gusset c g := by rw [State.gusset, State.gusset, h]
theorem visit_of_cal {s t : State} (h : t.cal = s.cal) (c g : Nat) : t.visit c g = s.visit c g := by rw [State.visit, State.visit, h]

/-! What the course of a visit leaves. -/

/-- The states differ in visits and rotations at most: lanes, gusset lanes, memory, and CAL's words below ROT_CNT are the same. -/
structure State.sameLanes (s t : State) : Prop where
  lanes : t.cal.lanes = s.cal.lanes
  gusset : t.cal.gusset = s.cal.gusset
  mem : t.mem = s.mem
  reg : ∀ o < 0x11C, t.reg pgCal o = s.reg pgCal o

namespace State.sameLanes

variable {s t u : State}

theorem trans (h : s.sameLanes t) (k : t.sameLanes u) : s.sameLanes u :=
  ⟨k.lanes.trans h.lanes, k.gusset.trans h.gusset, k.mem.trans h.mem, fun o ho => (k.reg o ho).trans (h.reg o ho)⟩

theorem lane (h : s.sameLanes t) (c i : Nat) : t.lane c i = s.lane c i := by rw [State.lane, State.lane, h.lanes]

theorem gusset_eq (h : s.sameLanes t) (c g : Nat) : t.gusset c g = s.gusset c g := by rw [State.gusset, State.gusset, h.gusset]

end State.sameLanes

theorem setVisit_sameLanes (s : State) (c g : Nat) (v : Option Visit) : s.sameLanes (s.setVisit c g v) := ⟨rfl, rfl, rfl, fun _ _ => rfl⟩

theorem countRound_visit (s : State) (c g : Nat) : s.countRound.visit c g = s.visit c g := by
  unfold State.countRound
  split <;> rfl

theorem countRound_sameLanes (s : State) : s.sameLanes s.countRound := by
  unfold State.countRound
  split
  · have hbump : s.sameLanes (s.bump pgCal 0x11C 0 32 1) :=
      ⟨rfl, rfl, rfl, fun o ho => bump_reg_ne _ _ _ _ (radr_ne (by omega) (by omega))⟩
    exact hbump.trans ⟨rfl, rfl, rfl, fun _ _ => rfl⟩
  · exact ⟨rfl, rfl, rfl, fun _ _ => rfl⟩

theorem visitEnd_sameLanes (s : State) (c g : Nat) : s.sameLanes (s.visitEnd c g) := by
  unfold State.visitEnd
  split
  · refine State.sameLanes.trans ?_ (countRound_sameLanes _)
    exact ⟨rfl, rfl, rfl, fun _ _ => rfl⟩
  · exact ⟨rfl, rfl, rfl, fun _ _ => rfl⟩

theorem visitEnd_visit {s : State} {c g : Nat} {v : Visit} (h : s.visit c g = some v) : (s.visitEnd c g).visit c g = none := by
  rw [State.visitEnd, h]
  exact (countRound_visit ..).trans (setVisit_visit_same s c g none)

theorem visitNext_sameLanes (s : State) (c g : Nat) (v : Visit) : s.sameLanes (s.visitNext c g v) := by
  unfold State.visitNext
  split
  · exact visitEnd_sameLanes ..
  · exact setVisit_sameLanes ..

/-! The start of a visit (R272, R275). -/

theorem visitStart_idle {s : State} {c g : Nat} (h : bitAt (s.reg pgCal 8) 0 = false ∨ s.dram.selfRefresh = true ∨ s.visit c g ≠ none ∨
    s.nextLane c g = none) : s.visitStart c g = s := by
  unfold State.visitStart
  split
  next hrot =>
    rw [Bool.and_eq_true, Bool.and_eq_true, Bool.not_eq_true', Option.isNone_iff_eq_none] at hrot
    obtain ⟨⟨hon, hself⟩, hfree⟩ := hrot
    rcases h with h | h | h | h
    · exact absurd (h.symm.trans hon) Bool.false_ne_true
    · exact absurd (hself.symm.trans h) Bool.false_ne_true
    · exact absurd hfree h
    · rw [h]
  next => rfl

theorem visitStart_next {s : State} {c g k : Nat} (hon : bitAt (s.reg pgCal 8) 0 = true) (hself : s.dram.selfRefresh = false)
    (hfree : s.visit c g = none) (hk : s.nextLane c g = some k) :
    s.visitStart c g = s.setVisit c g (some ⟨k, false, false, [], s.lane c k⟩) := by
  rw [State.visitStart, hon, hself, hfree, hk]
  rfl

/-! Lanes that fail (R276, R277). -/

theorem checkExhausted_cal (s : State) (c : Nat) : (s.checkExhausted c).cal = s.cal := by
  unfold State.checkExhausted
  split
  · exact fail_cal ..
  · rfl

theorem checkExhausted_mem (s : State) (c : Nat) : (s.checkExhausted c).mem = s.mem := by
  unfold State.checkExhausted
  split
  · exact fail_mem ..
  · rfl

/-- LANES_EXHAUSTED clears no other event. -/
theorem checkExhausted_event {s : State} {k : Nat} (c : Nat) (h : bitAt (s.reg pgCal 0x10) k = true) :
    bitAt ((s.checkExhausted c).reg pgCal 0x10) k = true := by
  unfold State.checkExhausted
  split
  · exact event_reg_keeps _ _ _ _ (by rw [cause_reg_low _ _ _ _ (by decide)]; exact h)
  · exact h

section Fails
variable {s : State} {c g : Nat} {v : Visit}

/-- A working lane retired: its traffic is the gusset lane's (R276). -/
theorem retireLane_working {k : Nat} (hk : k < 72) : s.retireLane c g k =
    (((s.setGusset c g ⟨some k, false⟩).log 5 0x11 (logBody (c + 128 * g) k 2)).fail pgCal 0 (calCause 2 c k) 0).checkExhausted c := by
  have h : ¬ 72 ≤ k := by omega
  simp only [State.retireLane, if_neg h]

theorem retireLane_cal {k : Nat} (hk : k < 72) : (s.retireLane c g k).cal = (s.setGusset c g ⟨some k, false⟩).cal := by
  rw [retireLane_working hk, checkExhausted_cal, fail_cal, log_cal]

theorem retireLane_event {k : Nat} (hk : k < 72) : bitAt ((s.retireLane c g k).reg pgCal 0x10) 0 = true := by
  rw [retireLane_working hk]
  exact checkExhausted_event c (fail_reg_event _ _ _ _ _ (by decide))

/-- A retirement leaves the visit under way. -/
theorem retireLane_visit (k : Nat) : (s.retireLane c g k).visit c g = s.visit c g := by
  unfold State.retireLane
  dsimp only
  rw [visit_of_cal (checkExhausted_cal ..), visit_of_cal (fail_cal ..), visit_of_cal (log_cal ..), setGusset_visit]
  split <;> rfl

theorem retireLane_mem (k : Nat) : (s.retireLane c g k).mem = s.mem := by
  unfold State.retireLane
  dsimp only
  rw [checkExhausted_mem, fail_mem, log_mem, setGusset_mem]
  split <;> rfl

theorem laneFails_mem : (s.laneFails c g v).mem = s.mem := by
  unfold State.laneFails
  split
  · rw [(visitEnd_sameLanes ..).mem, retireLane_mem]
  · rw [checkExhausted_mem, (visitEnd_sameLanes ..).mem, setGusset_mem]

theorem laneFails_visit (hv : s.visit c g = some v) : (s.laneFails c g v).visit c g = none := by
  unfold State.laneFails
  split
  · exact visitEnd_visit ((retireLane_visit _).trans hv)
  · rw [visit_of_cal (checkExhausted_cal ..)]
    exact visitEnd_visit hv

/-- In step 2 it is the gusset lane that fails. -/
theorem laneFails_step2 (h2 : v.step4 = false) : (s.laneFails c g v).gusset c g = ⟨none, true⟩ := by
  rw [State.laneFails, h2]
  refine (gusset_of_cal (checkExhausted_cal ..) c g).trans ?_
  rw [(visitEnd_sameLanes ..).gusset_eq, setGusset_gusset_same]

/-- In step 4 the lane under visit fails, and the gusset lane keeps its traffic. -/
theorem laneFails_step4 (h4 : v.step4 = true) (hk : v.lane < 72) : (s.laneFails c g v).gusset c g = ⟨some v.lane, false⟩ ∧
    bitAt ((s.laneFails c g v).reg pgCal 0x10) 0 = true := by
  have hend : (s.retireLane c g v.lane).sameLanes (s.laneFails c g v) := by
    rw [State.laneFails, if_pos h4]
    exact visitEnd_sameLanes ..
  rw [hend.gusset_eq, gusset_of_cal (retireLane_cal hk), hend.reg _ (by decide)]
  exact ⟨setGusset_gusset_same .., retireLane_event hk⟩

end Fails

/-! What a pass decides (R273). -/

/-- The lane that a visit measures: the gusset lane in step 2, the lane under visit in step 4. -/
def Visit.measured (v : Visit) (g : Nat) : Nat := if v.step4 then v.lane else 72 + g

/-- A lane with the agreed delay and threshold in the direction at hand. -/
def Visit.applied (v : Visit) (x : Lane) (n : Nat × Nat) (now : Nat) : Lane :=
  if v.write then { x with wr := x.wr.apply n, valid := true, disagree := 0, aged := now } else { x with rd := x.rd.apply n, valid := true }

/-- The visit after a direction: the write direction after the read one, the next step after both. -/
def State.directionDone (s : State) (c g : Nat) (v : Visit) : State :=
  if v.write then s.visitNext c g v else s.setVisit c g (some { v with write := true, passes := [] })

/-- An agreed delay and threshold taken for the lane that is measured. -/
def State.agreed (s : State) (c g : Nat) (v : Visit) (n : Nat × Nat) : State :=
  (s.setLane c (v.measured g) (v.applied (s.lane c (v.measured g)) n s.clk.up)).drawn.directionDone c g v

/-- A lane whose passes disagree, with the count, the cause and the event. -/
def State.disagreed (s : State) (c i : Nat) : State :=
  ((s.setLane c i { s.lane c i with disagree := (s.lane c i).disagree + 1 }).bump pgCal 0x20 0 16 1).fail pgCal 2 (calCause 1 c i) 0

section Decided
variable {s : State} {c g : Nat} {m : Swatch} {v : Visit}

theorem passDone_idle (h : s.visit c g = none ∨ m.complete = false) : s.passDone c g m = s := by
  have hvisit : (s.swept m).visit c g = s.visit c g := visit_of_cal (swept_cal ..) c g
  unfold State.passDone
  dsimp only
  rw [hvisit]
  cases hv : s.visit c g with
  | none => rfl
  | some v => exact if_pos (by rw [h.resolve_left (by rw [hv]; exact Option.some_ne_none v)]; rfl)

variable (hv : s.visit c g = some v) (hm : m.complete = true)
include hv hm

theorem passDone_fails (h : 32 < m.spread ∨ m.run < 8) : s.passDone c g m = (s.swept m).laneFails c g v := by
  have hvisit : (s.swept m).visit c g = some v := (visit_of_cal (swept_cal ..) c g).trans hv
  unfold State.passDone
  dsimp only
  rw [hvisit]
  exact (if_neg (by rw [hm]; decide)).trans (if_pos h)

variable (hspread : m.spread ≤ 32) (hrun : 8 ≤ m.run)
include hspread hrun

/-- A pass within the limits is judged with those before it. -/
theorem passDone_judged : s.passDone c g m =
    match judgePasses ((s.swept m).choice 2 == 1) (v.passes ++ [s.finding m]) with
    | .more => (s.swept m).setVisit c g (some { v with passes := v.passes ++ [s.finding m] })
    | .value n => (s.swept m).agreed c g v n
    | .disagree =>
      let s1 := (s.swept m).disagreed c (v.measured g)
      if 3 ≤ ((s.swept m).lane c (v.measured g)).disagree + 1 then s1.laneFails c g v else s1.visitNext c g v := by
  have hvisit : (s.swept m).visit c g = some v := (visit_of_cal (swept_cal ..) c g).trans hv
  have hok : ¬ (32 < m.spread ∨ m.run < 8) := by omega
  unfold State.passDone
  dsimp only
  rw [hvisit]
  exact (if_neg (by rw [hm]; decide)).trans (if_neg hok)

theorem passDone_first (h : v.passes = []) :
    s.passDone c g m = (s.swept m).setVisit c g (some { v with passes := [s.finding m] }) := by
  rw [passDone_judged hv hm hspread hrun, h]
  rfl

theorem passDone_agreed {a : Nat × Nat} (h : v.passes = [a]) (ha : passAgree a (s.finding m) = true) :
    s.passDone c g m = (s.swept m).agreed c g v (passMean a (s.finding m)) := by
  rw [passDone_judged hv hm hspread hrun, h, List.singleton_append, judgePasses_pair _ ha]

theorem passDone_disagreed {a b : Nat × Nat} (h : v.passes = [a, b]) (ha : passAgree a (s.finding m) = false)
    (hb : passAgree b (s.finding m) = false) (hfirst : (s.lane c (v.measured g)).disagree = 0) :
    s.passDone c g m = ((s.swept m).disagreed c (v.measured g)).visitNext c g v := by
  rw [passDone_judged hv hm hspread hrun, h, List.cons_append, List.singleton_append, judgePasses_disagree _ ha hb,
    lane_of_cal (swept_cal ..), hfirst]
  rfl

end Decided

/-- A direction done leaves every lane. -/
theorem directionDone_sameLanes (s : State) (c g : Nat) (v : Visit) : s.sameLanes (s.directionDone c g v) := by
  unfold State.directionDone
  split
  · exact visitNext_sameLanes ..
  · exact setVisit_sameLanes ..

section Agreed
variable (s : State) (c g : Nat) (v : Visit) (n : Nat × Nat)

theorem agreed_lane : (s.agreed c g v n).lane c (v.measured g) = v.applied (s.lane c (v.measured g)) n s.clk.up :=
  ((directionDone_sameLanes ..).lane ..).trans (setLane_lane_same ..)

theorem agreed_mem : (s.agreed c g v n).mem = s.mem := (directionDone_sameLanes ..).mem

theorem applied_valid (x : Lane) (now : Nat) : (v.applied x n now).valid = true := by
  unfold Visit.applied
  split <;> rfl

/-- The lane takes the agreed values in the direction at hand alone; after the read direction comes the write one. -/
theorem agreed_direction {x y : Lane} (hx : s.lane c (v.measured g) = x) (hy : (s.agreed c g v n).lane c (v.measured g) = y) :
    if v.write then y.wr = x.wr.apply n ∧ y.rd = x.rd ∧ y.disagree = 0
    else y.rd = x.rd.apply n ∧ y.wr = x.wr ∧ (s.agreed c g v n).visit c g = some { v with write := true, passes := [] } := by
  rw [← hy, agreed_lane, hx, Visit.applied]
  split
  next => exact ⟨rfl, rfl, rfl⟩
  next hread =>
    refine ⟨rfl, rfl, ?_⟩
    rw [State.agreed, State.directionDone, if_neg hread]
    exact setVisit_visit_same ..

end Agreed

theorem disagreed_lane (s : State) (c i : Nat) :
    (s.disagreed c i).lane c i = { s.lane c i with disagree := (s.lane c i).disagree + 1 } := by
  rw [State.disagreed, lane_of_cal ((fail_cal ..).trans (bump_cal ..)), setLane_lane_same]

theorem disagreed_mem (s : State) (c i : Nat) : (s.disagreed c i).mem = s.mem := by
  rw [State.disagreed, fail_mem, bump_mem, setLane_mem]

theorem disagreed_event (s : State) (c i : Nat) : bitAt ((s.disagreed c i).reg pgCal 0x10) 2 = true := fail_reg_event _ _ _ _ _ (by decide)

theorem disagreed_count (s : State) (c i : Nat) :
    (s.disagreed c i).rfld pgCal 0x20 0 16 = satAdd 16 (s.rfld pgCal 0x20 0 16) 1 := by
  rw [State.disagreed, State.rfld, State.fail, event_reg_ne _ _ radr_ne, cause_reg_low _ _ _ _ (by decide), State.bump, setRfld_reg_same,
    fld_putFld_same _ _ _ _ (by decide), Nat.mod_eq_of_lt (satAdd_lt ..), State.rfld, State.rfld, setLane_reg]

/-- Settles O38: each command by what its pass decides; after a failure, an agreement or a disagreement the course of the visit leaves the
lanes. -/
theorem laneVisits : Obligations.LaneVisits := by
  unfold Obligations.LaneVisits
  refine ⟨fun s c g hs h => done_eq (visitStart_idle h) hs,
    fun s c g k hs hon hself hfree hk => done_eq_of_vitals hs (visitStart_next hon hself hfree hk) (setVisit_vitals ..),
    fun s c g m hs h => done_eq (passDone_idle h) hs,
    fun s c g m v hv hm h => ⟨_, congrArg done (passDone_fails hv hm h), ?fails⟩,
    fun s c g m v hs hv hfirst hm hspread hrun => done_eq_of_vitals hs (passDone_first hv hm hspread hrun hfirst)
      ((setVisit_vitals ..).trans (swept_vitals ..)),
    fun s c g m v a hv hp hm hspread hrun ha => ⟨_, congrArg done (passDone_agreed hv hm hspread hrun hp ha), ?agreed⟩,
    fun s c g m v a b hv hp hm hspread hrun ha hb hfirst =>
      ⟨_, congrArg done (passDone_disagreed hv hm hspread hrun hp ha hb hfirst), ?disagreed⟩,
    passAgree_iff, ?delay, ?threshold, fun _ _ => rfl⟩
  case fails =>
    have hvisit : (s.swept m).visit c g = some v := (visit_of_cal (swept_cal ..) c g).trans hv
    exact ⟨laneFails_visit hvisit, sameMemory_of_mem (laneFails_mem.trans (swept_mem ..)), laneFails_step2, laneFails_step4⟩
  case agreed =>
    have hvalid := congrArg Lane.valid (agreed_lane (s.swept m) c g v (passMean a (s.finding m)))
    exact ⟨hvalid.trans (applied_valid ..), agreed_direction _ c g v _ (lane_of_cal (swept_cal s m) ..) rfl,
      sameMemory_of_mem ((agreed_mem ..).trans (swept_mem ..))⟩
  case disagreed =>
    have hnext := visitNext_sameLanes ((s.swept m).disagreed c (v.measured g)) c g v
    have hlane := (hnext.lane c (v.measured g)).trans (disagreed_lane ..)
    rw [lane_of_cal (swept_cal ..)] at hlane
    refine ⟨(congrArg Lane.disagree hlane).trans (congrArg (· + 1) hfirst), (congrArg Lane.rd hlane :), (congrArg Lane.wr hlane :), ?_, ?_,
      sameMemory_of_mem (hnext.mem.trans ((disagreed_mem ..).trans (swept_mem ..)))⟩
    · rw [hnext.reg _ (by decide)]
      exact disagreed_event ..
    · rw [State.rfld, hnext.reg _ (by decide), ← State.rfld, disagreed_count, State.rfld, swept_reg, ← State.rfld]
  case delay =>
    intro s m k hk hlow
    rw [State.passOf, fine_eq hk hlow, Option.getD_some]
  case threshold =>
    intro s m a b hab hchecks
    refine ⟨run_eq hchecks hab, ?_⟩
    rw [State.passOf, mids_eq hchecks hab]

end Sys2Proof.Machine
end

section
/-! SUPPORT. Camera lanes (R278, R279), the wake at a save, and the record (R280); and O39. -/

namespace Sys2Proof.Machine

open Sys2Proof

/-! Camera lanes. -/

@[simp] theorem drawn_vitals (s : State) : s.drawn.vitals = s.vitals := (rfl)
@[simp] theorem setCamLane_vitals (s : State) (p l : Nat) (x : CamLane) : (s.setCamLane p l x).vitals = s.vitals := (rfl)
@[simp] theorem setCamLane_camLane_same (s : State) (p l : Nat) (x : CamLane) : (s.setCamLane p l x).camLane p l = x := sget_sset_same ..

theorem camLane_of_cal {s t : State} (h : t.cal = s.cal) (p l : Nat) : t.camLane p l = s.camLane p l := by
  rw [State.camLane, State.camLane, h]

/-- A camera lane whose passes disagree for the third time in a row, with the count, the cause and the event. -/
def State.camDrift (s : State) (p l : Nat) : State :=
  ((s.setCamLane p l { s.camLane p l with passes := [], disagree := 3, due := false }).bump pgCal 0x20 16 16 1).fail pgCal 3 (calCause 4 p l) 0

theorem camMeasure_idle {s : State} {p l : Nat} {m : Swatch} (h : p < 8 ∨ s.receives p = false ∨ m.complete = false) :
    s.camMeasure p l m = s := by
  refine if_neg fun hrun => ?_
  obtain ⟨hport, hrecv, hm⟩ := hrun
  rcases h with h | h | h
  · omega
  · exact Bool.false_ne_true (h.symm.trans hrecv)
  · exact Bool.false_ne_true (h.symm.trans hm)

section Measured
variable {s : State} {p l : Nat} {m : Swatch} (hport : 8 ≤ p) (hrecv : s.receives p = true) (hm : m.complete = true)
include hport hrecv hm

/-- A pass on a lane of a port that receives is judged with those before it. -/
theorem camMeasure_judged : s.camMeasure p l m =
    match judgePasses ((s.swept m).choice 2 == 1) ((s.camLane p l).passes ++ [s.finding m]) with
    | .more => (s.swept m).setCamLane p l { s.camLane p l with passes := (s.camLane p l).passes ++ [s.finding m] }
    | .value n => ((s.swept m).setCamLane p l { s.camLane p l with
        passes := [], pending := some n, disagree := 0, aged := s.clk.up, due := false }).drawn
    | .disagree =>
      let s1 := ((s.swept m).setCamLane p l { s.camLane p l with
        passes := [], disagree := (s.camLane p l).disagree + 1, due := false }).bump pgCal 0x20 16 16 1
      if (s.camLane p l).disagree + 1 = 3 then s1.fail pgCal 3 (calCause 4 p l) 0 else s1 := by
  rw [← camLane_of_cal (swept_cal s m) p l, ← swept_clk s m]
  exact if_pos ⟨hport, hrecv, hm⟩

theorem camMeasure_first (h : (s.camLane p l).passes = []) :
    s.camMeasure p l m = (s.swept m).setCamLane p l { s.camLane p l with passes := [s.finding m] } := by
  rw [camMeasure_judged hport hrecv hm, h]
  rfl

theorem camMeasure_agreed {a : Nat × Nat} (h : (s.camLane p l).passes = [a]) (ha : passAgree a (s.finding m) = true) :
    s.camMeasure p l m = ((s.swept m).setCamLane p l { s.camLane p l with
      passes := [], pending := some (passMean a (s.finding m)), disagree := 0, aged := s.clk.up, due := false }).drawn := by
  rw [camMeasure_judged hport hrecv hm, h, List.singleton_append, judgePasses_pair _ ha]

theorem camMeasure_drift {a b : Nat × Nat} (h : (s.camLane p l).passes = [a, b]) (ha : passAgree a (s.finding m) = false)
    (hb : passAgree b (s.finding m) = false) (htwo : (s.camLane p l).disagree = 2) : s.camMeasure p l m = (s.swept m).camDrift p l := by
  rw [camMeasure_judged hport hrecv hm, h, List.cons_append, List.singleton_append, judgePasses_disagree _ ha hb, htwo, State.camDrift,
    camLane_of_cal (swept_cal s m)]
  rfl

end Measured

theorem camDrift_vitals (s : State) (p l : Nat) : (s.camDrift p l).vitals = s.vitals := by
  rw [State.camDrift, fail_vitals, bump_vitals, setCamLane_vitals]

theorem camDrift_camLane (s : State) (p l : Nat) :
    (s.camDrift p l).camLane p l = { s.camLane p l with passes := [], disagree := 3, due := false } := by
  rw [State.camDrift, camLane_of_cal ((fail_cal ..).trans (bump_cal ..)), setCamLane_camLane_same]

theorem camApply_of_none {s : State} {p l : Nat} (h : (s.camLane p l).pending = none) : s.camApply p l = s := by
  rw [State.camApply, h]

theorem camApply_of_pending {s : State} {p l : Nat} {n : Nat × Nat} (h : (s.camLane p l).pending = some n) :
    s.camApply p l = s.setCamLane p l { s.camLane p l with fine := n.1, thr := n.2, valid := true, pending := none } := by
  rw [State.camApply, h]

/-! The record (R280). -/

/-- The address in SAVE_ADDR. -/
def State.saveAddr (s : State) : Nat := (s.reg pgCal 0x100).toNat + 2 ^ 32 * (s.reg pgCal 0x104).toNat

/-- The record with its TAG put to be saved. -/
def State.saving (s : State) : State :=
  { s with cal := { s.cal with save := some (s.saveAddr, s.calRecord (Config.keyedShake (s.calRecord (List.replicate 32 0)) 32)) } }

section Save
variable {s : State} {w : Word}

theorem calSave_of_no_go (h : bitAt w 0 = false) : s.calSave w = s := if_pos (by rw [h]; rfl)

variable (hgo : bitAt w 0 = true)
include hgo

theorem calSave_of_busy (h : s.cal.save.isSome = true) : s.calSave w = s.cause pgCal (calCause 8 0 0) 0 :=
  (if_neg (by rw [hgo]; decide)).trans (if_pos h)

theorem calSave_of_free (h : s.cal.save = none) :
    s.calSave w = if s.saveAddr % 128 = 0 ∧ inDram s.saveAddr 39104 then s.saving else s :=
  (if_neg (by rw [hgo]; decide)).trans (if_neg (by rw [h]; decide))

/-- A GO ends in one of three ways: refused, taken, or without effect. -/
theorem calSave_cases : s.calSave w = s.cause pgCal (calCause 8 0 0) 0 ∨ s.calSave w = s.saving ∨ s.calSave w = s := by
  cases hsave : s.cal.save with
  | some r => exact .inl (calSave_of_busy hgo (by rw [hsave]; rfl))
  | none =>
    rw [calSave_of_free hgo hsave]
    split
    · exact .inr (.inl rfl)
    · exact .inr (.inr rfl)

theorem calSave_pwr : (s.calSave w).pwr = s.pwr := by
  rcases calSave_cases hgo with h | h | h
  · rw [h, cause_pwr]
  · rw [h]; rfl
  · rw [h]

theorem calSave_tooHot : (s.calSave w).tooHot = s.tooHot := by
  refine tooHot_congr (calSave_pwr hgo) ?_
  rcases calSave_cases hgo with h | h | h
  · rw [h, cause_reg_ne _ _ _ _ (by decide) (by decide)]
  · rw [h]; rfl
  · rw [h]

theorem orderSave_of_awake (hon : s.pwr.state ≠ .standby) (ht : s.pwr.trans = none) : s.orderSave w = s.calSave w := by
  rw [State.orderSave, State.when, if_pos hgo]
  exact wake_of_awake (by rwa [calSave_pwr hgo]) (by rwa [calSave_pwr hgo])

/-- The wake from STANDBY that a GO asks for (R377, Table 18-3). -/
theorem orderSave_of_standby (h : s.pwr.state = .standby) (ht : s.pwr.trans = none) (hcool : s.tooHot = false) :
    s.orderSave w = ((s.calSave w).event pgPmu 2).startTrans .idle false false := by
  rw [State.orderSave, State.when, if_pos hgo, State.wake, calSave_pwr hgo, h, ht]
  exact if_neg (by rw [calSave_tooHot hgo, hcool]; decide)

end Save

theorem orderSave_of_no_go {s : State} {w : Word} (h : bitAt w 0 = false) : s.orderSave w = s := by
  rw [State.orderSave, State.when, if_neg (by rw [h]; decide), calSave_of_no_go h]

theorem saveDone_of_saving {s : State} {r : Nat × List Byte} (h : s.cal.save = some r) :
    s.saveDone = (((s.memWrite 10 r.1 r.2).1).withCal fun x => { x with save := none }).event pgCal 4 := by
  rw [State.saveDone, h]

/-- Settles O39: a camera lane by what its pass decides, and a save by the state of the record and of the device at its GO. -/
theorem cameraLanesAndSaves : Obligations.CameraLanesAndSaves := by
  unfold Obligations.CameraLanesAndSaves
  refine ⟨fun s p l m hs h => done_eq (camMeasure_idle h) hs,
    fun s p l m hs hport hrecv hm hfirst => done_eq_of_vitals hs (camMeasure_first hport hrecv hm hfirst)
      ((setCamLane_vitals ..).trans (swept_vitals ..)),
    fun s p l m a hs hport hrecv hm hp ha => ?agreed,
    fun s p l m a b hs hport hrecv hm hp ha hb htwo => ?drift,
    fun s p l hs h => done_eq (camApply_of_none h) hs,
    fun s p l n hs h => done_eq_of_vitals hs (camApply_of_pending h) (setCamLane_vitals ..),
    fun s w hs h => done_eq (orderSave_of_no_go h) hs,
    fun s w hs hon ht hgo hbusy => done_eq ((orderSave_of_awake hgo hon ht).trans (calSave_of_busy hgo hbusy)) (settled_cause hs ..),
    fun s w hs hon ht hgo hfree hline hdram => ?save,
    fun s w hgo hstandby ht hcool => congrArg done (orderSave_of_standby hgo hstandby ht hcool),
    fun s r hr => ⟨_, congrArg done (saveDone_of_saving hr), ?saved, event_reg_bit _ _ _ (by decide)⟩⟩
  case agreed =>
    have hmeasure := camMeasure_agreed hport hrecv hm hp ha
    have hvitals : (s.camMeasure p l m).vitals = s.vitals := by
      rw [hmeasure, drawn_vitals, setCamLane_vitals, swept_vitals]
    refine ⟨s.camMeasure p l m, done_of_vitals hs hvitals, sameMemory_of_vitals hvitals, ?_⟩
    rw [hmeasure]
    exact setCamLane_camLane_same ..
  case drift =>
    have hvitals := (camDrift_vitals (s.swept m) p l).trans (swept_vitals ..)
    refine ⟨_, done_eq_of_vitals hs (camMeasure_drift hport hrecv hm hp ha hb htwo) hvitals, sameMemory_of_vitals hvitals, ?_,
      fail_reg_event _ _ _ _ _ (by decide), fail_reg_cause ..⟩
    rw [camDrift_camLane, camLane_of_cal (swept_cal ..)]
  case save =>
    have hsaving : s.calSave w = s.saving := (calSave_of_free hgo hfree).trans (if_pos ⟨hline, hdram⟩)
    exact done_eq_of_vitals hs ((orderSave_of_awake hgo hon ht).trans hsaving) rfl
  case saved => rw [event_cal]; rfl

end Sys2Proof.Machine
end

section
/-! SUPPORT. Transfers of the DMA engine between tiles (R294): the lines of a range that are read, and the bytes that are written; and O42. -/

namespace Sys2Proof.Machine

open Sys2Proof

/-! Runs of bytes. -/

theorem bytes_length (s : State) (a n : Nat) : (s.bytes a n).length = n := by simp [State.bytes]

theorem bytes_append (s : State) (a m n : Nat) : s.bytes a m ++ s.bytes (a + m) n = s.bytes a (m + n) := by
  simp only [State.bytes, List.range_add, List.map_append, List.map_map, Function.comp_def, Nat.add_assoc]

theorem bytes_drop_take (s : State) {a n i k : Nat} (h : i + k ≤ n) : ((s.bytes a n).drop i).take k = s.bytes (a + i) k := by
  refine List.ext_getElem (by simp [State.bytes]; omega) fun j _ _ => ?_
  simp [State.bytes, Nat.add_assoc]

/-! Bank groups that are ON (R154). -/

/-- Every bank group between the ends of a range of a tile is ON when none of the range is off. -/
theorem bgroup_on {s : State} {t : Fin 6} {a n g : Nat} (hlo : tileBase t ≤ a) (hhi : a + n ≤ tileBase t + 0x2000000) (hn : 0 < n)
    (hon : s.groupOff a n = none) (hg : (a - tileBase t) / 0x400000 ≤ g) (hg' : g ≤ (a + n - 1 - tileBase t) / 0x400000) :
    (s.bgroup t g).state = 0 := by
  have ht := t.isLt
  simp only [tileBase] at hlo hhi hg hg'
  rw [State.groupOff, if_neg (by simp; omega), List.findSome?_eq_none_iff] at hon
  have hthis := hon (8 * t + g) (List.mem_map.2 ⟨256 + 8 * t + g - a / 0x400000, List.mem_range.2 (by omega), by omega⟩)
  rw [show (8 * t.val + g) / 8 = t by omega, show (8 * t.val + g) % 8 = g by omega] at hthis
  by_contra hoff
  rw [if_pos hoff] at hthis
  exact absurd hthis (Option.some_ne_none _)

/-! Lines read. -/

/-- A line of a tile in a bank group that is ON, with no stored error in the tile, is read as it is. -/
theorem memRead_line {s : State} {t : Fin 6} {b : Nat} (w : Nat) (hline : b % 128 = 0) (hlo : tileBase t ≤ b)
    (hhi : b + 128 ≤ tileBase t + 0x2000000) (hon : (s.bgroup t ((b - tileBase t) / 0x400000)).state = 0)
    (herr : (s.tile t).storedErrs = []) : s.memRead w b 128 = (s, ⟨s.bytes b 128, true, false, false⟩) := by
  have ht := t.isLt
  have hdram : inDram b 128 = false := by
    simp only [tileBase] at hhi
    rw [inDram, decide_eq_false (by simp only [dramBase]; omega), Bool.false_and]
  have htile : tileOf b 128 = some t.val := by
    simp only [tileBase] at hlo hhi
    rw [tileOf, if_pos (by omega)]
    congr 1
    omega
  have hoff : s.offAt t b 128 = none := by
    rw [State.offAt, if_neg (by decide), Option.map_eq_none_iff, List.find?_eq_none]
    intro g _ hg
    simp only [Bool.and_eq_true, decide_eq_true_eq, bne_iff_ne] at hg
    simp only [tileBase] at hlo hg hon
    obtain ⟨⟨hfrom, hto⟩, hstate⟩ := hg
    exact hstate (by rwa [show g = (b - (0x40000000 + t * 0x2000000)) / 0x400000 by omega])
  have hfab : s.fabFault t b 128 false = none := by rw [State.fabFault, if_neg (by omega), hoff, Option.map_none]
  simp only [State.memRead, hdram, htile, hfab, herr, List.any_nil, Bool.false_eq_true, if_false]

/-! Lines put together. -/

/-- One unit of a range read and put to what was read before it. -/
def fabStep (w a n unit : Nat) (x : State × Moved) (b : Nat) : State × Moved :=
  let lo := max a b
  let k := min (a + n) (b + unit) - lo
  let r := x.1.memRead w b unit
  let bad := r.2.poison || r.2.error
  let d := if bad || !r.2.valid then List.replicate k 0 else (r.2.data.drop (lo - b)).take k
  (r.1, ⟨x.2.data ++ d, x.2.poison || bad, x.2.srcInvalid || (!r.2.valid && !bad)⟩)

/-- Below DRAM a range is read by lines. -/
theorem fabRead_eq_lines {s : State} {a n : Nat} (w : Nat) (ha : a < dramBase) (hn : 0 < n) :
    s.fabRead w a n = ((List.range ((a + n - 1) / 128 - a / 128 + 1)).map fun i => 128 * (a / 128 + i)).foldl (fabStep w a n 128)
      (s, ⟨[], false, false⟩) := by
  simp only [State.fabRead, if_pos ha, if_neg hn.ne']
  rfl

/-- A line that is read as it is gives its part of the range. -/
theorem fabStep_line {s : State} {w a n b : Nat} (h : s.memRead w b 128 = (s, ⟨s.bytes b 128, true, false, false⟩)) (ha : a < b + 128)
    (hb : b < a + n) (l : List Byte) :
    fabStep w a n 128 (s, ⟨l, false, false⟩) b = (s, ⟨l ++ s.bytes (max a b) (min (a + n) (b + 128) - max a b), false, false⟩) := by
  have hpart : ((s.bytes b 128).drop (max a b - b)).take (min (a + n) (b + 128) - max a b) =
      s.bytes (max a b) (min (a + n) (b + 128) - max a b) := by
    rw [bytes_drop_take s (by omega), show b + (max a b - b) = max a b by omega]
  simp only [fabStep, h, Bool.or_false, Bool.not_true, Bool.false_eq_true, if_false, Bool.false_and, hpart]

/-- The first lines of a range, each read as it is, give its bytes up to the end of the last of them. -/
theorem foldl_fabStep_lines {s : State} {w a n : Nat} (m : Nat)
    (h : ∀ i, i < m → s.memRead w (128 * (a / 128 + i)) 128 = (s, ⟨s.bytes (128 * (a / 128 + i)) 128, true, false, false⟩))
    (hm : m ≤ (a + n - 1) / 128 - a / 128 + 1) (hn : 0 < n) :
    ((List.range m).map fun i => 128 * (a / 128 + i)).foldl (fabStep w a n 128) (s, ⟨[], false, false⟩) =
      (s, ⟨s.bytes a (min (a + n) (128 * (a / 128 + m)) - a), false, false⟩) := by
  induction m with
  | zero =>
    rw [show min (a + n) (128 * (a / 128 + 0)) - a = 0 by omega]
    rfl
  | succ m ih =>
    rw [List.range_succ, List.map_append, List.foldl_append, ih (fun i hi => h i (by omega)) (by omega), List.map_singleton,
      List.foldl_cons, List.foldl_nil, fabStep_line (h m (by omega)) (by omega) (by omega)]
    have hfrom : a + (min (a + n) (128 * (a / 128 + m)) - a) = max a (128 * (a / 128 + m)) := by omega
    rw [← hfrom, bytes_append]
    congr 4
    omega

/-- A range of a tile without stored errors, in bank groups that are ON, is read as it is. -/
theorem fabRead_tile {s : State} {t : Fin 6} {a n : Nat} (w : Nat) (hlo : tileBase t ≤ a) (hhi : a + n ≤ tileBase t + 0x2000000)
    (hn : 0 < n) (hon : s.groupOff a n = none) (herr : (s.tile t).storedErrs = []) :
    s.fabRead w a n = (s, ⟨s.bytes a n, false, false⟩) := by
  have ht := t.isLt
  have hbase : a < dramBase := by
    simp only [tileBase, dramBase] at *
    omega
  have hline : ∀ i, i < (a + n - 1) / 128 - a / 128 + 1 → s.memRead w (128 * (a / 128 + i)) 128 =
      (s, ⟨s.bytes (128 * (a / 128 + i)) 128, true, false, false⟩) := by
    intro i hi
    have hgroup := bgroup_on (g := (128 * (a / 128 + i) - tileBase t) / 0x400000) hlo hhi hn hon
      (by simp only [tileBase] at *; omega) (by simp only [tileBase] at *; omega)
    simp only [tileBase] at hlo hhi
    exact memRead_line w (by omega) (by simp only [tileBase]; omega) (by simp only [tileBase]; omega) hgroup herr
  rw [fabRead_eq_lines w hbase hn, foldl_fabStep_lines _ hline le_rfl hn]
  congr 3
  omega

/-! Bytes written. -/

/-- Bytes for one tile without stored errors are written there and nothing is rejected. -/
theorem dmaWrite_tile {s : State} {v : Fin 6} {a : Nat} {l : List Byte} (d : Nat) (hlo : tileBase v ≤ a)
    (hhi : a + l.length ≤ tileBase v + 0x2000000) (hl : 0 < l.length) (herr : (s.tile v).storedErrs = []) :
    s.dmaWrite d a l = (s.tileWrite v a l, false, none) := by
  have hv := v.isLt
  simp only [tileBase] at hlo hhi
  have hbase : ¬ dramBase ≤ a := by
    simp only [dramBase]
    omega
  have hedges : (([a / 4 * 4, (a + l.length - 1) / 4 * 4].filter fun w => decide (w < a) || decide (a + l.length < w + 4)).filter fun w =>
      (s.tile ((w - 0x40000000) / 0x2000000)).storedErrs.contains w) = [] := by
    refine List.filter_eq_nil_iff.2 fun w hw => ?_
    have hword := List.mem_of_mem_filter hw
    simp only [List.mem_cons, List.not_mem_nil, or_false] at hword
    rw [show (w - 0x40000000) / 0x2000000 = v.val by omega, herr]
    simp
  have hcut : min l.length (0x2000000 - a % 0x2000000) = l.length := by omega
  simp only [State.dmaWrite, if_neg hl.ne', if_neg hbase, hedges, hcut, forEach_nil, lt_irrefl, if_false, List.take_length,
    List.isEmpty_nil, Bool.not_true]
  rw [show (a - 0x40000000) / 0x2000000 = v.val by omega]

/-- A transfer leaves what its write leaves, but for what the channel notes of it. -/
theorem dmaMove_of_desc {s : State} {d : Nat} {k : Desc} (h : (s.chan d).desc = some k) (upTo : Nat) :
    let r := s.dmaRead d (k.addr + (s.chan d).done) (upTo - (s.chan d).done)
    let w := r.1.dmaWrite d (k.dest + (s.chan d).done) r.2.data
    ∃ y : Channel, s.dmaMove d upTo = (w.1.setChan d y, w.2.2) ∧ y.state = (w.1.chan d).state ∧ y.desc = (w.1.chan d).desc ∧
      (w.2.2 = none → y.done = upTo) := by
  rw [State.dmaMove, h]
  exact ⟨_, rfl, rfl, rfl, fun hw => if_neg (by rw [hw]; decide)⟩

/-- Settles O42: the source is read as it is by `fabRead_tile`, and `dmaWrite_tile` puts it into the destination's tile alone. -/
theorem dmaCopiesBytes : Obligations.DmaCopiesBytes := by
  unfold Obligations.DmaCopiesBytes
  intro s d k t v hdesc hdone hlen hsrc hsrcEnd hdst hdstEnd hon herr herr'
  have hread : s.dmaRead d k.addr k.length = (s, ⟨s.bytes k.addr k.length, false, false⟩) :=
    fabRead_tile _ hsrc hsrcEnd hlen hon herr
  have hwrite := dmaWrite_tile (s := s) (l := s.bytes k.addr k.length) d hdst (by rwa [bytes_length]) (by rwa [bytes_length]) herr'
  obtain ⟨y, hmove, -⟩ := dmaMove_of_desc hdesc k.length
  rw [hdone, Nat.add_zero, Nat.add_zero, Nat.sub_zero, hread, hwrite] at hmove
  rw [hmove]
  exact ⟨rfl, stores_of_mem (tileWrite_stores s v k.dest _) rfl (setChan_mem ..)⟩

end Sys2Proof.Machine
end

section
/-! SUPPORT. Queue contexts (R284 to R286, R300) and doorbells (R289, R290): what a write of a context does when EN is 0, is 1, rises or
falls, and what a doorbell does; and O40. -/

namespace Sys2Proof.Machine

open Sys2Proof

@[simp] theorem setQueue_vitals (s : State) (q : Nat) (v : Queue) : (s.setQueue q v).vitals = s.vitals := (rfl)
@[simp] theorem setChan_vitals (s : State) (d : Nat) (v : Channel) : (s.setChan d v).vitals = s.vitals := (rfl)
@[simp] theorem qmFail_vitals (s : State) (b c q : Nat) : (s.qmFail b c q).vitals = s.vitals := fail_vitals ..
@[simp] theorem qmFail_queue (s : State) (b c q j : Nat) : (s.qmFail b c q).queue j = s.queue j := fail_queue ..

theorem setQueue_queue_same (s : State) (q : Nat) (v : Queue) : (s.setQueue q v).queue q = v := sget_sset_same ..
theorem setChan_chan_same (s : State) (d : Nat) (v : Channel) : (s.setChan d v).chan d = v := sget_sset_same ..

theorem flushHeld_zero (s : State) (q : Nat) : State.flushHeld 0 s q = s := State.flushHeld.eq_1 s q

/-- Without a waiting close only held descriptors are written. -/
theorem flushQueue_of_no_pend {s : State} {q : Nat} (hpend : (s.queue q).pend = none) :
    s.flushQueue q = State.flushHeld (s.queue q).held.length s q := by
  rw [State.flushQueue]
  split
  · rename_i h
    exact absurd (hpend.symm.trans h) nofun
  · rfl

/-- A queue where nothing waits has nothing to write. -/
theorem flushQueue_of_empty {s : State} {q : Nat} (hheld : (s.queue q).held = []) (hpend : (s.queue q).pend = none) :
    s.flushQueue q = s := by
  rw [flushQueue_of_no_pend hpend, hheld, List.length_nil, flushHeld_zero]

/-! EN of a context. -/

/-- Word 2 alone holds the mode. -/
theorem ctxPut_mode (c : QCtx) {i : Nat} (w : Word) (h : i ≠ 2) : (ctxPut c i w).mode = c.mode := by
  unfold ctxPut
  split
  case h_3 => exact absurd rfl h
  all_goals rfl

theorem ctxPut_en (c : QCtx) {i : Nat} (w : Word) (h : i ≠ 2) : (ctxPut c i w).en = c.en := by rw [QCtx.en, ctxPut_mode c w h, QCtx.en]

/-- EN written by QUEUE_ENABLE and QUEUE_DISABLE. -/
theorem ctxPut_putEn (c : QCtx) (w : Word) (v : Nat) : (ctxPut c 2 (putFld w 8 1 v)).en = v.testBit 0 := by
  have h : (ctxPut c 2 (putFld w 8 1 v)).en = bitAt (putFld w 8 1 v) 8 := fld_testBit ..
  rw [h, bitAt_putFld _ _ _ _ _ (by decide), if_pos (by decide)]

/-- A mode without its last bit has EN 0. -/
theorem mode_pred_even {m : Nat} (h : m.testBit 0 = true) : (m - 1).testBit 0 = false := by
  rw [Nat.testBit_zero, decide_eq_true_eq] at h
  rw [Nat.testBit_zero, decide_eq_false_iff_not]
  omega

/-! Writes of a context. -/

section Write
variable {s : State} {q : Nat} {i : Nat} {w : Word}

theorem ctxWrite_of_disabled (hi : i ≠ 2) (hen : (s.queue q).ctx.en = false) :
    s.ctxWrite q i w = s.setQueue q { s.queue q with ctx := ctxPut (s.queue q).ctx i w } :=
  (if_neg hi).trans (if_neg (by rw [hen]; decide))

theorem ctxWrite_of_enabled (hi : i ≠ 2) (hen : (s.queue q).ctx.en = true) :
    s.ctxWrite q i w = if ctxPut (s.queue q).ctx i w = (s.queue q).ctx then s else s.qmFail 2 3 q :=
  (if_neg hi).trans (if_pos hen)

/-- EN = 1 of a queue that no job owns is checked (R285). -/
theorem ctxWrite_enable (hen : (s.queue q).ctx.en = false) (howner : (s.queue q).ctx.owner = 0xFF)
    (hon : (ctxPut (s.queue q).ctx 2 w).en = true) :
    s.ctxWrite q 2 w = if ctxOk (ctxPut (s.queue q).ctx 2 w) then s.setQueue q (enableQueue (s.queue q) (ctxPut (s.queue q).ctx 2 w))
      else (s.setQueue q { s.queue q with ctx := { ctxPut (s.queue q).ctx 2 w with mode := (ctxPut (s.queue q).ctx 2 w).mode - 1 } }).qmFail
        1 2 q := by
  simp only [State.ctxWrite, howner, hen, hon, if_true, Bool.false_eq_true, if_false]

/-- EN = 0 of a queue that no job owns, with the word's other fields as they were. -/
theorem ctxWrite_disable (hen : (s.queue q).ctx.en = true) (howner : (s.queue q).ctx.owner = 0xFF)
    (hmode : (ctxPut (s.queue q).ctx 2 w).mode / 2 = (s.queue q).ctx.mode / 2)
    (hlog : (ctxPut (s.queue q).ctx 2 w).log2 = (s.queue q).ctx.log2)
    (hchan : (ctxPut (s.queue q).ctx 2 w).channel = (s.queue q).ctx.channel) :
    s.ctxWrite q 2 w = s.setQueue q { s.queue q with ctx := ctxPut (s.queue q).ctx 2 w } := by
  have hsame : { ctxPut (s.queue q).ctx 2 w with
      mode := (ctxPut (s.queue q).ctx 2 w).mode / 2 * 2 + (s.queue q).ctx.mode % 2 } = (s.queue q).ctx := by
    rw [hmode, Nat.div_add_mod']
    simp only [ctxPut] at hlog hchan ⊢
    rw [hlog, hchan]
  simp only [State.ctxWrite, howner, hen, hsame, if_true]

/-- A write of a context that leaves EN does nothing more. -/
theorem queueWrite_of_same_en (hq : q < 16384) (h : ((s.ctxWrite q i w).queue q).ctx.en = (s.queue q).ctx.en) :
    s.queueWrite q i w = s.ctxWrite q i w := by
  rw [State.queueWrite, if_neg (by omega)]
  simp only [h, Bool.and_not_self, Bool.not_and_self, Bool.false_eq_true, if_false]

/-- EN that goes to 0 stops the channel. -/
theorem queueWrite_disables (hq : q < 16384) (hwas : (s.queue q).ctx.en = true) (h : ((s.ctxWrite q i w).queue q).ctx.en = false) :
    s.queueWrite q i w = (s.ctxWrite q i w).chanStop ((s.ctxWrite q i w).queue q).ctx.channel (some q) := by
  rw [State.queueWrite, if_neg (by omega)]
  simp only [hwas, h, Bool.not_false, Bool.and_true, if_true]

/-- EN that goes to 1, when its queue has not stopped the channel, has what waits written. -/
theorem queueWrite_enables (hq : q < 16384) (hwas : (s.queue q).ctx.en = false) (h : ((s.ctxWrite q i w).queue q).ctx.en = true)
    (hstop : ((s.ctxWrite q i w).chan ((s.ctxWrite q i w).queue q).ctx.channel).stopQ ≠ some q) :
    s.queueWrite q i w = (s.ctxWrite q i w).flushQueue q := by
  rw [State.queueWrite, if_neg (by omega)]
  simp only [hwas, h, if_neg hstop, Bool.false_and, Bool.not_false, Bool.true_and, Bool.false_eq_true, if_false, if_true]

/-- Any word but the one of EN, of a context that is not enabled. -/
theorem queueWrite_of_disabled (hq : q < 16384) (hi : i ≠ 2) (hen : (s.queue q).ctx.en = false) :
    s.queueWrite q i w = s.setQueue q { s.queue q with ctx := ctxPut (s.queue q).ctx i w } := by
  have hput := ctxWrite_of_disabled (w := w) hi hen
  rw [queueWrite_of_same_en hq (by rw [hput, setQueue_queue_same, ctxPut_en _ _ hi]), hput]

/-- Any word but the one of EN, of an enabled context. -/
theorem queueWrite_of_enabled (hq : q < 16384) (hi : i ≠ 2) (hen : (s.queue q).ctx.en = true) :
    s.queueWrite q i w = if ctxPut (s.queue q).ctx i w = (s.queue q).ctx then s else s.qmFail 2 3 q := by
  have hput := ctxWrite_of_enabled (w := w) hi hen
  have hqueue : (s.ctxWrite q i w).queue q = s.queue q := by
    rw [hput]
    split
    · rfl
    · exact qmFail_queue ..
  rw [queueWrite_of_same_en hq (by rw [hqueue]), hput]

end Write

section Enable
variable {s : State} {q : Nat} {w : Word} (hq : q < 16384) (hen : (s.queue q).ctx.en = false) (howner : (s.queue q).ctx.owner = 0xFF)
  (hon : (ctxPut (s.queue q).ctx 2 w).en = true)
include hq hen howner hon

/-- Checks passed: what the queue then holds, and what of it waits is written. -/
theorem queueWrite_accepted (hok : ctxOk (ctxPut (s.queue q).ctx 2 w) = true)
    (hstop : (s.chan (ctxPut (s.queue q).ctx 2 w).channel).stopQ ≠ some q) :
    s.queueWrite q 2 w = (s.setQueue q (enableQueue (s.queue q) (ctxPut (s.queue q).ctx 2 w))).flushQueue q := by
  have hput := (ctxWrite_enable hen howner hon).trans (if_pos hok)
  have hqueue : ((s.ctxWrite q 2 w).queue q).ctx.en = true ∧
      ((s.ctxWrite q 2 w).queue q).ctx.channel = (ctxPut (s.queue q).ctx 2 w).channel := by
    rw [hput, setQueue_queue_same, enableQueue]
    split
    · rw [enableCtx]
      split <;> exact ⟨hon, rfl⟩
    · exact ⟨hon, rfl⟩
  rw [queueWrite_enables hq hen hqueue.1 (by rw [hqueue.2, hput]; exact hstop), hput]

/-- START_LOAD = 1 empties the ring at START_SEQ (R286). -/
theorem queueWrite_startLoad (hok : ctxOk (ctxPut (s.queue q).ctx 2 w) = true) (hload : (ctxPut (s.queue q).ctx 2 w).startLoad = true)
    (hstop : (s.chan (ctxPut (s.queue q).ctx 2 w).channel).stopQ ≠ some q) :
    let n := ctxPut (s.queue q).ctx 2 w
    s.queueWrite q 2 w = s.setQueue q ⟨{ n with
      prod := n.start, cons := n.start, avail := n.start, areaHead := 0, areaTail := 0, noSpacePend := 0 }, [], none, [], n.start⟩ := by
  have hqueue : enableQueue (s.queue q) (ctxPut (s.queue q).ctx 2 w) = ⟨enableCtx (ctxPut (s.queue q).ctx 2 w), [], none, [],
      (ctxPut (s.queue q).ctx 2 w).start⟩ := if_pos hload
  rw [queueWrite_accepted hq hen howner hon hok hstop, hqueue,
    flushQueue_of_empty (by rw [setQueue_queue_same]) (by rw [setQueue_queue_same]), enableCtx, if_pos hload]

/-- START_LOAD = 0 keeps the ring (R286). -/
theorem queueWrite_keepsRing (hok : ctxOk (ctxPut (s.queue q).ctx 2 w) = true) (hload : (ctxPut (s.queue q).ctx 2 w).startLoad = false)
    (hstop : (s.chan (ctxPut (s.queue q).ctx 2 w).channel).stopQ ≠ some q) (hheld : (s.queue q).held = [])
    (hpend : (s.queue q).pend = none) :
    s.queueWrite q 2 w = s.setQueue q { s.queue q with ctx := ctxPut (s.queue q).ctx 2 w } := by
  rw [queueWrite_accepted hq hen howner hon hok hstop, enableQueue, if_neg (by rw [hload]; decide),
    flushQueue_of_empty (by rw [setQueue_queue_same]; exact hheld) (by rw [setQueue_queue_same]; exact hpend)]

/-- A check that fails leaves EN 0 (R285). -/
theorem queueWrite_refused (hok : ctxOk (ctxPut (s.queue q).ctx 2 w) = false) :
    s.queueWrite q 2 w = (s.setQueue q { s.queue q with ctx :=
      { ctxPut (s.queue q).ctx 2 w with mode := (ctxPut (s.queue q).ctx 2 w).mode - 1 } }).qmFail 1 2 q := by
  have hput := (ctxWrite_enable hen howner hon).trans (if_neg (by rw [hok]; decide))
  rw [queueWrite_of_same_en hq, hput]
  rw [hput, qmFail_queue, setQueue_queue_same, hen]
  exact mode_pred_even hon

end Enable

/-! Stops of a channel (R300). -/

theorem chanRest_state (s : State) (d : Nat) : ((s.chanRest d).chan d).state = .stopped := by
  rw [State.chanRest, event_chan, setChan_chan_same]

theorem chanStop_of_idle {s : State} {d : Nat} (q : Option Nat) (h : (s.chan d).state = .idle) :
    s.chanStop d q = (s.setChan d { s.chan d with stopQ := q }).chanRest d := by
  simp only [State.chanStop, h]

theorem chanStop_of_active {s : State} {d : Nat} (q : Option Nat) (h : (s.chan d).state = .active) :
    s.chanStop d q = s.setChan d { s.chan d with state := .stopping, stopQ := q } := by
  simp only [State.chanStop, h]

/-- A stop leaves the vitals and the queues. -/
theorem chanStop_keeps {β : Type} (v : State → β) (hc : ∀ (s : State) d x, v (s.setChan d x) = v s)
    (he : ∀ (s : State) p b, v (s.event p b) = v s)
    (s : State) (d : Nat) (q : Option Nat) : v (s.chanStop d q) = v s := by
  rw [State.chanStop]
  split
  · rw [State.chanRest, he, hc, hc]
  · exact hc ..
  · rfl

theorem chanStop_vitals (s : State) (d : Nat) (q : Option Nat) : (s.chanStop d q).vitals = s.vitals :=
  chanStop_keeps State.vitals setChan_vitals event_vitals s d q

theorem chanStop_queue (s : State) (d : Nat) (q : Option Nat) (j : Nat) : (s.chanStop d q).queue j = s.queue j :=
  chanStop_keeps (fun s => s.queue j) (fun s d x => setChan_queue s d x j) (fun s p b => event_queue s p b j) s d q

/-! Doorbells. -/

section Doorbell
variable {s : State} {q : Nat} {v : Word}

theorem doorbell_of_off (h : bitAt (s.reg pgQm 8) 0 = false) : s.doorbell q v = s := if_pos (by rw [h]; rfl)

variable (hqm : bitAt (s.reg pgQm 8) 0 = true)
include hqm

/-- PUSH and STREAM queues take no doorbell. -/
theorem doorbell_ignored (hdir : (s.queue q).ctx.dir = 0) (hdel : (s.queue q).ctx.delivery = 1 ∨ (s.queue q).ctx.delivery = 2) :
    s.doorbell q v = s.bump pgQm 0x104 0 16 1 :=
  (if_neg (by rw [hqm]; decide)).trans (if_pos ⟨hdir, hdel⟩)

/-- Descriptors made available to a queue that host software fills or posts to. -/
theorem doorbell_available (h : (s.queue q).ctx.dir = 1 ∨ ((s.queue q).ctx.dir = 0 ∧ (s.queue q).ctx.delivery ≠ 1 ∧
      (s.queue q).ctx.delivery ≠ 2 ∧ (s.queue q).ctx.area = false ∧ (s.queue q).held = [] ∧ (s.queue q).pend = none)) :
    s.doorbell q v = if seqAhead v.toNat (s.queue q).ctx.avail = false then s.bump pgQm 0x100 0 32 1
      else if (s.queue q).ctx.slots < seqDist v.toNat (s.queue q).ctx.cons then (s.bump pgQm 0x20 0 16 1).qmFail 0 1 q
      else (s.bump pgQm 0x100 0 32 1).setQueue q { s.queue q with ctx := { (s.queue q).ctx with avail := v.toNat } } := by
  have hpush : ¬ ((s.queue q).ctx.dir = 0 ∧ ((s.queue q).ctx.delivery = 1 ∨ (s.queue q).ctx.delivery = 2)) := by
    rcases h with h | ⟨-, h1, h2, -⟩ <;> omega
  have htakes : (s.queue q).ctx.dir = 1 ∨ ((s.queue q).ctx.dir = 0 ∧ (!(s.queue q).ctx.area) = true) := by
    rcases h with h | ⟨h0, -, -, harea, -⟩
    · exact .inl h
    · exact .inr ⟨h0, by rw [harea]; rfl⟩
  have hflush : ∀ u : State, (s.queue q).ctx.dir = 0 → u = (s.bump pgQm 0x100 0 32 1).setQueue q { s.queue q with
      ctx := { (s.queue q).ctx with avail := v.toNat } } → u.flushQueue q = u := by
    rintro u hdir rfl
    rcases h with h | ⟨-, -, -, -, hheld, hpend⟩
    · omega
    · exact flushQueue_of_empty (by rw [setQueue_queue_same]; exact hheld) (by rw [setQueue_queue_same]; exact hpend)
  refine ((if_neg (by rw [hqm]; decide)).trans (if_neg hpush)).trans ((if_pos htakes).trans ?_)
  simp only [Bool.not_eq_true']
  refine if_congr Iff.rfl rfl (if_congr Iff.rfl rfl ?_)
  split
  · rename_i hdir
    exact hflush _ hdir rfl
  · rfl

/-- Descriptors returned to a queue with an area, where nothing waits. -/
theorem doorbell_returns (hdir : (s.queue q).ctx.dir = 0) (h1 : (s.queue q).ctx.delivery ≠ 1) (h2 : (s.queue q).ctx.delivery ≠ 2)
    (harea : (s.queue q).ctx.area = true) (hahead : seqAhead v.toNat (s.queue q).ctx.cons = true)
    (hslots : seqDist v.toNat (s.queue q).ctx.cons ≤ (s.queue q).ctx.slots) (hprod : seqAhead v.toNat (s.queue q).ctx.prod = false) :
    s.doorbell q v = (s.bump pgQm 0x100 0 32 1).returnTo q v.toNat := by
  refine (if_neg (by rw [hqm]; decide)).trans ((if_neg (by omega)).trans ((if_neg ?_).trans ((if_pos hdir).trans
    ((if_neg (by rw [hahead]; decide)).trans (if_neg ?_)))))
  · rw [harea, hdir]
    simp
  · rw [hprod]
    simp [hslots]

end Doorbell

/-- A return to a queue where nothing waits. -/
theorem returnTo_of_empty {s : State} {q : Nat} (v : Nat) (hheld : (s.queue q).held = []) (hpend : (s.queue q).pend = none) :
    s.returnTo q v = s.setQueue q { s.queue q with
      ctx := { (s.queue q).ctx with cons := v, areaTail := areaTailOf { (s.queue q).ctx with cons := v } (freeAllocs v (s.queue q).allocs) }
      allocs := freeAllocs v (s.queue q).allocs } := by
  rw [State.returnTo]
  exact flushQueue_of_empty (by rw [setQueue_queue_same]; exact hheld) (by rw [setQueue_queue_same]; exact hpend)

/-- Settles O40: writes of a context by `queueWrite`'s lemmas for EN that stays, rises and falls, doorbells by their kind of queue. -/
theorem queueContextsAndDoorbells : Obligations.QueueContextsAndDoorbells := by
  unfold Obligations.QueueContextsAndDoorbells
  refine ⟨fun s q i w hs hen hi => done_eq_of_vitals hs (queueWrite_of_disabled q.isLt hi hen) (setQueue_vitals ..),
    fun s q i w hs hen hi => done_eq_of_vitals hs (queueWrite_of_enabled q.isLt hi hen) ?busy,
    fun s q w hs hen howner => ?enable,
    fun s q w hs hen => ?disable,
    fun s q v hs h => done_eq (doorbell_of_off h) hs,
    fun s q v hs hqm hdir hdel => done_eq_of_vitals hs (doorbell_ignored hqm hdir hdel) (bump_vitals ..),
    fun s q v hs hqm h => done_eq_of_vitals hs (doorbell_available hqm h) ?available,
    fun s q v hs hqm hdir h1 h2 harea hahead hslots hprod hheld hpend => ?returned⟩
  case busy =>
    split
    · rfl
    · exact qmFail_vitals ..
  case available =>
    split
    · exact bump_vitals ..
    · split
      · rw [qmFail_vitals, bump_vitals]
      · rw [setQueue_vitals, bump_vitals]
  case enable =>
    have hon : (ctxPut (s.queue q).ctx 2 (putFld w 8 1 1)).en = true := ctxPut_putEn ..
    refine ⟨fun hok hload hstop => done_eq_of_vitals hs (queueWrite_startLoad q.isLt hen howner hon hok hload hstop) (setQueue_vitals ..),
      fun hok hload hstop hheld hpend =>
        done_eq_of_vitals hs (queueWrite_keepsRing q.isLt hen howner hon hok hload hstop hheld hpend) (setQueue_vitals ..),
      fun hok => ?_⟩
    refine ⟨_, done_eq_of_vitals hs (queueWrite_refused q.isLt hen howner hon hok) (qmFail_vitals ..), ?_,
      fail_reg_event _ _ _ _ _ (by decide), fail_reg_cause .., sameMemory_of_vitals (qmFail_vitals ..)⟩
    rw [qmFail_queue, setQueue_queue_same]
    exact mode_pred_even hon
  case disable =>
    intro n hmode hlog hchan howner
    have hoff : n.en = false := ctxPut_putEn ..
    have hput := ctxWrite_disable hen howner hmode hlog hchan
    have hqueue : ((s.ctxWrite q 2 (putFld w 8 1 0)).queue q).ctx = n := by rw [hput, setQueue_queue_same]
    have hstop := queueWrite_disables q.isLt hen (by rw [hqueue]; exact hoff)
    rw [hqueue, hput] at hstop
    have hvitals : ((s.setQueue q { s.queue q with ctx := n }).chanStop n.channel (some q.val)).vitals = s.vitals :=
      (chanStop_vitals ..).trans (setQueue_vitals ..)
    have hchans : (s.setQueue q { s.queue q with ctx := n }).chan n.channel = s.chan n.channel := setQueue_chan ..
    refine ⟨_, done_eq_of_vitals hs hstop hvitals, ?_, sameMemory_of_vitals hvitals, fun h => ?_, fun h => ?_⟩
    · rw [chanStop_queue, setQueue_queue_same]
      exact hoff
    · rw [chanStop_of_idle _ (hchans ▸ h)]
      exact ⟨chanRest_state .., event_reg_bit _ _ _ (by decide)⟩
    · rw [chanStop_of_active _ (hchans ▸ h), setChan_chan_same]
  case returned =>
    have hreturn := (doorbell_returns hqm hdir h1 h2 harea hahead hslots hprod).trans (returnTo_of_empty v.toNat hheld hpend)
    refine ⟨_, done_eq_of_vitals hs hreturn (setQueue_vitals ..), ?_, ?_, sameMemory_of_vitals (setQueue_vitals ..)⟩
    · rw [setQueue_queue_same]
    · rw [setQueue_queue_same]
      rfl

end Sys2Proof.Machine
end

section
/-! SUPPORT. What an operation of the DRAM controller is made of (R236 to R262): a sequence of single changes, so that a property that
each of these keeps is kept by every write of DRAM and by what it waits for. -/

namespace Sys2Proof.Machine

open Sys2Proof

/-! The changes. -/

/-- One change that the DRAM controller makes. Of the registers it writes none below offset 0x20, where a page's event words lie (Table
19-3); event bits it only raises. -/
inductive DrcStep : State → State → Prop
  | drawn (s : State) : DrcStep s s.drawn
  | withDram (s : State) (f : Dram → Dram) : DrcStep s (s.withDram f)
  | withFlt (s : State) (f : Flt) : DrcStep s { s with flt := f }
  | setByte (s : State) (a : Nat) (b : Byte) : DrcStep s (s.setByte a b)
  | setReg (s : State) (p o : Nat) (w : Word) (lo : 0x20 ≤ o) (hi : o < 4096) : DrcStep s (s.setReg p o w)
  | event (s : State) (p b : Nat) : DrcStep s (s.event p b)
  | addSlip (s : State) (e n : Nat) : DrcStep s (s.addSlip e n)

/-- From the first state to the second by such changes. -/
abbrev DrcSteps : State → State → Prop := Relation.ReflTransGen DrcStep

/-- A relation that each change obeys is obeyed by a sequence of them. -/
theorem DrcSteps.obeys {R : State → State → Prop} (hrefl : ∀ s, R s s) (htrans : ∀ {s t u}, R s t → R t u → R s u)
    (hstep : ∀ {s t}, DrcStep s t → R s t) {s t : State} (h : DrcSteps s t) : R s t := by
  induction h with
  | refl => exact hrefl s
  | tail _ k ih => exact htrans ih (hstep k)

theorem steps_refl (s : State) : DrcSteps s s := .refl
theorem steps_trans {s t u : State} (h : DrcSteps s t) (k : DrcSteps t u) : DrcSteps s u := h.trans k
theorem steps_withDram (s : State) (f : Dram → Dram) : DrcSteps s (s.withDram f) := .single (.withDram s f)
theorem steps_withFlt (s : State) (f : Flt) : DrcSteps s { s with flt := f } := .single (.withFlt s f)
theorem steps_setReg (s : State) {p o : Nat} (w : Word) (lo : 0x20 ≤ o) (hi : o < 4096) : DrcSteps s (s.setReg p o w) :=
  .single (.setReg s p o w lo hi)
theorem steps_bump (s : State) (p : Nat) {o : Nat} (l w n : Nat) (lo : 0x20 ≤ o) (hi : o < 4096) : DrcSteps s (s.bump p o l w n) :=
  steps_setReg s _ lo hi
theorem steps_event (s : State) (p b : Nat) : DrcSteps s (s.event p b) := .single (.event s p b)
theorem steps_addSlip (s : State) (e n : Nat) : DrcSteps s (s.addSlip e n) := .single (.addSlip s e n)

theorem steps_cause (s : State) (p c a : Nat) : DrcSteps s (s.cause p c a) :=
  steps_trans (steps_trans (steps_setReg s _ (by decide) (by decide)) (steps_setReg _ _ (by decide) (by decide)))
    (steps_setReg _ _ (by decide) (by decide))
theorem steps_fail (s : State) (p b c a : Nat) : DrcSteps s (s.fail p b c a) := steps_trans (steps_cause ..) (steps_event ..)

theorem steps_ite {s t u : State} (c : Prop) [Decidable c] (ht : DrcSteps s t) (hu : DrcSteps s u) : DrcSteps s (if c then t else u) := by
  split <;> assumption
theorem steps_when (s : State) (c : Bool) (f : State → State) (h : DrcSteps s (f s)) : DrcSteps s (s.when c f) :=
  steps_ite _ h (steps_refl s)
theorem steps_forEach {α : Type} (l : List α) (f : α → State → State) (hf : ∀ x s, DrcSteps s (f x s)) (s : State) :
    DrcSteps s (forEach l f s) := forEach_rel DrcSteps steps_refl steps_trans l f hf s

/-! Counters and records. -/

theorem chReg_word (c : Nat) {k : Nat} (hk : k < 0x800) : 0x20 ≤ (chReg c).2 + k ∧ (chReg c).2 + k < 4096 := by
  simp only [chReg]
  omega

theorem steps_chReg (s : State) (c l w n : Nat) {k : Nat} (hk : k < 0x800) : DrcSteps s (s.bump (chReg c).1 ((chReg c).2 + k) l w n) :=
  steps_bump s _ _ _ _ (chReg_word c hk).1 (chReg_word c hk).2

theorem log_steps (s : State) (k c : Nat) (b : List Byte) : DrcSteps s (s.log k c b) := by
  rw [State.log]
  exact steps_ite _ (steps_ite _ (steps_withFlt ..) (steps_event ..)) (steps_withFlt ..)

theorem fault_steps (s : State) (c u j : Nat) : DrcSteps s (s.fault c u j) :=
  steps_trans (steps_trans (steps_trans (steps_cause ..) (steps_bump _ _ _ _ _ (by decide) (by decide))) (log_steps ..)) (steps_event ..)

theorem countWords_steps (s : State) (p n : Nat) : DrcSteps s (s.countWords p n) :=
  steps_trans (steps_bump s _ _ _ _ (by decide) (by decide)) (steps_chReg _ _ _ _ _ (k := 0) (by decide))

theorem bucketAdd_steps (s : State) (p n : Nat) : DrcSteps s (s.bucketAdd p n) := by
  rw [State.bucketAdd]
  exact steps_ite _ (steps_trans (steps_withDram s _) (steps_event ..)) (steps_withDram ..)

/-! Rows and pages. -/

theorem clearFlips_steps (s : State) (p : Nat) (l : List Nat) : DrcSteps s (s.clearFlips p l) := steps_withDram ..
theorem setValid_steps (s : State) (p m : Nat) : DrcSteps s (s.setValid p m) := steps_trans (steps_withDram s _) (clearFlips_steps ..)
theorem putChecks_steps (s : State) (p : Nat) (c : List Nat) : DrcSteps s (s.putChecks p c) :=
  steps_trans (steps_withDram s _) (clearFlips_steps ..)

theorem spareRow_steps (s : State) (p r : Nat) : DrcSteps s (s.spareRow p r) := by
  unfold State.spareRow
  split
  · exact steps_refl s
  · exact steps_ite _ (steps_withDram ..) (steps_trans (steps_trans (steps_withDram s _) (steps_fail ..)) (steps_withFlt ..))

theorem rowError_steps (s : State) (p r n : Nat) (m : Bool) : DrcSteps s (s.rowError p r n m) := by
  rw [State.rowError]
  exact steps_ite _ (steps_trans (steps_withDram s _) (spareRow_steps ..)) (steps_withDram ..)

theorem correct_steps (s : State) (p r : Nat) (l : List Nat) : DrcSteps s (s.correct p r l) := by
  have hcount := fun n => steps_trans (countWords_steps s p n)
    (steps_when _ (decide (r < 6)) (fun s => s.addSlip r (2 * n)) (steps_addSlip ..))
  rw [State.correct]
  exact steps_ite _ (hcount _) (steps_trans (hcount _) (steps_trans (bucketAdd_steps ..) (rowError_steps ..)))

/-- The UE log has 16 entries of 16 bytes. -/
theorem uncorrectable_steps (s : State) (p r l : Nat) : DrcSteps s (s.uncorrectable p r l) := by
  have hentry : s.rfld pgDrc 0x110 0 4 < 16 := fld_lt ..
  rw [State.uncorrectable]
  refine steps_trans ?_ (rowError_steps ..)
  refine steps_trans ?_ (steps_withFlt ..)
  refine steps_trans ?_ (fault_steps ..)
  refine steps_trans ?_ (steps_fail ..)
  refine steps_trans ?_ (steps_chReg _ _ _ _ _ (by decide))
  refine steps_trans ?_ (steps_bump _ _ _ _ _ (by decide) (by decide))
  refine steps_trans ?_ (steps_setReg _ _ (by decide) (by decide))
  refine steps_trans ?_ (steps_setReg _ _ (by omega) (by omega))
  refine steps_trans ?_ (steps_setReg _ _ (by omega) (by omega))
  refine steps_trans ?_ (steps_setReg _ _ (by omega) (by omega))
  refine steps_trans ?_ (steps_setReg _ _ (by omega) (by omega))
  refine steps_trans ?_ (setValid_steps ..)
  refine steps_trans ?_ (putChecks_steps ..)
  refine steps_trans ?_ (steps_withDram ..)
  exact steps_forEach _ _ (fun w s => steps_forEach _ _ (fun k s => .single (.setByte s _ _)) s) s

theorem reconstruct_steps (s : State) (p r : Nat) : DrcSteps s (s.reconstruct p r).1 := by
  have hcount := fun n k => steps_trans (steps_trans (steps_trans (steps_bump s pgDrc 16 16 1 (o := 0x20) (by decide) (by decide))
    (steps_chReg _ (chanOf p) 16 16 1 (k := 0) (by decide))) (countWords_steps _ p n)) (bucketAdd_steps _ p k)
  unfold State.reconstruct
  dsimp only
  split
  · exact steps_trans (hcount _ _) (uncorrectable_steps ..)
  · split
    · exact steps_trans (hcount _ _) (steps_trans (steps_withDram ..) (rowError_steps ..))
    · exact steps_trans (hcount _ _) (uncorrectable_steps ..)

/-! The merge buffer. -/

/-- A drain writes bytes of its page one by one. -/
theorem mergedBytes_steps (p : Nat) (f : Nat → State → State) (hf : ∀ o s, f o s = s ∨ ∃ b, f o s = s.setByte (pageAddr p + o) b)
    (s : State) :
    DrcSteps s (forEach (List.range 1024) f s) :=
  steps_forEach _ _ (fun o s => by
    rcases hf o s with h | ⟨b, h⟩ <;> rw [h]
    exact .single (.setByte s _ b)) s

theorem applyMerge_steps (s : State) (m : Merge) : DrcSteps s (s.applyMerge m) := by
  unfold State.applyMerge
  extract_lets p old new fresh s1 changed c0 c s2 s3 bad
  have hbytes : DrcSteps s s1 := mergedBytes_steps p _ (fun o s => by
    split
    · exact .inr ⟨_, rfl⟩
    · split
      · exact .inr ⟨_, rfl⟩
      · exact .inl rfl) s
  have hchecks : DrcSteps s s2 := steps_trans hbytes (steps_trans (steps_withDram ..) (putChecks_steps ..))
  have hcached : DrcSteps s s3 := steps_ite _ hchecks (steps_trans hchecks (steps_withDram ..))
  exact steps_ite _ (steps_trans hcached (setValid_steps ..)) hcached

theorem drainPage_steps (s : State) (p r : Nat) : DrcSteps s (s.drainPage p r) := by
  unfold State.drainPage
  split
  · exact steps_refl s
  · extract_lets s1 ws s2
    have htaken : DrcSteps s s1 := steps_withDram ..
    have hread : DrcSteps s s2 := steps_ite _ (steps_trans htaken (reconstruct_steps ..)) (steps_trans htaken (correct_steps ..))
    exact steps_ite _ htaken (steps_ite _ hread (steps_trans hread (applyMerge_steps ..)))

theorem writeSector_steps (s : State) (r a : Nat) (b : List (Option Byte)) : DrcSteps s (s.writeSector r a b).1 := by
  unfold State.writeSector
  extract_lets p o e e1 s1 c r' s2 s3
  have hentry : DrcSteps s s2 :=
    steps_trans (steps_withDram s _) (steps_setReg _ _ (chReg_word _ (by decide)).1 (chReg_word _ (by decide)).2)
  have hfull : DrcSteps s s3 := steps_ite _ (steps_trans hentry (drainPage_steps ..)) hentry
  split
  · exact steps_fail ..
  · split
    · split
      · exact steps_ite _ (steps_trans hfull (steps_withDram ..)) (steps_trans hfull (drainPage_steps ..))
      · exact hfull
    · exact hfull

/-! Reads, locks and what waits at them. -/

theorem respond_steps (s : State) (r a x : Nat) : DrcSteps s (s.respond r a x).1 := by
  unfold State.respond
  dsimp only
  split
  · exact steps_fail ..
  · exact correct_steps ..

theorem slipFree_steps (s : State) (r n : Nat) : DrcSteps s ((s.addSlip r n).drawn) := steps_trans (steps_addSlip ..) (.single (.drawn _))

theorem readNow_steps (s : State) (r a : Nat) : DrcSteps s (s.readNow r a).1 := by
  rw [State.readNow]
  split
  · exact steps_trans (steps_when _ _ _ (slipFree_steps ..)) (steps_trans (reconstruct_steps ..) (respond_steps ..))
  · exact respond_steps ..

theorem invalSectors_steps (s : State) (p m : Nat) : DrcSteps s (s.invalSectors p m) := by
  rw [State.invalSectors]
  exact steps_ite _ (drainPage_steps ..) (steps_trans (drainPage_steps s p 10) (setValid_steps ..))

theorem perform_steps (s : State) (p : Nat) (w : WaitOp) (x : Nat) : DrcSteps s (s.perform p w x) := by
  have hwait : ∀ r n, DrcSteps s (s.waited r n) := fun r n => steps_when _ _ _ (steps_addSlip ..)
  unfold State.perform
  split
  · exact steps_withDram ..
  · split
    · refine steps_trans ?_ (steps_withDram ..)
      split
      · exact steps_trans (hwait ..) (readNow_steps ..)
      · exact steps_trans (hwait ..) (respond_steps ..)
    · exact steps_trans (hwait ..) (writeSector_steps ..)
    · exact invalSectors_steps ..
    · exact drainPage_steps ..

theorem release_steps (s : State) (l : PageLock) (x : Nat) : DrcSteps s (s.release l x) := by
  unfold State.release
  dsimp only
  split
  · exact steps_withDram ..
  · exact steps_trans (steps_withDram s _) (steps_trans (perform_steps ..) (steps_forEach _ _ (fun _ _ => perform_steps ..) _))

theorem copyDone_steps (s : State) (p : Nat) : DrcSteps s (s.copyDone p) := by
  unfold State.copyDone
  extract_lets s0 bad s2 r s3 s4
  have hdrained : DrcSteps s s0 := drainPage_steps ..
  have hread : DrcSteps s s2 := steps_ite _ hdrained (steps_ite _ (steps_trans hdrained (reconstruct_steps ..))
    (steps_trans hdrained (steps_trans (correct_steps ..) (steps_withDram ..))))
  have hlogged : DrcSteps s s4 := steps_trans (steps_trans hread (steps_withDram ..))
    (steps_trans (steps_chReg _ _ _ _ _ (by decide)) (steps_trans (log_steps ..) (steps_event ..)))
  split
  · exact steps_trans hlogged (release_steps ..)
  · exact hlogged

theorem unlocked_steps (s : State) (p r : Nat) : DrcSteps s (s.unlocked p r) := by
  unfold State.unlocked
  refine steps_forEach _ _ (fun _ s => ?_) s
  split
  · rename_i l _
    have hslip := steps_when s (decide (r < 6)) (fun s => (s.addSlip r (s.freeWord.toNat % 2 ^ 16)).drawn) (slipFree_steps ..)
    exact steps_ite _ (steps_trans hslip (copyDone_steps ..))
      (steps_trans hslip (steps_trans (reconstruct_steps _ l.page l.req) (release_steps ..)))
  · exact steps_refl s

/-! Accesses of a requester. -/

theorem granted_steps (s : State) (w a : Nat) : DrcSteps s (s.granted w a) := by
  rw [State.granted, State.grant]
  exact steps_ite _ (steps_ite _ (steps_trans (steps_bump s _ _ _ _ (by decide) (by decide)) (steps_bump _ _ _ _ _ (by decide) (by decide)))
    (steps_bump s _ _ _ _ (by decide) (by decide))) (steps_refl s)

/-- A fold whose every turn is made of such changes is made of them. -/
theorem steps_foldl {α β : Type} (f : State × β → α → State × β) (hf : ∀ x a, DrcSteps x.1 (f x a).1) (l : List α) (x : State × β) :
    DrcSteps x.1 (l.foldl f x).1 := by
  induction l generalizing x with
  | nil => exact steps_refl _
  | cons a l ih => exact steps_trans (hf x a) (ih (f x a))

theorem dramWrite_steps (s : State) (w a : Nat) (b : List Byte) : DrcSteps s (s.dramWrite w a b).1 := by
  unfold State.dramWrite
  refine steps_foldl _ (fun x k => ?_) _ (s, _)
  exact steps_trans (granted_steps x.1 w k) (steps_trans (unlocked_steps ..) (writeSector_steps ..))

end Sys2Proof.Machine
end

section
/-! SUPPORT. What the queue manager's writes leave of DMA channels and of raised events (R288, R297, R341, R342). -/

namespace Sys2Proof.Machine

open Sys2Proof

/-! The relations. -/

/-- No event bit of any page is withdrawn. -/
structure State.keepsRaised (s t : State) : Prop where
  bits : ∀ p b, bitAt (s.reg p 0x10) b = true → bitAt (t.reg p 0x10) b = true

theorem keepsRaised_refl (s : State) : s.keepsRaised s := ⟨fun _ _ h => h⟩
theorem keepsRaised_trans {s t u : State} (h : s.keepsRaised t) (k : t.keepsRaised u) : s.keepsRaised u :=
  ⟨fun p b hb => k.bits p b (h.bits p b hb)⟩
theorem keepsRaised_of_reg {s t : State} (h : ∀ p, t.reg p 0x10 = s.reg p 0x10) : s.keepsRaised t := ⟨fun p b hb => by rwa [h]⟩
theorem keepsRaised_of_regs {s t : State} (h : t.regs = s.regs) : s.keepsRaised t := keepsRaised_of_reg fun p => by rw [State.reg, State.reg, h]

theorem keepsRaised_event (s : State) (p b : Nat) : s.keepsRaised (s.event p b) := by
  refine ⟨fun q k hk => ?_⟩
  by_cases hq : radr q 0x10 = radr p 0x10
  · obtain ⟨rfl, -⟩ := (radr_eq q 0x10 p 0x10 (by decide) (by decide)).1 hq
    exact event_reg_keeps s q b k hk
  · rwa [event_reg_ne s b hq]

/-- No channel changes, and no event is withdrawn. -/
structure State.sparesChannels (s t : State) : Prop where
  channels : t.channels = s.channels
  raised : s.keepsRaised t

theorem spares_refl (s : State) : s.sparesChannels s := ⟨rfl, keepsRaised_refl s⟩
theorem spares_trans {s t u : State} (h : s.sparesChannels t) (k : t.sparesChannels u) : s.sparesChannels u :=
  ⟨k.channels.trans h.channels, keepsRaised_trans h.raised k.raised⟩
theorem spares_of_regs {s t : State} (hc : t.channels = s.channels) (hr : t.regs = s.regs) : s.sparesChannels t :=
  ⟨hc, keepsRaised_of_regs hr⟩

theorem chan_of_spares {s t : State} (h : s.sparesChannels t) (d : Nat) : t.chan d = s.chan d := by rw [State.chan, State.chan, h.channels]

theorem spares_of_step {s t : State} (h : DrcStep s t) : s.sparesChannels t := by
  cases h with
  | drawn => exact spares_of_regs rfl rfl
  | withDram => exact spares_of_regs rfl rfl
  | withFlt => exact spares_of_regs rfl rfl
  | setByte => exact spares_of_regs rfl rfl
  | setReg p o w lo hi => exact ⟨rfl, keepsRaised_of_reg fun q => setReg_reg_ne _ _ (radr_ne (by omega) (by decide) hi)⟩
  | event p b => exact ⟨event_channels .., keepsRaised_event ..⟩
  | addSlip e n => exact ⟨addSlip_channels .., keepsRaised_of_reg fun q => addSlip_reg_ne s e n radr_ne⟩

theorem spares_of_steps {s t : State} (h : DrcSteps s t) : s.sparesChannels t := h.obeys spares_refl spares_trans spares_of_step

theorem spares_setQueue (s : State) (q : Nat) (v : Queue) : s.sparesChannels (s.setQueue q v) := spares_of_regs rfl rfl
theorem spares_owe (s : State) (d : Due) : s.sparesChannels (s.owe d) := spares_of_regs rfl rfl
theorem spares_poolSet (s : State) (p u n : Nat) : s.sparesChannels (s.poolSet p u n) := spares_of_regs rfl rfl

/-! Memory through either path. -/

theorem fabRefuse_steps (s : State) (t : Nat) (f : Nat × Nat) : DrcSteps s (s.fabRefuse t f) := by
  have hcause := steps_trans (steps_cause s (pgSmem t) (f.1 + 256 * 7 + 2048 * 0 + 65536 * 0xF) f.2)
    (steps_event _ (pgSmem t) (if f.1 = 2 then 7 else if f.1 = 4 then 6 else 5))
  unfold State.fabRefuse
  dsimp only
  split
  · exact steps_trans hcause (log_steps ..)
  · exact hcause

theorem memWrite_spares (s : State) (w a : Nat) (l : List Byte) : s.sparesChannels (s.memWrite w a l).1 := by
  unfold State.memWrite
  split
  · exact spares_of_steps (dramWrite_steps ..)
  · split
    · split
      · exact spares_of_steps (fabRefuse_steps ..)
      · exact spares_of_regs (tileWrite_channels ..) (tileWrite_regs ..)
    · exact spares_refl s

theorem freezeMaster_spares (s : State) (id a j : Nat) : s.sparesChannels (s.freezeMaster id a j) := by
  unfold State.freezeMaster
  dsimp only
  split
  · exact spares_refl s
  · refine spares_trans ?_ (spares_of_steps (fault_steps ..))
    refine spares_trans ?_ (spares_of_steps (steps_event ..))
    refine spares_trans ?_ (spares_of_steps (log_steps ..))
    refine spares_trans ?_ (spares_of_steps (steps_bump _ _ _ _ _ (by decide) (by decide)))
    refine spares_trans ?_ (spares_of_steps (steps_cause ..))
    exact spares_of_regs rfl rfl

theorem freezeBlock_spares (s : State) (id a : Nat) : s.sparesChannels (s.freezeBlock id a) := by
  unfold State.freezeBlock
  split
  · exact spares_refl s
  · exact spares_trans (freezeMaster_spares ..) (spares_owe ..)

theorem blockWrite_spares (s : State) (id w a : Nat) (l : List Byte) : s.sparesChannels (s.blockWrite id w a l) := by
  unfold State.blockWrite
  dsimp only
  split
  · exact spares_refl s
  · split
    · split
      · exact spares_trans (memWrite_spares ..) (freezeBlock_spares ..)
      · exact memWrite_spares ..
    · exact freezeBlock_spares ..

/-! Descriptors and their events. -/

theorem writeDesc_spares (s : State) (q : Nat) (d : Desc) : s.sparesChannels (s.writeDesc q d) :=
  spares_trans (blockWrite_spares ..) (spares_setQueue ..)

theorem announce_spares (s : State) (q code x y : Nat) : s.sparesChannels (s.announce q code x y) := by
  unfold State.announce
  dsimp only
  split
  · exact spares_of_regs (deviceEvent_channels ..) (deviceEvent_regs ..)
  · split
    · exact writeDesc_spares ..
    · exact spares_setQueue ..

theorem descDone_spares (s : State) (q n status : Nat) : s.sparesChannels (s.descDone q n status) := announce_spares ..

end Sys2Proof.Machine
end

section
/-! SUPPORT. DMA channels (R293, R296 to R302): a descriptor written back, the ends of a channel's work, and the start of a descriptor. -/

namespace Sys2Proof.Machine

open Sys2Proof

/-! A descriptor written back. -/

/-- A channel whose descriptor has gone back. -/
def Channel.freed (x : Channel) : Channel :=
  { x with desc := none, lines := 0, tries := 0, failed := 0, poison := false, srcInvalid := false, half := false }

/-- The queue's side of a descriptor that goes back: its slot written, its staging lines given back, CONS_SEQ moved. -/
def State.slotBack (s : State) (d : Nat) (k : Desc) (status len : Nat) : State :=
  let x := s.chan d
  let c := (s.queue x.queue).ctx
  let u := s.blockWrite 0x93 (who 7 d) (slotAddr c c.cons)
    (descBytes { k with own := false, status := status, length := len, srcInvalid := x.srcInvalid })
  (u.poolSet 0 (u.poolUser x.queue) (u.poolUsed 0 (u.poolUser x.queue) - x.lines)).setQueue x.queue
    { u.queue x.queue with ctx := { (u.queue x.queue).ctx with cons := (c.cons + 1) % 2 ^ 32, lastStatus := status } }

theorem slotBack_spares (s : State) (d : Nat) (k : Desc) (status len : Nat) : s.sparesChannels (s.slotBack d k status len) :=
  spares_trans (blockWrite_spares ..) (spares_trans (spares_poolSet ..) (spares_setQueue ..))

section Back
variable (s : State) (d status len : Nat)

theorem writeBack_of_none (h : (s.chan d).desc = none) : s.writeBack d status len = s := by
  simp only [State.writeBack, h]

theorem writeBack_of_desc {k : Desc} (h : (s.chan d).desc = some k) : s.writeBack d status len =
    if k.evtFull || status != 0 then ((s.slotBack d k status len).setChan d (s.chan d).freed).descDone (s.chan d).queue
      (s.queue (s.chan d).queue).ctx.cons status
    else (s.slotBack d k status len).setChan d (s.chan d).freed := by
  simp only [State.writeBack, h]
  rfl

theorem writeBack_keepsRaised : s.keepsRaised (s.writeBack d status len) := by
  cases h : (s.chan d).desc with
  | none => rw [writeBack_of_none s d status len h]; exact keepsRaised_refl s
  | some k =>
    have hback : s.keepsRaised ((s.slotBack d k status len).setChan d (s.chan d).freed) :=
      keepsRaised_trans (slotBack_spares ..).raised (keepsRaised_of_regs rfl)
    rw [writeBack_of_desc s d status len h]
    split
    · exact keepsRaised_trans hback (descDone_spares ..).raised
    · exact hback

theorem writeBack_chan {k : Desc} (h : (s.chan d).desc = some k) : (s.writeBack d status len).chan d = (s.chan d).freed := by
  rw [writeBack_of_desc s d status len h]
  split
  · rw [chan_of_spares (descDone_spares ..), setChan_chan_same]
  · exact setChan_chan_same ..

theorem writeBack_desc : ((s.writeBack d status len).chan d).desc = none := by
  cases h : (s.chan d).desc with
  | none => rw [writeBack_of_none s d status len h, h]
  | some k => rw [writeBack_chan s d status len h]; rfl

end Back

/-! Ends of a channel's work. -/

theorem chanNext_of_active {s : State} {d : Nat} (h : (s.chan d).state = .active) :
    s.chanNext d = s.setChan d { s.chan d with state := .idle } := by
  simp only [State.chanNext, h]

/-- A channel that freezes holds no descriptor, and FREEZE is raised (R302). -/
theorem chanFreeze_frozen (s : State) (d q c a : Nat) :
    ((s.chanFreeze d q c a).chan d).state = .frozen ∧ ((s.chanFreeze d q c a).chan d).desc = none ∧
      bitAt ((s.chanFreeze d q c a).reg pgDma 0x10) 3 = true := by
  have hlast := freezeMaster_spares ((((s.dmaCause d q c a).writeBack d 6 0).setChan d
    { ((s.dmaCause d q c a).writeBack d 6 0).chan d with state := .frozen }).event pgDma 3) (0x10 + d) a ((s.queue q).ctx.owner % 8)
  have hchan := chan_of_spares hlast d
  rw [event_chan, setChan_chan_same] at hchan
  refine ⟨?_, ?_, hlast.raised.bits pgDma 3 (event_reg_bit _ _ _ (by decide))⟩
  · exact congrArg Channel.state hchan
  · exact (congrArg Channel.desc hchan).trans (writeBack_desc ..)

theorem chanFreeze_keepsRaised (s : State) (d q c a : Nat) : s.keepsRaised (s.chanFreeze d q c a) := by
  have hcause : s.keepsRaised (s.dmaCause d q c a) := (spares_of_steps (steps_cause ..)).raised
  unfold State.chanFreeze
  dsimp only
  refine keepsRaised_trans ?_ (freezeMaster_spares ..).raised
  refine keepsRaised_trans ?_ (keepsRaised_event ..)
  refine keepsRaised_trans ?_ (keepsRaised_of_regs (setChan_regs ..))
  exact keepsRaised_trans hcause (writeBack_keepsRaised ..)

/-- A channel that halts raises HALT (R299). -/
theorem chanHalt_halted (s : State) (d : Nat) : ((s.chanHalt d).chan d).state = .halted ∧ bitAt ((s.chanHalt d).reg pgDma 0x10) 0 = true := by
  unfold State.chanHalt
  extract_lets x q s1 c queue chan s2 s3
  have hlast : (((s2.bump pgDma 0x20 16 16 1).event pgDma 0)).sparesChannels s3 := spares_of_steps (fault_steps ..)
  have hstate : (s3.chan d).state = .halted := by
    rw [chan_of_spares hlast, event_chan, bump_chan, setChan_chan_same]
  have hbit : bitAt (s3.reg pgDma 0x10) 0 = true := hlast.raised.bits pgDma 0 (event_reg_bit _ _ _ (by decide))
  split
  · exact ⟨hstate, hbit⟩
  · exact ⟨hstate, hbit⟩

/-! Failed accesses (R298, R299). -/

theorem dmaFail_of_active {s : State} {d : Nat} (c a : Nat) (hdesc : (s.chan d).desc.isSome = true) (hact : (s.chan d).state = .active)
    (hfail : (s.chan d).failed = 0) :
    s.dmaFail d c a = (s.dmaCause d (s.chan d).queue c a).setChan d { s.chan d with failed := c, addr := a } :=
  if_pos ⟨hdesc, .inl hact, hfail⟩

/-- A retry counted, with its event. -/
def State.retried (s : State) (d : Nat) : State :=
  ((s.bump pgDma 0x20 0 16 1).bump (0x601 + d / 64) (0x40 * (d % 64) + 0x14) 16 16 1).event pgDma 2

theorem retried_vitals (s : State) (d : Nat) : (s.retried d).vitals = s.vitals := event_vitals ..
theorem retried_event (s : State) (d : Nat) : bitAt ((s.retried d).reg pgDma 0x10) 2 = true := event_reg_bit _ _ _ (by decide)
theorem dmaCause_vitals (s : State) (d q c a : Nat) : (s.dmaCause d q c a).vitals = s.vitals := (rfl)

section Retry
variable {s : State} {d : Nat} (hfail : (s.chan d).failed ≠ 0)
include hfail

theorem dmaRetry_ok : s.dmaRetry d true = (s.retried d).setChan d { s.chan d with failed := 0, tries := 0 } := if_neg hfail

theorem dmaRetry_again (htries : (s.chan d).tries < 2) : s.dmaRetry d false =
    ((s.retried d).dmaCause d (s.chan d).queue (s.chan d).failed (s.chan d).addr).setChan d
      { s.chan d with tries := (s.chan d).tries + 1 } :=
  (if_neg hfail).trans ((if_neg Bool.false_ne_true).trans (if_neg (by omega)))

theorem dmaRetry_last (htries : 2 ≤ (s.chan d).tries) : s.dmaRetry d false =
    ((s.retried d).dmaCause d (s.chan d).queue (s.chan d).failed (s.chan d).addr).chanHalt d :=
  (if_neg hfail).trans ((if_neg Bool.false_ne_true).trans (if_pos htries))

end Retry

/-! The start of a descriptor. -/

/-- The channel with its next descriptor, before it is judged. -/
def State.descTaken (s : State) (d q : Nat) (k : Desc) : State :=
  (s.setChan d { s.chan d with state := .active, queue := q, desc := some k, done := 0, lines := 0 }).setReg
    (0x601 + d / 64) (0x40 * (d % 64) + 8) (BitVec.ofNat 32 (s.queue q).ctx.cons)

theorem descTaken_chan (s : State) (d q : Nat) (k : Desc) :
    (s.descTaken d q k).chan d = { s.chan d with state := .active, queue := q, desc := some k, done := 0, lines := 0 } := by
  rw [State.descTaken, setReg_chan, setChan_chan_same]

theorem descTaken_groupOff (s : State) (d q : Nat) (k : Desc) (a n : Nat) : (s.descTaken d q k).groupOff a n = s.groupOff a n := (rfl)

theorem dmaStart_of_idle {s : State} {d : Nat} (b : Bool) (h : (s.chan d).state ≠ .idle ∨ s.dmaQueue d = none) : s.dmaStart d b = s := by
  unfold State.dmaStart
  by_cases hidle : (s.chan d).state = .idle
  · have hnone : s.dmaQueue d = none := h.resolve_left (not_not.2 hidle)
    simp only [hidle, hnone, ne_eq, not_true_eq_false, if_false]
  · exact if_pos hidle

section Start
variable {s : State} {d q : Nat} {k : Desc} (hidle : (s.chan d).state = .idle) (hq : s.dmaQueue d = some q) (hk : s.dmaNext q = some k)
include hidle hq hk

/-- A descriptor that the channel refuses goes back with a format status (R296). -/
theorem dmaStart_refused (hbad : refusedDesc k = true) :
    s.dmaStart d false = ((((s.descTaken d q k).writeBack d 8 0).bump pgQm 0x20 16 16 1).qmFail 4 5 q).chanNext d := by
  simp only [State.dmaStart, hidle, hq, hk, hbad, ne_eq, not_true_eq_false, Bool.false_eq_true, if_false, if_true]
  rfl

variable (hgood : refusedDesc k = false) (hlen : 0 < k.length)
include hgood hlen

/-- A source outside the owner's windows freezes the channel (R302). -/
theorem dmaStart_outside (hsrc : s.dmaWindow q k.addr k.length false = false) :
    s.dmaStart d false = (s.descTaken d q k).chanFreeze d q 5 k.addr := by
  simp only [State.dmaStart, hidle, hq, hk, hgood, hlen.ne', hsrc, ne_eq, not_true_eq_false, Bool.false_eq_true, Bool.not_false, if_false,
    if_true]
  rfl

variable (hsrc : s.dmaWindow q k.addr k.length false = true) (hdst : s.dmaWindow q k.dest k.length true = true)
include hsrc hdst

/-- A source in a bank group that is not ON freezes the channel (R154). -/
theorem dmaStart_off {g : Nat × Nat} (hoff : s.groupOff k.addr k.length = some g) :
    s.dmaStart d false =
      ((s.descTaken d q k).groupRefused g.1 g.2 false).chanFreeze d q 6 (tileBase g.1 + 0x400000 * g.2) := by
  have hfreeze : (s.descTaken d q k).dmaOff d q k =
      some (((s.descTaken d q k).groupRefused g.1 g.2 false).chanFreeze d q 6 (tileBase g.1 + 0x400000 * g.2)) := by
    rw [State.dmaOff, descTaken_groupOff, hoff]
  simp only [State.dmaStart, hidle, hq, hk, hgood, hlen.ne', hsrc, hdst, ne_eq, not_true_eq_false, Bool.false_eq_true, Bool.not_true,
    if_false]
  rw [State.descTaken] at hfreeze
  simp only [hfreeze]
  rfl

/-- A descriptor that nothing stops descTaken staging lines and starts. -/
theorem dmaStart_starts (hon : s.groupOff k.addr k.length = none) (hon' : s.groupOff k.dest k.length = none)
    (hroom : 0 < s.poolRoom 0 (s.poolUser q)) :
    s.dmaStart d false = ((s.descTaken d q k).poolSet 0 (s.poolUser q)
      (s.poolUsed 0 (s.poolUser q) + min (min 64 (cdiv k.length 128)) (s.poolRoom 0 (s.poolUser q)))).setChan d
      { (s.descTaken d q k).chan d with lines := min (min 64 (cdiv k.length 128)) (s.poolRoom 0 (s.poolUser q)) } := by
  have hfree : (s.descTaken d q k).dmaOff d q k = none := by
    simp only [State.dmaOff, descTaken_groupOff, hon, hon']
  simp only [State.dmaStart, hidle, hq, hk, hgood, hlen.ne', hsrc, hdst, ne_eq, not_true_eq_false, Bool.false_eq_true, Bool.not_true,
    if_false]
  rw [State.descTaken] at hfree ⊢
  simp only [hfree, hroom.ne', if_false]

end Start

end Sys2Proof.Machine
end

section
/-! SUPPORT. Stops, halves and ends of a transfer (R296, R297, R300, R301); and O41. -/

namespace Sys2Proof.Machine

open Sys2Proof

/-! Stops. -/

@[simp] theorem setChan_setChan (s : State) (d : Nat) (v w : Channel) : (s.setChan d v).setChan d w = s.setChan d w := by
  simp only [State.setChan, sset_sset]

/-- A stop of an idle channel brings it to rest at once. -/
theorem chanStop_rests {s : State} {d : Nat} (h : (s.chan d).state = .idle) :
    s.chanStop d none = (s.setChan d { s.chan d with state := .stopped, stopQ := none }).event pgDma 1 := by
  rw [chanStop_of_idle none h, State.chanRest, setChan_setChan, setChan_chan_same]

theorem forEach_of_fixed {α : Type} {l : List α} {f : α → State → State} {s : State} (h : ∀ x, f x s = s) : forEach l f s = s := by
  induction l with
  | nil => rfl
  | cons x l ih => rw [forEach_cons, h, ih]

/-- A channel that goes on while nothing waits on its queues. -/
theorem chanResume_of_empty {s : State} {d : Nat} (h : (s.chan d).state = .stopped ∨ (s.chan d).state = .halted)
    (hempty : ∀ q, (s.queue q).held = [] ∧ (s.queue q).pend = none) :
    s.chanResume d = s.setChan d { s.chan d with state := .idle, stopQ := none } := by
  have hflush : ∀ (y : Channel) (q : Nat), (s.setChan d y).flushQueue q = s.setChan d y := fun y q =>
    flushQueue_of_empty ((congrArg Queue.held (setChan_queue s d y q)).trans (hempty q).1)
      ((congrArg Queue.pend (setChan_queue s d y q)).trans (hempty q).2)
  rcases h with h | h <;> simp only [State.chanResume, h] <;> exact forEach_of_fixed (hflush _)

/-! Transfers of nothing. -/

theorem groupOff_zero (s : State) (a : Nat) : s.groupOff a 0 = none := by
  rw [State.groupOff, if_pos (by simp)]

theorem dmaOff_none {s : State} {k : Desc} (d q : Nat) (h : s.groupOff k.addr k.length = none) (h' : s.groupOff k.dest k.length = none) :
    s.dmaOff d q k = none := by
  simp only [State.dmaOff, h, h']

theorem dmaRead_zero (s : State) (d a : Nat) : s.dmaRead d a 0 = (s, ⟨[], false, false⟩) := by
  rw [State.dmaRead, State.fabRead, if_pos rfl]
  rfl

theorem dmaWrite_nil (s : State) (d a : Nat) : s.dmaWrite d a [] = (s, false, none) := by
  simp only [State.dmaWrite, List.length_nil, if_true]

/-- Moving no bytes leaves the channel's state and descriptor. -/
theorem dmaMove_zero {s : State} {d : Nat} {k : Desc} (h : (s.chan d).desc = some k) :
    ∃ y : Channel, s.dmaMove d 0 = (s.setChan d y, none) ∧ y.state = (s.chan d).state ∧ y.desc = some k := by
  obtain ⟨y, hmove, hstate, hdesc, -⟩ := dmaMove_of_desc h 0
  rw [Nat.zero_sub, dmaRead_zero, dmaWrite_nil] at hmove hstate hdesc
  exact ⟨y, hmove, hstate, hdesc.trans h⟩

/-! Ends. -/

theorem chanNext_chan {s : State} {d : Nat} (h : (s.chan d).state = .active) :
    (s.chanNext d).chan d = { s.chan d with state := .idle } := by
  rw [chanNext_of_active h, setChan_chan_same]

/-- A descriptor of no bytes goes back and frees its channel. -/
theorem dmaComplete_empty {s : State} {d : Nat} {k : Desc} (hdesc : (s.chan d).desc = some k) (hact : (s.chan d).state = .active)
    (hfail : (s.chan d).failed = 0) (hlen : k.length = 0) :
    ((s.dmaComplete d).chan d).state = .idle ∧ ((s.dmaComplete d).chan d).desc = none := by
  obtain ⟨y, hmove, hstate, hy⟩ := dmaMove_zero hdesc
  have hoff : s.dmaOff d (s.chan d).queue k = none :=
    dmaOff_none _ _ (by rw [hlen, groupOff_zero]) (by rw [hlen, groupOff_zero])
  have hends : ∀ (u : State) (st : Nat), u.chan d = y →
      (((u.writeBack d st 0).chanNext d).chan d).state = .idle ∧ (((u.writeBack d st 0).chanNext d).chan d).desc = none := by
    intro u st hu
    have hback : (u.writeBack d st 0).chan d = y.freed := by rw [writeBack_chan u d st 0 (hu ▸ hy), hu]
    rw [chanNext_chan (by rw [hback]; exact hstate.trans hact), hback]
    exact ⟨rfl, rfl⟩
  simp only [State.dmaComplete, hdesc, hact, hfail, hlen, hoff, hmove, true_or, or_true, and_true, if_true]
  refine hends _ _ ?_
  split
  · rw [event_chan, State.dmaCause, cause_chan, bump_chan, setChan_chan_same]
  · rw [bump_chan, setChan_chan_same]

/-- The first half of a descriptor is acknowledged once it has been moved (R297). -/
theorem dmaHalf_moved {s : State} {d : Nat} {k : Desc} (hdesc : (s.chan d).desc = some k) (hact : (s.chan d).state = .active)
    (hfail : (s.chan d).failed = 0) (hevt : k.evtHalf = true) (hlen : 1 ≤ k.length) (hhalf : (s.chan d).half = false)
    (hon : s.groupOff k.addr k.length = none) (hon' : s.groupOff k.dest k.length = none)
    (hmove : (s.dmaMove d (cdiv k.length 2)).2 = none) :
    ((s.dmaHalf d).chan d).half = true ∧ ((s.dmaHalf d).chan d).done = cdiv k.length 2 := by
  obtain ⟨y, hmoved, -, -, hdone⟩ := dmaMove_of_desc hdesc (cdiv k.length 2)
  rw [hmoved] at hmove
  have hoff := dmaOff_none d (s.chan d).queue hon hon'
  simp only [State.dmaHalf, hdesc, hact, hfail, hevt, hlen, hhalf, hoff, hmoved, hmove, true_or, and_true, Bool.not_false, if_true]
  rw [chan_of_spares (announce_spares ..), setChan_chan_same, setChan_chan_same]
  exact ⟨rfl, hdone hmove⟩

/-! Refused accesses. -/

theorem groupRefused_event (s : State) (t g : Nat) : bitAt ((s.groupRefused t g false).reg (pgSmem t) 0x10) 6 = true := by
  rw [State.groupRefused, if_neg Bool.false_ne_true]
  exact event_reg_bit _ _ _ (by decide)

@[simp] theorem poolSet_vitals (s : State) (p u n : Nat) : (s.poolSet p u n).vitals = s.vitals := (rfl)
@[simp] theorem descTaken_vitals (s : State) (d q : Nat) (k : Desc) : (s.descTaken d q k).vitals = s.vitals := (rfl)

/-- Settles O41: a start by how the descriptor is judged, failures and retries by `dmaRetry`'s lemmas, ends and stops by what they leave of
the channel. -/
theorem dmaChannels : Obligations.DmaChannels := by
  unfold Obligations.DmaChannels
  refine ⟨fun s d b hs h => done_eq (dmaStart_of_idle b h) hs,
    fun s d q k hs hidle hq hk hgood hlen hsrc hdst hon hon' hroom => ?starts,
    fun s d q k hidle hq hk hbad _ => ?refused,
    fun s d q k hidle hq hk hgood hlen hsrc => ⟨_, congrArg done (dmaStart_outside hidle hq hk hgood hlen hsrc), chanFreeze_frozen ..⟩,
    fun s d q k g hidle hq hk hgood hlen hsrc hdst hoff => ?off,
    fun s d a hs ha hdesc hact hfail => ⟨?timeout, ?link⟩,
    fun s d hs hfail => ?ok,
    fun s d hs hfail htries => ?again,
    fun s d hfail htries => ⟨_, congrArg done (dmaRetry_last hfail htries), chanHalt_halted ..⟩,
    fun s d k hdesc hact hfail hlen => ⟨_, rfl, dmaComplete_empty hdesc hact hfail hlen⟩,
    fun s d k hdesc hact hfail hevt hlen hhalf hon hon' hmove =>
      ⟨_, rfl, dmaHalf_moved hdesc hact hfail hevt hlen hhalf hon hon' hmove⟩,
    fun s d hs h => done_eq_of_vitals hs (chanStop_rests h) (event_vitals ..),
    fun s d hs h => done_eq_of_vitals hs (chanStop_of_active none h) (setChan_vitals ..),
    fun s d hs h hempty => done_eq_of_vitals hs (chanResume_of_empty h hempty) (setChan_vitals ..)⟩
  case starts =>
    have hvitals : (s.dmaStart d false).vitals = s.vitals := by
      rw [dmaStart_starts hidle hq hk hgood hlen hsrc hdst hon hon' hroom, setChan_vitals, poolSet_vitals, descTaken_vitals]
    refine ⟨_, done_of_vitals hs hvitals, ?_⟩
    have hmem := sameMemory_of_vitals hvitals
    rw [dmaStart_starts hidle hq hk hgood hlen hsrc hdst hon hon' hroom] at hmem ⊢
    rw [setChan_chan_same, descTaken_chan]
    exact ⟨rfl, rfl, rfl, rfl, rfl, hmem⟩
  case refused =>
    have hback : ((((s.descTaken d q k).writeBack d 8 0).bump pgQm 0x20 16 16 1).qmFail 4 5 q).chan d =
        ((s.descTaken d q k).chan d).freed := by
      rw [State.qmFail, fail_chan, bump_chan, writeBack_chan _ _ _ _ (congrArg Channel.desc (descTaken_chan s d q k))]
    rw [descTaken_chan] at hback
    refine ⟨_, congrArg done (dmaStart_refused hidle hq hk hbad), ?_, ?_, ?_⟩
    · rw [chanNext_chan (by rw [hback]; rfl)]
    · rw [chanNext_chan (by rw [hback]; rfl), hback]
      rfl
    · rw [chanNext_of_active (by rw [hback]; rfl)]
      exact ⟨fail_reg_cause .., fail_reg_event _ _ _ _ _ (by decide)⟩
  case off =>
    obtain ⟨hstate, hdesc, hevent⟩ := chanFreeze_frozen ((s.descTaken d q k).groupRefused g.1 g.2 false) d q 6 (tileBase g.1 + 0x400000 * g.2)
    exact ⟨_, congrArg done (dmaStart_off hidle hq hk hgood hlen hsrc hdst hoff), hstate, hdesc, hevent,
      (chanFreeze_keepsRaised ..).bits _ 6 (groupRefused_event ..)⟩
  case timeout => exact (if_pos ha).trans (done_eq_of_vitals hs (dmaFail_of_active 1 a hdesc hact hfail) rfl)
  case link => exact (if_pos ha).trans (done_eq_of_vitals hs (dmaFail_of_active 2 a hdesc hact hfail) rfl)
  case ok =>
    have hvitals := (setChan_vitals (s.retried d) d { s.chan d with failed := 0, tries := 0 }).trans (retried_vitals s d)
    exact ⟨_, done_eq_of_vitals hs (dmaRetry_ok hfail) hvitals, setChan_chan_same .., retried_event .., sameMemory_of_vitals hvitals⟩
  case again =>
    have hvitals := (setChan_vitals _ d { s.chan d with tries := (s.chan d).tries + 1 }).trans ((dmaCause_vitals (s.retried d) d
      (s.chan d).queue (s.chan d).failed (s.chan d).addr).trans (retried_vitals s d))
    refine ⟨_, done_eq_of_vitals hs (dmaRetry_again hfail htries) hvitals, setChan_chan_same .., ?_, sameMemory_of_vitals hvitals⟩
    rw [setChan_reg, State.dmaCause, cause_reg_low _ _ _ _ (by decide)]
    exact retried_event ..

end Sys2Proof.Machine
end

section
/-! SUPPORT. Fragments of bulk transfers (R317) and event records (R322). -/

namespace Sys2Proof.Machine

open Sys2Proof

/-! Doorbell frames (R290). -/

theorem forEach_map {α β : Type} (g : α → β) (l : List α) (f : β → State → State) (s : State) :
    forEach (l.map g) f s = forEach l (fun x s => f (g x) s) s := List.foldl_map

/-- Entries of a frame of an open host session take effect in order. -/
theorem doorbells_of_open {s : State} {n : Nat} (seq tag : Nat) {l : List (Nat × Word)} (hopen : s.isOpen n = true)
    (hpeer : (s.sess n).peer = false) (howned : (s.sess n).unowned = false) (hlo : 1 ≤ l.length) (hhi : l.length ≤ 176) :
    s.doorbells n seq tag l = forEach l (fun x s => if x.1 < 16384 then s.doorbell x.1 x.2 else s) s := by
  rw [State.doorbells, if_neg (by rw [hopen]; decide), if_neg (by rw [hpeer, howned]; decide), if_neg (by omega)]

/-! Fragments written. -/

@[simp] theorem dropBulk_sup (s : State) (n tag : Nat) : (s.dropBulk n tag).sup = s.sup := (rfl)

theorem setSess_sess_same (s : State) (n : Nat) (v : Session) : (s.setSess n v).sess n = v := sget_sset_same ..

theorem dropBulk_bulk (s : State) (n tag : Nat) :
    ((s.dropBulk n tag).sess n).bulk = (s.sess n).bulk.filter fun b => b.tag != tag := by
  rw [State.dropBulk, setSess_sess_same]

/-- What earlier fragments of a transfer have brought. -/
def State.bulkGot (s : State) (n tag : Nat) : List Byte :=
  match (s.sess n).bulk.find? fun b => b.tag == tag with
  | some b => b.data
  | none => []

theorem bulkGot_of_none {s : State} {n : Nat} (h : (s.sess n).bulk = []) (tag : Nat) : s.bulkGot n tag = [] := by
  rw [State.bulkGot, h, List.find?_nil]

section Put
variable {s : State} {n : Nat} (seq : Nat) {f : BulkFrag} (hopen : s.isOpen n = true)
include hopen

/-- A fragment that a rule refuses is answered, and its transfer is forgotten. -/
theorem bulkPut_refused {r : Nat × Nat} (hfault : s.putFault n f = some r) :
    s.bulkPut n seq f = (s.dropBulk n f.tag.toNat).nak n (asked n 4 seq f.tag.toNat) r.1 r.2 := by
  simp only [State.bulkPut, hopen, hfault, Bool.not_true, Bool.false_eq_true, if_false]

variable (hok : s.putFault n f = none)
include hok

/-- The last fragment of a transfer to memory writes its bytes. -/
theorem bulkPut_writes (hspace : f.space = 0) (hlast : f.more = false) :
    s.bulkPut n seq f = (s.dropBulk n f.tag.toNat).hostWrite (f.addr + f.off) f.data := by
  simp only [State.bulkPut, hopen, hok, hspace, hlast, Bool.not_true, Bool.false_eq_true, if_false, if_true]

/-- The last fragment of a command hands it to the supervisor. -/
theorem bulkPut_commands (hspace : f.space = 1) (hlast : f.more = false) :
    s.bulkPut n seq f = { s.dropBulk n f.tag.toNat with
      sup := { s.sup with cmds := s.sup.cmds ++ [(f.tag.toNat, s.bulkGot n f.tag.toNat ++ f.data)] } } := by
  simp only [State.bulkPut, hopen, hok, hspace, hlast, Bool.not_true, Bool.false_eq_true, if_false, one_ne_zero, OfNat.one_ne_ofNat, or_self,
    dropBulk_sup]
  rfl

/-- A fragment of a command or a peer's transfer that others follow is kept. -/
theorem bulkPut_keeps (h0 : f.space ≠ 0) (h2 : f.space ≠ 2) (hmore : f.more = true) :
    s.bulkPut n seq f = (s.dropBulk n f.tag.toNat).setSess n { (s.dropBulk n f.tag.toNat).sess n with
      bulk := ((s.dropBulk n f.tag.toNat).sess n).bulk ++ [⟨f.tag.toNat, f.space, f.queue, f.total, f.addr, f.off + f.data.length,
        s.bulkGot n f.tag.toNat ++ f.data⟩] } := by
  simp only [State.bulkPut, hopen, hok, h0, h2, hmore, Bool.not_true, Bool.false_eq_true, if_false, or_self, if_true]
  rfl

end Put

/-! Reads. -/

section Get
variable {s : State} {n : Nat} (seq : Nat) {f : BulkFrag} (hopen : s.isOpen n = true) (hpeer : (s.sess n).peer = false)
  (howned : (s.sess n).unowned = false)
include hopen hpeer howned

/-- A read of nothing, or of more than 16 MiB, is refused. -/
theorem bulkGet_refused (hspace : f.space = 0) (hbytes : f.bytes = 0 ∨ 0x1000000 < f.bytes) :
    s.bulkGet n seq f = s.nak n (asked n 5 seq f.tag.toNat) 5 f.addr := by
  simp only [State.bulkGet, hopen, hpeer, howned, hspace, hbytes, Bool.or_self, Bool.not_true, Bool.false_eq_true, if_false, if_true]

/-- The result of the last command. -/
theorem bulkGet_result (hspace : f.space = 1) (hlo : 0 < f.bytes) (hhi : f.addr + f.bytes ≤ 20) :
    s.bulkGet n seq f = s.sendRun n 5 4 f.tag.toNat
      [bulkHeader 1 0 0 f.bytes f.addr 0 0 ++ (s.sup.result.drop f.addr).take f.bytes] none := by
  have hin : ¬ (f.bytes = 0 ∨ 20 < f.addr + f.bytes) := by omega
  simp only [State.bulkGet, hopen, hpeer, howned, hspace, hin, Bool.or_self, Bool.not_true, Bool.false_eq_true, if_false]

end Get

/-! Event records (R322). -/

theorem eventSend_of_none {s : State} (h : ∀ r ∈ s.net.events, (s.sess r.session).state ≠ 2) : s.eventSend = s := by
  have hfind : s.net.events.find? (fun r => (s.sess r.session).state == 2) = none :=
    List.find?_eq_none.2 fun r hr => by simpa using h r hr
  rw [State.eventSend, hfind]

/-- The only record that waits leaves its store in a frame of its own. -/
theorem eventSend_single {s : State} {r : EventRec} (h : s.net.events = [r]) (hopen : (s.sess r.session).state = 2)
    (hlost : s.net.lostEvents = 0) :
    s.eventSend = ({ s with net := { s.net with events := [] } } : State).sendFrame r.session
      (mkFrame r.session 6 0 0 (recordBytes r)) none := by
  have hroom : ∃ k, (if s.payloadLimit (s.sess r.session).port = 8960 then 560 else 88) = k + 1 := by
    split
    · exact ⟨559, rfl⟩
    · exact ⟨87, rfl⟩
  obtain ⟨k, hk⟩ := hroom
  simp only [State.eventSend, h, List.find?_cons, hopen, hlost, hk, beq_self_eq_true, if_true, List.length_nil, Nat.sub_zero, List.filter_cons,
    List.filter_nil, List.take_succ_cons, List.take_nil, List.nil_append, List.map_cons, List.map_nil, List.flatten_cons, List.flatten_nil,
    List.append_nil, dropSome]

end Sys2Proof.Machine
end

section
/-! SUPPORT. Descriptors of STREAM and PUSH queues sent (R311, R319); and O46. -/

namespace Sys2Proof.Machine

open Sys2Proof

/-! Reads through the DMA put nothing on the wires. -/

/-- A part of the state that every turn of a gathering fold keeps. -/
theorem foldl_keeps {α β γ : Type} (v : State → γ) {f : State × β → α → State × β} (hf : ∀ x a, v (f x a).1 = v x.1) (l : List α)
    (x : State × β) : v (l.foldl f x).1 = v x.1 := by
  induction l generalizing x with
  | nil => rfl
  | cons a l ih => rw [List.foldl_cons, ih, hf]

theorem fabRefuse_frame (s : State) (t : Nat) (f : Nat × Nat) : DrcFrame s (s.fabRefuse t f) := by
  have hcause := DrcFrame_trans (DrcFrame_cause s (pgSmem t) (f.1 + 256 * 7 + 2048 * 0 + 65536 * 0xF) f.2)
    (DrcFrame_event _ (pgSmem t) (if f.1 = 2 then 7 else if f.1 = 4 then 6 else 5))
  unfold State.fabRefuse
  dsimp only
  split
  · exact DrcFrame_trans hcause (log_frame ..)
  · exact hcause

theorem memRead_frame (s : State) (w a n : Nat) : DrcFrame s (s.memRead w a n).1 := by
  unfold State.memRead
  split
  · exact dramRead_frame ..
  · split
    · split
      · exact fabRefuse_frame ..
      · exact DrcFrame_refl s
    · exact DrcFrame_refl s

theorem fabRead_out (s : State) (w a n : Nat) : (s.fabRead w a n).1.out = s.out := by
  rw [State.fabRead]
  refine foldl_keeps State.out (f := fabStep w a n (if a < dramBase then 128 else 64)) (fun x b => ?_) _ (s, _)
  exact (memRead_frame x.1 w b _).out

/-! Bands of a STREAM queue (R311). -/

/-- One unit of a band read for a channel, its bytes added to those before. -/
def bandStep (c a : Nat) (x : State × List Byte) (u : Nat × Nat) : State × List Byte :=
  let m := x.1.dmaRead c (a + u.1) u.2
  (m.1, x.2 ++ m.2.data)

theorem bandStep_out (c a : Nat) (x : State × List Byte) (u : Nat × Nat) : (bandStep c a x u).1.out = x.1.out := by
  rw [bandStep, State.dmaRead]
  exact fabRead_out ..

theorem bandRead_out (s : State) (c a : Nat) (l : List (Nat × Nat)) : (l.foldl (bandStep c a) (s, [])).1.out = s.out :=
  foldl_keeps State.out (bandStep_out c a) l (s, [])

/-- The packets of a band: the numbers that they take, and what goes out. -/
theorem sendBand_packets (s : State) (n p : Nat) (d : Desc) (v : Video) {k : Nat}
    (hk : packetsOf (s.payloadLimit p) (v.units (d.aux1 % 65536) (d.aux1 % 65536 + d.aux1 / 65536)) = k) (hpos : 0 < k) :
    ∃ b : List Byte, (s.sendBand n p d v).out = s.out ++ [.rvf n (sget (fun _ => 0) s.net.avtp n) k
        ((v.tStart + s.rfld 0x701 (entryReg n 0x18) 0 24) % 2 ^ 32) (decide (v.height ≤ d.aux1 % 65536 + d.aux1 / 65536)) b] ∧
      sget (fun _ => 0) (s.sendBand n p d v).net.avtp n = (sget (fun _ => 0) s.net.avtp n + k) % 256 := by
  have hread := bandRead_out s (s.queue v.queue).ctx.channel d.addr (v.units (d.aux1 % 65536) (d.aux1 % 65536 + d.aux1 / 65536))
  subst hk
  unfold State.sendBand
  extract_lets y0 y1 l r k seq read net s1 port s2
  rw [if_neg hpos.ne']
  have hsent : s2.out = s.out ∧ s2.net.avtp = s1.net.avtp := by
    subst s2
    split
    · exact ⟨hread, rfl⟩
    · exact ⟨hread, rfl⟩
  refine ⟨r.2, ?_, ?_⟩
  · rw [State.emit, hsent.1]
  · rw [emit_net, hsent.2]
    exact sget_sset_same ..

theorem rvfSend_idle {s : State} {q : Nat} (h : (s.queue q).ctx.en = false ∨ (s.queue q).ctx.dir ≠ 0 ∨
    seqAhead (s.queue q).ctx.prod (s.queue q).ctx.cons = false) : s.rvfSend q = s := by
  refine if_pos ?_
  rcases h with h | h | h <;> simp [h]

/-- A STREAM queue that holds a descriptor to send. -/
structure State.streams (s : State) (q : Nat) : Prop where
  en : (s.queue q).ctx.en = true
  dir : (s.queue q).ctx.dir = 0
  delivery : (s.queue q).ctx.delivery = 2
  ahead : seqAhead (s.queue q).ctx.prod (s.queue q).ctx.cons = true

section Rvf
variable {s : State} {q : Nat} (h : s.streams q)
include h

theorem streams_guard : ¬ (!(s.queue q).ctx.en || (s.queue q).ctx.dir != 0 || (s.queue q).ctx.delivery != 2 ||
    !seqAhead (s.queue q).ctx.prod (s.queue q).ctx.cons) = true := by
  rw [h.en, h.dir, h.delivery, h.ahead]
  decide

/-- Without a link the end of a frame with data is counted, and returned. -/
theorem rvfSend_discards (hlink : (s.eth (s.rfld 0x701 (entryReg ((s.queue q).ctx.session % 128) 0) 1 2)).link = false)
    (hkind : (s.readDesc q (s.queue q).ctx.cons).2.kind = 1) (haux : (s.readDesc q (s.queue q).ctx.cons).2.aux0 ≠ 0) :
    s.rvfSend q = ((((s.readDesc q (s.queue q).ctx.cons).1.bump pgNet
      (portReg (s.rfld 0x701 (entryReg ((s.queue q).ctx.session % 128) 0) 1 2) + 0x30) 0 32 1).endVideo q
        (s.readDesc q (s.queue q).ctx.cons).2.frameSeq).returnTo q (((s.queue q).ctx.cons + 1) % 2 ^ 32)) := by
  rw [State.rvfSend, if_neg (streams_guard h)]
  simp only [hlink, hkind, haux, Bool.not_false, ne_eq, not_false_eq_true, and_self, if_true]

variable (hlink : (s.eth (s.rfld 0x701 (entryReg ((s.queue q).ctx.session % 128) 0) 1 2)).link = true)
include hlink

/-- While the entry is not enabled, or the port may not send, the descriptor waits. -/
theorem rvfSend_waits (hwait : s.rfld 0x701 (entryReg ((s.queue q).ctx.session % 128) 0) 0 1 = 0 ∨
      s.sends (s.rfld 0x701 (entryReg ((s.queue q).ctx.session % 128) 0) 1 2) = false ∨
      (s.eth (s.rfld 0x701 (entryReg ((s.queue q).ctx.session % 128) 0) 1 2)).keys = none) : s.rvfSend q = s := by
  rw [State.rvfSend, if_neg (streams_guard h)]
  simp only [hlink, Bool.not_true, Bool.false_eq_true, if_false]
  refine if_pos ?_
  rcases hwait with hw | hw | hw <;> simp [hw]

variable (hen : s.rfld 0x701 (entryReg ((s.queue q).ctx.session % 128) 0) 0 1 = 1)
  (hsends : s.sends (s.rfld 0x701 (entryReg ((s.queue q).ctx.session % 128) 0) 1 2) = true)
  (hkeys : (s.eth (s.rfld 0x701 (entryReg ((s.queue q).ctx.session % 128) 0) 1 2)).keys ≠ none)
include hen hsends hkeys

omit h hlink in
theorem sends_guard : ¬ (s.rfld 0x701 (entryReg ((s.queue q).ctx.session % 128) 0) 0 1 = 0 ∨
    (!s.sends (s.rfld 0x701 (entryReg ((s.queue q).ctx.session % 128) 0) 1 2)) = true ∨
    (s.eth (s.rfld 0x701 (entryReg ((s.queue q).ctx.session % 128) 0) 1 2)).keys.isNone = true) := by
  rw [hen, hsends, Option.isNone_iff_eq_none]
  simp [hkeys]

/-- The end of a frame is returned, and its frame forgotten. -/
theorem rvfSend_ends (hkind : (s.readDesc q (s.queue q).ctx.cons).2.kind = 1) :
    s.rvfSend q = ((s.readDesc q (s.queue q).ctx.cons).1.endVideo q (s.readDesc q (s.queue q).ctx.cons).2.frameSeq).returnTo q
      (((s.queue q).ctx.cons + 1) % 2 ^ 32) := by
  rw [State.rvfSend, if_neg (streams_guard h)]
  simp only [hlink, Bool.not_true, Bool.false_eq_true, if_false, if_neg (sends_guard hen hsends hkeys), hkind, one_ne_zero, if_true]

/-- A band of a frame that is not streamed is returned. -/
theorem rvfSend_unknown (hkind : (s.readDesc q (s.queue q).ctx.cons).2.kind = 0)
    (hnone : ∀ v ∈ s.net.video, v.queue = q → v.seq ≠ (s.readDesc q (s.queue q).ctx.cons).2.frameSeq) :
    s.rvfSend q = (s.readDesc q (s.queue q).ctx.cons).1.returnTo q (((s.queue q).ctx.cons + 1) % 2 ^ 32) := by
  have hfind : s.net.video.find? (fun v => v.queue == q && v.seq == (s.readDesc q (s.queue q).ctx.cons).2.frameSeq) = none :=
    List.find?_eq_none.2 fun v hv => by simpa using hnone v hv
  rw [State.rvfSend, if_neg (streams_guard h)]
  simp only [hlink, Bool.not_true, Bool.false_eq_true, if_false, if_neg (sends_guard hen hsends hkeys), hkind, zero_ne_one, if_true, hfind]

/-- A band of the oldest streamed frame leaves, and its descriptor is returned. -/
theorem rvfSend_band (hkind : (s.readDesc q (s.queue q).ctx.cons).2.kind = 0) {v : Video} {l : List Video} (hvideo : s.net.video = v :: l)
    (hq : v.queue = q) (hseq : v.seq = (s.readDesc q (s.queue q).ctx.cons).2.frameSeq) :
    s.rvfSend q = ((s.readDesc q (s.queue q).ctx.cons).1.sendBand ((s.queue q).ctx.session % 128)
      (s.rfld 0x701 (entryReg ((s.queue q).ctx.session % 128) 0) 1 2) (s.readDesc q (s.queue q).ctx.cons).2 v).returnTo q
      (((s.queue q).ctx.cons + 1) % 2 ^ 32) := by
  have hfind : s.net.video.find? (fun v => v.queue == q && v.seq == (s.readDesc q (s.queue q).ctx.cons).2.frameSeq) = some v := by
    rw [hvideo]
    exact List.find?_cons_of_pos (by simp [hq, hseq])
  rw [State.rvfSend, if_neg (streams_guard h)]
  simp only [hlink, Bool.not_true, Bool.false_eq_true, if_false, if_neg (sends_guard hen hsends hkeys), hkind, zero_ne_one, if_true, hfind]

end Rvf

/-! PUSH queues (R319). -/

theorem pushSend_idle {s : State} {q : Nat} (h : (s.queue q).ctx.en = false ∨ 32 ≤ (s.queue q).ctx.session ∨
    (s.sess (s.queue q).ctx.session).state ≠ 2) : s.pushSend q = s := by
  refine if_pos ?_
  rcases h with h | h | h <;> simp [h]

/-- A descriptor of a PUSH queue without data goes out alone. -/
theorem pushSend_empty {s : State} {q : Nat} (hen : (s.queue q).ctx.en = true) (hsess : (s.queue q).ctx.session < 32)
    (hopen : (s.sess (s.queue q).ctx.session).state = 2) (hahead : seqAhead (s.queue q).ctx.prod (s.queue q).sent = true)
    (hdir : (s.queue q).ctx.dir = 0) (hdel : (s.queue q).ctx.delivery = 1) (hlen : (s.readDesc q (s.queue q).sent).2.length = 0) :
    let r := s.readDesc q (s.queue q).sent
    s.pushSend q = (r.1.setQueue q { r.1.queue q with sent := ((s.queue q).sent + 1) % 2 ^ 32 }).sendPutRun (s.queue q).ctx.session 4 q 0
      (descBytes r.2 ++ []) (some (q, (s.queue q).sent)) := by
  have hguard : ¬ (!(s.queue q).ctx.en || decide (32 ≤ (s.queue q).ctx.session) || (s.sess (s.queue q).ctx.session).state != 2 ||
      !seqAhead (s.queue q).ctx.prod (s.queue q).sent) = true := by
    simp [hen, hsess, hopen, hahead]
  rw [State.pushSend, if_neg hguard]
  simp only [hdir, hdel, hlen, and_self, true_or, if_true, Bool.or_self, Bool.false_eq_true, if_false]

/-- Settles O46: fragments and reads by how they are judged, records, bands and PUSH descriptors by the lemmas of their senders. -/
theorem transfers : Obligations.Transfers := by
  unfold Obligations.Transfers
  refine ⟨fun s n q t l hopen hpeer howned hlo hhi => ?doorbells,
    fun s n q f r hopen hfault => congrArg done (bulkPut_refused q.toNat hopen hfault),
    fun s n q f hopen hok hspace hlast => congrArg done (bulkPut_writes q.toNat hopen hok hspace hlast),
    fun s n q f hs hopen hok hspace hlast hbulk => ?command,
    fun s n q f hs hopen hok hspace hmore hbulk => ?more,
    fun s n q f hopen _ hok hmore => ?peer,
    fun s n q f hopen hpeer howned hspace hbytes => congrArg done (bulkGet_refused q.toNat hopen hpeer howned hspace hbytes),
    fun s n q f hopen hpeer howned hspace hlo hhi => congrArg done (bulkGet_result q.toNat hopen hpeer howned hspace hlo hhi),
    fun s hs h => done_eq (eventSend_of_none h) hs,
    fun s r h hopen hlost => ⟨_, congrArg done (eventSend_single h hopen hlost), rfl⟩,
    fun s q hs h => done_eq (rvfSend_idle h) hs,
    fun s q hen hdir hdel hahead => ?discards,
    fun s q hen hdir hdel hahead => ?sends,
    fun s n p d v => ?band,
    fun s q hs h => done_eq (pushSend_idle h) hs,
    fun s q hen hsess hopen hahead hdir hdel => ?push⟩
  case doorbells =>
    refine congrArg done ((doorbells_of_open q.toNat t.toNat hopen hpeer howned ?_ ?_).trans (forEach_map ..))
    · rwa [List.length_map]
    · rwa [List.length_map]
  case command =>
    refine ⟨_, done_eq_of_vitals hs (bulkPut_commands q.toNat hopen hok hspace hlast) rfl, ?_, ?_, sameMemory_of_mem rfl⟩
    · rw [bulkGot_of_none hbulk, List.nil_append]
    · exact (dropBulk_bulk ..).trans (by rw [hbulk, List.filter_nil])
  case more =>
    have hkept := bulkPut_keeps q.toNat hopen hok (by omega) (by omega) hmore
    refine ⟨_, done_eq_of_vitals hs hkept rfl, rfl, ?_, sameMemory_of_mem rfl⟩
    rw [setSess_sess_same, dropBulk_bulk, hbulk, bulkGot_of_none hbulk, hspace]
    rfl
  case peer =>
    have hkept := bulkPut_keeps q.toNat hopen hok (show (3 : Nat) ≠ 0 by decide) (show (3 : Nat) ≠ 2 by decide) hmore
    refine ⟨_, congrArg done hkept, ?_, sameMemory_of_mem rfl⟩
    rw [setSess_sess_same]
    exact ⟨_, List.mem_append_right _ List.mem_cons_self, rfl, rfl⟩
  case discards =>
    intro n p r hlink hkind haux
    exact congrArg done (rvfSend_discards ⟨hen, hdir, hdel, hahead⟩ hlink hkind haux)
  case sends =>
    intro n p r c hlink
    have hstream : s.streams q := ⟨hen, hdir, hdel, hahead⟩
    refine ⟨fun hwait => congrArg done (rvfSend_waits hstream hlink hwait), fun hon hsend hkeys => ⟨fun hkind => ?_, fun hkind hnone => ?_,
      fun v l hkind hvideo hq hseq => ?_⟩⟩
    · exact congrArg done (rvfSend_ends hstream hlink hon hsend hkeys hkind)
    · exact congrArg done (rvfSend_unknown hstream hlink hon hsend hkeys hkind hnone)
    · exact congrArg done (rvfSend_band hstream hlink hon hsend hkeys hkind hvideo hq hseq)
  case band =>
    intro l k hk
    exact sendBand_packets s n p d v rfl hk
  case push =>
    intro r hlen
    exact congrArg done (pushSend_empty hen hsess hopen hahead hdir hdel hlen)

end Sys2Proof.Machine
end

section
/-! SUPPORT. REPLACE_N at the end of every command (R353), and the step itself; O58 and O1. -/

namespace Sys2Proof.Machine

open Sys2Proof

/-- In the next state of an outcome, if it has one, REPLACE_N shows its conditions. -/
def showsReplace (o : Host.Outcome State Fault Refusal) : Prop := ∀ t, o = .next t → t.flt.replaced = t.replaceDue

theorem showsReplace_done (s : State) : showsReplace (done s) := by
  intro t h
  cases h
  exact settle_replaced s

theorem showsReplace_refused (r : Refusal) : showsReplace (.refused r) := by
  intro t h
  cases h

/-- A command that asks for a form shows REPLACE_N's conditions when it does so for the form that it asks for. -/
theorem showsReplace_guard {p : Prop} [Decidable p] {r : Refusal} {o : Host.Outcome State Fault Refusal} (h : showsReplace o) :
    showsReplace (if p then o else .refused r) := by
  split
  · exact h
  · exact showsReplace_refused r

/-- Each command ends with `done`, or is refused. -/
theorem exec_showsReplace (c : Instr) (s : State) : showsReplace (exec c s) := by
  cases c
  case dramRead req leaf a upsets =>
    refine showsReplace_guard ?_
    split
    · exact showsReplace_done _
    · dsimp only
      split
      · exact showsReplace_done _
      · split <;> exact showsReplace_done _
  case dramWrite req leaf a bytes =>
    refine showsReplace_guard ?_
    split
    · exact showsReplace_done _
    · dsimp only
      split <;> exact showsReplace_done _
  case dramInvalidate req a n =>
    refine showsReplace_guard ?_
    dsimp only
    split
    · exact showsReplace_done _
    · split <;> exact showsReplace_done _
  case dmaAccessTimeout d a => exact showsReplace_guard (showsReplace_done _)
  case linkTransferError d a => exact showsReplace_guard (showsReplace_done _)
  case thermalSample t => exact showsReplace_guard (showsReplace_done _)
  case stageWrite a w =>
    change showsReplace (execStageWrite a w s)
    unfold execStageWrite
    split
    · exact showsReplace_done _
    · exact showsReplace_refused _
  case mergeDrain page found =>
    change showsReplace (execMergeDrain page found s)
    unfold execMergeDrain
    dsimp only
    split
    · exact showsReplace_done _
    · exact showsReplace_done _
    · split <;> exact showsReplace_done _
  case reconstructDone page =>
    change showsReplace (execReconstructDone page s)
    unfold execReconstructDone
    dsimp only
    split <;> exact showsReplace_done _
  case spareCopyDone page =>
    change showsReplace (execSpareCopyDone page s)
    unfold execSpareCopyDone
    dsimp only
    split <;> exact showsReplace_done _
  case scrubVisit upsets =>
    change showsReplace (execScrubVisit upsets s)
    unfold execScrubVisit
    dsimp only
    split
    · split
      · exact showsReplace_done _
      · split
        · exact showsReplace_done _
        · split <;> exact showsReplace_done _
    · exact showsReplace_done _
  case burnDone =>
    change showsReplace (execBurnDone s)
    unfold execBurnDone
    dsimp only
    split <;> exact showsReplace_done _
  case importDone =>
    change showsReplace (execImportDone s)
    unfold execImportDone
    dsimp only
    split <;> exact showsReplace_done _
  all_goals exact showsReplace_done _

/-- A tick of the clocks leaves REPLACE_N and its conditions. -/
theorem tick_showsReplace {s : State} (h : s.flt.replaced = s.replaceDue) : (tick s).flt.replaced = (tick s).replaceDue :=
  h.trans (replaceDue_congr rfl rfl rfl rfl rfl).symm

/-- Settles O58: an idle step is a tick, and every command that has a next state checks REPLACE_N at its end. -/
theorem replaceFollowsConditions : Obligations.ReplaceFollowsConditions := by
  unfold Obligations.ReplaceFollowsConditions
  intro s t hs ht
  cases hp : s.pending with
  | nil =>
    rw [step, hp] at ht
    cases ht
    exact tick_showsReplace hs
  | cons c rest =>
    rw [step, hp] at ht
    exact exec_showsReplace c _ t ht

/-- Settles O1: the step takes the command from the front of the queue. -/
theorem stepRunsFrontCommand : Obligations.StepRunsFrontCommand := by
  unfold Obligations.StepRunsFrontCommand
  intro c rest s
  rfl

end Sys2Proof.Machine
end
section
/-! SUPPORT. The parameter-set pair in header pages (R403): O60; and words written by a session or the supervisor (R5, R404, R409). -/

namespace Sys2Proof.Machine

open Sys2Proof

/-- The pages of the pair, as a list. -/
theorem contains_psetPages (k : PageKind) : [PageKind.cam, .rfe, .stat, .ofm, .crs].contains k = psetPage k := by
  cases k <;> rfl

/-- PSET_SEQ of a header page. -/
theorem wordAt_psetSeq {s : State} {a : Nat} (ha : a < ctxBase) (hhead : (idType (pageOf (pageIndex a)).1).isSome = true)
    (ho : a % 4096 = 0x30) : s.wordAt a = if psetPage (pageOf (pageIndex a)).1 then s.reg pgRfe 0x30 else 0 := by
  simp only [State.wordAt, ha, State.pageWord, hhead, ho, Nat.reduceEqDiff, and_false, and_true, if_true, if_false]

/-- A write of PSET_COMMIT of a header page. -/
theorem writeWord_psetCommit {a : Nat} (ha : a < ctxBase) (hhead : (idType (pageOf (pageIndex a)).1).isSome = true)
    (ho : a % 4096 = 0x34) (s : State) (n : Nat) (w : Word) :
    s.writeWord n a w = if psetPage (pageOf (pageIndex a)).1 then s.commit (fld w 0 16) else s := by
  simp only [State.writeWord, ha, State.writePage, hhead, ho, Nat.reduceEqDiff, and_false, and_true, if_true, if_false]

/-- A word of a page that is mapped and powered, or of the queue contexts, is written. -/
theorem exec_registerWrite {s : State} {a : Nat} (hal : a % 4 = 0) (hrun : s.runOk a 1 = true) (n : Fin 33) (w : Word) :
    exec (.registerWrite n a w) s = done (s.writeWord n a w) := congrArg done (if_pos ⟨hal, hrun⟩)

/-- A misaligned word, or one of a page that is not mapped or not powered, is not written. -/
theorem exec_registerWrite_refused {s : State} (hs : s.settled) {a : Nat} (h : a % 4 ≠ 0 ∨ s.runOk a 1 = false) (n : Fin 33) (w : Word) :
    exec (.registerWrite n a w) s = .next s := by
  refine done_eq (if_neg fun k => ?_) hs
  obtain ⟨hal, hrun⟩ := k
  rcases h with h | h
  · exact h hal
  · rw [hrun] at h
    exact Bool.noConfusion h

/-- Settles O60: the words of the pair by `wordAt_psetSeq` and `writeWord_psetCommit`. -/
theorem parameterSetPair : Obligations.ParameterSetPair := by
  unfold Obligations.ParameterSetPair
  intro s a ha hhead shared
  have hshared : shared = psetPage (pageOf (pageIndex a)).1 := contains_psetPages _
  refine ⟨fun ho => ?_, fun ho hrun n w => ?_⟩
  · rw [hshared]
    exact wordAt_psetSeq ha hhead ho
  · have hwrite : exec (.registerWrite n a w) s =
        done (if psetPage (pageOf (pageIndex a)).1 then s.commit (fld w 0 16) else s) := by
      rw [exec_registerWrite (by omega) hrun, writeWord_psetCommit ha hhead ho]
    rw [hshared, hwrite]
    split
    · rfl
    · exact done_of_settled

end Sys2Proof.Machine
end
section
/-! SUPPORT. Register frames (R313, R404, R405, R407, R409): how a run is judged; and O43. -/

namespace Sys2Proof.Machine

open Sys2Proof

theorem regRd_closed {s : State} {n : Nat} (h : s.isOpen n = false) (seq tag a c : Nat) : s.regRd n seq tag a c = s :=
  if_pos (by rw [h]; rfl)

theorem regWr_closed {s : State} {n : Nat} (h : s.isOpen n = false) (seq tag a : Nat) (l : List Word) : s.regWr n seq tag a l = s :=
  if_pos (by rw [h]; rfl)

section Read
variable {s : State} {n : Nat} (hopen : s.isOpen n = true) (hpeer : (s.sess n).peer = false) (seq tag : Nat) {a c : Nat}
include hopen hpeer

/-- A run of aligned words in one page is read as one snapshot and sent back. -/
theorem regRd_reads (hal : a % 4 = 0) (hrun : s.runOk a c = true) :
    s.regRd n seq tag a c = (s.readRun a c).2.sendFrame n (mkFrame n 1 4 tag (leBytes 8 a ++ leBytes 2 c ++
      leBytes 6 0 ++ ((s.readRun a c).1.map fun w => leBytes 4 w.toNat).flatten)) none := by
  simp only [State.regRd, hopen, hpeer, hal, hrun, Bool.not_true, Bool.false_eq_true, if_false, ne_eq, not_true]

/-- A misaligned address is refused as ALIGN, a run outside one page as RANGE (Table 14-3). -/
theorem regRd_refused (h : a % 4 ≠ 0 ∨ s.runOk a c = false) :
    s.regRd n seq tag a c = s.nak n (asked n 1 seq tag) (if a % 4 ≠ 0 then 4 else 5) a := by
  rw [State.regRd, if_neg (by rw [hopen]; decide), if_neg (by rw [hpeer]; decide)]
  split
  · rfl
  · rename_i hal
    rw [if_pos (by rw [h.resolve_left hal]; rfl)]

end Read

/-- Peers and UNOWNED sessions may write nothing. -/
theorem regWr_denied {s : State} {n : Nat} (hopen : s.isOpen n = true) (h : (s.sess n).peer = true ∨ (s.sess n).unowned = true)
    (seq tag a : Nat) (l : List Word) : s.regWr n seq tag a l = s.nak n (asked n 2 seq tag) 3 a := by
  rw [State.regWr, if_neg (by rw [hopen]; decide), if_pos (Bool.or_eq_true_iff.2 h)]

section Write
variable {s : State} {n : Nat} (hopen : s.isOpen n = true) (hpeer : (s.sess n).peer = false) (howned : (s.sess n).unowned = false)
  (seq tag : Nat) {a : Nat} {l : List Word}
include hopen hpeer howned

theorem regWr_refused (h : a % 4 ≠ 0 ∨ s.runOk a l.length = false) :
    s.regWr n seq tag a l = s.nak n (asked n 2 seq tag) (if a % 4 ≠ 0 then 4 else 5) a := by
  rw [State.regWr, if_neg (by rw [hopen]; decide), if_neg (by rw [hpeer, howned]; decide)]
  split
  · rfl
  · rename_i hal
    rw [if_pos (by rw [h.resolve_left hal]; rfl)]

variable (hal : a % 4 = 0) (hrun : s.runOk a l.length = true)
include hal hrun

/-- One word that the session may not write stops the whole run. -/
theorem regWr_forbidden {b : Nat} (hb : (runAddrs a l.length).find? (fun x => !hostMayWrite x) = some b) :
    s.regWr n seq tag a l = (s.refusedWrite b).nak n (asked n 2 seq tag) 3 b := by
  simp only [State.regWr, hopen, hpeer, howned, hal, hrun, hb, Bool.not_true, Bool.or_self, Bool.false_eq_true, if_false, ne_eq, not_true]

theorem regWr_writes (hmay : ∀ x ∈ runAddrs a l.length, hostMayWrite x = true) : s.regWr n seq tag a l = s.writeRun n a l := by
  have hnone : (runAddrs a l.length).find? (fun x => !hostMayWrite x) = none :=
    List.find?_eq_none.2 fun x hx => by rw [hmay x hx]; decide
  simp only [State.regWr, hopen, hpeer, howned, hal, hrun, hnone, Bool.not_true, Bool.or_self, Bool.false_eq_true, if_false, ne_eq, not_true]

end Write

/-- Settles O43: each frame by how its session and its run are judged. -/
theorem registersOverKweal : Obligations.RegistersOverKweal := by
  unfold Obligations.RegistersOverKweal
  exact ⟨fun s n q t a c l hs h => ⟨done_eq (regRd_closed h ..) hs, done_eq (regWr_closed h ..) hs⟩,
    fun s n q t a c hopen hpeer hal hrun => congrArg done (regRd_reads hopen hpeer _ _ hal hrun),
    fun s n q t a c hopen hpeer h => congrArg done (regRd_refused hopen hpeer _ _ h),
    fun s n q t a l hopen h => congrArg done (regWr_denied hopen h ..),
    fun s n q t a l hopen hpeer howned h => congrArg done (regWr_refused hopen hpeer howned _ _ h),
    fun s n q t a b l hopen hpeer howned hal hrun hb => congrArg done (regWr_forbidden hopen hpeer howned _ _ hal hrun hb),
    fun s n q t a l hopen hpeer howned hal hrun hmay => congrArg done (regWr_writes hopen hpeer howned _ _ hal hrun hmay),
    fun s n a w hs h => exec_registerWrite_refused hs h n w,
    fun s n a w hal hrun => exec_registerWrite hal hrun n w⟩

end Sys2Proof.Machine
end
section
/-! SUPPORT. Pins and clocks (R359 to R361, R373, R382, R418 to R420): power-on and power-off with no fuse burn under way; and O2. -/

namespace Sys2Proof.Machine

open Sys2Proof

theorem stopBurns_idle {s : State} (hrepair : s.dram.burning = none) (hfuse : s.sec.burn = none) (last : Bool) : s.stopBurns last = s := by
  rw [State.stopBurns, hrepair]
  simp only [hfuse]

/-- Take-overs change an engine's check unit, which no condition of R353 looks at. -/
theorem settled_applyFuses {s : State} (h : s.settled) : s.applyFuses.settled := by
  rw [State.applyFuses]
  refine forEach_rel (fun s t => s.settled → t.settled) (fun _ hs => hs) (fun h k hs => k (h hs)) _ _ (fun x u hu => ?_) s h
  exact settled_setEng hu x.1 _ rfl

theorem step_idle {s : State} (h : s.pending = []) : step s = .next (tick s) := by rw [step, h]

theorem powerOff_of_idle {s : State} (hrepair : s.dram.burning = none) (hfuse : s.sec.burn = none) :
    s.powerOff = { State.reset with
      pending := s.pending, free := s.free, out := s.out, fuse := s.fuse, pins := { s.pins with porstLow := true }
      pwr := { Pwr.reset with state := .off } } := by
  rw [State.powerOff, stopBurns_idle hrepair hfuse]

theorem powerOn_of_idle {s : State} (hrepair : s.dram.burning = none) (hfuse : s.sec.burn = none) :
    s.powerOn = ({ State.reset with
      pending := s.pending, free := s.free, out := s.out, fuse := s.fuse, pins := { s.pins with porstLow := false } } :
        State).applyFuses := by
  rw [State.powerOn, powerOff_of_idle hrepair hfuse]
  rfl

theorem ppsPulse_eq (s : State) : s.ppsPulse = { s with clk := { s.clk with
    pps := if s.net.locked = true ∧ s.clk.ptp % 1000000000 = 0 then some s.clk.ptp else s.clk.pps } } := by
  by_cases h : s.net.locked = true ∧ s.clk.ptp % 1000000000 = 0
  · rw [if_pos h]
    exact if_pos (by rw [h.1, h.2]; rfl)
  · rw [if_neg h]
    exact if_neg (by rwa [Bool.and_eq_true, beq_iff_eq])

/-- Settles O2: power-on and power-off by what reset leaves, the others by the one field that each writes. -/
theorem pinsAndClocks : Obligations.PinsAndClocks := by
  unfold Obligations.PinsAndClocks
  refine ⟨fun s hidle => ?idle, fun s hrepair hfuse => ?on, fun s hrepair hfuse => ?off, fun s hs => ?warm, fun s hs => ?start,
    fun s hs => ?stop, fun s hs => ?pps⟩
  case idle => exact step_idle hidle
  case on => exact done_eq (powerOn_of_idle hrepair hfuse) (settled_applyFuses (settled_congr reset_settled rfl rfl rfl rfl rfl rfl rfl))
  case off => exact done_eq (powerOff_of_idle hrepair hfuse) (settled_congr reset_settled rfl rfl rfl rfl rfl rfl rfl)
  case warm => exact done_of_vitals hs rfl
  case start => exact done_of_vitals hs rfl
  case stop => exact done_of_vitals hs rfl
  case pps => exact done_eq_of_vitals hs (ppsPulse_eq s) rfl

end Sys2Proof.Machine
end
section
/-! SUPPORT. Requests for a power state (R374, R375, R378, Table 17-4): the start of a transition, the requests that are refused; and O5. -/

namespace Sys2Proof.Machine

open Sys2Proof

/-! The start of a transition. -/

/-- The switch commands of a sequence that change their domain. -/
def State.toSwitch (s : State) (plan : List (Nat × Bool)) : List (Nat × Bool) :=
  plan.filter fun x => s.pwr.dom.getD x.1 .on != (if x.2 then .on else .off)

/-- The sequence of a transition (Table 17-4). -/
def State.sequenceTo (s : State) (p : PState) : List (Nat × Bool) :=
  if p = .standby then offPlan else if s.pwr.state == .standby then onPlan else []

/-- A transition under way from one state to the next: its plan, its first switch, and everything that waits for its end. -/
structure State.sets (s t : State) (x : Trans) : Prop where
  trans : t.pwr.trans = some x
  switching : t.pwr.switching = x.plan.head?
  state : t.pwr.state = s.pwr.state
  regs : t.regs = s.regs
  jobs : t.jobs = s.jobs
  queues : t.queues = s.queues
  vitals : t.vitals = s.vitals

theorem issueSwitch_sets {s u : State} {x : Trans} (htrans : u.pwr.trans = some x) (hfree : u.pwr.switching = none)
    (hstate : u.pwr.state = s.pwr.state) (hregs : u.regs = s.regs) (hjobs : u.jobs = s.jobs) (hqueues : u.queues = s.queues)
    (hvitals : u.vitals = s.vitals) : s.sets u.issueSwitch x := by
  have hissue : u.issueSwitch = { u with pwr := { u.pwr with switching := x.plan.head? } } := by
    rw [State.issueSwitch, htrans, hfree]
  rw [hissue]
  exact ⟨htrans, rfl, hstate, hregs, hjobs, hqueues, hvitals⟩

theorem startTrans_sets (s : State) (p : PState) (byTrip byHost : Bool) :
    s.sets (s.startTrans p byTrip byHost) ⟨p, byTrip, byHost, s.toSwitch (s.sequenceTo p)⟩ := by
  simp only [State.startTrans, State.sequenceTo, State.toSwitch]
  cases s.pwr.state == .standby <;> exact issueSwitch_sets rfl rfl rfl rfl rfl rfl rfl

/-! Judging a request. -/

/-- Writing REQ changes nothing that a request is judged by. -/
theorem setReq_requestFault (s : State) (v : Nat) (p : PState) :
    (s.setRfld pgPmu 0x100 0 2 v).requestFault p = s.requestFault p := by
  have hwarn : (s.setRfld pgPmu 0x100 0 2 v).warn = s.warn := by
    rw [State.warn, State.rfld, setRfld_reg_ne _ _ _ _ radr_ne]
    rfl
  have hhot : (s.setRfld pgPmu 0x100 0 2 v).tooHot = s.tooHot := by
    rw [State.tooHot, hwarn]
    rfl
  unfold State.requestFault
  rw [hhot]
  rfl

/-- A device between transitions, out of bring-up. -/
structure State.steady (s : State) : Prop where
  settled : s.settled
  booted : s.pwr.booting = false
  still : s.pwr.trans = none

section Request
variable {s : State} (h : s.steady) {p : PState}
include h

theorem requestState_free :
    s.requestState p = if s.pwr.state = p then (s.setRfld pgPmu 0x100 0 2 p.code).event pgPmu 0
      else if s.requestFault p ≠ 0 then (s.setRfld pgPmu 0x100 0 2 p.code).refuseState (s.requestFault p)
      else (s.setRfld pgPmu 0x100 0 2 p.code).startTrans p false true := by
  have hfree : ¬ ((s.setRfld pgPmu 0x100 0 2 p.code).pwr.booting = true ∨ (s.setRfld pgPmu 0x100 0 2 p.code).pwr.trans.isSome = true) := by
    rw [setRfld_pwr, h.booted, h.still]
    decide
  rw [State.requestState, if_neg hfree, setReq_requestFault]
  rfl

/-- A request for the current state. -/
theorem requestState_same (hp : s.pwr.state = p) :
    done (s.requestState p) = .next ((s.setRfld pgPmu 0x100 0 2 p.code).event pgPmu 0) :=
  done_eq_of_vitals h.settled (by rw [requestState_free h, if_pos hp]) (event_vitals ..)

variable (hp : s.pwr.state ≠ p)
include hp

/-- A request that a rule refuses; a refusal for heat names the hottest sensor beside its cause. -/
theorem requestState_refused {c x : Nat} (hc : s.requestFault p = c) (hpos : c ≠ 0)
    (hx : c + 256 * (if c = 4 then (s.tempMax.map (·.2)).getD 0 else 0) = x) :
    done (s.requestState p) = .next ((s.setRfld pgPmu 0x100 0 2 p.code).fail pgPmu 1 x 0) := by
  subst hx
  refine done_eq_of_vitals h.settled ?_ (fail_vitals ..)
  rw [requestState_free h, if_neg hp, hc, if_pos hpos]
  rfl

/-- A request that nothing refuses starts its transition. -/
theorem requestState_starts (hok : s.requestFault p = 0) {plan : List (Nat × Bool)} (hplan : s.sequenceTo p = plan) :
    ∃ t, done (s.requestState p) = .next t ∧ t.pwr.trans = some ⟨p, false, true, s.toSwitch plan⟩ ∧
      t.pwr.switching = (s.toSwitch plan).head? ∧ t.pwr.state = s.pwr.state ∧ t.rfld pgPmu 0x100 0 2 = p.code ∧ t.jobs = s.jobs ∧
      t.queues = s.queues ∧ s.sameMemory t := by
  subst hplan
  have hsets := startTrans_sets (s.setRfld pgPmu 0x100 0 2 p.code) p false true
  have hcode : p.code % 2 ^ 2 = p.code := by cases p <;> rfl
  refine ⟨_, done_eq_of_vitals h.settled ?_ (hsets.vitals.trans (setRfld_vitals ..)), hsets.trans, hsets.switching, hsets.state, ?_,
    hsets.jobs, hsets.queues, sameMemory_of_vitals (hsets.vitals.trans (setRfld_vitals ..))⟩
  · rw [requestState_free h, if_neg hp, if_neg (by rw [hok]; decide)]
  · rw [State.rfld, State.reg, hsets.regs, ← State.reg, setRfld_reg_same, fld_putFld_same _ _ _ _ (by decide), hcode]

end Request

/-! What refuses a request (Table 17-5, log 34), with no device self-test running. -/

section Fault
variable {s : State} (hbist : s.bistRuns = false)
include hbist

theorem requestFault_idle_of_active (hp : s.pwr.state = .active) : s.requestFault .idle = if s.renders then 1 else 0 := by
  simp only [State.requestFault, hbist, hp, Bool.false_eq_true, if_false]

theorem requestFault_idle_of_standby (hp : s.pwr.state = .standby) : s.requestFault .idle = if s.tooHot then 4 else 0 := by
  simp only [State.requestFault, hbist, hp, Bool.false_eq_true, if_false]

theorem requestFault_active (hp : s.pwr.state = .idle ∨ s.pwr.state = .standby) :
    s.requestFault .active = if s.pwr.tripped then 4 else 0 := by
  rcases hp with hp | hp <;> simp only [State.requestFault, hbist, hp, Bool.false_eq_true, if_false]

theorem requestFault_standby (hp : s.pwr.state = .active ∨ s.pwr.state = .idle) :
    s.requestFault .standby = if s.renders then 1 else if s.holdsStream then 2 else if s.burns then 3
      else if (List.range 6).any fun e => (s.eng e).testing then 5 else 0 := by
  rcases hp with hp | hp <;> simp only [State.requestFault, hbist, hp, Bool.false_eq_true, if_false]

end Fault

theorem any_testing_false {s : State} (h : ∀ e < 6, (s.eng e).testing = false) :
    (List.range 6).any (fun e => (s.eng e).testing) = false :=
  List.any_eq_false.2 fun e he => by rw [h e (List.mem_range.1 he)]; decide

/-- Settles O5: each request by what refuses it, and by its sequence where nothing does. -/
theorem powerStateRequests : Obligations.PowerStateRequests := by
  unfold Obligations.PowerStateRequests
  intro quiet goes
  have steady : ∀ {s}, quiet s → s.steady := fun ⟨hs, hboot, htrans⟩ => ⟨hs, hboot, htrans⟩
  refine ⟨fun s hq hp hbist hren => ?idle, fun s hq hp hbist hcool => ?wakeIdle, fun s hq hp hbist htrip => ?active,
    fun s hq hp hbist htrip => ?wakeActive, fun s hq hp hbist hren hheld hburn htest => ?standby, fun s hq => ?same,
    fun s hq hp hbist hren => ?rendering, fun s hq hp hbist hren hheld => ?holding, fun s hq hp hoff hbist htrip => ?hot⟩
  case idle =>
    have hok : s.requestFault .idle = 0 := by rw [requestFault_idle_of_active hbist hp, hren]; rfl
    exact requestState_starts (p := .idle) (steady hq) (by rw [hp]; decide) hok (by rw [State.sequenceTo, hp]; rfl)
  case wakeIdle =>
    have hok : s.requestFault .idle = 0 := by rw [requestFault_idle_of_standby hbist hp, hcool]; rfl
    exact requestState_starts (p := .idle) (steady hq) (by rw [hp]; decide) hok (by rw [State.sequenceTo, hp]; rfl)
  case active =>
    have hok : s.requestFault .active = 0 := by rw [requestFault_active hbist (.inl hp), htrip]; rfl
    exact requestState_starts (p := .active) (steady hq) (by rw [hp]; decide) hok (by rw [State.sequenceTo, hp]; rfl)
  case wakeActive =>
    have hok : s.requestFault .active = 0 := by rw [requestFault_active hbist (.inr hp), htrip]; rfl
    exact requestState_starts (p := .active) (steady hq) (by rw [hp]; decide) hok (by rw [State.sequenceTo, hp]; rfl)
  case standby =>
    have hok : s.requestFault .standby = 0 := by
      rw [requestFault_standby hbist hp, hren, hheld, hburn, any_testing_false htest]
      rfl
    exact requestState_starts (p := .standby) (steady hq) (by rcases hp with hp | hp <;> rw [hp] <;> decide) hok (if_pos rfl)
  case same =>
    exact ⟨requestState_same (steady hq), requestState_same (steady hq), requestState_same (steady hq)⟩
  case rendering =>
    have hidle : s.requestFault .idle = 1 := by rw [requestFault_idle_of_active hbist hp, hren]; rfl
    have hstandby : s.requestFault .standby = 1 := by rw [requestFault_standby hbist (.inl hp), hren]; rfl
    exact ⟨requestState_refused (p := .idle) (steady hq) (by rw [hp]; decide) hidle (by decide) rfl,
      requestState_refused (p := .standby) (steady hq) (by rw [hp]; decide) hstandby (by decide) rfl⟩
  case holding =>
    have hheld : s.requestFault .standby = 2 := by rw [requestFault_standby hbist (.inr hp), hren, hheld]; rfl
    exact requestState_refused (p := .standby) (steady hq) (by rw [hp]; decide) hheld (by decide) rfl
  case hot =>
    have hstate : s.pwr.state = .idle ∨ s.pwr.state = .standby := by
      cases hst : s.pwr.state <;> simp_all
    have hhot : s.requestFault .active = 4 := by rw [requestFault_active hbist hstate, htrip]; rfl
    exact requestState_refused (p := .active) (steady hq) hp hhot (by decide) rfl

end Sys2Proof.Machine
end
section
/-! SUPPORT. Switches of a transition (R378): the registers that PD6 saves when it goes off; and O6. -/

namespace Sys2Proof.Machine

open Sys2Proof

/-- A device on its way to STANDBY whose next switch is PD6's, with a register of PD6 written (OFM page 1) since the registers were saved. -/
def State.leavingPd6 : State :=
  { State.reset with
    regs := [(0x801000, 1)]
    pwr := { Pwr.reset with trans := some ⟨.standby, false, true, [(6, false)]⟩, switching := some (6, false), saved := [] } }

theorem leavingPd6_settled : State.leavingPd6.settled := settled_congr reset_settled rfl rfl rfl rfl rfl rfl rfl

/-- PD6 saves its registers as it goes off. -/
theorem leavingPd6_saves : ∃ t, exec (.domainSwitchAck 6) State.leavingPd6 = .next t ∧ t.pwr.saved = [(0x801000, 1)] := by
  refine ⟨State.leavingPd6.switchAck 6, done_of_settled (settled_congr leavingPd6_settled ?_ ?_ ?_ ?_ ?_ ?_ ?_), ?_⟩ <;> rfl

/-- Refutes O6: its third clause says that a switched domain changes nothing but the sequence, and PD6 going off saves the registers of
its pages (R378). -/
theorem not_powerTransitions : ¬ Obligations.PowerTransitions := by
  unfold Obligations.PowerTransitions
  rintro ⟨-, -, h, -⟩
  have hack := h State.leavingPd6 6 false ⟨.standby, false, true, [(6, false)]⟩ leavingPd6_settled rfl rfl (.inr rfl)
  obtain ⟨t, ht, hsaved⟩ := leavingPd6_saves
  rw [hack] at ht
  cases ht
  exact absurd hsaved (by decide)

end Sys2Proof.Machine
end
section
/-! SUPPORT. The device self-test (R386): how it starts, the tiles after it, and its result; and O8. -/

namespace Sys2Proof.Machine

open Sys2Proof

/-! Its start. -/

/-- A field of one bit is the bit. -/
theorem fld_one (w : Word) (k : Nat) : fld w k 1 = b2n (bitAt w k) := by
  rw [fld, bitAt, Nat.testBit_eq_decide_div_mod_eq, b2n, Nat.pow_one]
  have hlt : w.toNat / 2 ^ k % 2 < 2 := Nat.mod_lt _ (by decide)
  by_cases h : w.toNat / 2 ^ k % 2 = 1
  · rw [h]; rfl
  · rw [decide_eq_false h, if_neg (by decide)]
    omega

section Start
variable {s : State} {w : Word} (hgo : bitAt w 0 = true) (hfree : s.bistRuns = false)
include hgo hfree

theorem startBist_of_awake (hscope : bitAt w 1 = false) (hidle : s.pwr.state = .idle) (hstill : s.pwr.trans = none) :
    s.startBist w = ({ s.setRfld pgPmu 0x150 1 1 0 with pwr := { s.pwr with bist := some false } } : State).setRfld pgPmu 0x150 2 3 1 := by
  have hfld : fld w 1 1 = 0 := by rw [fld_one, hscope]; rfl
  have hrest : (!bitAt w 0 || (s.setRfld pgPmu 0x150 1 1 0).bistRuns) = false := by rw [hgo]; exact hfree
  have hmay : ((s.setRfld pgPmu 0x150 1 1 0).pwr.state = .idle ∨ (s.setRfld pgPmu 0x150 1 1 0).pwr.state = .standby) ∧
      (!(bitAt w 1 && (!(s.setRfld pgPmu 0x150 1 1 0).images.isEmpty || (s.setRfld pgPmu 0x150 1 1 0).holdsStream))) = true :=
    ⟨.inl hidle, by rw [hscope]; rfl⟩
  simp only [State.startBist, hfld, hrest, Bool.false_eq_true, if_false]
  rw [if_pos hmay, hscope]
  refine wake_of_awake (fun h => ?_) hstill
  have h : s.pwr.state = .standby := h
  rw [hidle] at h
  exact absurd h (by decide)

theorem startBist_of_active (hact : s.pwr.state = .active) :
    s.startBist w = ((s.setRfld pgPmu 0x150 1 1 (fld w 1 1)).setRfld pgPmu 0x150 2 3 4).fail pgPmu 7 5 0 := by
  have hrest : (!bitAt w 0 || (s.setRfld pgPmu 0x150 1 1 (fld w 1 1)).bistRuns) = false := by rw [hgo]; exact hfree
  have hmay : ¬ (s.pwr.state = .idle ∨ s.pwr.state = .standby) := by rw [hact]; decide
  rw [State.startBist, if_neg (by rw [hrest]; decide), if_neg fun h => hmay h.1]
  rfl

end Start

/-! The tiles after it. -/

theorem clearTile_byte (s : State) (t x : Nat) :
    (s.clearTile t).byte x = if tileBase t ≤ x ∧ x < tileBase t + 0x2000000 then 0 else s.byte x := wiped_byte s (tileBase t) 0x2000000 x

theorem settled_clearTile {s : State} (h : s.settled) (t : Nat) : (s.clearTile t).settled := by
  have hwiped : (s.wiped (tileBase t) 0x2000000).settled := h
  exact settled_setTile hwiped t _ rfl

theorem clearTile_region (s : State) (t k r : Nat) : (s.clearTile t).region k r = s.region k r := by
  rw [State.region, State.clearTile, setTile_tile]
  split
  · rename_i h
    rw [h]
    rfl
  · rfl

theorem clearTile_persistRanges (s : State) (t k : Nat) : (s.clearTile t).persistRanges k = s.persistRanges k := by
  simp only [State.persistRanges, clearTile_region]

/-- Every tile emptied. -/
def State.tilesCleared (s : State) : State := forEach (List.range 6) (fun t s => s.clearTile t) s

theorem settled_tilesCleared {s : State} (h : s.settled) : s.tilesCleared.settled :=
  forEach_rel (fun s t => s.settled → t.settled) (fun _ hs => hs) (fun h k hs => k (h hs)) _ _ (fun t _ hs => settled_clearTile hs t) s h

theorem tilesCleared_persistRanges (s : State) (k : Nat) : s.tilesCleared.persistRanges k = s.persistRanges k :=
  forEach_keeps (·.persistRanges k) _ _ (fun t u => clearTile_persistRanges u t k) s

theorem tilesCleared_pwr (s : State) : s.tilesCleared.pwr = s.pwr :=
  forEach_keeps (·.pwr) _ (fun t s => s.clearTile t) (fun _ _ => rfl) s

theorem tilesCleared_sameMemoryBut (s : State) : s.sameMemoryBut s.tilesCleared 0x40000000 0xC000000 := by
  refine forEach_sameMemoryBut _ _ _ _ (fun t ht s x hx => ?_) s
  have ht := List.mem_range.1 ht
  rw [clearTile_byte, if_neg]
  unfold tileBase
  omega

/-- Tiles emptied one after another leave zero in all of them. -/
theorem forEach_clearTile_byte (l : List Nat) {s : State} {x : Nat}
    (h : s.byte x = 0 ∨ ∃ t ∈ l, tileBase t ≤ x ∧ x < tileBase t + 0x2000000) :
    (forEach l (fun t s => s.clearTile t) s).byte x = 0 := by
  induction l generalizing s with
  | nil => exact h.resolve_right fun ⟨t, ht, _⟩ => List.not_mem_nil ht
  | cons k l ih =>
    rw [forEach_cons]
    refine ih ?_
    by_cases hk : tileBase k ≤ x ∧ x < tileBase k + 0x2000000
    · exact .inl (by rw [clearTile_byte, if_pos hk])
    · rcases h with h | ⟨t, ht, hx⟩
      · exact .inl (by rw [clearTile_byte, if_neg hk, h])
      · rcases List.mem_cons.1 ht with rfl | ht
        · exact absurd hx hk
        · exact .inr ⟨t, ht, hx⟩

theorem tilesCleared_byte (s : State) {x : Nat} (hlo : 0x40000000 ≤ x) (hhi : x < 0x4C000000) : s.tilesCleared.byte x = 0 := by
  refine forEach_clearTile_byte _ (.inr ⟨(x - 0x40000000) / 0x2000000, List.mem_range.2 (by omega), ?_⟩)
  unfold tileBase
  omega

/-! Its end. -/

/-- A repeated change that none of its places makes. -/
theorem forEach_of_idle {α : Type} {l : List α} {f : α → State → State} {s : State} (h : ∀ x ∈ l, f x s = s) : forEach l f s = s := by
  induction l with
  | nil => rfl
  | cons x l ih => rw [forEach_cons, h x List.mem_cons_self, ih fun y hy => h y (List.mem_cons_of_mem x hy)]

/-- What one of a list's changes makes, and all of them keep, holds after the list. -/
theorem forEach_establishes {α : Type} (P : State → Prop) {l : List α} {f : α → State → State} {x : α} (hx : x ∈ l)
    (hmake : ∀ s, P (f x s)) (hkeep : ∀ y s, P s → P (f y s)) (s : State) : P (forEach l f s) := by
  have hrest : ∀ (m : List α) (u : State), P u → P (forEach m f u) := by
    intro m
    induction m with
    | nil => exact fun u hu => hu
    | cons y m ih => exact fun u hu => ih _ (hkeep y u hu)
  induction l generalizing s with
  | nil => exact absurd hx List.not_mem_nil
  | cons y l ih =>
    rw [forEach_cons]
    rcases List.mem_cons.1 hx with rfl | hx
    · exact hrest l _ (hmake s)
    · exact ih hx _

theorem restorePersist_of_none {s : State} (h : ∀ t < 6, s.persistRanges t = []) : s.restorePersist = s :=
  forEach_of_idle fun t ht => by rw [h t (List.mem_range.1 ht), forEach_nil]

/-- The device with no self-test under way. -/
def State.untested (s : State) : State := { s with pwr := { s.pwr with bist := none } }

theorem settled_untested {s : State} (h : s.settled) : s.untested.settled := settled_congr h rfl rfl rfl rfl rfl rfl rfl

/-- The result of a self-test that found nothing. -/
def State.reportPass (s : State) : State :=
  (((s.setRfld pgPmu 0x150 2 3 2).setRfld pgPmu 0x150 8 6 0).setRfld pgPmu 0x150 16 6 0).event pgPmu 7

/-- The device once a self-test that found nothing has ended. -/
def State.bistPassed (s : State) : State := s.untested.tilesCleared.reportPass

theorem bistDone_passed {s : State} (hbist : s.pwr.bist = some false) (hnone : ∀ t < 6, s.persistRanges t = []) :
    s.bistDone ⟨[], [], [], none⟩ = s.bistPassed := by
  have hrestored : s.untested.tilesCleared.restorePersist = s.untested.tilesCleared :=
    restorePersist_of_none fun t ht => (tilesCleared_persistRanges _ t).trans (hnone t ht)
  have hmask : maskOf [] = 0 := rfl
  have hfound : ∀ u : State, u.testFailures ⟨[], [], [], none⟩ = u := fun _ => rfl
  have hend : s.bistDone ⟨[], [], [], none⟩ = s.untested.tilesCleared.restorePersist.reportPass := by
    simp only [State.bistDone, hbist, State.when, Bool.false_eq_true, if_false, List.map_nil, hmask, List.isEmpty_nil, Bool.not_true,
      Option.isSome_none, Bool.or_self, Bool.false_and, ite_self, hfound]
    rfl
  rw [hend, hrestored, State.bistPassed]

theorem bistPassed_result (s : State) : s.bistPassed.rfld pgPmu 0x150 2 3 = 2 := by
  rw [State.rfld, State.bistPassed, State.reportPass, event_reg_ne _ _ radr_ne, setRfld_reg_same,
    fld_putFld_other _ _ _ _ _ _ (by decide) (by decide), setRfld_reg_same, fld_putFld_other _ _ _ _ _ _ (by decide) (by decide), setRfld_reg_same, fld_putFld_same _ _ _ _ (by decide)]
  rfl

theorem bistPassed_byte (s : State) (x : Nat) :
    s.bistPassed.byte x = s.untested.tilesCleared.byte x :=
  congrArg (sget (fun _ => 0) · x) (event_mem ..)

theorem bistPassed_pwr (s : State) : s.bistPassed.pwr = { s.pwr with bist := none } := by
  rw [State.bistPassed, State.reportPass, event_pwr, setRfld_pwr, setRfld_pwr, setRfld_pwr, tilesCleared_pwr]
  rfl

theorem settled_bistPassed {s : State} (h : s.settled) : s.bistPassed.settled := by
  have hcleared : s.untested.tilesCleared.settled := settled_tilesCleared (settled_untested h)
  exact settled_event (settled_setRfld (settled_setRfld (settled_setRfld hcleared ..) ..) ..) pgPmu 7

/-- Settles O8: the start by `startBist_of_awake` and `startBist_of_active`, the end by what `State.bistPassed` holds. -/
theorem deviceSelfTest : Obligations.DeviceSelfTest := by
  unfold Obligations.DeviceSelfTest
  refine ⟨fun s w hs hgo hscope hfree hidle hstill => ?_, fun s w hs hgo hfree hact => ?_, fun s hs hbist hnone => ?_⟩
  · exact done_eq_of_vitals hs (startBist_of_awake hgo hfree hscope hidle hstill) rfl
  · exact done_eq_of_vitals hs (startBist_of_active hgo hfree hact) (fail_vitals ..)
  · refine ⟨_, done_eq (bistDone_passed hbist hnone) (settled_bistPassed hs), ?_, bistPassed_result s, event_reg_bit _ _ _ (by decide),
      fun a hlo hhi => ?_, fun x hx => ?_⟩
    · rw [bistPassed_pwr]
    · rw [bistPassed_byte, tilesCleared_byte _ hlo hhi]
    · exact (bistPassed_byte s x).trans (tilesCleared_sameMemoryBut _ x hx)

end Sys2Proof.Machine
end
section
/-! SUPPORT. Releases of frozen masters (R342, R343): when a release is performed, and what it leaves of a DMA channel; and O52. -/

namespace Sys2Proof.Machine

open Sys2Proof

theorem tryRelease_unasked {s : State} {id : Nat} (h : s.sec.relPending.contains id = false) : s.tryRelease id = s :=
  if_neg (by rw [h]; exact Bool.false_ne_true)

/-- A release waits while its master gives up what it holds. -/
theorem tryRelease_waits {s : State} {id : Nat} (h : s.sec.givingUp.contains id = true) : s.tryRelease id = s :=
  if_neg (by rw [h, Bool.not_true, Bool.and_false, Bool.false_and]; exact Bool.false_ne_true)

/-- A master's freeze and the request for its release, gone. -/
def State.thawed (s : State) (id : Nat) : State :=
  { s with sec := { s.sec with frozen := s.sec.frozen.filter (· != id), relPending := s.sec.relPending.filter (· != id) } }

/-- A DMA channel whose release nothing holds back. -/
theorem tryRelease_channel {s : State} {id : Nat} (hasked : s.sec.relPending.contains id = true) (hfrozen : s.sec.frozen.contains id = true)
    (hgiven : s.sec.givingUp.contains id = false) (hlo : 0x10 ≤ id) (hhi : id < 0x90) :
    s.tryRelease id = (s.thawed id).chanRest (id - 0x10) := by
  have hnow : (s.sec.relPending.contains id && s.sec.frozen.contains id && !s.sec.givingUp.contains id &&
      !(decide (0x90 ≤ id) && s.restarts)) = true := by
    rw [hasked, hfrozen, hgiven, decide_eq_false (by omega)]
    rfl
  rw [State.tryRelease, if_pos hnow]
  exact if_pos ⟨hlo, hhi⟩

/-- A channel that was the only one whose release was asked for is stopped, and no longer frozen. -/
theorem chanRest_thawed {s : State} (hs : s.settled) {id : Nat} (hasked : s.sec.relPending = [id]) :
    ∃ t, done ((s.thawed id).chanRest (id - 0x10)) = .next t ∧ t.sec.frozen = s.sec.frozen.filter (· != id) ∧ t.sec.relPending = [] ∧
      (t.chan (id - 0x10)).state = .stopped ∧ s.sameMemory t := by
  have hv : ((s.thawed id).chanRest (id - 0x10)).vitals = s.vitals := event_vitals ..
  refine ⟨_, done_of_vitals hs hv, ?_, ?_, ?_, sameMemory_of_vitals hv⟩
  · rw [State.chanRest, event_sec]
    rfl
  · rw [State.chanRest, event_sec, setChan_sec, State.thawed, hasked, List.filter_singleton, bne_self_eq_false]
    rfl
  · rw [State.chanRest, event_chan, setChan_chan_same]

/-- The state in which a release was asked for, with nothing else waiting. -/
def State.releaseAsked (s : State) (w : Word) : State :=
  { s.setRfld pgSec 0x104 0 8 (fld w 0 8) with sec := { s.sec with relPending := [fld w 0 8] } }

theorem freezeRelease_asks {s : State} {w : Word} (hgo : bitAt w 31 = true) (hlo : 0x10 ≤ fld w 0 8)
    (hfrozen : s.sec.frozen.contains (fld w 0 8) = true) (hnone : s.sec.relPending = []) :
    s.freezeRelease w = (s.releaseAsked w).tryRelease (fld w 0 8) := by
  have hask : (bitAt w 31 && decide (0x10 ≤ fld w 0 8) && s.sec.frozen.contains (fld w 0 8) &&
      !s.sec.relPending.contains (fld w 0 8)) = true := by
    rw [hgo, hfrozen, hnone, decide_eq_true hlo]
    rfl
  rw [State.freezeRelease, State.releaseAsked, setRfld_sec, if_pos hask, hnone, List.nil_append]

theorem freezeRelease_ignored {s : State} {w : Word} (h : bitAt w 31 = false ∨ s.sec.frozen.contains (fld w 0 8) = false) :
    s.freezeRelease w = s.setRfld pgSec 0x104 0 8 (fld w 0 8) := by
  refine if_neg ?_
  rw [setRfld_sec]
  rcases h with h | h <;> rw [h] <;> simp

theorem settled_releaseAsked {s : State} (h : s.settled) (w : Word) : (s.releaseAsked w).settled :=
  settled_congr h rfl rfl rfl rfl rfl rfl rfl

/-- The end of a master's give-up. -/
def State.givenUp (s : State) (id : Nat) : State := { s with sec := { s.sec with givingUp := s.sec.givingUp.filter (· != id) } }

theorem settled_givenUp {s : State} (h : s.settled) (id : Nat) : (s.givenUp id).settled := settled_congr h rfl rfl rfl rfl rfl rfl rfl

theorem givenUp_not (s : State) (id : Nat) : (s.givenUp id).sec.givingUp.contains id = false := by
  simp [State.givenUp]

/-- Settles O52: a release waits by `tryRelease_waits` and is performed by `tryRelease_channel`. -/
theorem freezeReleases : Obligations.FreezeReleases := by
  unfold Obligations.FreezeReleases
  refine ⟨fun s w hs hgo hlo hfrozen hnone hgiving => ?waits, fun s w hs hgo hlo hhi hfrozen hnone hgiving => ?now,
    fun s w hs h => done_eq_of_vitals hs (freezeRelease_ignored h) rfl, fun s m hs h => ?ended, fun s m hs hasked hfrozen hlo hhi => ?performed⟩
  case waits =>
    exact done_eq ((freezeRelease_asks hgo hlo hfrozen hnone).trans (tryRelease_waits hgiving)) (settled_releaseAsked hs w)
  case now =>
    have hrel : (s.releaseAsked w).sec.relPending.contains (fld w 0 8) = true := List.contains_iff_mem.2 (List.mem_singleton_self _)
    have hfree := (freezeRelease_asks hgo hlo hfrozen hnone).trans (tryRelease_channel hrel hfrozen hgiving hlo hhi)
    obtain ⟨t, ht, hrest⟩ := chanRest_thawed (settled_releaseAsked hs w) (id := fld w 0 8) rfl
    exact ⟨t, (congrArg done hfree).trans ht, hrest⟩
  case ended => exact done_eq (tryRelease_unasked h) (settled_givenUp hs m)
  case performed =>
    have hrel : (s.givenUp m).sec.relPending.contains m.val = true := by
      rw [State.givenUp, hasked]
      exact List.contains_iff_mem.2 (List.mem_singleton_self _)
    have hfree := tryRelease_channel hrel hfrozen (givenUp_not s m) hlo hhi
    obtain ⟨t, ht, hrest⟩ := chanRest_thawed (settled_givenUp hs m) hasked
    exact ⟨t, (congrArg done hfree).trans ht, hrest⟩

end Sys2Proof.Machine
end
section
/-! SUPPORT. Event registers of a page (R400, R401), restarts that software asks for and the progress check (R346, R354, R355); and O56. -/

namespace Sys2Proof.Machine

open Sys2Proof

/-! Event registers. -/

theorem eventCount_lt (k : PageKind) : eventCount k < 32 := by cases k <;> decide

theorem eventBits_lt (s : State) (p : Nat) : s.eventBits p < 32 := by
  rw [State.eventBits]
  split
  · exact eventCount_lt _
  · decide

@[simp] theorem blockRecord_vitals (s : State) (p b : Nat) : (s.blockRecord p b).vitals = s.vitals := by simp [State.vitals]

/-- The records that a mask makes leave the registers. -/
theorem maskRecords_keeps {β : Type} (v : State → β) (hv : ∀ (s : State) p b, v (s.blockRecord p b) = v s) (s1 s : State) (p : Nat)
    (l : List Nat) (u : State) :
    v (forEach l (fun b t => if bitAt (s1.pend p) b && !bitAt (s.pend p) b then t.blockRecord p b else t) u) = v u := by
  refine forEach_keeps v _ _ (fun b t => ?_) u
  split
  · exact hv ..
  · rfl

theorem eventMask_of_none {s : State} {p : Nat} (h : s.eventBits p = 0) (w : Word) : s.eventMask p w = s := by
  simp only [State.eventMask, h, if_true, List.range_zero, forEach_nil]

section Mask
variable {s : State} {p : Nat} (h : s.eventBits p ≠ 0) (w : Word)
include h

theorem eventMask_regs : (s.eventMask p w).regs = (s.setReg p 0x14 (w &&& BitVec.ofNat 32 (2 ^ s.eventBits p - 1))).regs := by
  simp only [State.eventMask, if_neg h]
  exact maskRecords_keeps (·.regs) blockRecord_regs ..

theorem eventMask_vitals : (s.eventMask p w).vitals = s.vitals := by
  simp only [State.eventMask, if_neg h]
  exact maskRecords_keeps State.vitals blockRecord_vitals ..

end Mask

theorem eventSet_of_none {s : State} {p : Nat} (h : s.eventBits p = 0) (w : Word) : s.eventSet p w = s := by
  rw [State.eventSet, h, List.range_zero, forEach_nil]

/-- Events raised as a word names them. -/
def raiseNamed (p : Nat) (w : Word) (b : Nat) (t : State) : State := if bitAt w b then t.event p b else t

theorem raiseNamed_keeps {β : Type} (v : State → β) {p : Nat} (hv : ∀ (s : State) b, v (s.event p b) = v s) (w : Word) (b : Nat)
    (t : State) : v (raiseNamed p w b t) = v t := by
  rw [raiseNamed]
  split
  · exact hv ..
  · rfl

theorem eventSet_vitals (s : State) (p : Nat) (w : Word) : (s.eventSet p w).vitals = s.vitals :=
  forEach_keeps State.vitals _ (raiseNamed p w) (raiseNamed_keeps State.vitals (fun s b => event_vitals s p b) w) s

theorem eventSet_cause (s : State) (p : Nat) (w : Word) : (s.eventSet p w).reg p 0x24 = s.reg p 0x24 := by
  have hevent : ∀ (t : State) b, (t.event p b).reg p 0x24 = t.reg p 0x24 := fun t b => event_reg_ne t b radr_ne
  exact forEach_keeps (·.reg p 0x24) _ (raiseNamed p w) (raiseNamed_keeps (·.reg p 0x24) hevent w) s

theorem eventSet_bit {s : State} {p b : Nat} {w : Word} (hb : b < s.eventBits p) (hw : bitAt w b = true) :
    bitAt ((s.eventSet p w).reg p 0x10) b = true := by
  have hlt := eventBits_lt s p
  refine forEach_establishes (fun t => bitAt (t.reg p 0x10) b = true) (f := raiseNamed p w) (List.mem_range.2 hb) (fun t => ?_)
    (fun k t ht => ?_) s
  · rw [raiseNamed, if_pos hw]
    exact event_reg_bit _ _ _ (by omega)
  · rw [raiseNamed]
    split
    · exact event_reg_keeps t p k b ht
    · exact ht

/-! Restarts. -/

theorem hostRestart_empty {s : State} {w : Word} (h : bitAt w 31 = false ∨ s.job (fld w 0 3) = none) :
    s.hostRestart w = s.setRfld pgFlt 0x108 0 3 (fld w 0 3) :=
  if_neg (by rcases h with h | h <;> simp [h])

theorem hostRestart_job {s : State} {w : Word} {x : Job} (hgo : bitAt w 31 = true) (hj : s.job (fld w 0 3) = some x) :
    s.hostRestart w = (s.setRfld pgFlt 0x108 0 3 (fld w 0 3)).restartJob (fld w 0 3) 0 true :=
  if_pos (by rw [hgo, hj]; rfl)

theorem tryReleases_of_none {s : State} (h : s.sec.relPending = []) : s.tryReleases = s := by rw [State.tryReleases, h, forEach_nil]

theorem restartReady_idle {s : State} {j : Nat} (h : (s.job j).all (fun x => x.phase != .restarting) = true) : s.restartReady j = s := by
  rw [State.restartReady]
  split
  · rename_i x hx
    rw [hx, Option.all_some, bne_iff_ne] at h
    exact if_neg h
  · rfl

theorem answerBusy_of_none {s : State} (h : s.sup.busy = []) : s.answerBusy = s := by
  rw [State.answerBusy, h]
  split
  · rfl
  · rw [forEach_nil, ← h]

/-- A tensor job without queues and PERSIST regions runs again; nothing is told without a session. -/
theorem restartReady_tensor {s : State} {j : Nat} {x : Job} (hj : s.job j = some x) (hphase : x.phase = .restarting) (hkind : x.kind = 1)
    (hqueues : x.bind.queues 1 = []) (hpersist : ∀ t, t < 6 → s.persistRanges t = []) (hq : x.bind.eventQ = 0xFFFF)
    (hsilent : bitAt (s.reg pgNet 0x100) 31 = false) (hbusy : s.sup.busy = []) :
    s.restartReady j = s.setJob j (some { x with phase := .running, restartAt := max x.restartAt s.clk.ptp }) := by
  have hchan : s.jobChannels x = [] := by rw [State.jobChannels, hkind, hqueues]; rfl
  have hstreams : x.streams = [] := by rw [Job.streams, if_pos hkind]
  have hlines : forEach (List.range 6) (fun t s => forEach ((s.persistRanges t).filter fun r => s.mayUse j r.2) (fun r s =>
      forEach (List.range r.2.size) (fun k s => s.restoreLine t r.1 (r.2.base + k)) s) s) s = s :=
    forEach_of_idle fun t ht => by rw [hpersist t (List.mem_range.1 ht), List.filter_nil, forEach_nil]
  simp only [State.restartReady, hj, if_pos hphase, hchan, hstreams, forEach_nil, hlines, hq]
  rw [jobEvent_of_no_session (s := s.setJob j _) (by decide) hsilent, answerBusy_of_none (s := s.setJob j _) hbusy]

/-! The progress check. -/

theorem progressCheck_moves {s : State} (h : ∀ x ∈ s.progressItems, x ∉ s.sched.progress) :
    s.progressCheck = { s with sched := { s.sched with progress := s.progressItems } } :=
  if_neg fun k => by
    obtain ⟨x, hx, hseen⟩ := List.any_eq_true.1 k
    exact h x hx (List.contains_iff_mem.1 hseen)

/-- What the last check saw is forgotten. -/
def State.unwatch (s : State) : State := { s with sched := { s.sched with progress := [] } }

theorem progressCheck_stuck {s : State} {x : Nat × Nat × Nat × Nat} (hx : x ∈ s.progressItems) (hseen : x ∈ s.sched.progress) :
    s.progressCheck = (s.unwatch.fault 0x18 0 0).owe (.restartAll false 0x18) :=
  if_pos (List.any_eq_true.2 ⟨x, hx, List.contains_iff_mem.2 hseen⟩)

/-- Settles O56: event registers, restarts and the check by what each leaves. -/
theorem eventsAndRestarts : Obligations.EventsAndRestarts := by
  unfold Obligations.EventsAndRestarts
  refine ⟨fun s p w hs => done_of_vitals hs rfl, fun s p w hs hbits => ?mask, fun s p w b hs hb hw => ?set, fun s p w hs h => ?none,
    fun s w hs h => done_eq_of_vitals hs (hostRestart_empty h) rfl, fun s w x hgo hj => congrArg done (hostRestart_job hgo hj),
    fun s j hs hrel h => ?idle, fun s j x hs hrel hj hphase hkind hqueues hpersist hq hsilent hbusy => ?ready,
    fun s hs h => done_eq_of_vitals hs (progressCheck_moves h) rfl, fun s x hx hseen => ?stuck⟩
  case mask =>
    refine ⟨_, done_of_vitals hs (eventMask_vitals hbits w), ?_, ?_, sameMemory_of_vitals (eventMask_vitals hbits w)⟩
    · rw [State.reg, eventMask_regs hbits w]
      exact setReg_reg_same ..
    · rw [State.reg, eventMask_regs hbits w]
      exact setReg_reg_ne _ _ radr_ne
  case set =>
    exact ⟨_, done_of_vitals hs (eventSet_vitals ..), eventSet_bit hb hw, eventSet_cause .., sameMemory_of_vitals (eventSet_vitals ..)⟩
  case none => exact ⟨done_eq (eventSet_of_none h w) hs, done_eq (eventMask_of_none h w) hs⟩
  case idle => exact done_eq (by rw [restartReady_idle h, tryReleases_of_none hrel]) hs
  case ready =>
    refine done_eq_of_vitals hs ?_ rfl
    rw [restartReady_tensor hj hphase hkind hqueues hpersist hq hsilent hbusy]
    exact tryReleases_of_none hrel
  case stuck =>
    refine ⟨_, congrArg done (progressCheck_stuck hx hseen), ?_, ?_, fault_reg_event .., fault_reg_cause .., ?_⟩
    · rw [State.owe, fault_flt_due]
      rfl
    · rw [State.owe, fault_sched]
      rfl
    · exact sameMemory_of_mem (fault_mem ..)

end Sys2Proof.Machine
end
section
/-! SUPPORT. What closing sessions and switching keys leave (R338, R339, Table 15-7): every part of the state that ports, sessions, events
and their records leave alone. -/

namespace Sys2Proof.Machine

open Sys2Proof

@[simp] theorem setSess_vitals (s : State) (n : Nat) (l : Session) : (s.setSess n l).vitals = s.vitals := (rfl)
@[simp] theorem setEth_vitals (s : State) (p : Nat) (e : EthPort) : (s.setEth p e).vitals = s.vitals := (rfl)

/-- The device with other event records waiting. -/
def State.withEvents (s : State) (l : List EventRec) : State := { s with net := { s.net with events := l } }

@[simp] theorem withEvents_vitals (s : State) (l : List EventRec) : (s.withEvents l).vitals = s.vitals := (rfl)

section Keeps
variable {β : Type} (v : State → β) (heth : ∀ (s : State) p e, v (s.setEth p e) = v s)
include heth

theorem dropKeys_keeps (s : State) : v s.dropKeys = v s := by
  refine forEach_keeps v _ _ (fun p s => ?_) s
  split
  · exact heth ..
  · rfl

variable (hevent : ∀ (s : State) p b, v (s.event p b) = v s)
include hevent

theorem trySwitch_keeps (s : State) (p : Nat) : v (s.trySwitch p) = v s := by
  rw [State.trySwitch]
  split
  · split
    · split
      · exact (hevent ..).trans (heth ..)
      · rfl
    · rfl
  · rfl

/-- Ports without an open session lose their keys, and every switch that can be made is made. -/
theorem rekeyed_keeps (s : State) : v (forEach (List.range 4) (fun p s => s.trySwitch p) s.dropKeys) = v s :=
  (forEach_keeps v _ _ (fun p s => trySwitch_keeps v heth hevent s p) _).trans (dropKeys_keeps v heth s)

variable (hnet : ∀ (s : State) l, v (s.withEvents l) = v s)
include hnet

/-- What a session's close leaves is what putting a closed session in its place leaves. -/
theorem closeSession_keeps (s : State) (n : Nat) : v (s.closeSession n) = v (s.setSess n Session.init) := by
  rw [State.closeSession]
  refine (rekeyed_keeps v heth hevent _).trans ((hnet _ _).trans ?_)
  exact forEach_keeps v _ _ (fun p s => heth ..) _

end Keeps

theorem closeSession_sess (s : State) (n k : Nat) : (s.closeSession n).sess k = if k = n then Session.init else s.sess k :=
  (closeSession_keeps (·.sess k) (fun _ _ _ => rfl) (fun s p b => event_sess s p b k) (fun _ _ => rfl) s n).trans (setSess_sess ..)

end Sys2Proof.Machine
end

section
/-! SUPPORT. Ownership, network boot and rollback (R331 to R335): how each command is judged, and what an owner change leaves; and O51. -/

namespace Sys2Proof.Machine

open Sys2Proof

theorem attestWake_of_awake {s : State} (h : s.pwr.state ≠ .standby) : s.attestWake = s := if_neg h

/-- An open host session of a device that is not in STANDBY. -/
structure State.hosts (s : State) (n : Nat) : Prop where
  awake : s.pwr.state ≠ .standby
  isOpen : (s.sess n).state = 2
  host : (s.sess n).peer = false

theorem hosts_not {s : State} {n : Nat} (h : s.hosts n) : ¬ ((s.sess n).state ≠ 2 ∨ (s.sess n).peer = true) := by
  rw [h.isOpen, h.host]
  decide

/-! Enrolment and release. -/

section Owner
variable {s : State} {n : Nat} (h : s.hosts n)
include h

theorem enroll_disagrees (m : EnrollMsg) (hne : (s.sess n).unowned = s.owned) : s.enroll n m = s.attestFail n 2 := by
  simp only [State.enroll, attestWake_of_awake h.awake]
  rw [if_neg (hosts_not h), if_pos hne]

theorem releaseOwner_disagrees (g : Bool) (hne : (s.sess n).unowned = true ∨ s.owned = false) :
    s.releaseOwner n g = s.attestFail n 2 := by
  simp only [State.releaseOwner, attestWake_of_awake h.awake]
  rw [if_neg (hosts_not h), if_pos (hne.imp id fun k => by rw [k]; rfl)]

theorem keysIn_host (l : List Nat) : s.keysIn n l = if 5 < l.length then s.attestFail n 9 else s.takeKeys l := by
  simp only [State.keysIn, attestWake_of_awake h.awake]
  rw [if_neg (hosts_not h)]

variable (hable : s.ownable = true) (hroom : s.fuse.slots.length < 8)
include hable hroom

theorem enroll_burns {m : EnrollMsg} (hagrees : (s.sess n).unowned = !s.owned) (hsig : s.owned = false ∨ m.genuine = true) :
    s.enroll n m = { s with sec := { s.sec with burn := some (.owner m.keyHash.toNat (m.imageKeys.map (·.toNat)) s.owned) } } := by
  have hne : ¬ (s.sess n).unowned = s.owned := by
    rw [hagrees]
    cases s.owned <;> decide
  have hok : ¬ (s.owned = true ∧ (!m.genuine) = true) := by
    rcases hsig with k | k <;> rw [k] <;> simp
  simp only [State.enroll, attestWake_of_awake h.awake]
  rw [if_neg (hosts_not h), if_neg hne, if_neg (by rw [hable]; decide), if_neg (by omega), if_neg hok]

theorem releaseOwner_burns (howned : (s.sess n).unowned = false) (hown : s.owned = true) :
    s.releaseOwner n true = { s with sec := { s.sec with burn := some .release } } := by
  simp only [State.releaseOwner, attestWake_of_awake h.awake]
  rw [if_neg (hosts_not h), if_neg (by rw [howned, hown]; decide), if_neg (by rw [hable]; decide), if_neg (by omega), if_neg (by decide)]

end Owner

theorem keysIn_other {s : State} {n : Nat} (l : List Nat) (h : (s.sess n).state ≠ 2 ∨ (s.sess n).peer = true)
    (hawake : s.pwr.state ≠ .standby) : s.keysIn n l = s := by
  simp only [State.keysIn, attestWake_of_awake hawake]
  rw [if_pos h]

/-! A change of owner. -/

/-- Every session closed. -/
def State.allClosed (s : State) : State := forEach (List.range 32) (fun n s => s.closeSession n) s

theorem allClosed_keeps {β : Type} (v : State → β) (hsess : ∀ (s : State) n l, v (s.setSess n l) = v s)
    (heth : ∀ (s : State) p e, v (s.setEth p e) = v s) (hevent : ∀ (s : State) p b, v (s.event p b) = v s)
    (hnet : ∀ (s : State) l, v (s.withEvents l) = v s) (s : State) : v s.allClosed = v s :=
  forEach_keeps v _ _ (fun n s => (closeSession_keeps v heth hevent hnet s n).trans (hsess ..)) s

theorem allClosed_sess (s : State) {n : Nat} (hn : n < 32) : s.allClosed.sess n = Session.init := by
  refine forEach_establishes (fun t => t.sess n = Session.init) (f := fun n s => s.closeSession n) (List.mem_range.2 hn) (fun t => ?_)
    (fun k t ht => ?_) s
  · rw [closeSession_sess, if_pos rfl]
  · rw [closeSession_sess, ht, ite_self]

/-- Every port without keys and secure channels. -/
def State.keyless (s : State) : State := forEach (List.range 4) (fun p s => s.setEth p { s.eth p with keys := none, scis := [] }) s

theorem keyless_keeps {β : Type} (v : State → β) (heth : ∀ (s : State) p e, v (s.setEth p e) = v s) (s : State) : v s.keyless = v s :=
  forEach_keeps v _ _ (fun _ _ => heth ..) s

theorem keyless_eth (s : State) {p : Nat} (hp : p < 4) : (s.keyless.eth p).keys = none ∧ (s.keyless.eth p).scis = [] := by
  refine forEach_establishes (fun t => (t.eth p).keys = none ∧ (t.eth p).scis = []) (List.mem_range.2 hp) (fun t => ?_) (fun k t ht => ?_) s
  · rw [setEth_eth, if_pos rfl]
    exact ⟨rfl, rfl⟩
  · rw [setEth_eth]
    split
    · exact ⟨rfl, rfl⟩
    · exact ht

/-- No exchange, no accepted image key, and no burn under way. -/
def State.disowned (s : State) : State := { s with net := { s.net with exchanges := [] }, sec := { s.sec with imageKeys := [], burn := none } }

theorem disowned_fuse (s : State) : s.disowned.fuse = s.fuse := rfl
theorem disowned_mem (s : State) : s.disowned.mem = s.mem := rfl
theorem disowned_sess (s : State) (n : Nat) : s.disowned.sess n = s.sess n := rfl
theorem disowned_eth (s : State) (p : Nat) : s.disowned.eth p = s.eth p := rfl

theorem ownerChanged_eq (s : State) : s.ownerChanged = (s.allClosed.keyless.disowned.log 0x0A 0 (logBody 0 0 0)).event pgSec 3 := by
  simp only [State.ownerChanged, State.disowned, State.keyless, State.allClosed]

theorem ownerChanged_leaves (s : State) :
    let u := s.ownerChanged
    u.fuse = s.fuse ∧ u.sec.burn = none ∧ u.sec.imageKeys = [] ∧ u.net.exchanges = [] ∧ (∀ n, n < 32 → (u.sess n).state = 0) ∧
      (∀ p, p < 4 → (u.eth p).keys = none ∧ (u.eth p).scis = []) ∧ bitAt (u.reg pgSec 0x10) 3 = true ∧ s.sameMemory u := by
  intro u
  have hfuse : s.allClosed.keyless.fuse = s.fuse := (keyless_keeps (·.fuse) (fun _ _ _ => rfl) s.allClosed).trans
    (allClosed_keeps (·.fuse) (fun _ _ _ => rfl) (fun _ _ _ => rfl) event_fuse (fun _ _ => rfl) s)
  have hmem : s.allClosed.keyless.mem = s.mem := (keyless_keeps (·.mem) (fun _ _ _ => rfl) s.allClosed).trans
    (allClosed_keeps (·.mem) (fun _ _ _ => rfl) (fun _ _ _ => rfl) event_mem (fun _ _ => rfl) s)
  have hsess : ∀ n, s.allClosed.keyless.sess n = s.allClosed.sess n := fun n => keyless_keeps (·.sess n) (fun _ _ _ => rfl) s.allClosed
  have hu : u = (s.allClosed.keyless.disowned.log 0x0A 0 (logBody 0 0 0)).event pgSec 3 := ownerChanged_eq s
  refine ⟨?_, ?_, ?_, ?_, fun n hn => ?_, fun p hp => ?_, ?_, sameMemory_of_mem ?_⟩ <;> rw [hu]
  · rw [event_fuse, log_fuse, disowned_fuse, hfuse]
  · rw [event_sec, log_sec, State.disowned]
  · rw [event_sec, log_sec, State.disowned]
  · rw [event_net_exchanges, log_net_exchanges, State.disowned]
  · rw [event_sess, log_sess, disowned_sess, hsess, allClosed_sess s hn]
    rfl
  · rw [event_eth, log_eth, disowned_eth]
    exact keyless_eth s.allClosed hp
  · exact event_reg_bit _ _ _ (by decide)
  · rw [event_mem, log_mem, disowned_mem, hmem]

/-! Rollback counters. -/

/-- The fields of ROLLBACK_ADV as written. -/
def State.rollbackAsked (s : State) (w : Word) : State := (s.setRfld pgSec 0x100 0 8 (fld w 0 8)).setRfld pgSec 0x100 8 1 (fld w 8 1)

section Rollback
variable {s : State} {w : Word} (hgo : bitAt w 31 = true) (hfree : s.sec.burn = none)
include hgo hfree

theorem rollbackAdvance_refused (hidle : s.pwr.state ≠ .idle) (hstandby : s.pwr.state ≠ .standby) :
    s.rollbackAdvance w = (s.rollbackAsked w).fail pgSec 5 6 0 := by
  have hgoes : ¬ ((!bitAt w 31) = true ∨ (s.rollbackAsked w).sec.burn.isSome = true) := by
    rw [hgo, show (s.rollbackAsked w).sec = s.sec from rfl, hfree]
    decide
  have hfault : (s.rollbackAsked w).rollbackFault (fld w 8 1) (fld w 0 8) = 6 := by
    have hidle' : (s.pwr.state == .idle) = false := beq_eq_false_iff_ne.2 hidle
    have hstandby' : (s.pwr.state == .standby) = false := beq_eq_false_iff_ne.2 hstandby
    rw [State.rollbackFault, show (s.rollbackAsked w).pwr = s.pwr from rfl, hidle', hstandby']
    rfl
  rw [State.rollbackAdvance, ← State.rollbackAsked, if_neg hgoes, hfault]
  rfl

theorem rollbackAdvance_burns (hidle : s.pwr.state = .idle) (hmax : fld w 0 8 ≤ 128) (hwhich : fld w 8 1 = 0)
    (hruns : fld w 0 8 ≤ s.sec.fwVersion) (hpast : s.fuse.fw < fld w 0 8) :
    s.rollbackAdvance w = { s.rollbackAsked w with sec := { s.sec with burn := some (.rollback 0 (fld w 0 8) s.clk.up) } } := by
  have hgoes : ¬ ((!bitAt w 31) = true ∨ (s.rollbackAsked w).sec.burn.isSome = true) := by
    rw [hgo, show (s.rollbackAsked w).sec = s.sec from rfl, hfree]
    decide
  have hfault : (s.rollbackAsked w).rollbackFault (fld w 8 1) (fld w 0 8) = 0 := by
    rw [State.rollbackFault, show (s.rollbackAsked w).pwr = s.pwr from rfl, hidle, hwhich, if_neg (by decide), if_neg (by omega),
      if_pos rfl, if_neg (show ¬ (s.rollbackAsked w).sec.fwVersion < fld w 0 8 from Nat.not_lt.2 hruns)]
  have hahead : ¬ fld w 0 8 ≤ (if fld w 8 1 = 0 then (s.rollbackAsked w).fuse.fw else (s.rollbackAsked w).fuse.img) := by
    rw [if_pos hwhich]
    exact Nat.not_le.2 hpast
  have hawake : s.pwr.state ≠ .standby := by rw [hidle]; decide
  rw [State.rollbackAdvance, ← State.rollbackAsked, if_neg hgoes, hfault, if_neg (by decide), if_neg hahead, hwhich]
  exact attestWake_of_awake hawake

end Rollback

/-- Settles O51: each command by how it is judged, the owner change by `ownerChanged_leaves`. -/
theorem ownershipAndRollback : Obligations.OwnershipAndRollback := by
  unfold Obligations.OwnershipAndRollback
  refine ⟨fun s n m hs hawake hopen hhost hagrees hable hroom hsig =>
      done_eq_of_vitals hs (enroll_burns ⟨hawake, hopen, hhost⟩ hable hroom hagrees hsig) rfl,
    fun s n m hawake hopen hhost hne => congrArg done (enroll_disagrees ⟨hawake, hopen, hhost⟩ m hne),
    fun s n hs hawake hopen hhost howned hown hable hroom =>
      done_eq_of_vitals hs (releaseOwner_burns ⟨hawake, hopen, hhost⟩ hable hroom howned hown) rfl,
    fun s n g hawake hopen hhost hne => congrArg done (releaseOwner_disagrees ⟨hawake, hopen, hhost⟩ g hne),
    fun s h k hburn => ?burned, fun s n l hs hawake h => done_eq (keysIn_other l h hawake) hs,
    fun s n l hawake hopen hhost => ?keys, fun s o t b hs h => ?noboot, fun s o t b hs hboot hnet hstep => ?boot,
    fun s w hs hgo hfree hidle hstandby => ?refused, fun s w hs hgo hfree hidle hmax hwhich hruns hpast => ?advances,
    fun s k v u hburn => ?done⟩
  case burned =>
    have hstate : s.ownerBurned = ({ s with fuse := { s.fuse with slots := s.fuse.slots ++ [⟨h, k, false⟩] } } : State).ownerChanged := by
      rw [State.ownerBurned, hburn]
      rfl
    obtain ⟨hfuse, hrest⟩ := ownerChanged_leaves { s with fuse := { s.fuse with slots := s.fuse.slots ++ [⟨h, k, false⟩] } }
    exact ⟨_, congrArg done hstate, by rw [hfuse], hrest⟩
  case keys => exact congrArg done (keysIn_host ⟨hawake, hopen, hhost⟩ l)
  case noboot =>
    refine done_eq (if_neg ?_) hs
    rcases h with h | h | h <;> simp [h]
  case boot => exact done_eq_of_vitals hs (if_pos (by rw [hboot, hnet, decide_eq_true hstep]; rfl)) rfl
  case refused =>
    refine ⟨_, done_eq_of_vitals hs (rollbackAdvance_refused hgo hfree hidle hstandby) (fail_vitals ..), ?_,
      fail_reg_event _ _ _ _ _ (by decide), ?_, fail_fuse ..⟩
    · rw [fail_sec]
      exact hfree
    · rw [State.fail, event_reg_ne _ _ radr_ne, State.cause, setReg_reg_ne _ _ radr_ne, setReg_reg_ne _ _ radr_ne, setReg_reg_same]
      rfl
  case advances =>
    exact ⟨_, done_eq_of_vitals hs (rollbackAdvance_burns hgo hfree hidle hmax hwhich hruns hpast) rfl, rfl, rfl⟩
  case done =>
    refine ⟨_, congrArg done (show s.rollbackDone = _ by rw [State.rollbackDone, hburn]), ?_, event_reg_bit _ _ _ (by decide), ?_, ?_⟩
    · rw [event_sec, log_sec]
    · rw [event_fuse, log_fuse]
      dsimp only
      split <;> rfl
    · rw [event_fuse, log_fuse]
      dsimp only
      split <;> rfl

end Sys2Proof.Machine
end
section
/-! SUPPORT. Received frames (R306, R308, R312, R314, R316, R339): the checks of a datagram in their order, and the turn of a frame of an
open session; and O44. -/

namespace Sys2Proof.Machine

open Sys2Proof

/-! The checks. -/

/-- A frame at a port whose link is up. -/
structure State.reaches (s : State) (a : Arrival) : Prop where
  up : s.netUp = true
  link : (s.eth a.port).link = true

theorem receive_offline {s : State} {a : Arrival} (h : s.netUp = false ∨ (s.eth a.port).link = false) : s.receive a = s :=
  if_pos (by rcases h with h | h <;> simp [h])

section Received
variable {s : State} {a : Arrival} (hup : s.reaches a)
include hup

theorem reaches_not : ¬ (!s.netUp || !(s.eth a.port).link) = true := by
  rw [hup.up, hup.link]
  decide

theorem receive_long (h : 9216 < a.wire) : s.receive a = s.bump pgNet (portReg a.port + 0x28) 0 32 1 := by
  simp only [State.receive]
  rw [if_neg (reaches_not hup), if_pos h]

variable (hfits : a.wire ≤ 9216)
include hfits

theorem receive_unverified (h : (s.eth a.port).verifies a = false) : s.receive a = s.macsecDrop a.port := by
  simp only [State.receive]
  rw [if_neg (reaches_not hup), if_neg (Nat.not_lt.2 hfits), if_pos (by rw [h]; rfl)]

/-- A frame that verifies is looked into, with an old key of its port forgotten under the new one. -/
theorem receive_verified (hver : (s.eth a.port).verifies a = true) (hkey : s.newKeySeen a.port a = s) :
    s.receive a =
      if !s.hears a then s
      else if a.magic ≠ 0x574B ∨ a.version ≠ 1 ∨ a.length ≠ a.frame.payload.length then s.bump pgNet (portReg a.port + 0x28) 0 32 1
      else if a.frame.session = 0xFFFF then
        if a.frame.type = 10 then (s.putExchange (s.exchangeAt a.src a.port)).linkFrame (linkOf a.src) a.port a.frame
        else if (s.exchange a.src).isSome && (a.frame.type == 7 || a.frame.type == 8) then s.linkFrame (linkOf a.src) a.port a.frame
        else if (s.eth a.port).keys.isSome then s else s.macsecDrop a.port
      else if a.frame.session < 32 ∧ ((s.eth a.port).keys.isSome ∨ (a.frame.type = 10 ∧ (s.sess a.frame.session).state = 3)) then
        s.linkFrame a.frame.session a.port a.frame
      else if !(s.eth a.port).keys.isSome then s.macsecDrop a.port
      else s := by
  simp only [State.receive]
  rw [if_neg (reaches_not hup), if_neg (Nat.not_lt.2 hfits), if_neg (by rw [hver]; decide), hkey]

end Received

/-- A frame of Kweal as R312 has it. -/
structure Arrival.formed (a : Arrival) : Prop where
  magic : a.magic = 0x574B
  version : a.version = 1
  length : a.length = a.frame.payload.length

theorem formed_not {a : Arrival} (h : a.formed) : ¬ (a.magic ≠ 0x574B ∨ a.version ≠ 1 ∨ a.length ≠ a.frame.payload.length) := by
  rw [h.magic, h.version, h.length]
  simp

/-! A port without keys. -/

section Keyless
variable {s : State} {a : Arrival} (hup : s.reaches a) (hfits : a.wire ≤ 9216) (hkeys : (s.eth a.port).keys = none)
include hup hfits hkeys

theorem receive_keyless :
    s.receive a =
      if !s.hears a then s
      else if a.magic ≠ 0x574B ∨ a.version ≠ 1 ∨ a.length ≠ a.frame.payload.length then s.bump pgNet (portReg a.port + 0x28) 0 32 1
      else if a.frame.session = 0xFFFF then
        if a.frame.type = 10 then (s.putExchange (s.exchangeAt a.src a.port)).linkFrame (linkOf a.src) a.port a.frame
        else if (s.exchange a.src).isSome && (a.frame.type == 7 || a.frame.type == 8) then s.linkFrame (linkOf a.src) a.port a.frame
        else s.macsecDrop a.port
      else if a.frame.session < 32 ∧ a.frame.type = 10 ∧ (s.sess a.frame.session).state = 3 then
        s.linkFrame a.frame.session a.port a.frame
      else s.macsecDrop a.port := by
  have hver : (s.eth a.port).verifies a = true := by rw [EthPort.verifies, hkeys]
  have hkey : s.newKeySeen a.port a = s := by rw [State.newKeySeen, hkeys]
  simp only [receive_verified hup hfits hver hkey, hkeys, Option.isSome_none, Bool.false_eq_true, if_false, Bool.not_false, if_true, false_or]

theorem receive_unheard (h : s.hears a = false) : s.receive a = s := by
  rw [receive_keyless hup hfits hkeys, if_pos (by rw [h]; rfl)]

variable (hhears : s.hears a = true)
include hhears

theorem receive_malformed (h : a.magic ≠ 0x574B ∨ a.version ≠ 1 ∨ a.length ≠ a.frame.payload.length) :
    s.receive a = s.bump pgNet (portReg a.port + 0x28) 0 32 1 := by
  rw [receive_keyless hup hfits hkeys, if_neg (by rw [hhears]; decide), if_pos h]

variable (hformed : a.formed) (hsess : a.frame.session < 32)
include hformed hsess

/-- Without keys a session hears ATTEST frames alone, and those when it is LOST. -/
theorem receive_unkeyed :
    s.receive a = if a.frame.type = 10 ∧ (s.sess a.frame.session).state = 3 then s.linkFrame a.frame.session a.port a.frame
      else s.macsecDrop a.port := by
  rw [receive_keyless hup hfits hkeys, if_neg (by rw [hhears]; decide), if_neg (formed_not hformed), if_neg (by omega)]
  simp only [hsess, true_and]

end Keyless

/-- A frame of a session under the port's key. -/
theorem receive_keyed {s : State} {a : Arrival} {k : PortKeys} (hup : s.reaches a) (hfits : a.wire ≤ 9216)
    (hkeys : (s.eth a.port).keys = some k) (han : k.host.an = a.an.val) (hold : k.hostOld = none) (hver : a.verified = true)
    (hhears : s.hears a = true) (hformed : a.formed) (hsess : a.frame.session < 32) :
    s.receive a = s.linkFrame a.frame.session a.port a.frame := by
  have hverifies : (s.eth a.port).verifies a = true := by
    simp only [EthPort.verifies, hkeys, hver, han, beq_self_eq_true, Bool.true_or, Bool.and_self]
  have hkey : s.newKeySeen a.port a = s := by
    rw [State.newKeySeen, hkeys]
    exact if_neg (by rw [hold]; simp)
  rw [receive_verified hup hfits hverifies hkey, if_neg (by rw [hhears]; decide), if_neg (formed_not hformed), if_neg (by omega),
    if_pos ⟨hsess, .inl (by rw [hkeys]; rfl)⟩]

/-! The turn of a frame (R314). -/

/-- A frame with a sequence number of an open session, once its acknowledgement is taken. -/
theorem linkFrame_open {s : State} {n p : Nat} {f : KFrame} (hn : n < 32) (hopen : (s.sess n).state = 2) (hack : f.type ≠ 7)
    (hresync : f.type ≠ 9) : s.linkFrame n p f = (s.ackTo n f.ack f.window).sequence n p f := by
  have hlink : (s.link n).state = 2 := by rw [State.link, if_pos hn, hopen]
  simp only [State.linkFrame]
  rw [if_neg (by omega), if_neg (by omega), if_neg hack, if_neg hresync]

theorem sequence_awake {u : State} (hawake : u.asleep = false) (n p : Nat) (f : KFrame) :
    u.sequence n p f =
      if seqDist f.seq (u.link n).rxNext = 0 then (u.accept n p f).drainLink 65 n p
      else if seqDist f.seq (u.link n).rxNext ≤ 64 then u.holdFrame n f
      else if seqAhead (u.link n).rxNext f.seq then u.sendAck n
      else u.nak n f 2 0 := by
  simp only [State.sequence]
  rw [if_neg (by rw [hawake]; simp)]

/-- Settles O44: each datagram by the check that it meets, and a frame of an open session by its distance from the one expected. -/
theorem framesReceived : Obligations.FramesReceived := by
  unfold Obligations.FramesReceived
  refine ⟨fun s a hs h => done_eq (receive_offline h) hs,
    fun s a hs hup hlink hfits h => done_eq_of_vitals hs (receive_unverified ⟨hup, hlink⟩ hfits h) (fail_vitals ..),
    fun s a hs hup hlink hfits hkeys hhears hm hv hl hsess h => ?unkeyed,
    fun s a hup hlink hfits hkeys hhears hm hv hl hsess htype hlost => ?lost,
    fun s a hs hup hlink h => ?counted,
    fun s a hs hup hlink hfits hkeys h => done_eq (receive_unheard ⟨hup, hlink⟩ hfits hkeys h) hs,
    fun s a k hup hlink hfits hkeys han hold hver hhears hm hv hl hsess hack hresync hopen => ?turn⟩
  case unkeyed =>
    refine done_eq_of_vitals hs ((receive_unkeyed ⟨hup, hlink⟩ hfits hkeys hhears ⟨hm, hv, hl⟩ hsess).trans (if_neg fun k => ?_))
      (fail_vitals ..)
    exact h.elim (fun h => h k.1) (fun h => h k.2)
  case lost => exact congrArg done ((receive_unkeyed ⟨hup, hlink⟩ hfits hkeys hhears ⟨hm, hv, hl⟩ hsess).trans (if_pos ⟨htype, hlost⟩))
  case counted =>
    refine done_eq_of_vitals hs ?_ (bump_vitals ..)
    by_cases hlong : 9216 < a.wire
    · exact receive_long ⟨hup, hlink⟩ hlong
    · obtain ⟨hkeys, hhears, hbad⟩ := h.resolve_left hlong
      exact receive_malformed ⟨hup, hlink⟩ (by omega) hkeys hhears hbad
  case turn =>
    intro n u ahead hawake
    have hturn : s.receive a = u.sequence n a.port a.frame :=
      (receive_keyed ⟨hup, hlink⟩ hfits hkeys han hold hver hhears ⟨hm, hv, hl⟩ hsess).trans (linkFrame_open hsess hopen hack hresync)
    rw [sequence_awake hawake] at hturn
    refine ⟨fun h => ?_, fun hlo hhi => ?_, fun h hdup => ?_, fun h hnew => ?_⟩ <;> refine congrArg done (hturn.trans ?_)
    · exact if_pos h
    · exact (if_neg (by omega)).trans (if_pos hhi)
    · exact (if_neg (by omega)).trans ((if_neg (by omega)).trans (if_pos hdup))
    · exact (if_neg (by omega)).trans ((if_neg (by omega)).trans (if_neg (by rw [hnew]; decide)))

end Sys2Proof.Machine
end
section
/-! SUPPORT. Keys of the ports (R336, R338, R339): quotes, rekeys and their answers, and secure channels; and O50. -/

namespace Sys2Proof.Machine

open Sys2Proof

/-! Messages of an open session. -/

section Quote
variable {s : State} {n : Nat} (hawake : s.pwr.state ≠ .standby) (tag nonce : Nat)
include hawake

theorem quoteReq_closed (h : (s.sess n).state ≠ 2) : s.quoteReq n tag nonce = s := by
  simp only [State.quoteReq, attestWake_of_awake hawake]
  rw [if_pos h]

theorem quoteReq_open (h : (s.sess n).state = 2) :
    s.quoteReq n tag nonce =
      ({ s with free := s.free + 1, sec := { s.sec with nonceD := Config.freeNat s.free } } : State).attest n 4 tag 2
        (s.quoteBody nonce (Config.freeNat s.free) noKey) := by
  simp only [State.quoteReq, attestWake_of_awake hawake]
  rw [if_neg (not_not.2 h)]

end Quote

section Rekey
variable {s : State} {n : Nat} {m : RekeyMsg} (hawake : s.pwr.state ≠ .standby) (hopen : (s.sess n).state = 2)
  (howned : (s.sess n).unowned = false)
include hawake hopen howned

theorem rekeyIn_malformed (h : 4 ≤ m.port.val ∨ m.dir.val ≠ 1) : s.rekeyIn n m = s.attestFail n 9 := by
  simp only [State.rekeyIn, attestWake_of_awake hawake]
  rw [if_neg (not_not.2 hopen), if_neg (by rw [howned]; decide), if_pos h]

/-- The other side's new key is accepted beside its old one, and answered. -/
theorem rekeyIn_accepted {k : PortKeys} (hport : m.port.val < 4) (hdir : m.dir.val = 1) (hsig : m.genuine = true)
    (hkeys : (s.eth m.port).keys = some k) :
    s.rekeyIn n m = (s.setEth m.port { s.eth m.port with
      keys := some { k with host := ⟨m.an.val % 4, m.sak⟩, hostOld := some k.host } }).attest n 4 (s.sess n).tag 8
        (leBytes 1 m.port ++ leBytes 1 m.an ++ leBytes 6 0) := by
  simp only [State.rekeyIn, attestWake_of_awake hawake]
  rw [if_neg (not_not.2 hopen), if_neg (by rw [howned]; decide), if_neg (by omega), if_neg (by rw [hsig]; decide), hkeys]

end Rekey

/-! The switch of a port's own key. -/

/-- A port whose sessions have all answered sends under its new key. -/
theorem trySwitch_ready {s : State} {p : Nat} {k : PortKeys} {a : Sak} {w : List Nat} (hkeys : (s.eth p).keys = some k)
    (hnext : k.txNext = some (a, w)) (hall : w.filter (fun n => (s.sess n).state == 2) = []) :
    s.trySwitch p = (s.setEth p { s.eth p with keys := some { k with tx := a, txNext := none, pn := 1 } }).event pgSec 2 := by
  simp only [State.trySwitch, hkeys, hnext, hall, List.isEmpty_nil, if_true]

/-- The last answer brings the switch. -/
theorem rekeyAck_last {s : State} {n p : Nat} {k : PortKeys} {a : Sak} {w : List Nat} (hopen : (s.sess n).state = 2)
    (hkeys : (s.eth p).keys = some k) (hnext : k.txNext = some (a, w))
    (hlast : w.filter (fun j => j != n && (s.sess j).state == 2) = []) :
    ∃ u : State, u.vitals = s.vitals ∧ s.rekeyAck n p a.an =
      (u.setEth p { s.eth p with keys := some { k with tx := a, txNext := none, pn := 1 } }).event pgSec 2 := by
  let u := s.setEth p { s.eth p with keys := some { k with txNext := some (a, w.filter (· != n)) } }
  have heth : u.eth p = { s.eth p with keys := some { k with txNext := some (a, w.filter (· != n)) } } := by
    rw [setEth_eth, if_pos rfl]
  have hall : (w.filter (· != n)).filter (fun j => (u.sess j).state == 2) = [] := by
    rw [List.filter_filter, ← hlast]
    exact List.filter_congr fun j _ => Bool.and_comm ..
  refine ⟨u, rfl, ?_⟩
  have hswitch := trySwitch_ready (s := u) (congrArg EthPort.keys heth) rfl hall
  rw [heth] at hswitch
  simp only [State.rekeyAck, hkeys, hnext]
  rw [if_pos ⟨hopen, trivial⟩]
  exact hswitch

theorem startRekey_waits {s : State} {p : Nat} (h : (s.eth p).keys = none ∨ ∃ k, (s.eth p).keys = some k ∧ k.txNext.isSome = true) :
    s.startRekey p = s := by
  rcases h with h | ⟨k, h, hnext⟩
  · simp only [State.startRekey, h]
  · simp only [State.startRekey, h, hnext, if_true]

theorem startRekey_offers {s : State} {p : Nat} {k : PortKeys} (hkeys : (s.eth p).keys = some k) (hnext : k.txNext = none) :
    s.startRekey p = (forEach (s.openOn p) (fun n u => u.sendRekey n p ⟨(k.tx.an + 1) % 4, s.freeNat⟩) (s.drawn.setEth p { s.eth p with
      keys := some { k with txNext := some (⟨(k.tx.an + 1) % 4, s.freeNat⟩, s.openOn p), pn := max k.pn (s.pnThreshold p) } })).trySwitch
        p := by
  simp only [State.startRekey, hkeys, hnext, Option.isSome_none, Bool.false_eq_true, if_false]

/-! Secure channels. -/

section Sci
variable {s : State} {n sci p : Nat} (hawake : s.pwr.state ≠ .standby) (hopen : (s.sess n).state = 2) (hhost : (s.sess n).peer = false)
  (hp : p < 4) (hkeys : (s.eth p).keys ≠ none) (hnew : ((s.eth p).scis.any fun x => x.1 == sci) = false)
include hawake hopen hhost hp hkeys hnew

/-- A channel that its port does not have yet is added while there is room for it. -/
theorem sciAdd_new :
    s.sciAdd n sci p = if 8 ≤ (s.eth p).scis.length then s.attestFail n 4
      else s.setEth p { s.eth p with scis := (s.eth p).scis ++ [(sci, n)] } := by
  have hkeyed : (s.eth p).keys.isNone = false := Option.isNone_eq_false_iff.2 (Option.isSome_iff_ne_none.2 hkeys)
  simp only [State.sciAdd, attestWake_of_awake hawake]
  rw [if_neg (by rw [hopen, hhost]; decide), if_neg (by omega), if_neg (by rw [hkeyed]; decide), if_neg (by rw [hnew]; decide)]

end Sci

/-- Settles O50: each message by how it is judged, the switch by `rekeyAck_last`. -/
theorem portKeysChange : Obligations.PortKeysChange := by
  unfold Obligations.PortKeysChange
  refine ⟨fun s n t c hs h hawake => done_eq (quoteReq_closed hawake _ _ h) hs,
    fun s n t c hopen hawake => congrArg done (quoteReq_open hawake _ _ hopen),
    fun s n m k hawake hopen howned hport hdir hsig hkeys =>
      congrArg done (rekeyIn_accepted hawake hopen howned hport hdir hsig hkeys),
    fun s n m hawake hopen howned h => congrArg done (rekeyIn_malformed hawake hopen howned h),
    fun s n p k a w hs hopen hkeys hnext hlast han => ?answered, fun s p hs h => done_eq (startRekey_waits h) hs,
    fun s p k hkeys hnext => ?offered, fun s n c p hawake hopen hhost hkeys hnew => ?sci⟩
  case answered =>
    obtain ⟨u, hu, hack⟩ := rekeyAck_last hopen hkeys hnext hlast
    have hval : (Fin.ofNat 256 a.an).val = a.an := Nat.mod_eq_of_lt han
    have hexec : s.rekeyAck n p (Fin.ofNat 256 a.an).val = _ := (congrArg (s.rekeyAck n p) hval).trans hack
    have hv := (event_vitals (u.setEth p { s.eth p with keys := some { k with tx := a, txNext := none, pn := 1 } }) pgSec 2).trans hu
    refine ⟨_, done_eq_of_vitals hs hexec hv, ?_, event_reg_bit _ _ _ (by decide), sameMemory_of_vitals hv⟩
    rw [event_eth, setEth_eth, if_pos rfl]
  case offered =>
    intro a
    exact congrArg done (startRekey_offers hkeys hnext)
  case sci =>
    have hadd := sciAdd_new hawake hopen hhost p.isLt hkeys hnew
    refine ⟨fun hfull => congrArg done (hadd.trans (if_pos hfull)), fun hroom hs => ?_⟩
    exact done_eq_of_vitals hs (hadd.trans (if_neg (Nat.not_le.2 hroom))) (setEth_vitals ..)

end Sys2Proof.Machine
end
section
/-! SUPPORT. The ATTEST exchange (R330, R336 to R338): how each message is judged, and the keys of a session that opens; and O49. -/

namespace Sys2Proof.Machine

open Sys2Proof

/-! Exchanges. -/

theorem exchange_src {s : State} {a : Nat} {x : Exchange} (h : s.exchange a = some x) : x.src = a := by
  rw [State.exchange] at h
  exact beq_iff_eq.1 (List.find?_some (p := fun y : Exchange => y.src == a) h)

theorem exchangeAt_src (s : State) (a p : Nat) : (s.exchangeAt a p).src = a := by
  rw [State.exchangeAt]
  split
  · rename_i x hx
    show x.src = a
    exact exchange_src hx
  · rfl

theorem putExchange_exchange (s : State) (x : Exchange) : (s.putExchange x).exchange x.src = some x := by
  have hgone : (s.net.exchanges.filter fun y => y.src != x.src).find? (fun y => y.src == x.src) = none := by
    rw [List.find?_filter, List.find?_eq_none]
    intro y _
    simp
  simp only [State.exchange, State.putExchange, State.dropExchange, List.find?_append, hgone, Option.none_or, List.find?_cons,
    beq_self_eq_true]

@[simp] theorem putExchange_vitals (s : State) (x : Exchange) : (s.putExchange x).vitals = s.vitals := (rfl)

/-! HELLO. -/

theorem event_netUp (s : State) (p b : Nat) : (s.event p b).netUp = s.netUp := by
  rw [State.netUp, State.netUp, event_pins, event_pwr, event_sec]

theorem startTrans_netUp (s : State) (t : PState) (byTrip byHost : Bool) : (s.startTrans t byTrip byHost).netUp = s.netUp := by
  have hissue : ∀ u : State, u.issueSwitch.netUp = u.netUp := by
    intro u
    rw [State.issueSwitch]
    split <;> rfl
  simp only [State.startTrans, hissue]
  cases s.pwr.state == .standby <;> rfl

theorem wake_netUp (s : State) : s.wake.netUp = s.netUp := by
  rw [State.wake]
  split
  · split
    · rfl
    · rw [startTrans_netUp, event_netUp]
  · rfl
  · split <;> rfl
  · rfl

theorem attestWake_netUp (s : State) : s.attestWake.netUp = s.netUp := by
  rw [State.attestWake]
  split
  · exact wake_netUp s
  · rfl

theorem hello_offline {s : State} (h : s.netUp = false) (p a : Nat) (m : HelloMsg) : s.hello p a m = s := by
  simp only [State.hello]
  rw [if_pos (by rw [attestWake_netUp, h]; rfl)]

/-- The secure channels that a HELLO names. -/
def HelloMsg.channels (m : HelloMsg) : List (Nat × Nat) := m.scis.map fun x => (x.1.toNat, x.2.val)

/-- The form that Table 15-3 gives a HELLO. -/
def HelloMsg.malformed (m : HelloMsg) : Prop :=
  1 < m.role.val ∨ m.channels.length < 1 ∨ 4 < m.channels.length ∨ (m.channels.any fun x => decide (4 ≤ x.2)) = true

theorem malformed_of {m : HelloMsg} (h : 1 < m.role.val ∨ m.scis = [] ∨ 4 < m.scis.length ∨ ∃ x ∈ m.scis, 4 ≤ x.2.val) : m.malformed := by
  rw [HelloMsg.malformed, HelloMsg.channels, List.length_map]
  rcases h with h | h | h | ⟨x, hx, hp⟩
  · exact .inl h
  · exact .inr (.inl (by rw [h]; decide))
  · exact .inr (.inr (.inl h))
  · exact .inr (.inr (.inr (List.any_eq_true.2 ⟨_, List.mem_map_of_mem hx, decide_eq_true hp⟩)))

/-- What a host's HELLO sets aside: its exchange, under a session number, answered with a fresh quote and an exchange key. -/
def State.helloExchange (s : State) (p a n : Nat) (m : HelloMsg) : Exchange :=
  { s.exchangeAt a p with
    initiator := false, peer := false, group := 0, member := 0, session := n, reopen := (s.sess n).state == 3
    nonceH := m.nonce.toNat, nonceD := Config.freeNat s.free, scis := m.channels, transcript := m.body
    quote := s.quoteBody m.nonce.toNat (Config.freeNat s.free) (Config.kemKey (s.free + 1)), peerOwner := none, stage := 2
    kem := s.free + 1 }

/-- The state in which a host's HELLO is answered: its exchange kept, its session number in establishment. -/
def State.helloSetAside (s : State) (p a n : Nat) (m : HelloMsg) : State :=
  ({ (s.putExchange (s.exchangeAt a p)).putExchange (s.helloExchange p a n m) with
    free := s.free + 2, sec := { s.sec with nonceD := Config.freeNat s.free } } : State).setSess n
      { Session.init with state := 1, port := p, peer := false, group := 0, member := 0 }

theorem helloSetAside_exchange (s : State) (p a n : Nat) (m : HelloMsg) :
    (s.helloSetAside p a n m).exchange a = some (s.helloExchange p a n m) := by
  have hput := putExchange_exchange (s.putExchange (s.exchangeAt a p)) (s.helloExchange p a n m)
  rwa [show (s.helloExchange p a n m).src = a from exchangeAt_src s a p] at hput

theorem helloSetAside_sess (s : State) (p a n : Nat) (m : HelloMsg) :
    (s.helloSetAside p a n m).sess n = { Session.init with state := 1, port := p, peer := false, group := 0, member := 0 } := by
  rw [State.helloSetAside, setSess_sess_same]

theorem withNonce_vitals (s : State) (n : Nat) (c : Sec) : ({ s with free := n, sec := c } : State).vitals = s.vitals := (rfl)

theorem helloSetAside_vitals (s : State) (p a n : Nat) (m : HelloMsg) : (s.helloSetAside p a n m).vitals = s.vitals := by
  rw [State.helloSetAside, setSess_vitals, withNonce_vitals, putExchange_vitals, putExchange_vitals]

section Hello
variable {s : State} {p a : Nat} {m : HelloMsg} (hawake : s.pwr.state ≠ .standby) (hup : s.netUp = true)
include hawake hup

theorem hello_unprotected (hkeys : (s.eth p).keys ≠ none) (hver : m.verified = false) : s.hello p a m = s.macsecDrop p := by
  simp only [State.hello, attestWake_of_awake hawake]
  rw [if_neg (by rw [hup]; decide), if_pos (by rw [hver, Option.isSome_iff_ne_none.2 hkeys]; rfl)]

variable (hkeys : (s.eth p).keys = none)
include hkeys

theorem hello_malformed (hbad : m.malformed) : s.hello p a m = (s.putExchange (s.exchangeAt a p)).failExchange a 9 := by
  simp only [State.hello, attestWake_of_awake hawake]
  rw [if_neg (by rw [hup]; decide), if_neg (by rw [hkeys]; simp)]
  exact if_pos hbad

theorem hello_host {n : Nat} (hform : ¬ m.malformed) (hrole : m.role.val = 0) (hnum : s.hostNumber m.sessionReq.val = some n)
    (hnew : (s.sess n).state ≠ 3) (hroom : s.scFull n m.channels = false) :
    s.hello p a m =
      (s.helloSetAside p a n m).attest (linkOf a) 4 (s.exchangeAt a p).link.tag 2 (s.helloExchange p a n m).quote := by
  have hhost : (m.role.val == 1) = false := by rw [hrole]; rfl
  have hnot3 : ((s.sess n).state == 3) = false := beq_eq_false_iff_ne.2 hnew
  rw [State.helloSetAside]
  simp only [State.hello, attestWake_of_awake hawake]
  rw [if_neg (by rw [hup]; decide), if_neg (by rw [hkeys]; simp)]
  refine (if_neg hform).trans ?_
  simp only [hhost, Bool.false_eq_true, if_false, Bool.false_and, hnum]
  rw [if_neg (by rw [← HelloMsg.channels, hroom]; decide)]
  simp only [hnot3, Bool.false_eq_true, if_false, State.helloExchange, HelloMsg.channels]

end Hello

/-! QUOTE and certificates. -/

theorem quoteIn_turn {x : Exchange} (hpeer : x.peer = true) (hstage : if x.initiator then x.stage = 1 else x.stage = 2) :
    ¬ ((!x.peer) = true ∨ (if x.initiator then x.stage ≠ 1 else x.stage ≠ 2)) := by
  rw [hpeer]
  cases hi : x.initiator <;> simpa [hi] using hstage

section Quote
variable {s : State} {a : Nat} {x : Exchange} {m : QuoteMsg} (hx : s.exchange a = some x) (hpeer : x.peer = true)
  (hstage : if x.initiator then x.stage = 1 else x.stage = 2)
include hx hpeer hstage

theorem quoteIn_forged (h : m.genuine = false) : s.quoteIn a m = s.failExchange a 1 := by
  simp only [State.quoteIn, hx]
  rw [if_neg (quoteIn_turn hpeer hstage), if_pos (by rw [h]; rfl)]

variable (hsig : m.genuine = true)
include hsig

theorem quoteIn_foreign (h : m.ownerHash.toNat ≠ s.ownerHash) : s.quoteIn a m = s.failExchange a 8 := by
  simp only [State.quoteIn, hx]
  rw [if_neg (quoteIn_turn hpeer hstage), if_neg (by rw [hsig]; decide), if_pos h]

theorem quoteIn_answering (h : m.ownerHash.toNat = s.ownerHash) (hanswers : x.initiator = false) :
    s.quoteIn a m = s.putExchange { x with transcript := x.transcript ++ m.body, peerOwner := some m.ownerHash.toNat } := by
  simp only [State.quoteIn, hx]
  rw [if_neg (quoteIn_turn hpeer hstage), if_neg (by rw [hsig]; decide), if_neg (not_not.2 h), if_neg (by rw [hanswers]; decide)]

end Quote

/-! KEM_AUTH and FINISH. -/

/-- Keys put on ports one after another. -/
theorem forEach_setKeys (l : List (Nat × PortKeys)) {p : Nat} (hp : p ∈ l.map (·.1)) (s : State) :
    ((forEach l (fun y s => s.setEth y.1 { s.eth y.1 with keys := some y.2 }) s).eth p).keys ≠ none := by
  obtain ⟨y, hy, rfl⟩ := List.mem_map.1 hp
  refine forEach_establishes (fun t => (t.eth y.1).keys ≠ none) hy (fun t => ?_) (fun z t ht => ?_) s
  · rw [setEth_eth, if_pos rfl]
    exact Option.some_ne_none _
  · rw [setEth_eth]
    split
    · exact Option.some_ne_none _
    · exact ht

theorem kemAuth_turn {x : Exchange} (hanswers : x.initiator = false) (hstage : x.stage = 2) :
    ¬ (x.initiator = true ∨ x.stage ≠ 2) := by
  rw [hanswers, hstage]
  decide

section Kem
variable {s : State} {a : Nat} {x : Exchange} {m : KemAuthMsg} (hx : s.exchange a = some x) (hanswers : x.initiator = false)
  (hstage : x.stage = 2)
include hx hanswers hstage

theorem kemAuth_fails (h : s.kemFault x m ≠ 0) : s.kemAuth a m = s.failExchange a (s.kemFault x m) := by
  simp only [State.kemAuth, hx]
  rw [if_neg (kemAuth_turn hanswers hstage), if_pos h]

/-- A KEM_AUTH that nothing is wrong with puts keys on the ports of its exchange and opens the session. -/
theorem kemAuth_opens (h : s.kemFault x m = 0) (hroom : s.scFull x.session x.scis = false) :
    ∃ (u : State) (l : Session), l.state = 2 ∧ l.peer = x.peer ∧ l.unowned = (!x.peer && !s.owned) ∧ l.port = x.link.port ∧
      l.wrap = (sessionKeys (Config.kemSecret x.kem (m.body.take 1088)) (x.transcript ++ x.quote ++ m.body.take 1088)).1 ∧
      (∀ c ∈ x.scis, (u.eth c.2).keys ≠ none) ∧ s.kemAuth a m = (u.openSession x.session l x.scis).endExchange a := by
  simp only [State.kemAuth, hx]
  rw [if_neg (kemAuth_turn hanswers hstage), if_neg (not_not.2 h), if_neg (by rw [hroom]; decide)]
  refine ⟨_, _, ?_, ?_, ?_, ?_, ?_, fun c hc => forEach_setKeys _ ?_ _, rfl⟩
  case refine_6 =>
    rw [List.map_map]
    refine List.mem_map.2 ⟨c.2, List.mem_eraseDups.2 (List.mem_map_of_mem hc), rfl⟩
  all_goals rfl

end Kem

/-- The SAKs that a FINISH brings for ports without keys. -/
def takeSak (y : Fin 256 × Fin 256 × Nat × Nat) (s : State) : State :=
  let e := s.eth y.1.val
  let an := y.2.1.val % 4
  if e.keys.isSome then s else s.setEth y.1.val { e with keys := some ⟨⟨an, y.2.2.2⟩, ⟨an, y.2.2.1⟩, none, none, 1⟩ }

theorem takeSak_keyed (y : Fin 256 × Fin 256 × Nat × Nat) (s : State) : ((takeSak y s).eth y.1).keys ≠ none := by
  simp only [takeSak]
  split
  · exact Option.isSome_iff_ne_none.1 ‹_›
  · rw [setEth_eth, if_pos rfl]
    exact Option.some_ne_none _

theorem takeSak_keeps {p : Nat} {s : State} (h : (s.eth p).keys ≠ none) (y : Fin 256 × Fin 256 × Nat × Nat) :
    ((takeSak y s).eth p).keys ≠ none := by
  simp only [takeSak]
  split
  · exact h
  · rw [setEth_eth]
    split
    · exact Option.some_ne_none _
    · exact h

theorem finish_turn {x : Exchange} (hinit : x.initiator = true) (hstage : x.stage = 3) :
    ¬ ((!x.initiator) = true ∨ x.stage ≠ 3) := by
  rw [hinit, hstage]
  decide

section Finish
variable {s : State} {a : Nat} {x : Exchange} {m : FinishMsg} (hx : s.exchange a = some x) (hinit : x.initiator = true)
  (hstage : x.stage = 3)
include hx hinit hstage

theorem finish_forged (h : m.genuine = false) : s.finish a m = s.failExchange a 1 := by
  simp only [State.finish, hx]
  rw [if_neg (finish_turn hinit hstage), if_pos (by rw [h]; rfl)]

/-- A genuine FINISH with the number of a peer session opens it under the derived wrap key. -/
theorem finish_opens (hsig : m.genuine = true) (hlo : 16 ≤ m.session.val) (hhi : m.session.val < 32) (hports : ∀ y ∈ m.saks, y.1.val < 4) :
    ∃ (u : State) (l : Session), l.state = 2 ∧ l.peer = true ∧ l.group = x.group ∧ l.member = x.member ∧
      l.wrap = (sessionKeys (Config.kemShared x.kem) x.transcript).1 ∧ (∀ y ∈ m.saks, (u.eth y.1).keys ≠ none) ∧
      s.finish a m = (u.openSession m.session l (m.saks.map fun y => (a, y.1.val))).endExchange a := by
  have hform : ¬ (m.session.val < 16 ∨ 32 ≤ m.session.val ∨ (m.saks.any fun y => decide (4 ≤ y.1.val)) = true) := by
    rintro (h | h | h)
    · omega
    · omega
    · obtain ⟨y, hy, hp⟩ := List.any_eq_true.1 h
      exact Nat.not_le.2 (hports y hy) (of_decide_eq_true hp)
  simp only [State.finish, hx]
  rw [if_neg (finish_turn hinit hstage), if_neg (by rw [hsig]; decide), if_neg hform]
  refine ⟨forEach m.saks takeSak s, _, ?_, ?_, ?_, ?_, ?_, fun y hy => ?_, rfl⟩
  case refine_6 =>
    exact forEach_establishes (fun t => (t.eth y.1).keys ≠ none) hy (takeSak_keyed y) (fun z t ht => takeSak_keeps ht z) s
  all_goals rfl

end Finish

/-- Settles O49: each message by the lemma of the way in which it is judged. -/
theorem sessionsEstablished : Obligations.SessionsEstablished := by
  unfold Obligations.SessionsEstablished
  refine ⟨fun s p a m hs h => done_eq (hello_offline h _ _ _) hs,
    fun s p a m hs hawake hup hkeys hver => done_eq_of_vitals hs (hello_unprotected hawake hup hkeys hver) (fail_vitals ..),
    fun s p a m hawake hup hkeys h => congrArg done (hello_malformed hawake hup hkeys (malformed_of h)),
    fun s p a n m c hawake hup hkeys hrole hscis hport hnum hnew hroom => ?host,
    fun s a x m hx hpeer hstage => ⟨fun h => congrArg done (quoteIn_forged hx hpeer hstage h),
      fun hsig h => congrArg done (quoteIn_foreign hx hpeer hstage hsig h),
      fun hsig h hanswers hs => done_eq_of_vitals hs (quoteIn_answering hx hpeer hstage hsig h hanswers) rfl⟩,
    fun s d hs h => done_eq (if_neg h) hs, fun s d h => congrArg done (if_pos h),
    fun s a x m hx hanswers hstage h => congrArg done (kemAuth_fails hx hanswers hstage h), fun s x m hhost => ?fault,
    fun s a x m hx hanswers hstage h hroom => ?kem,
    fun s a x m hx hinit hstage h => congrArg done (finish_forged hx hinit hstage h),
    fun s a x m hx hinit hstage hsig hlo hhi hports => ?finish⟩
  case host =>
    have hchan : m.channels = [(c.1.toNat, c.2.val)] := by rw [HelloMsg.channels, hscis]; rfl
    have hform : ¬ m.malformed := by
      rw [HelloMsg.malformed, hchan, hrole]
      simp only [List.length_singleton, List.any_cons, List.any_nil, Bool.or_false, decide_eq_true_eq]
      omega
    have hhello := hello_host hawake hup hkeys hform hrole hnum hnew (by rw [hchan]; exact hroom) (a := a)
    exact ⟨s.helloSetAside p a n m, s.helloExchange p a n m, helloSetAside_exchange .., rfl, rfl, rfl, rfl, hchan, rfl,
      by rw [helloSetAside_sess], by rw [helloSetAside_sess], sameMemory_of_vitals (helloSetAside_vitals ..), congrArg done hhello⟩
  case fault =>
    rw [State.kemFault, if_neg (by rw [hhost]; decide)]
  case kem =>
    obtain ⟨u, l, hstate, hpeer, howned, hport, hwrap, hkeys, hk⟩ := kemAuth_opens hx hanswers hstage h hroom
    exact ⟨u, l, hstate, hpeer, howned, hport, hwrap, hkeys, congrArg done hk⟩
  case finish =>
    obtain ⟨u, l, hstate, hpeer, hgroup, hmember, hwrap, hkeys, hf⟩ := finish_opens hx hinit hstage hsig hlo hhi hports
    exact ⟨u, l, hstate, hpeer, hgroup, hmember, hwrap, hkeys, congrArg done hf⟩

end Sys2Proof.Machine
end
section
/-! SUPPORT. NET beside its sessions (R306 to R310, R327): stream reservations, the links of the ports, administration and time; and O47. -/

namespace Sys2Proof.Machine

open Sys2Proof

@[simp] theorem setReserved_vitals (s : State) (n v : Nat) : (s.setReserved n v).vitals = s.vitals := (rfl)
@[simp] theorem macsecDrop_vitals (s : State) (p : Nat) : (s.macsecDrop p).vitals = s.vitals := by rw [State.macsecDrop, fail_vitals, bump_vitals]

/-! Reservations. -/

theorem streamReserve_off {w : Word} (h : bitAt w 0 = false) (s : State) (n : Nat) :
    s.streamReserve n w = ((s.setReg 0x701 (entryReg n 0) (w &&& 0x7FFFE)).setReserved n 0).setRfld 0x701 (entryReg n 0x1C) 1 1 0 :=
  if_neg (by rw [h]; decide)

theorem streamReserve_on {w : Word} (h : bitAt w 0 = true) (s : State) (n : Nat) :
    let u := (s.setReg 0x701 (entryReg n 0) (w &&& 0x7FFFE)).setReserved n 0
    s.streamReserve n w =
      if s.portRate (fld w 1 2) < ((u.entriesOn (fld w 1 2)).map fun k => u.reserved k).sum + s.reservation n w then
        (u.setRfld 0x701 (entryReg n 0x1C) 1 1 1).fail pgNet 1 (1 + 256 * n + 65536 * fld w 1 2) 0
      else ((u.setReg 0x701 (entryReg n 0) ((w &&& 0x7FFFE) ||| 1)).setReserved n (s.reservation n w)).setRfld 0x701
        (entryReg n 0x1C) 1 1 0 :=
  if_pos h

/-! Links. -/

theorem linkLost_unlinked {s : State} {p : Nat} (h : (s.eth p).link = false) : s.linkLost p = s := if_neg (by rw [h]; decide)

/-- A link that goes down where no session is open is a fault. -/
theorem linkLost_alone {s : State} {p : Nat} (h : (s.eth p).link = true) (hnone : s.openOn p = []) :
    s.linkLost p = ((s.setEth p { s.eth p with link := false, gptpSlave := false }).event pgNet 0).fault 0x15 p 0 := by
  simp only [State.linkLost, hnone, if_pos h]
  rfl

theorem linkLost_link (s : State) (p : Nat) : ((s.linkLost p).eth p).link = false := by
  cases h : (s.eth p).link
  · rw [linkLost_unlinked h, h]
  · simp only [State.linkLost, if_pos h]
    split <;> simp

theorem linkLost_reg (s : State) (p : Nat) {o : Nat} (h : 0x30 ≤ o) (ho : o < 4096) : (s.linkLost p).reg pgNet o = s.reg pgNet o := by
  have hevent : ∀ u : State, (u.event pgNet 0).reg pgNet o = u.reg pgNet o :=
    fun u => event_reg_ne _ _ (radr_ne (by omega) ho (by decide))
  have hfault : ∀ (u : State) c k j, (u.fault c k j).reg pgNet o = u.reg pgNet o := fun u c k j => fault_reg_ne _ _ _ _ (by decide) ho
  cases hl : (s.eth p).link
  · rw [linkLost_unlinked hl]
  · simp only [State.linkLost, if_pos hl]
    split <;> simp only [hfault, hevent, setEth_reg]

/-- Entries of the stream table lie outside NET's own page. -/
theorem dropEntries_reg (s : State) (p : Nat) {o : Nat} (ho : o < 4096) : (s.dropEntries p).reg pgNet o = s.reg pgNet o := by
  have hpage : ∀ k, radr pgNet o ≠ radr 0x701 k := by
    intro k
    unfold radr pgNet
    omega
  exact forEach_keeps (·.reg pgNet o) _ (fun n u => (u.setRfld 0x701 (entryReg n 0) 0 1 0).setReserved n 0)
    (fun n u => setRfld_reg_ne u 0 1 0 (hpage (entryReg n 0))) s

theorem linkChange_up {s : State} {p v : Nat} (hdown : (s.eth p).link = false) (hcfg : s.rfld pgNet (portReg p) 0 3 ≠ 0) (hlo : v ≠ 0)
    (hhi : v ≤ 4) (hsame : (s.eth p).speed = v) (m : Bool) :
    s.linkChange p true v m = (s.setEth p { s.eth p with link := true, speed := v, master := m }).event pgNet 0 := by
  have hmay : ¬ (s.rfld pgNet (portReg p) 0 3 = 0 ∨ v = 0 ∨ 4 < v ∨ (s.eth p).link = true) := by
    rw [hdown]
    rintro (h | h | h | h)
    · exact hcfg h
    · exact hlo h
    · omega
    · exact absurd h (by decide)
  simp only [State.linkChange, Bool.not_true, Bool.false_eq_true, if_false, if_neg hmay, if_pos (Or.inl hsame)]

theorem portCfg_sameSpeed {s : State} {p : Nat} {w : Word} (h : fld w 0 3 = s.rfld pgNet (portReg p) 0 3) :
    s.portCfg p w = s.setReg pgNet (portReg p) (w &&& 0xFF) := if_pos h

/-- A port whose link a change of SPEED took down. -/
def State.relinked (s : State) (p : Nat) (w : Word) : State := ((s.setReg pgNet (portReg p) (w &&& 0xFF)).dropEntries p).linkLost p

theorem portCfg_newSpeed {s : State} {p : Nat} {w : Word} (h : fld w 0 3 ≠ s.rfld pgNet (portReg p) 0 3) :
    s.portCfg p w = (s.relinked p w).setEth p { (s.relinked p w).eth p with speed := 0 } := if_neg h

theorem relinked_reg (s : State) {p : Nat} (hp : p < 4) (w : Word) : (s.relinked p w).reg pgNet (portReg p) = w &&& 0xFF := by
  have hport : 0x200 ≤ portReg p ∧ portReg p < 0x300 := by unfold portReg; omega
  rw [State.relinked, linkLost_reg _ _ (by omega) (by omega), dropEntries_reg _ _ (by omega), setReg_reg_same]

/-! Administration and time. -/

theorem sends_unprotected {s : State} {p : Nat} (hup : s.netUp = true) (hlink : (s.eth p).link = true) (hkeys : (s.eth p).keys = none) :
    s.sends p = true := by
  simp only [State.sends, State.pnSpent, hup, hlink, hkeys]
  rfl

section Frames
variable {s : State} {p : Nat} (hup : s.netUp = true) (hlink : (s.eth p).link = true)
include hup hlink

theorem on_port : ¬ (!s.netUp || !(s.eth p).link) = true := by
  rw [hup, hlink]
  decide

theorem adminFrame_arp (hkeys : (s.eth p).keys = none) (hv4 : bitAt (s.reg pgNet 8) 0 = true) (haddr : s.reg pgNet (portReg p + 0x10) ≠ 0)
    (v : Bool) : s.adminFrame p .arp v = { s with out := s.out ++ [.admin p 0] } := by
  have hcfg : (bitAt (s.reg pgNet 8) 0 && s.reg pgNet (portReg p + 0x10) != 0) = true := by rw [hv4, bne_iff_ne.2 haddr]; rfl
  simp only [State.adminFrame, if_neg (on_port hup hlink)]
  rw [if_neg (by rw [hkeys]; simp), if_pos hcfg, State.onPort, if_pos (sends_unprotected hup hlink hkeys), State.countPn, hkeys]
  rfl

theorem adminFrame_echo (hkeys : (s.eth p).keys = none) (v : Bool) : s.adminFrame p .icmpEcho v = s.macsecDrop p := by
  simp only [State.adminFrame, if_neg (on_port hup hlink)]
  rw [if_neg (by rw [hkeys]; simp), if_pos (by rw [hkeys]; rfl)]

theorem gptp_unverified {v : Bool} (h : (s.eth p).keys = none ∨ v = false) (m : GptpMsg) : s.gptp p m v = s.macsecDrop p := by
  have hbad : ((s.eth p).keys.isNone || !v) = true := by
    rcases h with h | h <;> simp [h]
  rw [State.gptp, if_neg (on_port hup hlink), if_pos hbad]

end Frames

/-- The slave port of a gPTP message is the one that it names. -/
def State.slavePort (s : State) (p : Nat) (m : GptpMsg) : State :=
  forEach (List.range 4)
    (fun q s => s.setEth q { s.eth q with gptpSlave := if q = p then m.slave else (s.eth q).gptpSlave && !m.slave }) s

theorem slavePort_vitals (s : State) (p : Nat) (m : GptpMsg) : (s.slavePort p m).vitals = s.vitals :=
  forEach_keeps State.vitals _ _ (fun _ _ => setEth_vitals ..) s

theorem slavePort_clk (s : State) (p : Nat) (m : GptpMsg) : (s.slavePort p m).clk = s.clk :=
  forEach_keeps (·.clk) _ _ (fun _ _ => setEth_clk ..) s

/-- What the clock follows, as a gPTP message says. -/
def State.follows (s : State) (m : GptpMsg) : State := { s with net := { s.net with locked := m.synced, grandmaster := m.grandmaster } }

theorem follows_vitals (s : State) (m : GptpMsg) : (s.follows m).vitals = s.vitals := (rfl)
theorem moveClock_vitals (s : State) (d : Int) : (s.moveClock d).vitals = s.vitals := (rfl)

theorem gptp_slews {s : State} {p : Nat} {m : GptpMsg} (hup : s.netUp = true) (hlink : (s.eth p).link = true)
    (hkeys : (s.eth p).keys ≠ none) (hsmall : m.offset.natAbs ≤ 1000) : s.gptp p m true = ((s.slavePort p m).follows m).moveClock m.offset := by
  have hgood : ¬ ((s.eth p).keys.isNone || !true) = true := by
    rw [Option.isNone_eq_false_iff.2 (Option.isSome_iff_ne_none.2 hkeys)]
    decide
  simp only [State.gptp, if_neg (on_port hup hlink), if_neg hgood, if_neg (Nat.not_lt.2 hsmall)]
  rfl

/-- Settles O47: each command by the lemma of its case. -/
theorem portsAndReservations : Obligations.PortsAndReservations := by
  unfold Obligations.PortsAndReservations
  refine ⟨fun s n w hs h => done_eq_of_vitals hs (streamReserve_off h s n) ?off, fun s n w hs h => ?on,
    fun s p v m hs h => done_eq (linkLost_unlinked h) hs,
    fun s p v m hs h hnone => done_eq_of_vitals hs (linkLost_alone h hnone) ?lost,
    fun s p v m hs hdown hcfg hlo hhi hsame => done_eq_of_vitals hs (linkChange_up hdown hcfg hlo hhi hsame m) ?up,
    fun s p w hs h => done_eq_of_vitals hs (portCfg_sameSpeed h) (setReg_vitals ..), fun s p w h => ?speed,
    fun s p v hs hup hlink hkeys hv4 haddr => ⟨done_eq_of_vitals hs (adminFrame_arp hup hlink hkeys hv4 haddr v) (emit_vitals ..),
      done_eq_of_vitals hs (adminFrame_echo hup hlink hkeys v) (macsecDrop_vitals ..)⟩,
    fun s p m v hs hup hlink h => done_eq_of_vitals hs (gptp_unverified hup hlink h m) (macsecDrop_vitals ..),
    fun s p m hs hup hlink hkeys hsmall => ?time⟩
  case off => rw [setRfld_vitals, setReserved_vitals, setReg_vitals]
  case on =>
    intro u sum
    refine done_eq_of_vitals hs (streamReserve_on h s n) ?_
    have hu : u.vitals = s.vitals := by rw [setReserved_vitals, setReg_vitals]
    split
    · rw [fail_vitals, setRfld_vitals, hu]
    · rw [setRfld_vitals, setReserved_vitals, setReg_vitals, hu]
  case lost => rw [fault_vitals, event_vitals, setEth_vitals]
  case up => rw [event_vitals, setEth_vitals]
  case speed =>
    refine ⟨_, congrArg done (portCfg_newSpeed h), ?_, ?_, ?_⟩
    · rw [setEth_eth, if_pos rfl]
      exact linkLost_link ..
    · rw [setEth_eth, if_pos rfl]
    · rw [setEth_reg, relinked_reg s p.isLt w]
  case time =>
    have hv : (((s.slavePort p m).follows m).moveClock m.offset).vitals = s.vitals :=
      (moveClock_vitals ..).trans ((follows_vitals ..).trans (slavePort_vitals ..))
    refine ⟨_, done_eq_of_vitals hs (gptp_slews hup hlink hkeys hsmall) hv, ?_, rfl, rfl, sameMemory_of_vitals hv⟩
    rw [State.moveClock, State.follows, slavePort_clk]

end Sys2Proof.Machine
end
section
/-! SUPPORT. What a link sends, acknowledges and loses (R314 to R322, R325): the sessions, wires and memory after each; and O45. -/

namespace Sys2Proof.Machine

open Sys2Proof

/-! Links of sessions. -/

theorem link_sess (s : State) {n : Nat} (h : n < 32) : s.link n = s.sess n := if_pos h

theorem setLink_sess (s : State) {n : Nat} (h : n < 32) (l : Session) : s.setLink n l = s.setSess n l := if_pos h

/-! Sending. -/

theorem sends_congr {s t : State} {p : Nat} (hup : t.netUp = s.netUp) (heth : t.eth p = s.eth p)
    (hreg : t.reg pgNet (portReg p) = s.reg pgNet (portReg p)) : t.sends p = s.sends p := by
  have hlimit : t.pnLimit p = s.pnLimit p := by rw [State.pnLimit, State.pnLimit, State.rfld, State.rfld, hreg]
  have hspent : t.pnSpent p = s.pnSpent p := by rw [State.pnSpent, State.pnSpent, heth, hlimit]
  rw [State.sends, State.sends, hup, heth, hspent]

theorem countPn_keeps {β : Type} (v : State → β) (heth : ∀ (s : State) p e, v (s.setEth p e) = v s) (s : State) (p : Nat) :
    v (s.countPn p) = v s := by
  simp only [State.countPn]
  split
  · exact heth ..
  · rfl

section Wire
variable {s : State} {n : Nat} (hn : n < 32) (f : KFrame)
include hn

/-- A frame of a session that may send. -/
theorem wireFrame_sent (h : s.sends (s.sess n).port = true) :
    s.wireFrame n f = ((s.setSess n { s.sess n with ackOwed := false }).countPn (s.sess n).port).emit
      (.kweal (s.sess n).port n s.clk.ptp { f with ack := (s.sess n).rxNext, window := 64 - (s.sess n).heldRx.length }) := by
  simp only [State.wireFrame, link_sess s hn, setLink_sess s hn, if_pos h]

theorem wireFrame_silent (h : ¬ s.sends (s.sess n).port = true) : s.wireFrame n f = s := by
  simp only [State.wireFrame, link_sess s hn, if_neg h]

theorem wireFrame_sent_sess (h : s.sends (s.sess n).port = true) : (s.wireFrame n f).sess n = { s.sess n with ackOwed := false } := by
  rw [wireFrame_sent hn f h, emit_sess]
  exact (countPn_keeps (·.sess n) (fun u p e => setEth_sess u p e n) ..).trans (setSess_sess_same ..)

theorem wireFrame_sent_out (h : s.sends (s.sess n).port = true) :
    (s.wireFrame n f).out = s.out ++ [.kweal (s.sess n).port n s.clk.ptp
      { f with ack := (s.sess n).rxNext, window := 64 - (s.sess n).heldRx.length }] := by
  rw [wireFrame_sent hn f h, State.emit]
  exact congrArg (· ++ _) (countPn_keeps (·.out) (fun _ _ _ => rfl) ..)

theorem wireFrame_vitals : (s.wireFrame n f).vitals = s.vitals := by
  by_cases h : s.sends (s.sess n).port = true
  · rw [wireFrame_sent hn f h, emit_vitals]
    exact (countPn_keeps State.vitals setEth_vitals ..).trans (setSess_vitals ..)
  · rw [wireFrame_silent hn f h]

/-- A frame sent leaves all of its session but the acknowledgement owed. -/
theorem wireFrame_sess_keeps {β : Type} (v : Session → β) (hv : ∀ l : Session, v { l with ackOwed := false } = v l) :
    v ((s.wireFrame n f).sess n) = v (s.sess n) := by
  by_cases h : s.sends (s.sess n).port = true
  · rw [wireFrame_sent_sess hn f h, hv]
  · rw [wireFrame_silent hn f h]

theorem sendAck_vitals : (s.sendAck n).vitals = s.vitals := by rw [State.sendAck, drawn_vitals, wireFrame_vitals hn]

end Wire

/-! Acknowledgements and NAKs of the other side. -/

theorem pumpLink_of_none {s : State} {d : Nat} (h : (s.link d).queued = []) : s.pumpLink (s.link d).queued.length d = s := by
  rw [h]
  rfl

/-- Frames whose descriptors need nothing. -/
theorem filterMap_push_nil {l : List Unacked} (h : ∀ u ∈ l, u.push = none) : l.filterMap (·.push) = [] := by
  rw [List.filterMap_eq_nil_iff]
  exact h

theorem ackTo_all {s : State} {n : Nat} (hn : n < 32) (hqueued : (s.sess n).queued = []) (hpush : ∀ u ∈ (s.sess n).unacked, u.push = none)
    (w : Nat) :
    s.ackTo n (s.sess n).txNext w = s.setSess n { s.sess n with
      window := w, unacked := ((s.sess n).unacked.filter fun u => !seqAhead (s.sess n).txNext u.seq).map fun u =>
        if (s.sess n).unacked.all (fun v => !seqAhead (s.sess n).txNext v.seq) then u else { u with resends := 0 } } := by
  have hgone : ((s.sess n).unacked.filter fun u => seqAhead (s.sess n).txNext u.seq).filterMap (·.push) = [] :=
    filterMap_push_nil fun u hu => hpush u (List.mem_filter.1 hu).1
  have hall : ((s.sess n).unacked.filter fun u => seqAhead (s.sess n).txNext u.seq).isEmpty =
      (s.sess n).unacked.all fun v => !seqAhead (s.sess n).txNext v.seq := by
    rw [Bool.eq_iff_iff, List.isEmpty_iff, List.filter_eq_nil_iff, List.all_eq_true]
    simp only [Bool.not_eq_true, Bool.not_eq_true']
  simp only [State.ackTo, link_sess s hn, setLink_sess s hn, decide_true, Bool.true_or, if_true, hgone, forEach_nil]
  rw [pumpLink_of_none (by rw [link_sess _ hn, setSess_sess_same]; exact hqueued), hall]
  cases (s.sess n).unacked.all fun v => !seqAhead (s.sess n).txNext v.seq
  · rfl
  · simp only [if_true, List.map_id']

theorem nakIn_closed {s : State} {d r : Nat} (q : Nat) (h : (s.link d).state ≠ 2 ∨ r = 2) : s.nakIn d q r = s := by
  simp only [State.nakIn]
  split
  · exact if_pos h.symm
  · rfl

theorem nakIn_only {s : State} {n r : Nat} {u : Unacked} (hn : n < 32) (hopen : (s.sess n).state = 2) (hr : r ≠ 2)
    (hun : (s.sess n).unacked = [u]) (hpush : u.push = none) (hqueued : (s.sess n).queued = []) :
    s.nakIn n u.seq r = s.setSess n { s.sess n with unacked := [] } := by
  have hno : ¬ (r = 2 ∨ (s.sess n).state ≠ 2) := by
    rw [hopen]
    exact fun h => h.elim hr fun k => k rfl
  have hfind : [u].find? (fun v => v.seq == u.seq) = some u := by simp
  have hrest : [u].filter (fun v => v.seq != u.seq) = [] := by simp
  simp only [State.nakIn, link_sess s hn, setLink_sess s hn, hun, hfind, hrest, if_neg hno, hpush]
  exact pumpLink_of_none (by rw [link_sess _ hn, setSess_sess_same]; exact hqueued)

/-! Resends. -/

theorem retransmit_idle {s : State} {d : Nat} (h : (s.link d).unacked = [] ∨ (s.link d).state ≠ 2) : s.retransmit d = s := by
  simp only [State.retransmit]
  split
  · rfl
  · rename_i hun
    exact if_pos (h.resolve_left (by rw [hun]; exact List.cons_ne_nil _ _))

/-- The state from which the oldest unacknowledged frame goes out again. -/
def State.resending (s : State) (n : Nat) (u : Unacked) (l : List Unacked) : State :=
  (s.setSess n { s.sess n with unacked := { u with resends := u.resends + 1 } :: l }).bumpSess n 0x10

section Resend
variable {s : State} {n : Nat} {u : Unacked} {l : List Unacked} (hn : n < 32)
include hn

theorem bumpSess_eq (o : Nat) : s.bumpSess n o = s.bump 0x702 (0x20 * n + o) 0 16 1 := if_pos hn

theorem resending_sess : (s.resending n u l).sess n = { s.sess n with unacked := { u with resends := u.resends + 1 } :: l } := by
  rw [State.resending, bumpSess_eq hn, bump_sess, setSess_sess_same]

theorem resending_vitals : (s.resending n u l).vitals = s.vitals := by rw [State.resending, bumpSess_eq hn, bump_vitals, setSess_vitals]

theorem resending_out : (s.resending n u l).out = s.out := by rw [State.resending, bumpSess_eq hn, bump_out, setSess_out]

theorem resending_clk : (s.resending n u l).clk = s.clk := by rw [State.resending, bumpSess_eq hn, bump_clk, setSess_clk]

theorem resending_sends (p : Nat) : (s.resending n u l).sends p = s.sends p := by
  rw [State.resending, bumpSess_eq hn]
  refine sends_congr rfl rfl ((bump_reg_ne _ _ _ _ ?_).trans (setSess_reg ..))
  unfold radr pgNet portReg
  omega

variable (hopen : (s.sess n).state = 2) (hun : (s.sess n).unacked = u :: l)
include hopen hun

theorem retransmit_again (hmore : u.resends < s.maxRetx) :
    s.retransmit n = (s.resending n u l).wireFrame n { u.frame with flags := u.frame.flags ||| 8 } := by
  simp only [State.retransmit, link_sess s hn, hun, setLink_sess s hn]
  rw [if_neg (not_not.2 hopen), if_neg (Nat.not_le.2 hmore), State.resending]

theorem retransmit_spent (hspent : s.maxRetx ≤ u.resends) : s.retransmit n = s.loseSession n := by
  simp only [State.retransmit, link_sess s hn, hun]
  rw [if_neg (not_not.2 hopen), if_pos hspent, if_pos hn]

end Resend

/-! The loss of a session. -/

section Recall
variable {β : Type} (v : State → β) (hnet : ∀ (s : State) l, v (s.withEvents l) = v s)
  (hqueue : ∀ (s : State) q x, v (s.setQueue q x) = v s)
include hnet hqueue

theorem recall_keeps (s : State) (d : Nat) : v (s.recall d) = v s := by
  rw [State.recall]
  exact (forEach_keeps v _ _ (fun p u => hqueue ..) _).trans (hnet ..)

end Recall

/-- A session of which nothing is left to send or to receive. -/
def Session.lost (l : Session) : Session :=
  { l with state := 3, heldRx := [], bulk := [], unacked := [], queued := [], ackOwed := false }

/-- The device once a session is LOST, before that is told. -/
def State.unlinked (s : State) (n : Nat) : State :=
  forEach (List.range 4) (fun p s => s.trySwitch p) ((s.recall n).setSess n (s.sess n).lost).dropKeys

theorem loseSession_eq (s : State) (n : Nat) :
    s.loseSession n = if (s.sess n).peer then (s.unlinked n).fail pgNet 4 (3 + 256 * n + 65536 * (s.sess n).port) 0
      else (s.unlinked n).fail pgNet 3 (2 + 256 * n + 65536 * (s.sess n).port) 0 := rfl

section Lose
variable {β : Type} (v : State → β) (hnet : ∀ (s : State) l, v (s.withEvents l) = v s)
  (hqueue : ∀ (s : State) q x, v (s.setQueue q x) = v s) (hsess : ∀ (s : State) n l, v (s.setSess n l) = v s)
  (heth : ∀ (s : State) p e, v (s.setEth p e) = v s) (hevent : ∀ (s : State) p b, v (s.event p b) = v s)
  (hfail : ∀ (s : State) p b c a, v (s.fail p b c a) = v s)

include heth hevent in
theorem unlinked_keeps_lost (s : State) (n : Nat) : v (s.unlinked n) = v ((s.recall n).setSess n (s.sess n).lost) :=
  rekeyed_keeps v heth hevent _

include hnet hqueue hsess heth hevent hfail in
theorem loseSession_keeps (s : State) (n : Nat) : v (s.loseSession n) = v s := by
  have hlost : v (s.unlinked n) = v s :=
    (unlinked_keeps_lost v heth hevent s n).trans ((hsess ..).trans (recall_keeps v hnet hqueue s n))
  rw [loseSession_eq]
  split <;> rw [hfail, hlost]

end Lose

theorem loseSession_sess (s : State) (n : Nat) : (s.loseSession n).sess n = (s.sess n).lost := by
  have hlost : (s.unlinked n).sess n = (s.sess n).lost :=
    (unlinked_keeps_lost (·.sess n) (fun u p e => setEth_sess u p e n) (fun u p b => event_sess u p b n) s n).trans (setSess_sess_same ..)
  rw [loseSession_eq]
  split <;> rw [fail_sess, hlost]

theorem loseSession_vitals (s : State) (n : Nat) : (s.loseSession n).vitals = s.vitals :=
  loseSession_keeps State.vitals withEvents_vitals setQueue_vitals setSess_vitals setEth_vitals event_vitals fail_vitals s n

/-- SESSION_LOST of a host session, PEER_LOST of a peer session. -/
theorem loseSession_event (s : State) (n : Nat) :
    bitAt ((s.loseSession n).reg pgNet 0x10) (if (s.sess n).peer then 4 else 3) = true := by
  rw [loseSession_eq]
  split <;> exact fail_reg_event _ _ _ _ _ (by decide)

theorem keepaliveExpire_host {s : State} {n : Nat} (hopen : (s.sess n).state = 2) (hhost : (s.sess n).peer = false) :
    s.keepaliveExpire n = s.loseSession n := if_pos ⟨hopen, by rw [hhost]; rfl⟩

theorem peerKeepalive_other {s : State} {n : Nat} (h : (s.sess n).state ≠ 2 ∨ (s.sess n).peer = false) : s.peerKeepalive n = s := by
  refine if_neg fun k => ?_
  rcases h with h | h
  · exact h k.1
  · exact absurd (h.symm.trans k.2) (by decide)

/-! RESYNC. -/

/-- A session that expects the frame after the one that a RESYNC names. -/
def State.resynced (s : State) (n q : Nat) : State := s.setSess n { s.sess n with rxNext := (q + 1) % 2 ^ 32, heldRx := [] }

theorem resync_closed {s : State} {n : Nat} (h : (s.sess n).state ≠ 2) (q t m : Nat) : s.resync n q t m = s :=
  if_pos (by rw [State.isOpen, beq_eq_false_iff_ne.2 h]; rfl)

theorem resync_unowned {s : State} {n : Nat} (hopen : (s.sess n).state = 2) (h : (s.sess n).unowned = true) (q t m : Nat) :
    s.resync n q t m = s.nak n (asked n 9 q t) 3 0 := by
  simp only [State.resync, State.isOpen]
  rw [if_neg (by rw [hopen]; decide), if_pos h]

/-- The answers to a RESYNC in mode 1, sent from the session's new state. -/
theorem resync_answers {s : State} {n : Nat} (hopen : (s.sess n).state = 2) (h : (s.sess n).unowned = false) (q t : Nat) :
    ∃ (l : List Nat) (f : Nat → KFrame), s.resync n q t 1 = forEach l (fun i s => s.wireFrame n (f i)) (s.resynced n q) := by
  simp only [State.resync, State.isOpen]
  rw [if_neg (by rw [hopen]; decide), if_neg (by rw [h]; decide)]
  exact ⟨_, _, rfl⟩

/-- Settles O45: each command by the lemma of its case. -/
theorem acksAndResends : Obligations.AcksAndResends := by
  unfold Obligations.AcksAndResends
  refine ⟨fun s n a w hs h => ?closed, fun s n w hs hopen hqueued hpush htx => ?all, fun s d q r hs h => done_eq (nakIn_closed _ h) hs,
    fun s n r u hs hopen hr hun hpush hqueued hseq => ?nak, fun s d hs h => done_eq (if_neg (by rw [h]; decide)) hs,
    fun s n hs howed hsends => ?owed, fun s d hs h => done_eq (retransmit_idle h) hs,
    fun s n u l hs hopen hun hmore hsends => ?again,
    fun s n u l hopen hun hspent => ⟨_, congrArg done (retransmit_spent n.isLt hopen hun hspent), ?_, ?_⟩,
    fun s n hopen hhost => ⟨_, congrArg done (keepaliveExpire_host hopen hhost), ?_, ?_, ?_, ?_,
      sameMemory_of_vitals (loseSession_vitals ..)⟩,
    fun s n hs h => done_eq (peerKeepalive_other h) hs, fun s n hs hopen hpeer hsends => ?peer,
    fun s n q t m hs h => done_eq (resync_closed h ..) hs,
    fun s n q t m hopen h => congrArg done (resync_unowned hopen h ..), fun s n q t hopen h => ?resync⟩
  case closed => exact done_when_false hs (by rw [link_sess s n.isLt]; exact beq_eq_false_iff_ne.2 h) _
  case all =>
    have htx : (BitVec.ofNat 32 (s.sess n).txNext).toNat = (s.sess n).txNext := Nat.mod_eq_of_lt htx
    refine done_eq_of_vitals hs ?_ (setSess_vitals ..)
    rw [State.when, if_pos (by rw [link_sess s n.isLt, hopen]; rfl), htx, ackTo_all n.isLt hqueued hpush]
  case nak =>
    have hseq : (BitVec.ofNat 32 u.seq).toNat = u.seq := Nat.mod_eq_of_lt hseq
    refine done_eq_of_vitals hs ?_ (setSess_vitals ..)
    rw [hseq, nakIn_only n.isLt hopen hr hun hpush hqueued]
  case owed =>
    have hack : s.delayedAck n = s.sendAck n := if_pos (by rw [link_sess s n.isLt]; exact howed)
    refine ⟨_, _, done_eq_of_vitals hs hack (sendAck_vitals n.isLt), wireFrame_sent_out n.isLt _ hsends, rfl, rfl, ?_,
      sameMemory_of_vitals (sendAck_vitals n.isLt)⟩
    rw [State.sendAck, drawn_sess, wireFrame_sent_sess n.isLt _ hsends]
  case again =>
    have hgo : (s.resending n u l).sends ((s.resending n u l).sess n).port = true := by
      rw [resending_sess n.isLt, resending_sends n.isLt]
      exact hsends
    have hv : ((s.resending n u l).wireFrame n { u.frame with flags := u.frame.flags ||| 8 }).vitals = s.vitals :=
      (wireFrame_vitals n.isLt _).trans (resending_vitals n.isLt)
    refine ⟨_, { u.frame with
        flags := u.frame.flags ||| 8, ack := (s.sess n).rxNext, window := 64 - (s.sess n).heldRx.length },
      done_eq_of_vitals hs (retransmit_again n.isLt hopen hun hmore) hv, ?_, ?_, rfl, rfl, rfl, sameMemory_of_vitals hv⟩
    · rw [wireFrame_sent_sess n.isLt _ hgo, resending_sess n.isLt]
    · rw [wireFrame_sent_out n.isLt _ hgo, resending_sess n.isLt, resending_out n.isLt, resending_clk n.isLt]
  case peer =>
    have hack : s.peerKeepalive n = s.sendAck n := if_pos ⟨hopen, hpeer⟩
    exact ⟨_, _, done_eq_of_vitals hs hack (sendAck_vitals n.isLt), wireFrame_sent_out n.isLt _ hsends, rfl⟩
  case resync =>
    obtain ⟨l, f, heq⟩ := resync_answers hopen h q.toNat t.toNat
    have hrx : ∀ {β : Type} (v : Session → β), (∀ l : Session, v { l with ackOwed := false } = v l) →
        v ((forEach l (fun i s => s.wireFrame n (f i)) (s.resynced n q.toNat)).sess n) = v ((s.resynced n q.toNat).sess n) :=
      fun v hv => forEach_keeps (fun u => v (u.sess n)) _ _ (fun i u => wireFrame_sess_keeps n.isLt _ v hv) _
    refine ⟨_, congrArg done heq, ?_, ?_, sameMemory_of_vitals ?_⟩
    · rw [hrx (·.rxNext) fun _ => rfl, State.resynced, setSess_sess_same]
    · rw [hrx (·.heldRx) fun _ => rfl, State.resynced, setSess_sess_same]
    · exact (forEach_keeps State.vitals _ _ (fun i u => wireFrame_vitals n.isLt _) _).trans (setSess_vitals ..)
  · rw [loseSession_sess]; rfl
  · rw [loseSession_sess]; rfl
  · rw [loseSession_sess]; rfl
  · rw [loseSession_sess]; rfl
  · rw [loseSession_sess]; rfl
  · have hlost := loseSession_event s n
    rwa [hhost] at hlost

end Sys2Proof.Machine
end
section
/-! SUPPORT. Members of a group (R325, R326, R366, R367): barriers, the loss of a peer, the abort of a step and the rejoin of a group, with
what cancelling a job's units leaves of the state; and O48. -/

namespace Sys2Proof.Machine

open Sys2Proof

/-! Cancelling. -/

section Cancel
variable {β : Type} (v : State → β) (hwork : ∀ (s : State) l w, v (s.withQueues l w) = v s)
include hwork

theorem placesOnly_keeps_state {s t : State} (h : s.placesOnly t) : v t = v s := (congrArg v h.rest).trans (hwork ..)

theorem setEng_keeps (s : State) (e : Nat) (g : Engine) : v (s.setEng e g) = v s :=
  hwork s (s.setEng e g).engines s.sched.waiting

theorem removeUnits_keeps (s : State) (p : Work → Bool) : v (s.removeUnits p) = v s := by
  refine (placesOnly_keeps_state v hwork (placesOnly_placeWaiting _)).trans ?_
  refine (forEach_keeps v _ _ (fun e u => ?_) _).trans (hwork s s.engines _)
  dsimp only
  split
  · exact (setEng_keeps v hwork ..).trans (setEng_keeps v hwork ..)
  · exact setEng_keeps v hwork ..

theorem freeInbound_keeps (s : State) (p : Work → Bool) : v (s.freeInbound p) = v s :=
  forEach_keeps v _ _ (fun _ _ => setEng_keeps v hwork ..) s

variable (htiles : ∀ (s : State) l, v { s with tiles := l } = v s)
include htiles

theorem finishCancel_keeps (s : State) (e : Nat) : v (s.finishCancel e) = v s := by
  cases h : (s.eng e).reached.isEmpty with
  | true => rw [finishCancel_of_none h]
  | false =>
    rw [finishCancel_of_reached h]
    refine (placesOnly_keeps_state v hwork (placesOnly_placeWaiting _)).trans ?_
    refine (placesOnly_keeps_state v hwork (placesOnly_putBack ..)).trans ((rewind_keeps v htiles ..).trans ?_)
    rw [State.when]
    split
    · exact (returnCredits_keeps v (setEng_keeps v hwork) _ e).trans (setEng_keeps v hwork ..)
    · exact setEng_keeps v hwork ..

theorem cancelJob_keeps (s : State) (j : Nat) : v (s.cancelJob j) = v s := by
  refine (forEach_keeps v _ _ (fun e u => ?_) _).trans ((freeInbound_keeps v hwork _ _).trans (removeUnits_keeps v hwork s _))
  split
  · exact finishCancel_keeps v hwork htiles ..
  · rfl

end Cancel

/-! Restarts of tensor jobs. -/

theorem streams_tensor {x : Job} (h : x.kind = 1) : x.streams = [] := if_pos h

theorem abortFrames_tensor (s : State) {x : Job} (h : x.kind = 1) (excluded : Bool) : s.abortFrames x excluded = s := by
  rw [State.abortFrames, streams_tensor h, forEach_nil]

/-- A job's restart, told. -/
def State.restartTold (s : State) (j cls : Nat) : State := ((s.bump pgFlt 0x20 16 16 1).log 0x0B cls (logBody j 0 0)).event pgFlt 1

/-- The channels of a job, stopped. -/
def State.channelsStopped (s : State) (l : List Nat) : State := forEach l (fun d s => s.chanStop d none) s

/-- A job whose restart is told, with its units cancelled and its channels stopped. -/
def State.jobHalted (s : State) (j cls : Nat) (x : Job) : State :=
  ((s.restartTold j cls).cancelJob j).channelsStopped ((s.restartTold j cls).jobChannels x)

/-- A tensor job between steps has no frame and no step to close. -/
theorem restartJob_tensor {s : State} {j : Nat} {x : Job} (hj : s.job j = some x) (hkind : x.kind = 1) (hopen : x.open_ = none) (cls : Nat)
    (host : Bool) :
    s.restartJob j cls host =
      ((s.jobHalted j cls x).setJob j
        (some { x with phase := .restarting, restartAt := s.clk.ptp, restartClass := cls })).placeWaiting := by
  simp only [State.restartJob, hj, abortFrames_tensor _ hkind, streams_tensor hkind, forEach_nil, setJob_job, if_true, hopen,
    Option.isSome_none, Bool.false_eq_true, if_false]
  rfl

section Halted
variable {β : Type} (v : State → β) (hwork : ∀ (s : State) l w, v (s.withQueues l w) = v s)
  (htiles : ∀ (s : State) l, v { s with tiles := l } = v s)
include hwork htiles

theorem jobHalted_keeps (hstop : ∀ (s : State) d, v (s.chanStop d none) = v s) (s : State) (j cls : Nat) (x : Job) :
    v (s.jobHalted j cls x) = v (s.restartTold j cls) :=
  (forEach_keeps v _ _ (fun d u => hstop u d) _).trans (cancelJob_keeps v hwork htiles _ j)

end Halted

theorem chanStop_reg (s : State) (d : Nat) (q : Option Nat) {p o : Nat} (hp : p ≠ pgDma) (ho : o < 4096) :
    (s.chanStop d q).reg p o = s.reg p o := by
  rw [State.chanStop]
  split
  · rw [State.chanRest, event_reg_ne _ _ (radr_ne_of_page hp ho (by decide)), setChan_reg, setChan_reg]
  · rw [setChan_reg]
  · rfl

theorem jobHalted_jobs (s : State) (j cls : Nat) (x : Job) : (s.jobHalted j cls x).jobs = s.jobs := by
  rw [jobHalted_keeps (·.jobs) (fun _ _ _ => rfl) (fun _ _ => rfl) (fun u d => chanStop_keeps (·.jobs) setChan_jobs event_jobs u d none),
    State.restartTold, event_jobs, log_jobs, bump_jobs]

theorem jobHalted_mem (s : State) (j cls : Nat) (x : Job) : (s.jobHalted j cls x).mem = s.mem := by
  rw [jobHalted_keeps (·.mem) (fun _ _ _ => rfl) (fun _ _ => rfl) (fun u d => chanStop_keeps (·.mem) setChan_mem event_mem u d none),
    State.restartTold, event_mem, log_mem, bump_mem]

theorem jobHalted_event (s : State) (j cls : Nat) (x : Job) : bitAt ((s.jobHalted j cls x).reg pgFlt 0x10) 1 = true := by
  rw [jobHalted_keeps (·.reg pgFlt 0x10) (fun _ _ _ => rfl) (fun _ _ => rfl) fun u d => chanStop_reg u d none (by decide) (by decide)]
  exact event_reg_bit _ _ _ (by decide)

/-! Barriers. -/

theorem group_other {s : State} {n : Nat} (h : (s.sess n).state ≠ 2 ∨ (s.sess n).peer = false) :
    ¬ ((s.sess n).state = 2 ∧ (s.sess n).peer = true) := by
  rintro ⟨hopen, hpeer⟩
  rcases h with h | h
  · exact h hopen
  · exact absurd (h.symm.trans hpeer) (by decide)

theorem barrierIn_other {s : State} {n : Nat} (k : Nat) (h : (s.sess n).state ≠ 2 ∨ (s.sess n).peer = false) : s.barrierIn n k = s :=
  if_neg (group_other h)

section Barrier
variable {s : State} {n : Nat} (k : Nat) (hopen : (s.sess n).state = 2) (hpeer : (s.sess n).peer = true)
include hopen hpeer

theorem barrierIn_none (hg : s.group (s.sess n).group = none) : s.barrierIn n k = s := by
  simp only [State.barrierIn, if_pos (And.intro hopen hpeer), hg]

theorem barrierIn_group {g : PeerGroup} (hg : s.group (s.sess n).group = some g) :
    s.barrierIn n k = if g.got.contains ((s.sess n).member, k) then s
      else s.setGroup (s.sess n).group (some { g with got := g.got ++ [((s.sess n).member, k)] }) := by
  simp only [State.barrierIn, if_pos (And.intro hopen hpeer), hg]

end Barrier

/-! Lost peers. -/

theorem abortStep_of_none {s : State} {j : Nat} (h : s.job j = none) : s.abortStep j = s := by rw [State.abortStep, h]

theorem abortStep_tensor {s : State} {j : Nat} {x y : Job} {d : StepDue} (hj : s.job j = some x) (hkind : x.kind = 1)
    (hy : (s.cancelJob j).job j = some y) (hopen : y.open_ = some d) :
    s.abortStep j =
      ((s.cancelJob j).voidStep j y 3 (d.flags + (if y.variant && !d.flags.testBit 9 then 0x200 else 0)) d.seq).placeWaiting := by
  simp only [State.abortStep, hj, abortFrames_tensor _ hkind, hy, hopen, Option.isSome_some, if_true, State.voidOpen]

/-- The fault of a lost peer. -/
def State.peerFault (s : State) (n : Nat) : State :=
  (s.loseSession n).fault 0x1D (s.sess n).port ((s.groupJobs (s.sess n).group).head?.getD 0)

theorem peerFault_group (s : State) (n k : Nat) : (s.peerFault n).group k = s.group k := by
  rw [State.peerFault, fault_group]
  exact loseSession_keeps (·.group k) (fun _ _ => rfl) (fun _ _ _ => rfl) (fun _ _ _ => rfl) (fun _ _ _ => rfl)
    (fun s p b => event_group s p b k) (fun s p b c a => fail_group s p b c a k) s n

/-- The group of a peer that was lost. -/
def PeerGroup.without (g : PeerGroup) (m : Nat) : PeerGroup :=
  { g with lost := if g.lost.contains m then g.lost else g.lost ++ [m], rejoin := false }

theorem peerLost_other {s : State} {n : Nat} (h : (s.sess n).state ≠ 2 ∨ (s.sess n).peer = false) : s.peerLost n = s :=
  if_neg (group_other h)

section Lost
variable {s : State} {n : Nat} (hopen : (s.sess n).state = 2) (hpeer : (s.sess n).peer = true)
include hopen hpeer

theorem peerLost_none (hg : s.group (s.sess n).group = none) : s.peerLost n = s.peerFault n := by
  have hg' : ((s.loseSession n).fault 0x1D (s.sess n).port ((s.groupJobs (s.sess n).group).head?.getD 0)).group (s.sess n).group = none :=
    (peerFault_group ..).trans hg
  simp only [State.peerLost, if_pos (And.intro hopen hpeer), hg', State.peerFault]

theorem peerLost_group {g : PeerGroup} (hg : s.group (s.sess n).group = some g) :
    s.peerLost n = forEach (s.groupJobs (s.sess n).group) (fun j s => s.abortStep j)
      ((s.peerFault n).setGroup (s.sess n).group (some (g.without (s.sess n).member))) := by
  have hg' : ((s.loseSession n).fault 0x1D (s.sess n).port ((s.groupJobs (s.sess n).group).head?.getD 0)).group (s.sess n).group = some g :=
    (peerFault_group ..).trans hg
  simp only [State.peerLost, if_pos (And.intro hopen hpeer), hg', State.peerFault, PeerGroup.without]

end Lost

/-! The rejoin. -/

/-- A group whose rejoin barriers have all been exchanged. -/
def PeerGroup.rejoined (p : PeerGroup) : PeerGroup := { p with lost := [], sent := [], got := p.got.filter fun x => x.2 != rejoinStep }

/-- A job of a group that rejoined starts again at step 0, its frames from 1 ms later. -/
def State.rejoinJob (j : Nat) (v : State) : State :=
  let w := v.restartJob j 0x1D false
  match w.job j with
  | some x => w.setJob j (some { x with step := 0, restartAt := v.clk.ptp + 999000 })
  | none => w

theorem groupRejoin_idle {s : State} {g : Nat} (h : s.group g = none ∨ ∃ p, s.group g = some p ∧ p.rejoin = false) :
    s.groupRejoin g = s := by
  rcases h with h | ⟨p, h, hp⟩
  · rw [State.groupRejoin, h]
  · simp only [State.groupRejoin, h, hp, Bool.false_and, Bool.false_eq_true, if_false]

theorem groupRejoin_waits {s : State} {g m : Nat} {p : PeerGroup} (hg : s.group g = some p) (hm : m < p.members.length) (hother : m ≠ p.self)
    (hmiss : (m, rejoinStep) ∉ p.got) : s.groupRejoin g = s := by
  simp only [State.groupRejoin, hg]
  refine if_neg fun h => ?_
  have hall := (Bool.and_eq_true_iff.1 h).2
  rcases Bool.or_eq_true_iff.1 (List.all_eq_true.1 hall m (List.mem_range.2 hm)) with k | k
  · exact hother (beq_iff_eq.1 k)
  · exact hmiss (List.contains_iff_mem.1 k)

section Rejoin
variable {s : State} {g : Nat} {p : PeerGroup} (hg : s.group g = some p) (hrejoin : p.rejoin = true) (hsess : s.groupOpen g p = true)
  (hgot : ∀ m, m < p.members.length → m ≠ p.self → (m, rejoinStep) ∈ p.got)
include hg hrejoin hsess hgot

theorem groupRejoin_restarts : s.groupRejoin g = forEach (s.groupJobs g) State.rejoinJob (s.setGroup g (some p.rejoined)) := by
  have hall : (List.range p.members.length).all (fun m => m == p.self || p.got.contains (m, rejoinStep)) = true := by
    rw [List.all_eq_true]
    intro m hm
    by_cases h : m = p.self
    · rw [h, beq_self_eq_true, Bool.true_or]
    · rw [List.contains_iff_mem.2 (hgot m (List.mem_range.1 hm) h), Bool.or_true]
  simp only [State.groupRejoin, hg]
  exact if_pos (by rw [hrejoin, hsess, hall]; rfl)

end Rejoin

/-- What the rejoin makes of a tensor job between steps. -/
theorem rejoinJob_tensor {v : State} {j : Nat} {x : Job} (hj : v.job j = some x) (hkind : x.kind = 1) (hopen : x.open_ = none) :
    (v.rejoinJob j).job j = some { x with phase := .restarting, restartClass := 0x1D, step := 0, restartAt := v.clk.ptp + 999000 } ∧
      bitAt ((v.rejoinJob j).reg pgFlt 0x10) 1 = true ∧ (∀ k, k ≠ j → (v.rejoinJob j).job k = v.job k) ∧
      v.sameMemory (v.rejoinJob j) := by
  have hplaced := placesOnly_placeWaiting ((v.jobHalted j 0x1D x).setJob j
    (some { x with phase := .restarting, restartAt := v.clk.ptp, restartClass := 0x1D }))
  have hjob : ∀ k, (v.restartJob j 0x1D false).job k = if k = j then
      some { x with phase := .restarting, restartAt := v.clk.ptp, restartClass := 0x1D } else v.job k := by
    intro k
    rw [restartJob_tensor hj hkind hopen, placesOnly_keeps_state (·.job k) (fun _ _ _ => rfl) hplaced, setJob_job]
    exact congrArg (fun l => ite _ _ (sget (fun _ => none) l k)) (jobHalted_jobs v j 0x1D x)
  have hend : v.rejoinJob j = (v.restartJob j 0x1D false).setJob j (some { x with
      phase := .restarting, restartClass := 0x1D, step := 0, restartAt := v.clk.ptp + 999000 }) := by
    simp only [State.rejoinJob, hjob j, if_true]
  rw [hend]
  refine ⟨by rw [setJob_job, if_pos rfl], ?_, fun k hk => ?_, sameMemory_of_mem ?_⟩
  · rw [setJob_reg, restartJob_tensor hj hkind hopen, placesOnly_reg hplaced, setJob_reg]
    exact jobHalted_event ..
  · rw [setJob_job, if_neg hk, hjob k, if_neg hk]
  · rw [setJob_mem, restartJob_tensor hj hkind hopen, placesOnly_mem hplaced, setJob_mem, jobHalted_mem]

/-- Settles O48: barriers, lost peers and the rejoin by the lemmas of their cases. -/
theorem groupMembers : Obligations.GroupMembers := by
  unfold Obligations.GroupMembers
  refine ⟨fun s n w g hs hopen hpeer hg hnew => ?once, fun s n w hs h => ⟨done_eq (barrierIn_other _ h) hs, done_eq (peerLost_other h) hs⟩,
    fun s n w hopen hpeer => ⟨fun hg => congrArg done (barrierIn_none _ hopen hpeer hg), fun g hg => ?recorded⟩,
    fun s n hopen hpeer => ⟨fun hg => congrArg done (peerLost_none hopen hpeer hg), fun g hg => congrArg done (peerLost_group hopen hpeer hg)⟩,
    fun s j h => abortStep_of_none h, fun s j x y d hj hkind hy hopen => abortStep_tensor hj hkind hy hopen,
    fun s n g hopen hpeer hg hjobs hnew => ?lost, fun s g hs h => done_eq (groupRejoin_idle h) hs,
    fun s g p hs hg hrejoin hsess hgot hjobs => ?alone, fun s g p hg hrejoin hsess hgot => ?restarts,
    fun s g p j x hg hrejoin hsess hgot hjobs hj hkind hopen => ?one,
    fun s g p m hs hg hm hother hmiss => done_eq (groupRejoin_waits hg hm hother hmiss) hs⟩
  case once =>
    exact done_eq_of_vitals hs ((barrierIn_group _ hopen hpeer hg).trans (if_neg (by rw [hnew]; decide))) rfl
  case recorded =>
    have hb := barrierIn_group w.toNat hopen hpeer hg
    by_cases hold : g.got.contains ((s.sess n).member, w.toNat) = true
    · exact ⟨s, g, congrArg done (hb.trans (if_pos hold)), hg, List.contains_iff_mem.1 hold, fun _ h => h, fun _ h => .inl h, rfl, rfl, rfl,
        fun _ _ => rfl, rfl, fun _ => rfl⟩
    · refine ⟨_, { g with got := g.got ++ [((s.sess n).member, w.toNat)] }, congrArg done (hb.trans (if_neg hold)), ?_,
        List.mem_append_right _ List.mem_cons_self, fun x hx => List.mem_append_left _ hx,
        fun x hx => (List.mem_append.1 hx).imp id List.mem_singleton.1, rfl, rfl, rfl, fun k hk => ?_, rfl, fun _ => rfl⟩
      · rw [setGroup_group, if_pos rfl]
      · rw [setGroup_group, if_neg hk]
  case lost =>
    have hlost := peerLost_group hopen hpeer hg
    rw [hjobs, forEach_nil, PeerGroup.without, hnew] at hlost
    refine ⟨_, congrArg done hlost, ?_, fault_reg_event .., ?_, ?_, sameMemory_of_vitals ?_⟩
    · rw [setGroup_sess, State.peerFault, fault_sess, loseSession_sess]
      rfl
    · have hevent := loseSession_event s n
      rw [hpeer] at hevent
      rw [setGroup_reg, State.peerFault, fault_reg_ne _ _ _ _ (by decide) (by decide)]
      exact hevent
    · rw [setGroup_group, if_pos rfl]
      rfl
    · exact (fault_vitals ..).trans (loseSession_vitals ..)
  case alone =>
    have hr := groupRejoin_restarts hg hrejoin hsess hgot
    rw [hjobs, forEach_nil] at hr
    exact done_eq_of_vitals hs hr rfl
  case restarts =>
    intro u
    exact congrArg done (groupRejoin_restarts hg hrejoin hsess hgot)
  case one =>
    have hr := groupRejoin_restarts hg hrejoin hsess hgot
    rw [hjobs, forEach_cons, forEach_nil] at hr
    have hj' : (s.setGroup g (some p.rejoined)).job j = some x := (setGroup_job ..).trans hj
    obtain ⟨hjob, hevent, hothers, hmem⟩ := rejoinJob_tensor hj' hkind hopen
    exact ⟨_, congrArg done hr, hjob, hevent, hothers, hmem⟩

end Sys2Proof.Machine
end
